-- ==== Sys2Proof/Word.lean ====
section
/-! DEFINITION. The plain words of the package: bytes, 64-bit words, and the sparse table form that State uses.
(00_scope.md R13-R18.) -/

namespace Sys2Proof

/-- One byte. -/
abbrev Byte := BitVec 8

/-- A 64-bit word: a register, a scalar register of a tile, a Drone reading. -/
abbrev Word := BitVec 64

/-- A table that holds few entries of a large index space: (index, entry) pairs, indices strictly rising, and no
entry equal to what an unlisted index reads as. -/
abbrev SMap (α : Type) := List (Nat × α)

end Sys2Proof
end

