-- ==== Sys2Proof/Syntax.lean ====
section
/-! DEFINITION. The commands of the package: one constructor per row of spec/opcode_table.json, in the table's order. -/

namespace Sys2Proof

/-- The ten slots of a bundle (03 Table 03-2). -/
inductive Slot where
  | s0 | s1 | l0 | l1 | st | v0 | v1 | mx | dm | sy
  deriving DecidableEq, Repr

/-- The fields of a scalar slot (04 Table 04-2), raw; S1 has an immediate of 20 bits. -/
structure ScalarFields where
  gp : BitVec 4
  gn : Bool
  rd : BitVec 5
  rs1 : BitVec 5
  rs2 : BitVec 5
  imm : BitVec 36
  deriving DecidableEq, Repr

/-- The fields of a load or store slot (04 Table 04-5), raw. -/
structure MemFields where
  gp : BitVec 4
  gn : Bool
  reg : BitVec 6
  base : BitVec 5
  off : BitVec 20
  aux : BitVec 4
  deriving DecidableEq, Repr

/-- The fields of a vector slot (04 Table 04-7), raw. -/
structure VecFields where
  gp : BitVec 4
  gn : Bool
  vd : BitVec 6
  va : BitVec 6
  vb : BitVec 6
  vc : BitVec 6
  fmt : BitVec 4
  rnd : BitVec 2
  sat : Bool
  fmt2 : BitVec 4
  imm : BitVec 16
  deriving DecidableEq, Repr

/-- The fields of the matrix slot (04 Table 04-9), raw. -/
structure MxFields where
  gp : BitVec 4
  gn : Bool
  bank : Bool
  row : BitVec 5
  ta : BitVec 3
  asel : BitVec 6
  tb : BitVec 3
  fmta : BitVec 4
  fmtb : BitVec 4
  bs : Bool
  vsb : BitVec 6
  vsa : BitVec 6
  anchor : BitVec 9
  rsv : BitVec 3
  deriving DecidableEq, Repr

/-- The fields of the DM slot (04 Table 04-12), raw. -/
structure DmFields where
  gp : BitVec 4
  gn : Bool
  tk : BitVec 5
  ra : BitVec 5
  rb : BitVec 5
  rc : BitVec 5
  aux : BitVec 15
  deriving DecidableEq, Repr

/-- Upset bits that the environment put into SRAM cells before a read: (tile, structure, word, 80 bits). -/
abbrev Upsets := List (Nat × Nat × Nat × Nat)

/-- A packet of the fabric (08 R212-R216): the head fields of Table 08-3, words 5 to 15, the payload and its marks. -/
structure Packet where
  dst : Nat := 0
  src : Nat := 0
  srcCtx : Nat := 0
  dstCtx : Nat := 0
  vc : Nat := 0
  kind : Nat := 0
  flits : Nat := 0
  mcast : Bool := false
  group : Bool := false
  twinSeq : Nat := 0
  srcTag : Nat := 0
  dstTile : Nat := 0
  channel : Nat := 0
  status : Nat := 0
  offset : Nat := 0
  members : Nat := 0
  origin : Nat := 0xFFFF
  bytes : Nat := 0
  /-- reserved bits of words 0 and 4, zero in a well-formed head -/
  rsv : Nat := 0
  /-- head words 5 to 15 -/
  ext : List Word := []
  payload : List Byte := []
  /-- poisoned flits: bit 0 the head, bit i payload flit i -/
  poison : Nat := 0
  /-- the packet ends in a truncating tail (08 R227) -/
  cut : Bool := false
  deriving DecidableEq, Repr

/-- The role of a session (15 R397). -/
inductive Role where
  | tray | operator | host
  deriving DecidableEq, Repr

/-- A Plovco request within a session, its secured message verified (15 R398, R408): session, sequence and body. -/
structure Request where
  session : Nat
  seq : Nat
  body : List Byte
  deriving DecidableEq, Repr

/-- What an SPDM request of DSP0274 asks of the responder (15 R397), as far as the package's state depends on it. -/
inductive SpdmAsk where
  /-- a request that sets up no state: version, capabilities, algorithms, digests, certificate, challenge, key update, heartbeat -/
  | plain
  /-- KEY_EXCHANGE or PSK_EXCHANGE: begins the handshake of a session number -/
  | exchange (id : Nat)
  /-- FINISH or PSK_FINISH: ends it.  root: the 97 bytes of the key that the requester's chain, or the record that installed its pre-shared
  key, ends in; role: the role it names; ok: every signature and MAC of the handshake is right -/
  | finish (id : Nat) (root : List Byte) (role : Role) (ok : Bool)
  /-- END_SESSION within a session -/
  | endSession
  deriving DecidableEq, Repr

/-- Where a key record or register request comes from: the host's registers, or a Plovco request. -/
inductive Origin where
  | host
  | plovco (r : Request)
  deriving DecidableEq, Repr

/-- One stream of the twin filter as a resynchronisation carries it (17 R443, R447): source, context, virtual channel, agent, the highest
number passed, and the numbers above it that passed, each with its copy's mark. -/
structure StreamCopy where
  src : Nat
  ctx : Nat
  vc : Nat
  agent : Nat
  high : Nat
  marks : List (Nat × Bool)
  deriving DecidableEq, Repr

/-- The commands (spec/opcode_table.json).  Each docstring gives the row's rule and summary. -/
inductive Instr where
  /-- REGISTER_WRITE (R19): A host or management write to a register with no behaviour of its own is applied according to its access code, or discarded with a Daybook warning when it is an LK register under an applied Pattern or the write comes before a driver is accepted. -/
  | registerWrite (mgmt : Bool) (off : Nat) (v : Word)
  /-- CONTRACT_CHECK (R44): Writing 1 to HST_CONTRACT_CHECK.check compares the driver version with the firmware version, and accepts or refuses the driver in HST_CONTRACT_STATUS. -/
  | contractCheck
  /-- BUNDLE_FETCH (R94): The tile fetches the next bundle from the instruction buffer, raising fetch range, fetch unready or uncorrectable fetch where they apply. -/
  | bundleFetch (g : Nat) (us : Upsets)
  /-- EXCEPTION_NOTIFICATION (R111): Within 1 µs the Steward learns of a tile exception, halts the context's other gangs, ends the step failed and takes the context reset. -/
  | exceptionNotification (g : Nat)
  /-- RESULT_WRITEBACK (R86): A fixed-latency result is written to its register at issue cycle i + n; same-cycle collisions are resolved by slot and counted in TIL_CNT_WCOLLIDE. -/
  | resultWriteback (g : Nat)
  /-- SRAM_WORD_WRITEBACK (R200): A corrected SRAM word is written back in the next cycle in which its bank has no write. -/
  | sramWordWriteback (tile word : Nat)
  /-- NOP (R140): A no-op slot, or the SY NOP, has no effect. -/
  | nop (g : Nat) (slot : Slot)
  /-- ADD (R119): rd = rs1 + rs2. -/
  | add (g : Nat) (slot : Slot) (f : ScalarFields)
  /-- SUB (R119): rd = rs1 − rs2. -/
  | sub (g : Nat) (slot : Slot) (f : ScalarFields)
  /-- AND (R119): Scalar bitwise and. -/
  | and_ (g : Nat) (slot : Slot) (f : ScalarFields)
  /-- OR (R119): Scalar bitwise or. -/
  | or_ (g : Nat) (slot : Slot) (f : ScalarFields)
  /-- XOR (R119): Scalar bitwise xor. -/
  | xor (g : Nat) (slot : Slot) (f : ScalarFields)
  /-- SHL (R119): Shift rs1 left by rs2. -/
  | shl (g : Nat) (slot : Slot) (f : ScalarFields)
  /-- SHR (R119): Logical shift of rs1 right by rs2. -/
  | shr (g : Nat) (slot : Slot) (f : ScalarFields)
  /-- SRA (R119): Arithmetic shift of rs1 right by rs2. -/
  | sra (g : Nat) (slot : Slot) (f : ScalarFields)
  /-- MUL (R119): rd = the low 64 bits of rs1 × rs2. -/
  | mul (g : Nat) (slot : Slot) (f : ScalarFields)
  /-- MIN (R119): Signed minimum. -/
  | min (g : Nat) (slot : Slot) (f : ScalarFields)
  /-- MAX (R119): Signed maximum. -/
  | max (g : Nat) (slot : Slot) (f : ScalarFields)
  /-- MINU (R119): Unsigned minimum. -/
  | minu (g : Nat) (slot : Slot) (f : ScalarFields)
  /-- MAXU (R119): Unsigned maximum. -/
  | maxu (g : Nat) (slot : Slot) (f : ScalarFields)
  /-- ADDI (R119): rd = rs1 + imm. -/
  | addi (g : Nat) (slot : Slot) (f : ScalarFields)
  /-- ANDI (R119): Bitwise and with imm. -/
  | andi (g : Nat) (slot : Slot) (f : ScalarFields)
  /-- ORI (R119): Bitwise or with imm. -/
  | ori (g : Nat) (slot : Slot) (f : ScalarFields)
  /-- XORI (R119): Bitwise xor with imm. -/
  | xori (g : Nat) (slot : Slot) (f : ScalarFields)
  /-- SHLI (R119): Shift left by imm[5:0]. -/
  | shli (g : Nat) (slot : Slot) (f : ScalarFields)
  /-- SHRI (R119): Logical shift right by imm[5:0]. -/
  | shri (g : Nat) (slot : Slot) (f : ScalarFields)
  /-- SRAI (R119): Arithmetic shift right by imm[5:0]. -/
  | srai (g : Nat) (slot : Slot) (f : ScalarFields)
  /-- MOVLO (R119): rd = imm[31:0], zero-extended. -/
  | movlo (g : Nat) (slot : Slot) (f : ScalarFields)
  /-- ORHI (R119): rd = rs1 or (imm[31:0] << 32). -/
  | orhi (g : Nat) (slot : Slot) (f : ScalarFields)
  /-- CMPEQ (R119): pd = (rs1 == rs2); raises 0x0B on a poisoned source. -/
  | cmpeq (g : Nat) (slot : Slot) (f : ScalarFields)
  /-- CMPNE (R119): pd = (rs1 != rs2); raises 0x0B on a poisoned source. -/
  | cmpne (g : Nat) (slot : Slot) (f : ScalarFields)
  /-- CMPLT (R119): pd = signed rs1 < rs2. -/
  | cmplt (g : Nat) (slot : Slot) (f : ScalarFields)
  /-- CMPLTU (R119): pd = unsigned rs1 < rs2. -/
  | cmpltu (g : Nat) (slot : Slot) (f : ScalarFields)
  /-- CMPGE (R119): pd = signed rs1 >= rs2. -/
  | cmpge (g : Nat) (slot : Slot) (f : ScalarFields)
  /-- CMPGEU (R119): pd = unsigned rs1 >= rs2. -/
  | cmpgeu (g : Nat) (slot : Slot) (f : ScalarFields)
  /-- CMPEQI (R119): pd = (rs1 == imm). -/
  | cmpeqi (g : Nat) (slot : Slot) (f : ScalarFields)
  /-- CMPLTI (R119): pd = rs1 < imm. -/
  | cmplti (g : Nat) (slot : Slot) (f : ScalarFields)
  /-- PAND (R119): pd = pa and pb. -/
  | pand (g : Nat) (slot : Slot) (f : ScalarFields)
  /-- POR (R119): pd = pa or pb. -/
  | por (g : Nat) (slot : Slot) (f : ScalarFields)
  /-- PXOR (R119): pd = pa xor pb. -/
  | pxor (g : Nat) (slot : Slot) (f : ScalarFields)
  /-- PANDN (R119): pd = pa and not pb. -/
  | pandn (g : Nat) (slot : Slot) (f : ScalarFields)
  /-- TKST (R120): Waits for the named ticket, then delivers its status code to rd. -/
  | tkst (g : Nat) (f : ScalarFields)
  /-- RDTIL (R119): Reads TIL_ID, TIL_STEP or TIL_FLAGS of the tile's own register block into rd. -/
  | rdtil (g : Nat) (f : ScalarFields)
  /-- JMP (R121): Unconditional branch, taking effect after two further bundles. -/
  | jmp (g : Nat) (f : ScalarFields)
  /-- BZ (R121): Branch if rs1 = 0. -/
  | bz (g : Nat) (f : ScalarFields)
  /-- BNZ (R121): Branch if rs1 ≠ 0. -/
  | bnz (g : Nat) (f : ScalarFields)
  /-- LOOP (R121): Decrements rd and branches while the new rd ≠ 0. -/
  | loop (g : Nat) (f : ScalarFields)
  /-- CALL (R121): Branches and writes the return bundle number to rd. -/
  | call (g : Nat) (f : ScalarFields)
  /-- JR (R121): Branches to the bundle number held in rs1. -/
  | jr (g : Nat) (f : ScalarFields)
  /-- END (R122): After the two following bundles issue, the gang stops issuing and waits for every ticket to leave pending. -/
  | end_ (g : Nat) (f : ScalarFields)
  /-- GANG_END_REPORT (R122): Once every ticket of an ended gang has left pending, the gang reports completion of its part of the step to the Steward and becomes ready. -/
  | gangEndReport (g : Nat)
  /-- LDS (R124): Loads an 8-byte scratchpad word into a scalar register. -/
  | lds (g : Nat) (slot : Slot) (f : MemFields) (us : Upsets)
  /-- LDV (R124): Loads a 256-byte scratchpad line into a vector register. -/
  | ldv (g : Nat) (slot : Slot) (f : MemFields) (us : Upsets)
  /-- LDBC (R124): Loads an 8-byte word and broadcasts it to all 32 positions of a vector register. -/
  | ldbc (g : Nat) (slot : Slot) (f : MemFields) (us : Upsets)
  /-- LDT (R124): Loads 256 bytes into part of an operand stage. -/
  | ldt (g : Nat) (slot : Slot) (f : MemFields) (us : Upsets)
  /-- STS (R124): Stores a scalar register to scratchpad. -/
  | sts (g : Nat) (f : MemFields)
  /-- STV (R124): Stores the low 8 to 256 bytes of a vector register to scratchpad. -/
  | stv (g : Nat) (f : MemFields)
  /-- VADD (R126): Lane-wise floating-point add. -/
  | vadd (g : Nat) (slot : Slot) (f : VecFields)
  /-- VSUB (R126): Lane-wise floating-point subtract. -/
  | vsub (g : Nat) (slot : Slot) (f : VecFields)
  /-- VMUL (R126): Lane-wise floating-point multiply. -/
  | vmul (g : Nat) (slot : Slot) (f : VecFields)
  /-- VFMA (R126): va × vb + vc with one rounding. -/
  | vfma (g : Nat) (slot : Slot) (f : VecFields)
  /-- VMIN (R126): Lane-wise minimum under R68. -/
  | vmin (g : Nat) (slot : Slot) (f : VecFields)
  /-- VMAX (R126): Lane-wise maximum under R68. -/
  | vmax (g : Nat) (slot : Slot) (f : VecFields)
  /-- VABS (R126): Clears the sign bit of each lane. -/
  | vabs (g : Nat) (slot : Slot) (f : VecFields)
  /-- VNEG (R126): Inverts the sign bit of each lane. -/
  | vneg (g : Nat) (slot : Slot) (f : VecFields)
  /-- VEXP2 (R126): 2^va, correctly rounded. -/
  | vexp2 (g : Nat) (slot : Slot) (f : VecFields)
  /-- VRCP (R126): 1 / va, correctly rounded. -/
  | vrcp (g : Nat) (slot : Slot) (f : VecFields)
  /-- VRSQRT (R126): 1 / √va, correctly rounded. -/
  | vrsqrt (g : Nat) (slot : Slot) (f : VecFields)
  /-- VFCMPLT (R126): Lane-wise less-than compare giving all ones or zero. -/
  | vfcmplt (g : Nat) (slot : Slot) (f : VecFields)
  /-- VFCMPEQ (R126): Lane-wise equality compare giving all ones or zero. -/
  | vfcmpeq (g : Nat) (slot : Slot) (f : VecFields)
  /-- VIADD (R126): 32-bit lane add modulo 2^32. -/
  | viadd (g : Nat) (slot : Slot) (f : VecFields)
  /-- VISUB (R126): 32-bit lane subtract modulo 2^32. -/
  | visub (g : Nat) (slot : Slot) (f : VecFields)
  /-- VAND (R126): Vector bitwise and. -/
  | vand (g : Nat) (slot : Slot) (f : VecFields)
  /-- VOR (R126): Vector bitwise or. -/
  | vor (g : Nat) (slot : Slot) (f : VecFields)
  /-- VXOR (R126): Vector bitwise xor. -/
  | vxor (g : Nat) (slot : Slot) (f : VecFields)
  /-- VSHL (R126): Shifts each 32-bit lane left by imm[4:0]. -/
  | vshl (g : Nat) (slot : Slot) (f : VecFields)
  /-- VSHR (R126): Shifts each 32-bit lane right by imm[4:0]. -/
  | vshr (g : Nat) (slot : Slot) (f : VecFields)
  /-- VSEL (R126): Selects va or vb per lane by vc. -/
  | vsel (g : Nat) (slot : Slot) (f : VecFields)
  /-- VROT (R126): Rotates the lanes of va by imm[5:0]. -/
  | vrot (g : Nat) (slot : Slot) (f : VecFields)
  /-- VBCS (R126): Broadcasts a scalar's low 32 bits into every lane. -/
  | vbcs (g : Nat) (slot : Slot) (f : VecFields)
  /-- VLANE (R126): Extracts one lane into a scalar register. -/
  | vlane (g : Nat) (slot : Slot) (f : VecFields)
  /-- VCVT (R127): Converts a group of elements between formats, or re-anchors long sums. -/
  | vcvt (g : Nat) (slot : Slot) (f : VecFields)
  /-- VQBS (R128): Quantises 64 FP32 lanes into two scaled blocks. -/
  | vqbs (g : Nat) (slot : Slot) (f : VecFields)
  /-- VACR (R129): Converts an accumulator row into a vector register. -/
  | vacr (g : Nat) (slot : Slot) (f : VecFields)
  /-- VRED (R130): Reduces the elements of a vector register into element 0. -/
  | vred (g : Nat) (slot : Slot) (f : VecFields)
  /-- GBC (R131): Copies one gang member's register into every member. -/
  | gbc (g : Nat) (slot : Slot) (f : VecFields)
  /-- GRED (R131): Combines a register across the gang members into every member. -/
  | gred (g : Nat) (slot : Slot) (f : VecFields)
  /-- MMA (R135): Multiplies operand A by matrix B and accumulates into one accumulator row. -/
  | mma (g : Nat) (f : MxFields)
  /-- MMAZ (R135): Empties an accumulator row, then performs MMA on it. -/
  | mmaz (g : Nat) (f : MxFields)
  /-- MCLR (R135): Empties a range of accumulator rows. -/
  | mclr (g : Nat) (f : MxFields)
  /-- GLD (R138): Starts a ticketed copy from global memory into scratchpad, after the DM issue checks. -/
  | gld (g : Nat) (f : DmFields)
  /-- GST (R138): Starts a ticketed copy from scratchpad into global memory. -/
  | gst (g : Nat) (f : DmFields)
  /-- SEND (R139): Starts a ticketed channel message, which waits until it holds a credit. -/
  | send (g : Nat) (f : DmFields)
  /-- RECV (R139): Claims the next message on a channel and returns the previous slot's credit. -/
  | recv (g : Nat) (f : DmFields)
  /-- DOCK (R176): Reads and checks a docket, then hands it to its stack engine. -/
  | dock (g : Nat) (f : DmFields)
  /-- FILL (R138): Starts a ticketed load of bundles into the instruction buffer. -/
  | fill (g : Nat) (f : DmFields)
  /-- COLL (R254): Reads and checks a collective descriptor, then starts a bulk collective. -/
  | coll (g : Nat) (f : DmFields)
  /-- WAIT (R96): Holds issue until every ticket slot named in the mask has left pending. -/
  | wait (g : Nat) (operand : BitVec 11)
  /-- WAIT1 (R140): Holds issue until one ticket slot has left pending. -/
  | wait1 (g : Nat) (operand : BitVec 11)
  /-- WAITALL (R140): Holds issue until every ticket slot has left pending. -/
  | waitall (g : Nat) (operand : BitVec 11)
  /-- STRUM (R142): Checks a strum descriptor and contributes the gang's payload to a strum generation. -/
  | strum (g : Nat) (operand : BitVec 11)
  /-- TICKET_WAIT_END (R96): The last ticket that a wait names leaves pending, and the tile resumes issue. -/
  | ticketWaitEnd (g cycles : Nat)
  /-- GLOBAL_LOAD_COMPLETE (R138): The last line of a GLD lands in scratchpad, and its ticket posts done, poisoned or failed. -/
  | globalLoadComplete (tile tk : Nat)
  /-- GLOBAL_STORE_COMPLETE (R155): The last line of a local GST is written at its channel, and the ticket posts. -/
  | globalStoreComplete (tile tk : Nat)
  /-- FILL_COMPLETE (R198): A FILL's bundles are written to the instruction buffer, and its ticket posts. -/
  | fillComplete (tile tk : Nat)
  /-- SEND_DISPATCH (R139): A pending SEND gains a channel credit and its packet leaves. -/
  | sendDispatch (tile tk : Nat)
  /-- CHANNEL_REQUEST (R158): A transfer request becomes pending at a channel arbiter. -/
  | channelRequest (ch ctx src lines id cycles : Nat)
  /-- CHANNEL_ARBITRATION (R165): With no grant running, the arbiter chooses refresh, class 0, a resume or a lottery grant, and gives turn estimates. -/
  | channelArbitration (ch cycles : Nat)
  /-- BURST_LIMIT_EXPIRY (R161): A grant reaches its class's burst limit; it ends, and its remainder is requeued. -/
  | burstLimitExpiry (ch : Nat)
  /-- TRANSFER_COMPLETE (R161): A granted transfer finishes and drops its request, and the grant ends. -/
  | transferComplete (ch : Nat)
  /-- STARVATION_GRANT (R163): The grant counter reaches N, and the longest-waiting requester is granted. -/
  | starvationGrant (ch cycles : Nat)
  /-- REFRESH_DUE (R157): A refresh falls due and takes the channel once the current grant ends. -/
  | refreshDue (ch cycles : Nat)
  /-- DRAM_LINE_READ (R197): A channel reads a line and decodes it by Table 07-3: clean, corrected, poisoned or uncorrectable. -/
  | dramLineRead (line flips : Nat)
  /-- CORRECTION_WRITEBACK (R200): A queued corrected line is written back with fresh side bits under a class-0 grant. -/
  | correctionWriteback (line : Nat)
  /-- POISON_MARK_IN_STORE (R202): In service, an uncorrectable line is written back as read, with its poison bit set. -/
  | poisonMarkInStore (line : Nat)
  /-- ECC_LOG_CLEAR (R205): Writing log_clear empties the correction log and its status. -/
  | eccLogClear (mgmt onStack : Bool) (index : Nat)
  /-- DOCKET_ARRIVAL (R177): A docket reaches its engine's queue, or waits in the DMA engine when the context's entries are full. -/
  | docketArrival (tile tk : Nat)
  /-- DOCKET_START (R178): An engine picks the next docket by round robin and checks its formats, rounding and saturate fields. -/
  | docketStart (eng : Nat)
  /-- LOADV (R179): Copies vectors from memory into the vector buffer. -/
  | loadv (eng : Nat)
  /-- MATV (R180): Multiplies weight rows by buffer vectors. -/
  | matv (eng : Nat)
  /-- ATTN (R181): Computes running softmax attention states over key and value rows. -/
  | attn (eng : Nat)
  /-- GATHER (R182): Gathers indexed table rows into O. -/
  | gather (eng : Nat)
  /-- SCATTER (R182): Writes rows to indexed table rows by replace or by sum. -/
  | scatter (eng : Nat)
  /-- REDUCE (R183): Reduces the rows of A by column or over the whole operand. -/
  | reduce (eng : Nat)
  /-- QUANT (R184): Quantises rows into block-scaled format. -/
  | quant (eng : Nat)
  /-- COPY (R185): Moves bytes together with their poison marks. -/
  | copy (eng : Nat)
  /-- DOCKET_FILL (R185): Writes a 64-bit pattern, leaving the words clean. -/
  | docketFill (eng : Nat)
  /-- ZERO (R185): Writes zeros, leaving the words clean. -/
  | zero (eng : Nat)
  /-- DOCKET_SCRUB (R209): Reads a memory range and accumulates the scrub summary. -/
  | docketScrub (eng n : Nat)
  /-- DOCKET_COMPLETE (R187): Every output line of a docket has been written, and its ticket posts a completion code. -/
  | docketComplete (eng : Nat)
  /-- ENGINE_CLOCK_UNGATE (R169): A gated engine restarts its clock before its estimated turn, or at once when granted. -/
  | engineClockUngate (eng : Nat)
  /-- ENGINE_STALL (R425): An engine moves no line for 10 ms while it runs a docket, which raises trigger 0x05. -/
  | engineStall (eng : Nat)
  /-- SCRUB_START (R208): SCB_CTRL.start checks the range and cuts it into SCRUB dockets, or refuses it. -/
  | scrubStart
  /-- SCRUB_ABORT (R209): SCB_CTRL.abort stops every SCRUB docket after its current line. -/
  | scrubAbort
  /-- SCRUB_DONE (R209): The last SCRUB docket completes, and the summary and status are final. -/
  | scrubDone
  /-- PACKET_HEAD_ARRIVAL (R218): A head flit is checked, routed, refused, discarded, delivered locally or replicated. -/
  | packetHeadArrival (port ctrl data : Nat)
  /-- FLIT_ARRIVAL (R227): A body or tail flit arrives; it is forwarded or discarded as an orphan, and the worm's tail timer restarts. -/
  | flitArrival (port ctrl data : Nat)
  /-- OUTPUT_ALLOCATE (R231): A waiting worm, or multicast branch, acquires its output virtual channel. -/
  | outputAllocate (port vc : Nat)
  /-- TAIL_TIMEOUT (R227): A worm's gap reaches the tail timeout; the worm is cut and a truncating tail is sent. -/
  | tailTimeout (port vc : Nat)
  /-- FLIT_SLOT_SCHEDULE (R235): An output port picks the virtual channel whose flit it sends in this slot. -/
  | flitSlotSchedule (port : Nat)
  /-- STRICT_WINDOW_END (R235): A 64-slot window ends, and the strict-slot count restarts. -/
  | strictWindowEnd (port : Nat)
  /-- MEMORY_WRITE_ARRIVAL (R229): A remote memory write is written at the memory side, with truncation handling, and acknowledged. -/
  | memoryWriteArrival (p : Packet)
  /-- MEMORY_READ_REQUEST (R215): A remote read request is served from the stacks and answered with a read response. -/
  | memoryReadRequest (p : Packet)
  /-- READ_RESPONSE_ARRIVAL (R215): A read response lands in the requester's scratchpad or instruction buffer, and ends the ticket by status and mode. -/
  | readResponseArrival (p : Packet)
  /-- WRITE_ACK_ARRIVAL (R215): A write or message acknowledgement ends the GST or SEND ticket with 0x2, 0x6 or 0x3. -/
  | writeAckArrival (p : Packet)
  /-- REFUSAL_ARRIVAL (R232): A refusal ends the originating ticket with the code its status gives. -/
  | refusalArrival (p : Packet)
  /-- CHANNEL_MESSAGE_ARRIVAL (R139): A channel message is checked against its channel record, lands in its slot, and is acknowledged or refused. -/
  | channelMessageArrival (p : Packet)
  /-- CHANNEL_CREDIT_ARRIVAL (R216): A channel credit, or a restore, updates the sender's credits for the channel. -/
  | channelCreditArrival (p : Packet)
  /-- SLOT_CREDIT_ARRIVAL (R260): A collective slot credit on channel 0xFF frees a staging slot at the sender. -/
  | slotCreditArrival (p : Packet)
  /-- ECHO_REQUEST (R216): A system echo request is answered at once with an echo reply. -/
  | echoRequest (p : Packet)
  /-- ECHO_REPLY (R216): A system echo reply is received by the Steward. -/
  | echoReply (p : Packet)
  /-- RESET_NOTICE (R216): A peer's reset notice is logged at notice severity, and nothing else changes. -/
  | resetNotice (p : Packet)
  /-- UNKNOWN_SYSTEM_MESSAGE (R216): A system message of an unknown type is discarded with a Daybook warning. -/
  | unknownSystemMessage (p : Packet)
  /-- STOCKTAKE_TIMER (R224): Every 1 ms each link transmitter inserts a stocktake marker. -/
  | stocktakeTimer (port : Nat)
  /-- FAB_STOCKTAKE (R224): A write to FAB_STOCKTAKE starts a stocktake at once on the named ports. -/
  | fabStocktake (mgmt : Bool) (ports : Nat)
  /-- STOCKTAKE_MARKER_RECEIVE (R225): A received marker is checked for flit and credit balance, the Steward snapshot is latched, and the result is reported. -/
  | stocktakeMarkerReceive (port msg : Nat) (errs : List Nat)
  /-- PACKET_IDENTITY_CHECK (R41): The Steward checks the packet identity for each virtual channel of the port from the latched snapshot. -/
  | packetIdentityCheck (port : Nat)
  /-- FAB_SNAPSHOT (R238): A write to FAB_SNAPSHOT latches the host bank of the named ports. -/
  | fabSnapshot (ports : Nat)
  /-- DATA_FRAME_RECEIVE (R276): A data frame is decoded in fseq order; its flits are passed on and its credit returns, aseq and nak are taken, and replay is handled. -/
  | dataFrameReceive (port msg : Nat) (errs : List Nat)
  /-- IDLE_FRAME_RECEIVE (R275): An idle frame delivers its credit returns and acknowledgements. -/
  | idleFrameReceive (port msg : Nat) (errs : List Nat)
  /-- REPLAY_BUFFER_FULL (R276): 128 frames are unacknowledged, and the transmitter replays from the oldest. -/
  | replayBufferFull (port : Nat)
  /-- RETRAIN_TRIGGER (R277): 16 replays without progress, or more than 1,000 uncorrectable frames in 1 ms, make the port leave service. -/
  | retrainTrigger (port : Nat)
  /-- CK_LOSS (R271): CK is lost for 1 µs; the port leaves service and returns to T0. -/
  | ckLoss (port : Nat)
  /-- PORT_RETRAIN (R283): PRT_CMD.retrain makes the port leave service and retrain. -/
  | portRetrain (mgmt : Bool) (port : Nat)
  /-- PORT_RELEASE (R287): PRT_CMD.release re-evaluates a held port. -/
  | portRelease (mgmt : Bool) (port : Nat)
  /-- NEIGHBOUR_TRAINING (R283): The neighbour begins training, so the port leaves service to retrain. -/
  | neighbourTraining (port : Nat)
  /-- CK_RECEIVED (R279): CK power comes into range, which ends T0 and starts lock. -/
  | ckReceived (port : Nat)
  /-- CK_LOCK_DONE (R279): The sampling clocks lock to CK, and rung 1 alignment begins. -/
  | ckLockDone (port : Nat)
  /-- LANE_ALIGNMENT_DONE (R281): The bit-slip search and deskew finish for a rung. -/
  | laneAlignmentDone (port : Nat) (slips marks : List Nat)
  /-- RUNG_MEASURE_DONE (R280): The measure phase of a rung ends, and lane pass results are exchanged. -/
  | rungMeasureDone (port symbols : Nat) (wrong : List Nat)
  /-- IDENTITY_FRAME_RECEIVE (R286): A received identity record is checked against the wiring, the compatibility window and EXPECT; the port continues or holds. -/
  | identityFrameReceive (port msg : Nat) (errs : List Nat)
  /-- RUNG_DECISION (R282): Both ends choose a rung and width, or hold below the minima. -/
  | rungDecision (port : Nat)
  /-- PORT_ACTIVE (R279): T7 restores every pool to its configured credits, sends the first stocktake, and makes the port active. -/
  | portActive (port : Nat)
  /-- IDENTITY_RESEND (R287): Every 1 s a held port sends its identity frame again. -/
  | identityResend (port : Nat)
  /-- QUIET_IDLE_TIMEOUT (R288): The port has been idle for quiet_idle and sends a Quiet-entry frame. -/
  | quietIdleTimeout (port : Nat)
  /-- QUIET_ENTRY_RECEIVE (R288): A received Quiet-entry frame is answered when this end also meets the conditions. -/
  | quietEntryReceive (port msg : Nat) (errs : List Nat)
  /-- QUIET_POWER_DOWN (R288): Once its Quiet-entry frame is acknowledged, an end powers down its serialisers. -/
  | quietPowerDown (port : Nat)
  /-- QUIET_WAKE (R289): A flit or link frame to send wakes a Quiet port, which sends a training burst. -/
  | quietWake (port : Nat)
  /-- WAKE_BURST_DETECT (R289): The far end detects the wake burst and checks its stored alignment. -/
  | wakeBurstDetect (port : Nat) (isMatch : Bool) (slips marks : List Nat)
  /-- SEALED_PACKET_CHECK (R292): A whole sealed packet is verified and delivered without its seal flit, or discarded. -/
  | sealedPacketCheck (port vc : Nat)
  /-- TIME_TRANSFER_TIMER (R306): Every 1 ms a member sends a time-transfer request on each edge. -/
  | timeTransferTimer (port part : Nat)
  /-- TIME_REQUEST_RECEIVE (R306): A parent stamps a time-transfer request and answers it at once. -/
  | timeRequestReceive (port msg : Nat) (errs : List Nat) (part : Nat)
  /-- TIME_REPLY_RECEIVE (R307): The member computes θ and δ and steers the Drone under R309, or skips the exchange. -/
  | timeReplyReceive (port msg : Nat) (errs : List Nat) (part : Nat)
  /-- EXCHANGE_TIMEOUT (R307): No reply arrives within 100 µs, and the exchange is skipped. -/
  | exchangeTimeout (port : Nat)
  /-- HOLDOVER_ENTRY (R309): No valid exchange for 3 ms; the package enters holdover and may swap to its backup edge. -/
  | holdoverEntry
  /-- HOLDOVER_LONG (R311): Holdover passes 1 s, and holdover_long is set. -/
  | holdoverLong
  /-- STANDBY_ROOT_TAKEOVER (R310): The standby root, with no valid exchange for 100 ms, takes the root role. -/
  | standbyRootTakeover
  /-- STRUM_PARTIAL_ARRIVAL (R245): A child's partial joins its generation; when the count is whole the node sends upward, or the root closes the generation. -/
  | strumPartialArrival (p : Packet)
  /-- STRUM_RESULT_ARRIVAL (R248): A strum result is passed to the children and delivered to local members by outcome. -/
  | strumResultArrival (p : Packet)
  /-- STRUM_WAIT_EXPIRY (R246): A node's wait W expires; missing members and subtrees are declared lost and the partial is sent. -/
  | strumWaitExpiry (group : Nat)
  /-- STRUM_DEADLINE (R247): A member's deadline D passes with no result, and its ticket ends 0x9. -/
  | strumDeadline (group member : Nat)
  /-- COLL_QUEUED_START (R254): A COLL waiting on a busy set starts when the earlier collective ends. -/
  | collQueuedStart (set gang : Nat)
  /-- CHUNK_SEND (R260): A fully staged chunk with a slot credit is sent as packets. -/
  | chunkSend (set gang : Nat)
  /-- CHUNK_ARRIVAL (R466): A collective chunk is staged, then added, stored or passed on, and its slot credit is returned. -/
  | chunkArrival (p : Packet)
  /-- GUARD_CONTRIBUTION (R261): A member's last chunk is written, and it contributes its flags to the guard strum. -/
  | guardContribution (set gang : Nat)
  /-- COLLECTIVE_DEADLINE (R263): A member still running at T stops and contributes with deadline set. -/
  | collectiveDeadline (set gang : Nat)
  /-- PREEMPTION_BOUND_EXPIRY (R264): A pre-emption bound passes without a chunk boundary; the stop proceeds and the packet is cut. -/
  | preemptionBoundExpiry (set gang : Nat)
  /-- PATTERN_APPLY (R318): PLN_PATTERN_CMD.apply checks the Pattern in order, then applies it under R320 or refuses it. -/
  | patternApply (lpkg : Nat)
  /-- IMAGE_DELIVERY (R323): The Steward places the image home copies and multicasts every image block. -/
  | imageDelivery
  /-- IMAGE_BLOCK_ARRIVAL (R324): A tile checks a received block's digest and stores it, or counts it missing. -/
  | imageBlockArrival (p : Packet)
  /-- IMAGE_BLOCK_PULL (R324): After the multicast pass, a tile fetches its missing blocks and reports its image digest. -/
  | imageBlockPull (tile : Nat) (lost : List Nat)
  /-- PLAN_SCAN (R326): Every 2 µs the Steward reads each ring's head slot, and accepts or refuses a written record. -/
  | planScan
  /-- STEP_WAKE (R328): At E − wake_lead the step's tiles wake and lock their PLLs. -/
  | stepWake (ctx : Nat)
  /-- READINESS_VOTE (R328): At S − ready_lead the Steward contributes readiness bits to ready_group. -/
  | readinessVote (ctx : Nat)
  /-- READINESS_RESULT_TIMEOUT (R329): No readiness result by S − 1 µs counts as member-lost, and the step fails. -/
  | readinessResultTimeout (ctx : Nat)
  /-- RAMP_FILL_START (R328): The matrix units run on zero operands at rising duty until E. -/
  | rampFillStart (ctx : Nat)
  /-- STEP_START (R327): At E the step starts, with class 0 gangs at their entries and s1 and s2 loaded. -/
  | stepStart (ctx : Nat)
  /-- STAGGER_CLASS_START (R327): At each 250 ns step the next stagger class of gangs begins. -/
  | staggerClassStart (ctx : Nat)
  /-- STEP_ABORT (R331): PLN_ABORT_CMD.go records an abort, or reports already done or not found. -/
  | stepAbort (ctx : Nat)
  /-- STEP_DEADLINE (R427): The Drone passes a running step's deadline; the gangs freeze, contribute with bit 0 clear, and raise trigger 0x01. -/
  | stepDeadline (ctx : Nat)
  /-- AUX_POWER_GOOD (R460): AUX_3V3 settles, SLOT_ID is latched, and the cold path begins at C1. -/
  | auxPowerGood (slot : Nat)
  /-- INPUT_POWER_GOOD (R460): The 40 V input settles in range, which lets C3 start the power stage. -/
  | inputPowerGood
  /-- ROM_BOOT (R415): The ROM derives the device key, chooses a slot and checks its manifest and core sub-images. -/
  | romBoot (decayed : Nat)
  /-- RECORD_VERIFY (R344): C2 loads the firmware and verifies the Identity Record, the die fingerprints, the Warrants and the Mending list. -/
  | recordVerify (puf : List (List Byte)) (lost : Nat)
  /-- RAIL_BRINGUP (R336): C3 brings up the 6 V rail, the die regulators at the floor state and the die links. -/
  | railBringup
  /-- STACK_TRAINING (R336): C4 trains every stack and loads the stack controllers. -/
  | stackTraining (failed : Nat)
  /-- STACK_ASSAY (R339): C6 runs the stack and base-die tests of Table 13-3. -/
  | stackAssay (lines : List (Nat × Nat)) (base : Nat)
  /-- TILE_ASSAY (R339): C7 tests the tiles and dies and appends Mending entries. -/
  | tileAssay (cores : List (Nat × Nat × Nat × Nat)) (dies : Nat) (unsound : Bool)
  /-- SERVICEABLE (R336): C8 writes the Assay report and switches correction to service. -/
  | serviceable
  /-- READINESS_DECISION (R348): The Steward evaluates the checks of Table 13-7 and sets STW_READY. -/
  | readinessDecision
  /-- WARM_PATH (R338): The chip reset holds the dies, keeps the stacks in self-refresh, retrains, resolves tiles and restores from the Pattern. -/
  | warmPath (failed lost : Nat)
  /-- WARRANT_INSTALL (R346): A Warrant staged through SEC_CMD or Plovco WARRANT is checked and installed, pending or taking effect at once. -/
  | warrantInstall (o : Origin)
  /-- ESTIMATOR_WINDOW (R356): Every 4 µs the estimator computes unit power, the governors enforce allowances, and energy is attributed. -/
  | estimatorWindow (est : List Nat) (energy : List (Nat × Nat))
  /-- GOVERNOR_RAISE (R365): After 25 windows of fitting the allowance, a die's operating point is raised by one step. -/
  | governorRaise (die : Nat)
  /-- POWER_CALIBRATION (R357): Every 1 ms the loop core updates the correction factor from the measured input power. -/
  | powerCalibration (inputMw inputCv : Nat)
  /-- ALLOWANCE_GRANT (R364): Every 100 µs the loop core shares the effective cap among the domains. -/
  | allowanceGrant
  /-- HOST_CAP_WRITE (R360): A write to PWR_CAP_HOST sets the host slot, clamped. -/
  | hostCapWrite (watts : Nat)
  /-- TRAY_CAP (R361): The tray's TRAY_CAP sets the tray slot and starts a 30 s lease. -/
  | trayCap (r : Request)
  /-- LEASE_RENEW (R361): The tray renews its cap lease. -/
  | leaseRenew (r : Request)
  /-- ORPHAN_CAP (R361): The tray sets the orphan cap. -/
  | orphanCap (r : Request)
  /-- TRAY_LEASE_EXPIRY (R361): The tray lease expires, and the tray slot falls to the orphan cap. -/
  | trayLeaseExpiry
  /-- OVERCURRENT (R354): Input current above 105 A for 1 µs asserts the regulator alert. -/
  | overcurrent
  /-- REGULATOR_ALERT (R371): The alert forces every die and stack to the floor within 200 ns and asserts PWR_ALERT_N. -/
  | regulatorAlert
  /-- TRAY_HOLD (R372): TRAY_HOLD_N low for 100 ns forces the floor state within 1 µs. -/
  | trayHold
  /-- FORCED_FLOOR_EXIT_STEP (R373): Once every cause has cleared, the loop core raises the operating point one step every 100 µs. -/
  | forcedFloorExitStep
  /-- DROOP_DETECT (R368): A cluster's rail falls below a threshold, and its clock is stretched. -/
  | droopDetect (die cluster : Nat) (deep : Bool)
  /-- DROOP_STRETCH_END (R368): After 16 cycles above the threshold with margin, the stretch ends. -/
  | droopStretchEnd (die cluster : Nat)
  /-- DROOP_STORM (R369): A 100 µs window with stretch time above storm_us lowers the die's point for 10 ms. -/
  | droopStorm (die : Nat)
  /-- STORM_REDUCTION_END (R369): A droop-storm reduction's 10 ms ends. -/
  | stormReductionEnd (die : Nat)
  /-- OPERATING_POINT_CHANGE (R370): A die's point change starts the rail slew, or waits for stretches. -/
  | operatingPointChange (die : Nat)
  /-- POINT_SWITCH (R370): After stretches end or 10 µs pass, the divider switches and the droop thresholds re-band on one strobe. -/
  | pointSwitch (die : Nat)
  /-- SENSOR_SAMPLE (R374): Every 50 µs the hot-spot sensors are sampled and the protective readings formed, flagging or dropping sensors. -/
  | sensorSample (readings : List (Int × Int)) (dram : List Nat)
  /-- HOTSPOT_ADJUST (R375): Every 1 ms the region duties, engine clocks and channel duties follow the temperatures. -/
  | hotspotAdjust
  /-- CRITICAL_TEMPERATURE (R376): A protective reading of 115 °C forces the floor state within 10 µs. -/
  | criticalTemperature
  /-- THERMAL_TRIP (R376): 120 °C asserts and latches THERM_TRIP_N, requesting power-off. -/
  | thermalTrip
  /-- COOLANT (R377): A coolant report from the tray updates inlet, outlet and flow; a zero-flow report forces the floor. -/
  | coolant (r : Request)
  /-- COOLANT_REPORT_TIMEOUT (R377): No coolant report for 1 s; the inlet is taken as 45 °C and no_report is set. -/
  | coolantReportTimeout
  /-- RTH_UPDATE (R378): Every 10 ms the loop core filters R_th and sets the thermal slot. -/
  | rthUpdate (inputMw : Nat)
  /-- COOLANT_SLOPE_TRIGGER (R380): A steep rise of junction temperature at steady power forces the floor under COOLANT. -/
  | coolantSlopeTrigger
  /-- MUTE_STEP_DOWN (R381): While armed, the Mute lowers the points when a reading rises 3 K or reaches 95 °C, at most every 10 ms. -/
  | muteStepDown
  /-- HEARTBEAT (R391): A write to HST_HEARTBEAT renews the driver lease. -/
  | heartbeat (v : Word)
  /-- LEASE_RELEASE (R391): HST_LEASE_CFG.release ends the lease at once. -/
  | leaseRelease
  /-- DRIVER_LEASE_EXPIRY (R391): The lease timer expires, and the package enters the orphan state. -/
  | driverLeaseExpiry
  /-- PERST_ASSERT (R391): PERST_N restores its registers and ends the driver lease. -/
  | perstAssert
  /-- PERST_DEASSERT (R460): PERST_N deasserted with the reference clock stable starts PCI Express link training. -/
  | perstDeassert
  /-- ADOPT_CONTEXT (R393): An HST_ADOPT adopt bit appends the context's held events and ends its orphan state. -/
  | adoptContext (ctx : Nat)
  /-- ADOPT_RESET (R393): An HST_ADOPT reset bit takes the context reset and discards its held events. -/
  | adoptReset (ctx : Nat)
  /-- BAR2_WRITE (R389): A host BAR2 write is mapped to package memory, or discarded and counted. -/
  | bar2Write (seg off : Nat) (bytes : List Byte)
  /-- BAR2_READ (R389): A host BAR2 read is served, consuming poison under R204, or aborted. -/
  | bar2Read (seg off n : Nat)
  /-- DISCOVER (R398): A Plovco DISCOVER request is answered with the package's slot, phase and identity summary. -/
  | discover (src : Nat) (r : Request)
  /-- IDENTITY (R398): A Plovco IDENTITY request returns a piece of the Identity Record. -/
  | identity (src : Nat) (r : Request)
  /-- SPDM (R397): A Plovco or DOE SPDM message is answered by the responder, setting up or using a session. -/
  | spdm (src : Nat) (doe : Bool) (session : Nat) (ask : SpdmAsk)
  /-- GET_MEASUREMENTS (R403): The measurement blocks are returned, signed by the device key over the nonce. -/
  | getMeasurements (doe : Bool) (session : Nat) (nonce : List Byte)
  /-- SESSION_TIMEOUT (R397): Two heartbeat periods pass without traffic, and the session ends. -/
  | sessionTimeout (session : Nat)
  /-- STRANGER_FRAME (R396): A frame from a stranger outside the permitted requests or limits is dropped and counted. -/
  | strangerFrame
  /-- BEACON_LOSS (R395): No PLCA beacon for 4 ms; the package falls back to CSMA/CD and counts the event. -/
  | beaconLoss
  /-- POWER_STATUS (R398): Returns the power and thermal status registers. -/
  | powerStatus (r : Request)
  /-- CYCLE_REQUEST (R435): The package asks the tray for a power cycle, repeating every 1 s until it is answered. -/
  | cycleRequest
  /-- DAYBOOK (R398): Returns up to 16 Daybook entries from the live ring or the mirror. -/
  | daybook (r : Request)
  /-- TRACE (R406): Sets the trace mark enable masks. -/
  | trace (r : Request)
  /-- SCRUB (R208): The Plovco scrub command starts or aborts a scrub, and sends the summary when it ends. -/
  | scrub (r : Request)
  /-- STATUS (R398): Returns STW_BOOT, STW_READY, SEC_WARRANT and STW_MEND. -/
  | status (r : Request)
  /-- RECEIPT (R398): Returns a piece of the last erasure receipt. -/
  | receipt (r : Request)
  /-- CUSTODIAN_RECORD (R399): A custodian record is checked and installs a new custodian key. -/
  | custodianRecord (o : Origin)
  /-- OWNER_ENROL (R400): An owner enrolment record is checked and enrols an owner key. -/
  | ownerEnrol (o : Origin)
  /-- OWNER_REMOVE (R400): An owner removal record is checked and removes an owner key. -/
  | ownerRemove (o : Origin)
  /-- SERVICE_COMMAND (R409): An Aetheveam-signed service command clears the custodian or removes Mending entries. -/
  | serviceCommand (o : Origin)
  /-- TEARDOWN (R402): The slice is torn down: contexts reset, memory and SRAM zeroised and read back, tables invalidated, and a receipt signed. -/
  | teardown (o : Origin) (residue : Nat)
  /-- DAYBOOK_MIRROR_SECOND (R405): At the end of a Drone second with unmirrored entries, a 0xF100 entry is written and mirrored. -/
  | daybookMirrorSecond
  /-- UPDATE_CHUNK (R413): A Plovco UPDATE chunk is placed into the Steward reserve. -/
  | updateChunk (r : Request)
  /-- BUNDLE_WRITE (R413): The update write op writes a staged bundle into the free slot and checks it. -/
  | bundleWrite (o : Origin)
  /-- ACTIVATE (R417): The activate op checks compatibility and emergencies, then starts drain, or defers. -/
  | activate (o : Origin)
  /-- ACTIVATION_RETRY (R420): Every 1 s a deferred activation retries its checks. -/
  | activationRetry
  /-- ACTIVATION_ABANDON (R420): An emergency still holding 60 s after the request abandons the activation. -/
  | activationAbandon
  /-- CANCEL_ACTIVATION (R424): The cancel op stops a deferred activation. -/
  | cancelActivation (o : Origin)
  /-- REJECT (R419): The reject op during a trial falls back to the previous slot. -/
  | reject (o : Origin)
  /-- UPDATE_STATUS (R408): The Plovco update status op returns UPD_STATUS and the slot states. -/
  | updateStatus (r : Request)
  /-- HANDOVER_DRAIN_DONE (R417): A2 ends with every valid record accepted or refused; quiesce writes the handover record and arms the Mute. -/
  | handoverDrainDone
  /-- HANDOVER_LOAD (R417): The ROM checks and loads the new service and loop images. -/
  | handoverLoad (decayed : Nat)
  /-- HANDOVER_RESTORE (R417): State is read from the handover record, stack controllers and port sequencers are reloaded, and sessions restored. -/
  | handoverRestore (lost : Nat)
  /-- HANDOVER_RECLAIM (R381): The loop core reclaims from the Mute, missed scans are made up, and the state reads running. -/
  | handoverReclaim
  /-- TRIAL_CONFIRM (R419): After 10 s of continuous health, the trial image confirms itself. -/
  | trialConfirm
  /-- TRIAL_TIMEOUT (R419): No confirmation 60 s after A3, so the ROM watchdog falls back to the old slot. -/
  | trialTimeout
  /-- HANDOVER_RECORD_WRITE (R418): Every 100 ms, and at relevant changes, the image rewrites the handover record. -/
  | handoverRecordWrite
  /-- STEWARD_RESTART (R437): A core watchdog miss restarts the Steward from its retained record, with the Mute and the vote proxy holding. -/
  | stewardRestart
  /-- RESET_CONTEXT (R425): RCV_CMD or Plovco RESET at context level requests a context reset. -/
  | resetContext (o : Origin) (ctx : Nat)
  /-- RESET_ENGINE (R431): RCV_CMD at engine level requests a tile or stack-engine reset. -/
  | resetEngine (o : Origin) (stack : Bool) (index : Nat)
  /-- RESET_PARTITION (R431): RCV_CMD at partition level requests a die or stack reset. -/
  | resetPartition (o : Origin) (stack : Bool) (index : Nat)
  /-- RESET_CHIP (R431): RCV_CMD at chip level requests a chip reset. -/
  | resetChip (o : Origin)
  /-- RESET_POWER_CYCLE (R431): RCV_CMD at power-cycle level requests a power cycle from the tray. -/
  | resetPowerCycle (o : Origin)
  /-- CONTEXT_RESET (R430): A context is frozen, its dossier captured, its work purged and its tiles cleared, then it is re-established. -/
  | contextReset (ctx : Nat)
  /-- ENGINE_RESET (R431): A tile or stack engine is reset, and its contexts are reset or its dockets end 0x5. -/
  | engineReset (stack : Bool) (index : Nat)
  /-- DIE_PARTITION_RESET (R433): A compute die restarts its tiles, mesh and links, and its images are redelivered. -/
  | diePartitionReset (die : Nat)
  /-- STACK_PARTITION_RESET (R434): A stack enters self-refresh, is retrained, and has its LK registers rewritten. -/
  | stackPartitionReset (stack : Nat) (failed : Bool)
  /-- CHIP_RESET (R435): A chip reset freezes all contexts, declares members lost, captures the dossier and runs the warm path. -/
  | chipReset
  /-- RESET_TIMER_EXPIRY (R432): A reset level passes its timer, and the next level takes over. -/
  | resetTimerExpiry (level : Nat) (stack : Bool) (index : Nat) (units : List (Bool × Nat))
  /-- STACK_CONTROLLER_WATCHDOG (R425): A stack controller misses its watchdog or a channel loses training, which raises a stack partition reset. -/
  | stackControllerWatchdog (stack : Nat)
  /-- MESH_LIVENESS_FAIL (R425): A die's mesh fails its liveness probe, which raises a die partition reset. -/
  | meshLivenessFail (die : Nat)
  /-- DIE_LINK_DOWN (R425): A die-to-die link is down for 1 ms, which raises a chip reset. -/
  | dieLinkDown (die : Nat)
  /-- DIGEST_EXCHANGE (R443): When every local gang has ended, each twin contributes its step digest to the twin group. -/
  | digestExchange (ctx : Nat)
  /-- DIGEST_RESULT (R444): The twin group result is matched, mismatched or member-lost, and handled by Table 17-7. -/
  | digestResult (p : Packet)
  /-- TWIN_STREAM_EXPIRY (R441): A twin filter stream with no arrival for 100 ms is freed. -/
  | twinStreamExpiry
  /-- MIRROR_HEARTBEAT_TIMER (R446): At least every 1 ms a twin sends a mirror record to its partner. -/
  | mirrorHeartbeatTimer
  /-- MIRROR_HEARTBEAT (R446): A heartbeat mirror record is received from the partner. -/
  | mirrorHeartbeat (p : Packet) (digest : Nat)
  /-- MIRROR_STEP (R446): A step mirror record carries the partner's role, fault flag and step positions. -/
  | mirrorStep (p : Packet) (digest : Nat)
  /-- RESYNC_DATA (R447): A resynchronisation data record lands state at its offsets. -/
  | resyncData (p : Packet)
  /-- RESYNC_STATE (R447): A resynchronisation state record copies agent counts, filter and plan positions. -/
  | resyncState (p : Packet) (counts : List (Nat × Nat)) (streams : List StreamCopy) (positions : List (Nat × Nat × Nat))
  /-- JOIN_RECORD (R447): A join mirror record is received and answered. -/
  | joinRecord (p : Packet)
  /-- PARTNER_LOSS (R445): No mirror record for 1 ms; the survivor becomes single and reporting. -/
  | partnerLoss
  /-- TWIN_SWAP (R445): RCV_TWIN_CMD.swap exchanges roles at the next step boundary. -/
  | twinSwap
  /-- TWIN_LEAVE (R449): RCV_TWIN_CMD.leave takes this twin out of the pair. -/
  | twinLeave
  /-- TWIN_RESYNC (R447): RCV_TWIN_CMD.resync starts joining a repaired twin by copying state before step N. -/
  | twinResync
  /-- INPUT_ALERT (R461): The 40 V input outside 35–46 V asserts the regulator alert. -/
  | inputAlert
  /-- INPUT_LOSS (R461): The 40 V input outside 33–47 V stops conversion, logs a critical entry and holds the package in reset. -/
  | inputLoss
  /-- AUX_LOSS (R461): AUX_3V3 below 3.0 V for 10 µs stops the power stage and resets the package. -/
  | auxLoss
  /-- TRIP_BACKSTOP (R461): 40 V still present 100 ms after THERM_TRIP_N, so the power stage stops converting. -/
  | tripBackstop
  /-- SLOT_ID_CHANGE (R454): A SLOT_ID change while powered is ignored and logged as a warning. -/
  | slotIdChange (observed : Nat)
  /-- REGULATOR_ALERT_CLEAR (R371): The shared regulator alert wire clears; PWR_ALERT_N is released 1 ms later and the 1 ms clear count for the forced-floor exit begins. -/
  | regulatorAlertClear
  /-- TRAY_HOLD_RELEASE (R373): TRAY_HOLD_N goes high, starting the 10 ms count after which the forced floor may be left. -/
  | trayHoldRelease
  /-- TILE_PLL_LOCK (R328): A woken tile's PLL locks and its TIL_STATUS.state moves from waking to ready. -/
  | tilePllLock (tile : Nat)
  /-- D3HOT (R387): A host write to the Power Management capability moves the function between D0 and D3hot, suspending or restoring the window but not the package. -/
  | d3hot (on : Bool)
  /-- UNKNOWN_COMMAND (R398): A Plovco request within a session carrying an undefined command code is answered with status 0x05. -/
  | unknownCommand (cmd : Nat) (r : Request)
  /-- CYCLE_REQUEST_ANSWER (R435): The tray's reply with status 0x00 to a CYCLE_REQUEST arrives and stops the repetition every 1 s. -/
  | cycleRequestAnswer
  /-- LINK_RESET_COMPLETE (R226): Both ends of a reset link have restored their pools and cleared replay state, so forwarding resumes and FAB_PORT_STATUS leaves link reset in progress. -/
  | linkResetComplete (port : Nat)
  deriving DecidableEq, Repr

end Sys2Proof
end

