-- ==== Sys2Proof/Machine/Bits.lean ====
section
/-! DEFINITION. Bit fields, sign extension and byte order: the helpers every other file cuts words apart with.
Bytes in memory are little-endian (01 R30, 04 R116, 12 R314). -/

namespace Sys2Proof.Machine

/-- Bits hi..lo of a number. -/
def bitsOf (v hi lo : Nat) : Nat := (v >>> lo) % 2 ^ (hi - lo + 1)

/-- One bit of a number. -/
def bitOf (v i : Nat) : Bool := (v >>> i) % 2 == 1

/-- v with bits hi..lo replaced by the low bits of x. -/
def putBits (v hi lo x : Nat) : Nat :=
  v - (bitsOf v hi lo) * 2 ^ lo + (x % 2 ^ (hi - lo + 1)) * 2 ^ lo

/-- A field of a 64-bit register as a number. -/
def fieldOf (w : Word) (hi lo : Nat) : Nat := bitsOf w.toNat hi lo

/-- A 64-bit register with one field replaced. -/
def withField (w : Word) (hi lo x : Nat) : Word := BitVec.ofNat 64 (putBits w.toNat hi lo x)

/-- The two's-complement reading of the low n bits of v. -/
def signedOf (n v : Nat) : Int :=
  if v % 2 ^ n < 2 ^ (n - 1) then (v % 2 ^ n : Nat) else ((v % 2 ^ n : Nat) : Int) - 2 ^ n

/-- The n-bit two's-complement pattern of an integer. -/
def patternOf (n : Nat) (x : Int) : Nat := (x % (2 ^ n : Int)).toNat

/-- A Bool as a number, for fields of one bit. -/
def bit (b : Bool) : Nat := if b then 1 else 0

/-- n little-endian bytes of a number. -/
def bytesOf : Nat → Nat → List Byte
  | 0, _ => []
  | n + 1, v => BitVec.ofNat 8 v :: bytesOf n (v / 256)

/-- The number that little-endian bytes hold. -/
def ofBytes : List Byte → Nat
  | [] => 0
  | b :: bs => b.toNat + 256 * ofBytes bs

/-- The number that big-endian bytes hold (keys, signatures, digests). -/
def ofBytesBE (bs : List Byte) : Nat := bs.foldl (fun a b => a * 256 + b.toNat) 0

/-- n big-endian bytes of a number. -/
def bytesOfBE (n v : Nat) : List Byte := (bytesOf n v).reverse

/-- A slice of a byte string: n bytes from offset off. -/
def slice (bs : List Byte) (off n : Nat) : List Byte := (bs.drop off).take n

/-- The little-endian number in n bytes at off of a record; missing bytes read 0. -/
def numAt (bs : List Byte) (off n : Nat) : Nat := ofBytes (slice bs off n)

/-- An n-byte string of zeros. -/
def zeros (n : Nat) : List Byte := List.replicate n 0

/-- Numbers a, a+1, ..., a+n-1. -/
def rangeFrom (a : Nat) : Nat → List Nat
  | 0 => []
  | n + 1 => a :: rangeFrom (a + 1) n

/-- The positions of the set bits of v below n, lowest first. -/
def setBits (n v : Nat) : List Nat := (List.range n).filter (bitOf v)

/-- How many bits below n are set in v. -/
def popCount (n v : Nat) : Nat := (setBits n v).length

/-- Floor of the base-2 logarithm by halving, 0 for 0. -/
def log2Floor (v : Nat) : Nat := Nat.log2 v

/-- Add with a ceiling: the saturating counters of the register tables. -/
def satAdd (limit a b : Nat) : Nat := min limit (a + b)

/-- 2^k as an integer scale of a numerator and a denominator is kept by shifting one of them; ceil(a / b). -/
def ceilDiv (a b : Nat) : Nat := (a + b - 1) / b

/-- Does every byte equal zero. -/
def allZero (bs : List Byte) : Bool := bs.all (· == 0)

/-- The first index at which p holds, from a list. -/
def firstIdx {α : Type} (p : α → Bool) : List α → Option Nat
  | [] => none
  | a :: as => if p a then some 0 else (firstIdx p as).map (· + 1)

/-- Split a byte string into pieces of n bytes (n > 0); fuel is the number of pieces. -/
def chunksOf (n : Nat) : Nat → List Byte → List (List Byte)
  | 0, _ => []
  | k + 1, bs => bs.take n :: chunksOf n k (bs.drop n)

end Sys2Proof.Machine
end

