-- ==== Sys2Proof/Machine/Crc.lean ====
section
/-! DEFINITION. The check codes the manual writes out: CRC-32C (00 R463) and the Fret (02 R70). -/

namespace Sys2Proof.Machine

/-- One bit of a reflected CRC step for the Castagnoli polynomial (00 R463: 0x1EDC6F41 reflected is 0x82F63B78). -/
def crc32cBit (c : Nat) : Nat := if c % 2 = 1 then (c / 2) ^^^ 0x82F63B78 else c / 2

/-- Eight bits of the reflected CRC over one byte. -/
def crc32cByte (c : Nat) (b : Byte) : Nat :=
  crc32cBit (crc32cBit (crc32cBit (crc32cBit (crc32cBit (crc32cBit (crc32cBit (crc32cBit (c ^^^ b.toNat))))))))

/-- CRC-32C of a byte string (00 R463). -/
def crc32c (bs : List Byte) : Nat := (bs.foldl crc32cByte 0xFFFFFFFF) ^^^ 0xFFFFFFFF

/-- One round of the Fret (02 R70): the pair (x, y) after loop index i. -/
def fretRound (xy : Word × Word) (i : Nat) : Word × Word :=
  let y0 := xy.2 + xy.1 + BitVec.ofNat 64 ((i + 1) * 0x9E3779B97F4A7C15)
  let y1 := y0 ^^^ (y0 >>> 29)
  let y2 := y1 * 0xBF58476D1CE4E5B9#64
  let y3 := y2 ^^^ (y2 >>> 32)
  (xy.1.rotateLeft 23 ^^^ y3, y3)

/-- The rounding generator, the Fret (02 R70): 32 bits of a seed, a step number, a tile key and an element index. -/
def fret (seed step : Word) (tileKey elem : Nat) : Nat :=
  let x0 := seed ^^^ step
  let y0 : Word := BitVec.ofNat 64 ((tileKey % 2 ^ 32) * 2 ^ 32 + elem % 2 ^ 32)
  let r := fretRound (fretRound (fretRound (fretRound (x0, y0) 0) 1) 2) 3
  (r.2 >>> 32).toNat

end Sys2Proof.Machine
end

