-- ==== Sys2Proof/Machine/Numfmt.lean ====
section
/-! DEFINITION. Number formats, exact values and the one rounding (02 R50-R59, R66-R73). -/

namespace Sys2Proof.Machine

/-- The data formats of Table 02-1 (02 R50). -/
inductive Fmt where
  | fp32 | bf16 | e4m3 | e5m2 | e3m2 | e2m3 | fp4 | int8 | longSum | e8m0
  deriving DecidableEq, Repr

/-- The format a 4-bit code names; none where the code is reserved (02 R50). -/
def fmtOfCode : Nat → Option Fmt
  | 0x0 => some .fp32 | 0x1 => some .bf16 | 0x2 => some .e4m3 | 0x3 => some .e5m2 | 0x4 => some .e3m2
  | 0x5 => some .e2m3 | 0x6 => some .fp4 | 0x7 => some .int8 | 0x8 => some .longSum | 0xE => some .e8m0
  | _ => none

/-- Width in bits (02 R50). -/
def Fmt.width : Fmt → Nat
  | .fp32 => 32 | .bf16 => 16 | .e4m3 => 8 | .e5m2 => 8 | .e3m2 => 6 | .e2m3 => 6 | .fp4 => 4 | .int8 => 8
  | .longSum => 128 | .e8m0 => 8

/-- FP4, FP6, FP8 (02 R52). -/
def Fmt.isNarrowFloat : Fmt → Bool
  | .e4m3 => true | .e5m2 => true | .e3m2 => true | .e2m3 => true | .fp4 => true
  | .fp32 => false | .bf16 => false | .int8 => false | .longSum => false | .e8m0 => false

/-- The narrow formats: FP4, FP6, FP8 and INT8 (02 R52). -/
def Fmt.isNarrow (f : Fmt) : Bool := f.isNarrowFloat || f == .int8

/-- FP32 or BF16: the formats of fixed-order mode (02 R66). -/
def Fmt.isWide (f : Fmt) : Bool := f == .fp32 || f == .bf16

/-- Exponent bits, mantissa bits, bias and largest finite encoding (02 R53, R56, Table 02-2). -/
structure FpSpec where
  mbits : Nat
  ebits : Nat
  bias : Nat
  maxFinite : Nat
  deriving DecidableEq, Repr

/-- The parameters of a floating format; INT8, long sums and E8M0 have none and answer FP32's. -/
def Fmt.spec : Fmt → FpSpec
  | .fp32 => ⟨23, 8, 127, 0x7F7FFFFF⟩ | .bf16 => ⟨7, 8, 127, 0x7F7F⟩ | .e4m3 => ⟨3, 4, 7, 0x7E⟩
  | .e5m2 => ⟨2, 5, 15, 0x7B⟩ | .e3m2 => ⟨2, 3, 3, 0x1F⟩ | .e2m3 => ⟨3, 2, 1, 0x1F⟩ | .fp4 => ⟨1, 2, 1, 0x7⟩
  | .int8 => ⟨23, 8, 127, 0x7F7FFFFF⟩ | .longSum => ⟨23, 8, 127, 0x7F7FFFFF⟩ | .e8m0 => ⟨23, 8, 127, 0x7F7FFFFF⟩

/-- Formats that have an infinity (02 Table 02-7). -/
def Fmt.hasInf : Fmt → Bool
  | .fp32 => true | .bf16 => true | .e5m2 => true
  | .e4m3 => false | .e3m2 => false | .e2m3 => false | .fp4 => false | .int8 => false | .longSum => false | .e8m0 => false

/-- The canonical NaN of a format, where it has one (02 R55). -/
def Fmt.canonNaN : Fmt → Option Nat
  | .fp32 => some 0x7FC00000 | .bf16 => some 0x7FC0 | .e4m3 => some 0x7F | .e5m2 => some 0x7F
  | .e3m2 => none | .e2m3 => none | .fp4 => none | .int8 => none | .longSum => none | .e8m0 => none

/-- An exact value: a NaN, an infinity, or a signed magnitude mant × 2^exp (a zero keeps its sign). -/
inductive Num where
  | nan
  | inf (neg : Bool)
  | fin (neg : Bool) (mant : Nat) (exp : Int)
  deriving DecidableEq, Repr

/-- Positive zero. -/
def numZero : Num := .fin false 0 0

/-- The exact value of an encoding in a floating format or INT8 (02 R53-R56). -/
def decodeNum (f : Fmt) (v : Nat) : Num :=
  if f == .int8 then
    let i := signedOf 8 v
    .fin (i < 0) i.natAbs 0
  else
    let sp := f.spec
    let m := v % 2 ^ sp.mbits
    let e := (v / 2 ^ sp.mbits) % 2 ^ sp.ebits
    let neg := bitOf v (sp.mbits + sp.ebits)
    if f == .e4m3 && v % 128 == 0x7F then .nan
    else if f.hasInf && e == 2 ^ sp.ebits - 1 then (if m == 0 then .inf neg else .nan)
    else if e == 0 then .fin neg m (1 - (sp.bias : Int) - sp.mbits)
    else .fin neg (m + 2 ^ sp.mbits) ((e : Int) - sp.bias - sp.mbits)

/-- The exact value of an element under a block scale byte (02 R57): a scale of 0xFF is non-finite (R54). -/
def scaleNum (x : Num) (k : Nat) : Num :=
  if k == 0xFF then .nan else
  match x with
  | .fin n m e => .fin n m (e + (k : Int) - 127)
  | y => y

/-- The rounding modes (02 R69). -/
inductive Rnd where
  | nearest | zero | stochastic
  deriving DecidableEq, Repr

/-- The mode a 2-bit code names; 0b11 names none (02 R69). -/
def rndOfCode : Nat → Option Rnd
  | 0 => some .nearest | 1 => some .zero | 2 => some .stochastic | _ => none

/-- Multiply or divide a magnitude by a power of two: (quotient, remainder, denominator) of mant × 2^sh. -/
def shiftSplit (mant : Nat) (sh : Int) : Nat × Nat × Nat :=
  if 0 ≤ sh then (mant * 2 ^ sh.toNat, 0, 1)
  else (mant / 2 ^ (-sh).toNat, mant % 2 ^ (-sh).toNat, 2 ^ (-sh).toNat)

/-- Does a quotient with remainder rem out of den round up (02 R69); r is the Fret's draw. -/
def roundsUp (mode : Rnd) (r q rem den : Nat) : Bool :=
  match mode with
  | .nearest => 2 * rem > den || (2 * rem == den && q % 2 == 1)
  | .zero => false
  | .stochastic => r < rem * 2 ^ 32 / den

/-- A magnitude mant × 2^exp rounded to an integer number of units 2^lsb. -/
def roundUnits (mode : Rnd) (r mant : Nat) (exp lsb : Int) : Nat :=
  let (q, rem, den) := shiftSplit mant (exp - lsb)
  q + bit (roundsUp mode r q rem den)

/-- The encoding (without sign, and without a ceiling) of a magnitude rounded to a floating format (02 R69). -/
def roundMag (sp : FpSpec) (mode : Rnd) (r mant : Nat) (exp : Int) : Nat :=
  if mant = 0 then 0 else
  let lsbMin : Int := 1 - (sp.bias : Int) - sp.mbits
  let lsb : Int := max ((Nat.log2 mant : Int) + exp - sp.mbits) lsbMin
  (lsb - lsbMin).toNat * 2 ^ sp.mbits + roundUnits mode r mant exp lsb

/-- The sign bit of an encoding in place. -/
def signBit (f : Fmt) (neg : Bool) : Nat := bit neg * 2 ^ (f.width - 1)

/-- The encoding that stands for a NaN, with the destination poisoned where the format has none (02 Table 02-7). -/
def encodeNaN (f : Fmt) : Nat × Bool :=
  match f.canonNaN with
  | some n => (n, false)
  | none => (0, true)

/-- An INT8 encoding of a sign and a magnitude, saturated. -/
def int8Of (neg : Bool) (q : Nat) : Nat :=
  if neg then (if q ≥ 128 then 0x80 else (256 - q) % 256) else min q 127

/-- Convert an exact value to a format (02 R72, Table 02-7): the encoding and whether it is poisoned. -/
def encodeNum (f : Fmt) (mode : Rnd) (r : Nat) (sat : Bool) (x : Num) : Nat × Bool :=
  match x with
  | .nan => encodeNaN f
  | .inf neg =>
    if f == .int8 then (int8Of neg 255, false)
    else if f.hasInf then (signBit f neg + (f.spec.maxFinite + 1), false)
    else (signBit f neg + f.spec.maxFinite, false)
  | .fin neg mant exp =>
    if f == .int8 then (int8Of neg (roundUnits mode r mant exp 0), false)
    else
      let e := roundMag f.spec mode r mant exp
      if e > f.spec.maxFinite then
        (if f.hasInf && !sat && mode != .zero then signBit f neg + (f.spec.maxFinite + 1)
         else signBit f neg + f.spec.maxFinite, false)
      else (signBit f neg + e, false)

/-- Nearest-even to FP32 with IEEE overflow: every intermediate of fixed-order mode (02 R67). -/
def toFp32 (x : Num) : Nat := (encodeNum .fp32 .nearest 0 false x).1

/-- Is an exact value negative (its sign). -/
def numNeg : Num → Bool
  | .nan => false | .inf n => n | .fin n _ _ => n

/-- An exact product. -/
def numMul : Num → Num → Num
  | .nan, _ => .nan
  | _, .nan => .nan
  | .inf a, .inf b => .inf (a != b)
  | .inf a, .fin b m _ => if m = 0 then .nan else .inf (a != b)
  | .fin a m _, .inf b => if m = 0 then .nan else .inf (a != b)
  | .fin a m e, .fin b n g => .fin (a != b) (m * n) (e + g)

/-- The negative of a value. -/
def numNegate : Num → Num
  | .nan => .nan | .inf n => .inf (!n) | .fin n m e => .fin (!n) m e

/-- The least exponent among finite terms. -/
def minExp : List Num → Int
  | [] => 0
  | [.fin _ _ e] => e
  | .fin _ _ e :: xs => min e (minExp xs)
  | .nan :: xs => minExp xs
  | .inf _ :: xs => minExp xs

/-- A finite term in units of 2^lsb (lsb at most its exponent). -/
def numUnits (lsb : Int) : Num → Int
  | .fin n m e => (if n then -1 else 1) * ((m * 2 ^ (e - lsb).toNat : Nat) : Int)
  | .nan => 0
  | .inf _ => 0

/-- The exact sum of terms.  A sum that is zero is negative only where every term is (IEEE 754 sums under nearest-even;
log entry 10). -/
def numSum (xs : List Num) : Num :=
  if xs.any (· == .nan) then .nan
  else if xs.any (· == .inf false) && xs.any (· == .inf true) then .nan
  else if xs.any (· == .inf false) then .inf false
  else if xs.any (· == .inf true) then .inf true
  else
    let lsb := minExp xs
    let t := (xs.map (numUnits lsb)).foldl (· + ·) 0
    if t = 0 then .fin (xs.all numNeg) 0 0
    else .fin (t < 0) t.natAbs lsb

/-- FP32 add, nearest-even. -/
def fp32Add (a b : Nat) : Nat := toFp32 (numSum [decodeNum .fp32 a, decodeNum .fp32 b])

/-- FP32 fused multiply-add, nearest-even. -/
def fp32Fma (a b c : Nat) : Nat :=
  toFp32 (numSum [numMul (decodeNum .fp32 a) (decodeNum .fp32 b), decodeNum .fp32 c])

/-- Signed comparison of exact non-NaN values: a < b, with −0 and +0 equal. -/
def numLt (a b : Num) : Bool :=
  match a, b with
  | .nan, _ => false
  | _, .nan => false
  | .inf x, .inf y => x && !y
  | .inf x, .fin _ _ _ => x
  | .fin _ _ _, .inf y => !y
  | .fin x m e, .fin y n g =>
    let lsb := min e g
    decide (numUnits lsb (.fin x m e) < numUnits lsb (.fin y n g))

/-- Equality of values, −0 and +0 equal, NaN unequal. -/
def numEq (a b : Num) : Bool := a != .nan && b != .nan && !numLt a b && !numLt b a

/-- IEEE 754-2019 minimum of two encodings (02 R68): NaN gives the canonical NaN, −0 below +0. -/
def fmtMin (f : Fmt) (a b : Nat) : Nat :=
  let x := decodeNum f a
  let y := decodeNum f b
  if x == .nan || y == .nan then (encodeNaN f).1
  else if numLt x y then a else if numLt y x then b
  else if numNeg x then a else b

/-- IEEE 754-2019 maximum of two encodings (02 R68). -/
def fmtMax (f : Fmt) (a b : Nat) : Nat :=
  let x := decodeNum f a
  let y := decodeNum f b
  if x == .nan || y == .nan then (encodeNaN f).1
  else if numLt x y then b else if numLt y x then a
  else if numNeg x then b else a

/-- e_max of the block-scaled formats (02 R59). -/
def Fmt.emax : Fmt → Int
  | .fp4 => 2 | .e3m2 => 4 | .e2m3 => 2 | .e4m3 => 8 | .e5m2 => 15
  | .fp32 => 127 | .bf16 => 127 | .int8 => 0 | .longSum => 0 | .e8m0 => 0

/-- Floor of log2 of a positive finite magnitude. -/
def numLog2 : Num → Int
  | .fin _ m e => (Nat.log2 m : Int) + e
  | .nan => 0
  | .inf _ => 0

/-- The scale byte of a block (02 R59). -/
def blockScale (f : Fmt) (xs : List Num) : Nat :=
  if xs.any fun x => x == .nan || x == .inf false || x == .inf true then 0xFF
  else
    let nz := xs.filter fun x => match x with | .fin _ m _ => m != 0 | .nan => false | .inf _ => false
    match nz with
    | [] => 0x00
    | y :: ys =>
      let top := ys.foldl (fun a x => max a (numLog2 x)) (numLog2 y)
      (max (-127) (min 127 (top - f.emax)) + 127).toNat

/-- Quantise a block (02 R59): its scale byte and its element encodings; rs gives each element's Fret draw. -/
def quantBlock (f : Fmt) (mode : Rnd) (rs : List Nat) (xs : List Num) : Nat × List Nat :=
  let k := blockScale f xs
  if k == 0xFF then (k, xs.map fun _ => 0)
  else if xs.all fun x => match x with | .fin _ m _ => m == 0 | .nan => false | .inf _ => false then (0, xs.map fun _ => 0)
  else
    (k, (xs.zip rs).map fun (x, r) =>
      match x with
      | .fin n m e => (encodeNum f mode r true (.fin n m (e + 127 - (k : Int)))).1
      | .nan => 0
      | .inf _ => 0)

/-- ln 2 in units of 2^-p: the series of 1/(k 2^k), from term k on for n terms. -/
def ln2Series (p : Nat) : Nat → Nat → Nat
  | _, 0 => 0
  | k, n + 1 => 2 ^ p / (k * 2 ^ k) + ln2Series p (k + 1) n

/-- Sum of the exponential series of t / 2^p from term k on, term in units of 2^-p. -/
def expSeries (p t : Nat) : Nat → Nat → Nat → Nat
  | _, _, 0 => 0
  | k, term, n + 1 => term + expSeries p t (k + 1) (term * t / 2 ^ p / (k + 1)) n

/-- 2^f for a fraction f / 2^p in [0, 1), in units of 2^-p. -/
def exp2Frac (p f : Nat) : Nat := expSeries p (f * ln2Series p 1 (p + 8) / 2 ^ p) 0 (2 ^ p) 90

/-- 2^x as an exact value with a sticky bit below it (04 R126, VEXP2).  A fraction makes 2^x irrational, so the last
bit is never zero in truth. -/
def numExp2 : Num → Num
  | .nan => .nan
  | .inf n => if n then numZero else .inf false
  | .fin n m e =>
    if 0 ≤ e then
      let i : Int := (if n then -1 else 1) * ((m * 2 ^ (min e 20).toNat : Nat) : Int)
      .fin false 1 (max (-100000) (min 100000 i))
    else
      let d := (-e).toNat
      let x : Int := (if n then -1 else 1) * (m : Int)
      let ip := x / (2 ^ d : Int)
      let fr := (x % (2 ^ d : Int)).toNat
      let ip' := max (-100000) (min 100000 ip)
      if fr = 0 then .fin false 1 ip'
      else .fin false (2 * exp2Frac 320 (fr * 2 ^ 320 / 2 ^ d) + 1) (ip' - 321)

/-- 1 / x as an exact value with a sticky bit (04 R126, VRCP). -/
def numRcp : Num → Num
  | .nan => .nan
  | .inf n => .fin n 0 0
  | .fin n m e =>
    if m = 0 then .inf n
    else .fin n (2 * (2 ^ 100 / m) + bit (2 ^ 100 % m != 0)) (-e - 101)

/-- The integer square root by bits, from bit i down (structural). -/
def isqrtBits (v : Nat) : Nat → Nat → Nat
  | 0, r => r
  | i + 1, r => isqrtBits v i (if (r + 2 ^ i) * (r + 2 ^ i) ≤ v then r + 2 ^ i else r)

/-- 1 / √x as an exact value with a sticky bit (04 R126, VRSQRT). -/
def numRsqrt : Num → Num
  | .nan => .nan
  | .inf n => if n then .nan else numZero
  | .fin n m e =>
    if m = 0 then .inf n
    else if n then .nan
    else
      let (m2, e2) := if e % 2 = 0 then (m, e) else (2 * m, e - 1)
      let q := 2 ^ 200 / m2
      let s := isqrtBits q 101 0
      .fin false (2 * s + bit (s * s * m2 != 2 ^ 200)) (-(e2 / 2) - 101)

end Sys2Proof.Machine
end

