-- ==== Sys2Proof/Machine/LongSum.lean ====
section
/-! DEFINITION. The long sum: its container, additions, placements and conversions (02 R60-R65, R74-R78). -/

namespace Sys2Proof.Machine

/-- A long sum (02 R60, R61): G as a 108-bit pattern, the anchor and the four flags. -/
structure LongSum where
  g : Nat
  anchor : Int
  poison : Bool
  inexact : Bool
  range : Bool
  nf : Bool
  deriving DecidableEq, Repr

/-- A zero long sum at an anchor. -/
def lsZero (a : Int) : LongSum := ⟨0, a, false, false, false, false⟩

/-- The residue modulo 63 of a 108-bit pattern (02 R61, R76). -/
def residue63 (g : Nat) : Nat := g % 63

/-- The 128-bit container (02 Table 02-4). -/
def lsContainer (x : LongSum) : Nat :=
  x.g % 2 ^ 108 + residue63 (x.g % 2 ^ 108) * 2 ^ 108 + bit x.nf * 2 ^ 114 + bit x.range * 2 ^ 115
    + bit x.inexact * 2 ^ 116 + bit x.poison * 2 ^ 117 + patternOf 9 x.anchor * 2 ^ 118

/-- The long sum a container holds, its residue field left aside. -/
def lsOfContainer (c : Nat) : LongSum :=
  ⟨c % 2 ^ 108, signedOf 9 (c / 2 ^ 118), bitOf c 117, bitOf c 116, bitOf c 115, bitOf c 114⟩

/-- Does an arriving container's residue field agree with its bits (02 R77). -/
def lsResidueOk (c : Nat) : Bool := bitsOf c 113 108 == residue63 (c % 2 ^ 108)

/-- Container addition (02 R62).  Where the anchors differ the larger is kept and range and poison are set. -/
def lsAdd (x y : LongSum) : LongSum :=
  let differ := decide (x.anchor ≠ y.anchor)
  { g := (x.g + y.g) % 2 ^ 108, anchor := max x.anchor y.anchor, poison := x.poison || y.poison || differ,
    inexact := x.inexact || y.inexact, range := x.range || y.range || differ, nf := x.nf || y.nf }

/-- The residue an adder predicts for x + y (02 R76). -/
def lsPredictedResidue (x y : LongSum) : Nat :=
  (residue63 x.g + residue63 y.g + 63 - bit (decide (x.g + y.g ≥ 2 ^ 108))) % 63

/-- Add a signed number of LSB units. -/
def lsAddUnits (x : LongSum) (u : Int) : LongSum := { x with g := patternOf 108 ((x.g : Int) + u) }

/-- Place a product of two elements with unbiased scale exponents summing to d (02 R63); either being non-finite
contributes nothing and sets nf. -/
def lsPlace (x : LongSum) (p : Num) (d : Int) (nonFinite : Bool) : LongSum :=
  if nonFinite then { x with nf := true }
  else match p with
  | .fin neg m e =>
    if d > x.anchor then { x with range := true }
    else
      let (q, rem, _) := shiftSplit m (e + d - x.anchor + 43)
      let y := lsAddUnits x (if neg then -(q : Int) else q)
      { y with inexact := y.inexact || rem != 0 }
  | .nan => { x with nf := true }
  | .inf _ => { x with nf := true }

/-- Is an exact value non-finite. -/
def numNonFinite : Num → Bool
  | .nan => true | .inf _ => true | .fin _ _ _ => false

/-- The product of two narrow elements with scale bytes (none: unscaled) placed into a long sum (02 R63). -/
def lsPlaceProduct (x : LongSum) (a b : Num) (ka kb : Option Nat) : LongSum :=
  let bad := numNonFinite a || numNonFinite b || ka == some 0xFF || kb == some 0xFF
  let d : Int := (match ka with | some k => (k : Int) - 127 | none => 0) + (match kb with | some k => (k : Int) - 127 | none => 0)
  lsPlace x (numMul a b) d bad

/-- Convert a narrow element with its scale into a long sum (02 R75, first case). -/
def lsOfNarrow (anchor : Int) (a : Num) (ka : Option Nat) : LongSum :=
  lsPlaceProduct (lsZero anchor) a (.fin false 1 0) ka none

/-- Convert an FP32 or BF16 value into a long sum (02 R75). -/
def lsOfWide (anchor : Int) (x : Num) : LongSum :=
  match x with
  | .fin neg m e =>
    let (lim, _, _) := shiftSplit m (e - anchor - 52)
    if lim ≥ 1 then { lsZero anchor with range := true }
    else
      let (q, rem, _) := shiftSplit m (e - anchor + 43)
      { lsAddUnits (lsZero anchor) (if neg then -(q : Int) else q) with inexact := rem != 0 }
  | .nan => { lsZero anchor with nf := true }
  | .inf _ => { lsZero anchor with nf := true }

/-- Is the guard a sign extension of bit 95 (02 R61). -/
def lsGuardOk (x : LongSum) : Bool :=
  let t := x.g / 2 ^ 95 % 2 ^ 13
  t == 0 || t == 2 ^ 13 - 1

/-- The exact value of a long sum in range (02 R60). -/
def lsNum (x : LongSum) : Num :=
  let i := signedOf 96 x.g
  .fin (i < 0) i.natAbs (x.anchor - 43)

/-- Convert a long sum to a format (02 R74): encoding and poison. -/
def lsConvert (f : Fmt) (mode : Rnd) (r : Nat) (sat : Bool) (x : LongSum) : Nat × Bool :=
  if x.nf || x.range || !lsGuardOk x then
    let e := encodeNaN f
    (e.1, e.2 || x.poison)
  else
    let e := encodeNum f mode r sat (lsNum x)
    (e.1, e.2 || x.poison)

/-- Fold element values in FP32 pairwise by lane, level by level (02 R67, lane reduction); fuel is the level count. -/
def fp32Pairs : List Nat → List Nat
  | a :: b :: l => fp32Add a b :: fp32Pairs l
  | [a] => [a]
  | [] => []

/-- The pairwise fixed-order sum of a list (02 R67): levels are repeated until one value remains. -/
def fp32PairSum : Nat → List Nat → Nat
  | 0, l => (l.head?).getD 0
  | n + 1, l => match l with
    | [] => 0
    | [a] => a
    | l => fp32PairSum n (fp32Pairs l)

end Sys2Proof.Machine
end

