-- ==== Sys2Proof/Machine/Map.lean ====
section
/-! DEFINITION. Operations on the sparse tables (SMap) of State: read with a default, write in canonical form. -/

namespace Sys2Proof.Machine

/-- The entry at an index; d where the index is not listed. -/
def mapGet {α : Type} (d : α) : SMap α → Nat → α
  | [], _ => d
  | (k, v) :: m, i => if k = i then v else if i < k then d else mapGet d m i

/-- Is there an entry at the index. -/
def mapHas {α : Type} : SMap α → Nat → Bool
  | [], _ => false
  | (k, _) :: m, i => if k = i then true else if i < k then false else mapHas m i

/-- The entry at an index, where listed. -/
def mapFind {α : Type} : SMap α → Nat → Option α
  | [], _ => none
  | (k, v) :: m, i => if k = i then some v else if i < k then none else mapFind m i

/-- The table without an entry at the index. -/
def mapDel {α : Type} : SMap α → Nat → SMap α
  | [], _ => []
  | (k, v) :: m, i => if k = i then m else if i < k then (k, v) :: m else (k, v) :: mapDel m i

/-- The table with an entry at the index, listed whatever its value. -/
def mapPut {α : Type} : SMap α → Nat → α → SMap α
  | [], i, x => [(i, x)]
  | (k, v) :: m, i, x => if k = i then (i, x) :: m else if i < k then (i, x) :: (k, v) :: m else (k, v) :: mapPut m i x

/-- Write an entry; an entry equal to the default is not listed. -/
def mapSet {α : Type} [DecidableEq α] (d : α) (m : SMap α) (i : Nat) (x : α) : SMap α :=
  if x = d then mapDel m i else mapPut m i x

/-- Write n successive entries from index i. -/
def mapSetList {α : Type} [DecidableEq α] (d : α) : SMap α → Nat → List α → SMap α
  | m, _, [] => m
  | m, i, x :: xs => mapSetList d (mapSet d m i x) (i + 1) xs

/-- n successive entries from index i of a table whose indices are not below i. -/
def mapWalk {α : Type} (d : α) : SMap α → Nat → Nat → List α
  | _, _, 0 => []
  | [], i, n + 1 => d :: mapWalk d [] (i + 1) n
  | (k, v) :: m, i, n + 1 => if k = i then v :: mapWalk d m (i + 1) n else d :: mapWalk d ((k, v) :: m) (i + 1) n

/-- Read n successive entries from index i. -/
def mapGetList {α : Type} (d : α) (m : SMap α) (i n : Nat) : List α := mapWalk d (m.dropWhile fun e => e.1 < i) i n

/-- Remove the entries whose index p accepts. -/
def mapDrop {α : Type} (p : Nat → Bool) (m : SMap α) : SMap α := m.filter fun e => !p e.1

/-- Indices strictly rising. -/
def mapRising {α : Type} : SMap α → Bool
  | [] => true
  | [_] => true
  | a :: b :: m => a.1 < b.1 && mapRising (b :: m)

/-- The canonical form: indices strictly rising, no entry equal to the default. -/
def mapWf {α : Type} [DecidableEq α] (d : α) (m : SMap α) : Bool := mapRising m && m.all fun e => decide (e.2 ≠ d)

/-- Insert a number into a strictly rising list. -/
def setInsert : List Nat → Nat → List Nat
  | [], x => [x]
  | a :: l, x => if x < a then x :: a :: l else if x = a then a :: l else a :: setInsert l x

/-- Remove a number from a list. -/
def setErase (l : List Nat) (x : Nat) : List Nat := l.filter (· != x)

/-- The element at an index of a list with a default. -/
def at' {α : Type} (d : α) : List α → Nat → α
  | [], _ => d
  | a :: _, 0 => a
  | _ :: l, n + 1 => at' d l n

/-- The list with one element replaced. -/
def setAt {α : Type} : List α → Nat → α → List α
  | [], _, _ => []
  | _ :: l, 0, x => x :: l
  | a :: l, n + 1, x => a :: setAt l n x

/-- Remove the first element that p accepts, with it. -/
def takeFirst {α : Type} (p : α → Bool) : List α → Option (α × List α)
  | [] => none
  | a :: l => if p a then some (a, l) else (takeFirst p l).map fun r => (r.1, a :: r.2)

end Sys2Proof.Machine
end

