-- ==== Sys2Proof/Machine/Regs.lean ====
section
/-! DEFINITION. The register map: where each register of the BAR0 window lies, what a write may change, and its
reset value (00 R16-R19, 15 R388 Table 15-3 and the register tables of each chapter).

A register is named by a key.  Registers that BAR0 shows directly have their BAR0 offset as key.  The paged windows are
unfolded: the stack block of stack n lies at 0x100000 + n × 0x10000, the die registers of die d (offset 0x0004_0000 of
the tile control space) at 0x200000 + d × 0x10000.  The tile blocks are fields of Tile and have no key. -/

namespace Sys2Proof.Machine

def regHstId := 0x0000
def regHstSteward := 0x0008
def regHstWindow := 0x0010
def regHstBar2Map (k : Nat) := 0x0020 + 8 * k
def regHstBar2Status := 0x0040
def regContractFw := 0x0100
def regContractDrv := 0x0104
def regContractCheck := 0x0108
def regContractStatus := 0x010C
def regLeaseCfg := 0x0200
def regHeartbeat := 0x0208
def regLeaseStatus := 0x0210
def regOrphanHorizon := 0x0218
def regAdopt := 0x0220
def regEventRing := 0x0300
def regEventHead := 0x0308
def regEventTail := 0x0310
def regEventStatus := 0x0318
def regDaybookHead := 0x1000
def regDaybookOldest := 0x1008
def regDaybookMirror := 0x1010
def regTraceMask (w : Nat) := 0x1040 + 8 * w
def regTraceDropped := 0x1060
def regScbLo := 0x3000
def regScbHi := 0x3008
def regScbCtrl := 0x3010
def regScbStatus := 0x3018
def regScbSummary (w : Nat) := 0x3040 + 8 * w
def regPlnOffset := 0x2000
def regPlnLen := 0x2008
def regPlnCmd := 0x2010
def regPlnStatus := 0x2018
def regPlnDigest (w : Nat) := 0x2020 + 8 * w
def regPlnCfg := 0x2050
def regPlnImage := 0x2058
def regPlnAbortStep := 0x2060
def regPlnAbortCmd := 0x2068
def regPlnAbortStatus := 0x2070
def regPlnRing (c : Nat) := 0x2100 + 8 * c
def regStwBoot := 0x4000
def regStwReady := 0x4008
def regSecWarrant := 0x4010
def regStwMend := 0x4018
def regPwrCapHost := 0x5000
def regPwrCfg := 0x50F8
def regPwrEvents := 0x5300
def regSecRecord := 0x7000
def regSecCmd := 0x7008
def regSecStatus := 0x7010
def regStranger := 0x7018
def regUpdStage := 0x8000
def regUpdCmd := 0x8008
def regUpdStatus := 0x8010
def regRcvCmd := 0x9000
def regRcvStatus := 0x9008
def regRcvBlame := 0x9010
def regRcvDossier := 0x9018
def regRcvCnt (k : Nat) := 0x9020 + 8 * k
def regRcvTwin := 0x9100
def regRcvTwinCmd := 0x9108
def regRcvResyncStep := 0x9110
def regRcvResyncDesc := 0x9118
def regRcvTwinCnt := 0x9120
def regMsix (v : Nat) := 0xF008 + 16 * v
def regPba := 0xF800

/-- The collective window (09 Table 09-11). -/
def regColTokens := 0x20000
def regColLate := 0x20008
def regColBreak := 0x20010
def regColResidue := 0x20018
def regColChunks := 0x20020
def regColPreemptCut := 0x20028
def regColMalformed := 0x20030
def regGroupCfg (g : Nat) := 0x21000 + 0x100 * g
def regGroupStatus (g : Nat) := 0x21008 + 0x100 * g
def regGroupLost (g k : Nat) := 0x21040 + 0x100 * g + 8 * k

/-- The fabric window (08 Table 08-11). -/
def regFab (off : Nat) := 0x80000 + off
def regFabId := regFab 0x0000
def regFabCtrl := regFab 0x0008
def regFabStocktake := regFab 0x0010
def regFabSnapshot := regFab 0x0018
/-- Offset of a port block. -/
def fabPort (p : Nat) := 0x1000 + 0x1000 * p
def regDroneNow := regFab 0x0800
def regDroneCtrl := regFab 0x0808
def regDroneAsym := regFab 0x0810
def regDroneStatus := regFab 0x0818
def regDroneOffset := regFab 0x0820
def regDroneRate := regFab 0x0828
def regDroneExch := regFab 0x0830
def regDroneSkip := regFab 0x0838
def regPortStatus (p : Nat) := regFab (fabPort p)
def regPortWeights (p : Nat) := regFab (fabPort p + 0x08)
def regPortImbalance (p : Nat) := regFab (fabPort p + 0x10)
def regPortStocktake (p : Nat) := regFab (fabPort p + 0x18)
def regPortReplays (p : Nat) := regFab (fabPort p + 0x20)
def regPortFecCorr (p : Nat) := regFab (fabPort p + 0x28)

/-- The port window (10 Table 10-9). -/
def prtKey (p off : Nat) := 0xE0000 + 0x1000 * p + off
def regPrtCtrl (p : Nat) := prtKey p 0x000
def regPrtCmd (p : Nat) := prtKey p 0x008
def regPrtStatus (p : Nat) := prtKey p 0x010
def regPrtExpect (p : Nat) := prtKey p 0x018
def regPrtObserved (p : Nat) := prtKey p 0x020
def regPrtUncorr (p : Nat) := prtKey p 0x028
def regPrtRetrain (p : Nat) := prtKey p 0x030
def regPrtQuiet (p : Nat) := prtKey p 0x038
def regPrtQuietNs (p : Nat) := prtKey p 0x040
def regPrtSealFail (p : Nat) := prtKey p 0x048
def regPrtLane (p q : Nat) := prtKey p (0x100 + 8 * q)
def regPrtIdRx (p w : Nat) := prtKey p (0x200 + 8 * w)

/-- The key of a stack register. -/
def stkKey (stack off : Nat) : Nat := 0x100000 + stack * 0x10000 + off
def regStkId (n : Nat) := stkKey n 0x0000
def regStkMap (n : Nat) := stkKey n 0x0008
def regArbCtrl (n : Nat) := stkKey n 0x0010
def regArbSeed (n : Nat) := stkKey n 0x0018
def regTicketsLo (n : Nat) := stkKey n 0x0020
def regTicketsHi (n : Nat) := stkKey n 0x0028
def regArbClass (n c : Nat) := stkKey n (0x0080 + 8 * c)
def regRefresh (n : Nat) := stkKey n 0x0100
def regChGrants (n ch : Nat) := stkKey n (0x1000 + 0x40 * ch)
def regChPreempt (n ch : Nat) := stkKey n (0x1008 + 0x40 * ch)
def regChStarve (n ch : Nat) := stkKey n (0x1010 + 0x40 * ch)
def regChBusy (n ch : Nat) := stkKey n (0x1018 + 0x40 * ch)
def regChRefresh (n ch : Nat) := stkKey n (0x1020 + 0x40 * ch)
def regEngShare (n c : Nat) := stkKey n (0x3000 + 8 * c)
def regEngStatus (n e : Nat) := stkKey n (0x4000 + 0x40 * e)
def regEngLastFail (n e : Nat) := stkKey n (0x4008 + 0x40 * e)
def regEngDockets (n e : Nat) := stkKey n (0x4010 + 0x40 * e)
def regEngLines (n e : Nat) := stkKey n (0x4018 + 0x40 * e)
def regEngMac (n e : Nat) := stkKey n (0x4020 + 0x40 * e)
def regEngGated (n e : Nat) := stkKey n (0x4028 + 0x40 * e)
def regEccCtrl (n : Nat) := stkKey n 0x5000
def regEccCorr (n : Nat) := stkKey n 0x5008
def regEccWb (n : Nat) := stkKey n 0x5010
def regEccWbSkip (n : Nat) := stkKey n 0x5018
def regEccUncorr (n : Nat) := stkKey n 0x5020
def regEccAddr (n : Nat) := stkKey n 0x5028
def regEccLogStatus (n : Nat) := stkKey n 0x5030
def regEccLogA (n i : Nat) := stkKey n (0x5100 + 0x10 * i)
def regEccLogB (n i : Nat) := stkKey n (0x5108 + 0x10 * i)

/-- The key of a die register at window offset x. -/
def dieKey (die x : Nat) : Nat := 0x200000 + die * 0x10000 + x
def regDieEccCtrl (d : Nat) := dieKey d 0x0000
def regDieEccUncorr (d : Nat) := dieKey d 0x0008
def regDieEccLogStatus (d : Nat) := dieKey d 0x0010
def regDieEccLog (d i : Nat) := dieKey d (0x0100 + 8 * i)

/-- A writable register or register array of the tables: first key, stride and count, the bits a write sets (RW), the
bits a written 1 clears (W1C), whether the register is LK, and the reset value where it is not zero. -/
structure RegRow where
  key : Nat
  stride : Nat
  count : Nat
  rw : Nat
  w1c : Nat
  lk : Bool
  reset : Nat
  deriving DecidableEq, Repr

/-- Mask of bits hi..lo. -/
def fieldMask (hi lo : Nat) : Nat := (2 ^ (hi - lo + 1) - 1) * 2 ^ lo

/-- Writable host, Daybook, plan, scrub, power, key and update registers (Tables 01-7, 15-5, 15-9, 15-12, 12-16,
07-15, 14-9, 16-13). -/
def regRowsHost : List RegRow :=
  [ ⟨regHstId, 8, 1, 0, 0, false, 0x0001B00000000000⟩,
    ⟨regHstWindow, 8, 1, 0xF77, 0, false, 0⟩,
    ⟨regHstBar2Map 0, 8, 4, fieldMask 63 63 + fieldMask 47 30, 0, false, 0⟩,
    ⟨regContractFw, 4, 1, 0, 0, false, 0x01000000⟩,
    ⟨regContractDrv, 4, 1, 0xFFFFFF00, 0, false, 0⟩,
    ⟨regLeaseCfg, 8, 1, 0xFFFF, 0, false, 0x1F4⟩,
    ⟨regOrphanHorizon, 8, 1, fieldMask 63 0, 0, false, 0⟩,
    ⟨regEventRing, 8, 1, fieldMask 63 60 + fieldMask 47 12, 0, false, 0⟩,
    ⟨regEventTail, 8, 1, 0xFFFF, 0, false, 0⟩,
    ⟨regTraceMask 0, 8, 4, fieldMask 63 0, 0, false, 0⟩,
    ⟨regPlnOffset, 8, 2, fieldMask 47 0, 0, false, 0⟩,
    ⟨regPlnCfg, 8, 1, fieldMask 63 24, 0, true, 0x00C8000A03000000⟩,
    ⟨regPlnAbortStep, 8, 1, fieldMask 63 0, 0, false, 0⟩,
    ⟨regScbLo, 8, 1, fieldMask 47 0, 0, false, 0⟩,
    ⟨regScbHi, 8, 1, fieldMask 47 0, 0, false, 0⟩,
    ⟨regPwrCapHost, 8, 1, 0xFFFF, 0, false, 0xCE4⟩,
    ⟨regPwrCfg, 8, 1, fieldMask 63 16, 0, true, 0x00005D140FA00000⟩,
    ⟨regSecRecord, 8, 1, fieldMask 63 0, 0, false, 0⟩,
    ⟨regUpdStage, 8, 1, fieldMask 63 0, 0, false, 0⟩,
    ⟨regRcvResyncStep, 8, 1, fieldMask 63 0, 0, false, 0⟩,
    ⟨regRcvResyncDesc, 8, 1, fieldMask 63 60 + fieldMask 47 0, 0, false, 0⟩ ]

/-- The MSI-X table (15 Table 15-2).  Its layout and its reset, every vector masked, are PCI Express's (log entry 12). -/
def regRowsMsix : List RegRow :=
  [ ⟨0xF000, 16, 32, fieldMask 63 2, 0, false, 0⟩,
    ⟨0xF008, 16, 32, fieldMask 32 0, 0, false, 0x100000000⟩ ]

/-- Writable registers of one stack block (05 Table 05-10, 06 Table 06-8, 07 Table 07-7). -/
def regRowsStack (n : Nat) : List RegRow :=
  [ ⟨regStkId n, 8, 1, 0, 0, false, 0x0C204800 + n⟩,
    ⟨regStkMap n, 8, 1, 0xF, 0, true, 0⟩,
    ⟨regArbCtrl n, 8, 1, fieldMask 63 56 + fieldMask 47 16, 0, true, 0x1F000FFFDFF08000⟩,
    ⟨regArbSeed n, 8, 1, fieldMask 30 0, 0, true, 1⟩,
    ⟨regTicketsLo n, 8, 2, fieldMask 63 0, 0, true, 0x0101010101010101⟩,
    ⟨regArbClass n 0, 8, 16, 0x3FF, 0, true, 0x2AA⟩,
    ⟨regEngShare n 0, 8, 16, fieldMask 63 28 + fieldMask 21 0, 0, true, 0⟩,
    ⟨regEccCtrl n, 8, 1, 0, 0, false, 1⟩ ]

/-- Registers of one compute die with a reset value (07 Table 07-13). -/
def regRowsDie (d : Nat) : List RegRow := [ ⟨regDieEccCtrl d, 8, 1, 0, 0, false, 1⟩ ]

/-- Does a row hold a key. -/
def rowHolds (r : RegRow) (k : Nat) : Bool := r.key ≤ k && (k - r.key) % r.stride == 0 && (k - r.key) / r.stride < r.count

/-- The registers of one strum group (09 Table 09-11). -/
def regRowsGroup (g : Nat) : List RegRow :=
  [ ⟨regGroupCfg g, 8, 1, fieldMask 63 0, 0, true, 0⟩, ⟨regGroupLost g 0, 8, 8, 0, 0, false, 0xFFFFFFFFFFFFFFFF⟩ ]

/-- Registers of the fabric and port windows with LK fields or a reset value. -/
def regRowsFab : List RegRow :=
  [ ⟨regFabId, 8, 1, 0, 0, false, 0x120C⟩,
    ⟨regFabCtrl, 8, 1, fieldMask 41 32 + fieldMask 21 16, 0, true, 0x1400100000⟩,
    ⟨regPortWeights 0, 0x1000, 30, fieldMask 31 0, 0, true, 0x02060404⟩,
    ⟨regDroneCtrl, 8, 1, fieldMask 31 30 + 0xFFFF, 0, true, 0xFFFF⟩,
    ⟨regDroneAsym, 8, 1, fieldMask 63 0, 0, true, 0⟩,
    ⟨regDroneStatus, 8, 1, 0, 0, false, 0xFF00000000⟩,
    ⟨regPrtCtrl 0, 0x1000, 18, fieldMask 47 34, 0, true, 0x0A8000000000⟩ ]

/-- Every writable register, and every register whose reset value is not zero. -/
def regRows : List RegRow :=
  regRowsHost ++ regRowsMsix ++ (List.range 8).flatMap regRowsStack ++ (List.range 4).flatMap regRowsDie ++ (List.range 64).flatMap regRowsGroup ++ regRowsFab

/-- The row of a register, where it has one. -/
def regRow (k : Nat) : Option RegRow := regRows.find? fun r => rowHolds r k

/-- The reset value of a register: zero unless its row says otherwise. -/
def regReset (k : Nat) : Word := BitVec.ofNat 64 (((regRow k).map (·.reset)).getD 0)

end Sys2Proof.Machine
end

