-- ==== Sys2Proof/Config.lean ====
section
/-! DEFINITION. What one package is made with and the manual does not state: free values and secrets, each a constant with no body
(log entries 7 and 8). -/

namespace Sys2Proof

/-- Aetheveam's public key in the ROM (13 R343, 16 R411): 97 bytes, uncompressed. -/
opaque Config.vendorKey : List Byte

/-- The device's public key as the SRAM PUF gives it (13 R344): 97 bytes, uncompressed. -/
opaque Config.deviceKey : List Byte

/-- Aetheveam's service public key (15 Table 15-16): 97 bytes, uncompressed. -/
opaque Config.serviceKey : List Byte

/-- The digest of the mask ROM (15 Table 15-11): 48 bytes. -/
opaque Config.romDigest : List Byte

/-- The rest of an SPDM response, which DSP0274 lays out and the manual does not: by the number of the draw. -/
opaque Config.spdmBody : Nat → List Byte

/-- The payload of a resynchronisation state record, which 17 R446 names and no table lays out: by the number of the draw. -/
opaque Config.resyncBody : Nat → List Byte

/-- The code of a unit class in a residue entry (02 R78, 15 Table 15-17), which no table numbers: of 1 strum unit, 2 bulk-collective adder,
3 stack-engine reduction unit, 4 lane adder of a tile. -/
opaque Config.unitClass : Nat → Nat

/-- The word that names an operation in a residue entry: of the unit class and the two numbers that identify it (02 R78). -/
opaque Config.operationWord : Nat → Nat → Nat → Nat

/-- The word that carries the predicted and the observed residue; for an anchor mismatch (02 R62) there is no such pair, and the word is
one of the entry's number. -/
opaque Config.residueWord : Option (Nat × Nat) → Nat → Nat

/-- The code of a Mending proposal's cause in its entry (15 Table 15-17): of 1 uncorrectable log entry, 2 corrections that reach 255. -/
opaque Config.mendCause : Nat → Nat

/-- The code of the cause in a twin's error entry (15 Table 15-17): of 1 pairing refused, 2 digest mismatch. -/
opaque Config.twinCause : Nat → Nat

/-- The age of the last coolant report in its entry (15 Table 15-17), whose unit no table gives: of the age in ns. -/
opaque Config.reportAge : Nat → Nat

/-- Event codes of the entries that 10 R275 (a flit of virtual channel 6 or 7 at an internal port) and 17 R441 (the twin filter is full)
ask for and 15 Table 15-17 does not list. -/
opaque Config.strayFlitEvent : Nat
opaque Config.filterEvent : Nat

/-- Credits that a sender in another package holds for a channel (17 Table 17-3), which this package cannot know: by the number of the
dossier and by 256 × tile + channel. -/
opaque Config.remoteCredits : Nat → Nat → Nat

/-- A signature of the device key over a message (15 R402, R403): 96 bytes. -/
opaque Config.deviceSign : List Byte → List Byte

/-- A free value: what the manual leaves open, by the number of the draw. -/
opaque Config.free : Nat → Nat

end Sys2Proof
end

