-- ==== Sys2Proof/Machine/State.lean ====
section
/-! DEFINITION. The state of the package as plain data, the reasons a step can stop, and the state after reset.
Each structure's docstring names the rules that give it; INVENTORY.md lists every piece with its reset value. -/

namespace Sys2Proof.Machine

/-- What the package sends out of itself or hands from one of its units to the router; the model's own record
(log entry 6). -/
inductive Emit where
  /-- a packet that an agent hands to the router at an internal port -/
  | inject (port : Nat) (p : Packet)
  /-- a flit sent on an output port: virtual channel, control word, data -/
  | flit (port vc ctrl : Nat) (data : Nat)
  /-- a link frame, marker, training burst or time frame on an optical port; kind and words -/
  | frame (port kind : Nat) (words : List Nat)
  /-- a Plovco reply or request: session, command, status, sequence, body -/
  | plovco (session command status seq : Nat) (body : List Byte)
  /-- an SPDM message of the responder -/
  | spdm (session : Nat) (body : List Byte)
  /-- a PCI Express read completion: data, EP set, Completer Abort -/
  | completion (data : List Byte) (ep abort : Bool)
  /-- an interrupt vector -/
  | vector (n : Nat)
  /-- a pin driven (true: asserted) -/
  | pin (name : String) (asserted : Bool)
  deriving DecidableEq, Repr

/-- A Daybook entry (15 Table 15-12). -/
structure DbEntry where
  time : Nat
  seq : Nat
  source : Nat
  code : Nat
  severity : Nat
  context : Nat
  args : List Nat
  deriving DecidableEq, Repr

/-- The Daybook (15 R405, R406). -/
structure Daybook where
  /-- newest first, at most 16,384 -/
  ring : List DbEntry := []
  /-- sequence of the next entry -/
  next : Nat := 0
  /-- the flash mirror, newest first, at most 131,072 -/
  mirror : List DbEntry := []
  /-- the Drone second that the mirror counts hold for -/
  second : Nat := 0
  mirrored : Nat := 0
  unmirrored : Nat := 0
  firstUnmirrored : Nat := 0
  /-- trace entries written in the second, and those dropped (STW_TRACE_DROPPED) -/
  traced : Nat := 0
  dropped : Nat := 0
  /-- registers already warned of for a write before acceptance (01 R45) -/
  warned : List Nat := []
  /-- BAR2 (segment, cause) pairs already warned of (15 R389): 4 × segment + cause -/
  bar2Warned : List Nat := []
  deriving DecidableEq, Repr

/-- An event entry of the host ring (15 Table 15-4). -/
structure HostEvent where
  time : Nat
  step : Nat
  kind : Nat
  context : Nat
  state : Nat
  fault : Nat
  detail : Nat
  seq : Nat
  deriving DecidableEq, Repr

/-- The state of HST_LEASE_STATUS.state (15 Table 15-6). -/
inductive LeaseState where
  | none | leased | orphan
  deriving DecidableEq, Repr

/-- The host window's state (01 R44-R49, 15 R387-R394). -/
structure HostSt where
  /-- a driver stands accepted (01 R45) -/
  accepted : Bool := false
  lease : LeaseState := .none
  /-- package time at which the lease ends, in ns -/
  leaseEnd : Nat := 0
  /-- contexts that are orphaned -/
  orphaned : List Nat := []
  /-- held events, oldest first (15 R392) -/
  held : List HostEvent := []
  /-- sequence number of the next event -/
  eventSeq : Nat := 0
  /-- pending vectors of the PBA -/
  vectors : List Nat := []
  /-- the function is in D3hot (15 R387) -/
  d3hot : Bool := false
  /-- PCI Express link training begun (18 R460) -/
  linkTraining : Bool := false
  deriving DecidableEq, Repr

/-- What an accumulator row holds (03 R80). -/
inductive RowMode where
  | empty | longSum | fp32
  deriving DecidableEq, Repr

/-- An accumulator row (03 R80): its mode, anchor, flags and 64 entries (G patterns or FP32 values).  The 6-bit
residue of an entry is a function of the entry. -/
structure AccRow where
  mode : RowMode := .empty
  anchor : Int := 0
  poison : Bool := false
  inexact : Bool := false
  range : Bool := false
  nf : Bool := false
  entries : List Nat := []
  deriving DecidableEq, Repr

/-- A register result on its way to a tile's files (03 R83-R88). -/
inductive Res where
  | scalar (r : Nat) (v : Word) (poison : Bool)
  | pred (r : Nat) (v : Bool)
  | vec (r : Nat) (v : BitVec 2048) (poison : BitVec 64)
  /-- part p (0-7) of stage t at index 8t + p, with 32 word poison bits -/
  | stage (i : Nat) (v : BitVec 2048) (poison : BitVec 32)
  /-- row at index 32 × bank + row -/
  | row (i : Nat) (v : AccRow)
  /-- the status code of a ticket slot, read when the result takes effect (04 R120) -/
  | ticket (r tk : Nat)
  /-- bits set in TIL_FLAGS -/
  | flags (bits : Nat)
  deriving DecidableEq, Repr

/-- A result in flight: the issue cycle it takes effect in, the cycle and slot it was issued in. -/
structure Pipe where
  due : Nat
  issued : Nat
  slot : Nat
  res : Res
  deriving DecidableEq, Repr

/-- A ticketed operation of a tile's DMA and fabric engine (04 R137-R139). -/
inductive DmOp where
  /-- global address, scratchpad offset, length; bytes still to land from a remote package; worst status so far -/
  | gld (addr off len left worst : Nat)
  | gst (addr off len left worst : Nat)
  /-- endpoint, logical tile, channel, scratchpad source, length; the issue cycle it began in; the packet has left -/
  | send (chip tile chan off len issued : Nat) (sent : Bool)
  /-- channel and the number of the message it claims -/
  | recv (chan n : Nat)
  /-- the docket's eight words, the element base, the issue cycle it began in; handed to the engine's queue -/
  | dock (words : List Word) (base issued : Nat) (queued : Bool)
  | fill (addr first count left worst : Nat)
  /-- collective set and the descriptor's words -/
  | coll (set : Nat) (desc : List Word)
  /-- strum group and generation, result offset, length -/
  | strum (group gen dst len : Nat)
  deriving DecidableEq, Repr

/-- TIL_STATUS.state (03 Table 03-12). -/
inductive TileState where
  | off | waking | ready | running | halted | held | mended
  deriving DecidableEq, Repr

/-- A receive channel of a tile (04 R139): messages landed and claimed since the channel was emptied, and the ticket
codes of landed messages in landing order. -/
structure RxChan where
  landed : Nat := 0
  claimed : Nat := 0
  codes : List Nat := []
  deriving DecidableEq, Repr

/-- A send channel of a tile (04 R139): destination chip, tile, channel and the credits held. -/
structure TxChan where
  chip : Nat
  tile : Nat
  chan : Nat
  credits : Nat
  deriving DecidableEq, Repr

/-- A tile (03 Table 03-1, Table 03-9).  Reset values: log entry 3. -/
structure Tile where
  scal : SMap (Word × Bool) := []
  pred : BitVec 16 := 1
  vec : SMap (BitVec 2048 × BitVec 64) := []
  stage : SMap (BitVec 2048 × BitVec 32) := []
  acc : SMap AccRow := []
  tick : SMap Nat := []
  pad : SMap Byte := []
  /-- poisoned scratchpad words -/
  padPoison : List Nat := []
  /-- upset bits standing in scratchpad words (80 bits each, 07 R192) -/
  padErr : SMap Nat := []
  ibuf : SMap (BitVec 512) := []
  /-- upset bits standing in instruction-buffer words: index 8 × bundle + word -/
  ibufErr : SMap Nat := []
  /-- corrected words that wait for their write-back: scratchpad word w, or 98,304 + instruction-buffer word -/
  fix : List Nat := []
  pipe : List Pipe := []
  ops : SMap DmOp := []
  rx : SMap RxChan := []
  /-- send channels and their credits; no reset of the sending context clears them (04 R139) -/
  tx : List TxChan := []
  /-- the DMA and fabric engine is halted for the context (07 R201) -/
  dmaHalt : Bool := false
  tstate : TileState := .off
  /-- image blocks held, and whether the image digest was right (12 R324) -/
  blocks : List Nat := []
  loaded : Bool := false
  id : Word := 0
  step : Word := 0
  exc : Word := 0
  excInfo : Word := 0
  flags : Word := 0
  cntIssue : Word := 0
  cntBankStall : Word := 0
  cntWait : Word := 0
  cntWcollide : Word := 0
  cntMxBusy : Word := 0
  cntCorrected : Word := 0
  deriving DecidableEq, Repr

/-- An effect of a slot that waits until its whole bundle has issued without an exception (03 R83, R111). -/
inductive Eff where
  | result (latency : Nat) (r : Res)
  /-- scratchpad store: offset, bytes, poison of the stored words (low word in bit 0) -/
  | store (off : Nat) (bytes : List Byte) (poison : Nat)
  /-- a load's bank: slot code and bank -/
  | bank (slot b : Nat)
  | dm (tk : Nat) (op : DmOp)
  /-- hold issue for the slots of a mask -/
  | wait (mask : Nat)
  /-- a strum descriptor contributed -/
  | strum (desc : Word)
  /-- an anchor mismatch in a sum of long sums, named by the destination register (02 R62, R78) -/
  | mismatch (vd : Nat)
  deriving DecidableEq, Repr

/-- An exception raised by a slot (03 R111): slot code, gang index, code, information. -/
structure TileExc where
  slot : Nat
  index : Nat
  code : Nat
  info : Nat
  deriving DecidableEq, Repr

/-- Where a gang stands (03 R96, R104, 04 R122). -/
inductive GangPhase where
  /-- no step, or its part of the step reported -/
  | idle
  /-- begun: it fetches and issues -/
  | running
  /-- END taken and its two bundles issued: it waits for its tickets -/
  | draining
  /-- halted by an exception, a deadline or an abort -/
  | halted
  deriving DecidableEq, Repr

/-- A gang's issue state. -/
structure Gang where
  phase : GangPhase := .idle
  pc : Nat := 0
  cycle : Nat := 0
  /-- the bundle that issues now, and its slots not yet executed; no bundle stands latched when opened is false -/
  bundle : BitVec 512 := 0
  opened : Bool := false
  left : List Nat := []
  /-- effects of the executed slots: gang index, slot code, effect -/
  buf : List (Nat × Nat × Eff) := []
  exc : List TileExc := []
  /-- the taken branch this bundle holds: a target, or END as 0x10000 -/
  taken : Option Nat := none
  /-- a branch in flight: its target and the bundles that still issue before it -/
  branch : Option (Nat × Nat) := none
  /-- further bundles in which a branch is illegal (03 R85) -/
  shadow : Nat := 0
  /-- what each member still waits for: gang index and ticket mask -/
  waits : List (Nat × Nat) := []
  deriving DecidableEq, Repr

/-- A request pending at a channel arbiter (05 R158): context 0 to 15, 16 the system entrant, or a class-0 kind as
17 correction write-back, 18 strum staging, 19 Steward emergency; source index; lines left; whether it writes; an id
its requester chose; since when it waits, and the cycle it is first seen in, in channel cycles. -/
structure ChanReq where
  ctx : Nat
  src : Nat
  lines : Nat
  id : Nat
  since : Nat
  seen : Nat
  deriving DecidableEq, Repr

/-- A corrected or marked line that waits for its class-0 write-back (07 R200, R202). -/
structure WriteBack where
  line : Nat
  /-- mark the line poisoned instead of clearing its error -/
  mark : Bool
  deriving DecidableEq, Repr

/-- A running grant: its request, its class, the bursts moved. -/
structure Grant where
  req : ChanReq
  cls : Nat
  moved : Nat
  deriving DecidableEq, Repr

/-- A channel arbiter (05 R160-R166). -/
structure Chan where
  lfsr : Nat := 1
  /-- channel cycles since the arbiter started -/
  cycle : Nat := 0
  /-- the grant counter -/
  count : Nat := 0
  pend : List ChanReq := []
  /-- transfers queued behind the one their requester has in service -/
  queue : List ChanReq := []
  grant : Option Grant := none
  resume : Option ChanReq := none
  refreshDue : Bool := false
  /-- channel cycles of the running refresh still to pass -/
  refreshLeft : Nat := 0
  /-- when the next refresh falls due, in units of 0.04 ns (a channel cycle is 16) -/
  nextRefresh : Nat := 97500
  /-- last source granted, by 4 × entrant + class -/
  rr : SMap Nat := []
  /-- turn estimates given last: request id and cycles -/
  turns : List (Nat × Nat) := []
  wb : List WriteBack := []
  deriving DecidableEq, Repr

/-- A docket held by an engine: its context (16: the Steward), issuing tile, ticket, words, element base. -/
structure Docket where
  ctx : Nat
  tile : Nat
  tk : Nat
  words : List Word
  base : Nat
  deriving DecidableEq, Repr

/-- A stack engine (06 R168, R177, R189-R191). -/
structure Engine where
  inReset : Bool := false
  queue : List Docket := []
  running : Option Docket := none
  /-- the running docket has been executed, with its completion code -/
  result : Option Nat := none
  lastCtx : Nat := 16
  halted : List Nat := []
  gated : Bool := false
  gatedSince : Nat := 0
  /-- channel cycles of the turn estimate the clock was stopped for -/
  gatedTurn : Nat := 0
  buf : SMap (BitVec 512) := []
  bufPoison : List Nat := []
  /-- lines moved since the engine last reported progress, and when (17 R425 trigger 0x05) -/
  lastMove : Nat := 0
  deriving DecidableEq, Repr

/-- A running scrub (07 R208, R209). -/
structure Scrub where
  first : Nat
  last : Nat
  /-- requester: none the host, else the Plovco session and sequence -/
  plovco : Option (Nat × Nat)
  start : Nat
  /-- SCRUB dockets outstanding: by 32 × stack + channel, the next line to read -/
  left : SMap Nat
  aborting : Bool
  lines : Nat
  corrected : Nat
  writtenBack : Nat
  uncorrectable : Nat
  alreadyPoisoned : Nat
  firstBad : Nat
  lastBad : Nat
  deriving DecidableEq, Repr

/-- A context record of the applied Pattern (12 Table 12-7). -/
structure CtxRec where
  strict : Bool
  readyGroup : Nat
  doneGroup : Nat
  slotNs : Nat
  ring : Nat
  records : Nat
  deriving DecidableEq, Repr

/-- A gang record (12 Table 12-8). -/
structure GangRec where
  ctx : Nat
  die : Nat
  log2 : Nat
  stagger : Nat
  first : Nat
  image : Nat
  deriving DecidableEq, Repr

/-- A channel record (12 Table 12-5, PARTITION). -/
structure ChanRec where
  tile : Nat
  chan : Nat
  depth : Nat
  slot : Nat
  base : Nat
  chip : Nat
  sender : Nat
  deriving DecidableEq, Repr

/-- A MEMMAP region record (12 Table 12-5). -/
structure Region where
  base : Nat
  size : Nat
  ctx : Nat
  sink : Bool
  plan : Bool
  staging : Bool
  deriving DecidableEq, Repr

/-- A strum group record (12 Table 12-5, STRUM; 09 R239-R243). -/
structure GroupRec where
  /-- image of COL_GROUP_CFG -/
  cfg : Word
  parent : Nat
  height : Nat
  members : List Nat
  /-- child chips with their subtree counts -/
  children : List (Nat × Nat)
  deriving DecidableEq, Repr

/-- A collective set record (12 Table 12-5, STRUM; 09 R252). -/
structure SetRec where
  owner : Nat
  algorithm : Nat
  rings : Nat
  guardGroup : Nat
  preemptUs : Nat
  deadlineUs : Nat
  mcast : Nat
  /-- member chips and gangs, in set-index order -/
  members : List (Nat × Nat)
  /-- ring orders (each a list of set indices), or the tree: parent index per member (0xFFFF at the root) and children order -/
  orders : List (List Nat)
  deriving DecidableEq, Repr

/-- An image of the IMAGES section (12 Table 12-10). -/
structure ImageRec where
  instr : Nat
  data : Nat
  digest : Nat
  digests : List Nat
  blocks : List (List Byte)
  deriving DecidableEq, Repr

/-- The applied Pattern (12 R314-R317): what its sections say, beyond what is written to registers and tables. -/
structure Pattern where
  /-- the contract version it was built for -/
  contract : Nat × Nat
  slice : Nat
  serial : Nat
  seed : Word
  packages : Nat
  ownerKey : Nat
  digest : Nat
  lpkg : Nat
  chip : Nat
  planLeadUs : Nat
  readyLeadUs : Nat
  maxDefer : Nat
  ctxs : SMap CtxRec
  gangs : List GangRec
  chans : List ChanRec
  mode : Nat
  regions : List Region
  capW : Nat
  priority : Nat
  rampNs : Nat
  loopSettings : List Byte
  groups : SMap GroupRec
  sets : SMap SetRec
  trays : List Nat
  twinPartner : Nat
  twinRole : Nat
  images : List ImageRec
  engineDigest : Nat
  expect : List Word
  deriving DecidableEq, Repr

/-- A time edge (11 R305-R307): the number of the last request, its transmit stamp in 2^-16 ns, when it left, whether a reply is
awaited, and when the last valid exchange was (local timers, ns). -/
structure TimeEdge where
  seq : Nat := 0
  t1 : Nat := 0
  sentAt : Nat := 0
  waiting : Bool := false
  valid : Nat := 0
  deriving DecidableEq, Repr

/-- The Drone and its servo (11 R303-R311).  The counter is in units of 2^-24 ns. -/
structure DroneSt where
  count : Nat := 0
  /-- correction added at each 8 ns tick, in 2^-24 ns -/
  rate : Int := 0
  /-- the servo's integral, in 2^-17 ns -/
  sum : Int := 0
  parent : TimeEdge := {}
  backup : TimeEdge := {}
  /-- when holdover began -/
  holdSince : Nat := 0
  /-- a port on which a neighbour last said that it is locked or root (R310) -/
  lockedPort : Option Nat := none
  deriving DecidableEq, Repr

/-- A token of one local member in a generation (09 R244): contributed, or declared lost; a lost member's late token
has come. -/
structure StrumToken where
  member : Nat
  lost : Bool
  late : Bool
  poison : Bool
  payload : List Byte
  deriving DecidableEq, Repr

/-- A child's partial in a generation (09 Table 09-2), or its declaration of loss. -/
structure StrumPartial where
  child : Nat
  lost : Bool
  covered : Nat
  lostCount : Nat
  outcome : Nat
  poison : Bool
  payload : List Byte
  /-- it came from a twin (17 R442) -/
  twin : Bool
  deriving DecidableEq, Repr

/-- A generation open at a node (09 R244-R246). -/
structure StrumGen where
  gen : Nat
  /-- operation, format and length (contribution bytes) of the first token -/
  kind : Option (Nat × Nat × Nat)
  /-- tokens disagreed, or the Balance broke, or a residue did not match: the outcome is poisoned -/
  broken : Bool
  tokens : List StrumToken
  partials : List StrumPartial
  lostCount : Nat
  lostChips : List Nat
  expiry : Nat
  sent : Bool
  deriving DecidableEq, Repr

/-- A member's ticket (09 R247): whose, for which generation, until when; steward: a vote of the Steward (12 R328) or a
guard contribution of a collective engine (09 R261), which holds no tile ticket. -/
structure StrumTicket where
  member : Nat
  gen : Nat
  deadline : Nat
  steward : Bool
  /-- the deadline passed first; the result will be late for it -/
  expired : Bool
  deriving DecidableEq, Repr

/-- A strum group's state on this package (09 R239-R249). -/
structure StrumGroup where
  next : Nat := 0
  gens : List StrumGen := []
  tickets : List StrumTicket := []
  /-- results of the root that its own members have not been given yet -/
  results : List Packet := []
  deriving DecidableEq, Repr

/-- The strum units (09). -/
structure StrumSt where
  groups : SMap StrumGroup := []
  /-- contexts whose members are lost until they are re-established (09 Table 09-5) -/
  absent : List Nat := []
  deriving DecidableEq, Repr

/-- A chunk ready to be sent (09 R256-R260): phase, ring, shard, number; the set index it goes to (none: multicast); bytes. -/
structure CollOut where
  phase : Nat
  ring : Nat
  shard : Nat
  chunk : Nat
  dest : Option Nat
  data : List Byte
  poison : Bool
  deriving DecidableEq, Repr

/-- A chunk being staged from its packets (09 R260, R466). -/
structure CollIn where
  phase : Nat
  ring : Nat
  shard : Nat
  sender : Nat
  chunk : Nat
  pieces : SMap (List Byte)
  poison : Bool
  deriving DecidableEq, Repr

/-- A tree node's gathered contributions to one chunk: (child, bytes, poison). -/
structure CollGather where
  shard : Nat
  chunk : Nat
  got : List (Nat × List Byte × Bool)
  deriving DecidableEq, Repr

/-- A collective running at a member (09 R253-R265). -/
structure CollRun where
  set : Nat
  gang : Nat
  me : Nat
  desc : List Word
  start : Nat
  out : List CollOut
  staged : List CollIn
  gather : List CollGather
  /-- bytes still to be stored at dst, by block or shard; all-to-all: senders still to finish -/
  left : Nat
  /-- chunks in flight by path: ring, or 8 + destination -/
  inflight : SMap Nat
  /-- guard flags (09 R261) -/
  flags : Nat
  contributed : Bool
  /-- the stop ordered under 09 R264 proceeds at the latest then -/
  stopBy : Option Nat
  deriving DecidableEq, Repr

/-- The collective engines (09 R253-R267). -/
structure CollSt where
  runs : List CollRun := []
  /-- descriptors that wait for their set: set, gang, words -/
  waiting : List (Nat × Nat × List Word) := []
  deriving DecidableEq, Repr

/-- A reset level asked for or running (17 R425, R431): 1 context, 2 engine, 3 partition, 4 chip, 5 power cycle; the unit
(true: stack side) and index as RCV_CMD names them; the trigger; when it was raised; the completion fault of its steps. -/
structure RcvReq where
  level : Nat
  stack : Bool
  index : Nat
  trigger : Nat
  start : Nat
  fault : Nat
  src : Nat
  detail : Nat
  deriving DecidableEq, Repr

/-- Recovery (17 R425-R437). -/
structure RcvSt where
  reqs : List RcvReq := []
  /-- dossiers captured since power-on, and the packed header and plan section of the latest -/
  dossiers : Nat := 0
  latest : List Byte := []
  /-- system messages sent since the Pattern was applied (08 R216) -/
  msgs : Nat := 0
  deriving DecidableEq, Repr

/-- A stream of the twin filter (17 R441): its key, its highest count, the marked counts of its window with their poison
bits, and when it last had an arrival. -/
structure TwinStream where
  src : Nat
  ctx : Nat
  vc : Nat
  agent : Nat
  high : Nat
  marks : List (Nat × Bool)
  last : Nat
  deriving DecidableEq, Repr

/-- The double-stop (17 R438-R448). -/
structure TwinSt where
  /-- packets counted per agent and virtual channel: 8 × agent + VC (R440) -/
  counts : SMap Nat := []
  streams : List TwinStream := []
  /-- digest sums of the running steps, by context (R443) -/
  digest : SMap Nat := []
  /-- the fault flag of the running step (R443) -/
  fault : Bool := false
  /-- the partner's fault flag, step and last reported step as its last mirror record gave them, and when -/
  peerFault : Bool := false
  peerStep : Nat := 0
  peerReported : Nat := 0
  heard : Nat := 0
  /-- the first mirror record has been checked (R438) -/
  checked : Bool := false
  /-- last step contributed and last reported here, and when the last record was sent -/
  lastStep : Nat := 0
  lastReported : Nat := 0
  sentAt : Nat := 0
  /-- a swap waits for the step boundary (R445) -/
  swap : Bool := false
  /-- a resynchronisation in hand: step N and the ranges to copy; whether the join record has been answered -/
  resync : Option (Nat × List (Nat × Nat)) := none
  joined : Bool := false
  /-- the state to copy has been sent, or has come (R447) -/
  copied : Bool := false
  deriving DecidableEq, Repr

/-- A flit: its 32-bit control word and its 128 bytes as a number (08 R212). -/
structure Flit where
  ctrl : Nat
  data : Nat
  deriving DecidableEq, Repr

/-- A branch of a worm (08 R218, R230, R231): the output port, the members word of its copy (none: the head's own), whether it holds
its output, the flits of the worm it has sent, and whether its tail has left. -/
structure Branch where
  port : Nat
  members : Option Nat
  held : Bool
  sent : Nat
  done : Bool
  deriving DecidableEq, Repr

/-- A worm at an input virtual channel (08 R227): link tag, head, branches, the flits in the input buffer (true: in the shared pool),
the flits that have left it, whether its tail has come, whether it was cut here (a truncating tail is still owed) or carries a cut,
when its last flit came, and whether a flit was poisoned. -/
structure Worm where
  tag : Nat
  head : Packet
  branches : List Branch
  flits : List (Flit × Bool)
  first : Nat
  ended : Bool
  cutHere : Bool
  cut : Bool
  since : Nat
  poison : Bool
  /-- a link reset has cut a branch of it (R231) -/
  lopped : Bool
  deriving DecidableEq, Repr

/-- An input virtual channel (08 R222, R228): its worms, oldest first, the tag it drains, the tag it orphans, and the most flits held
since the last snapshot of the Steward's and of the host's bank. -/
structure InVc where
  worms : List Worm := []
  drain : Option Nat := none
  orphan : Option Nat := none
  peakS : Nat := 0
  peakH : Nat := 0
  deriving DecidableEq, Repr

/-- An output virtual channel (08 R213, R235): the next link tag, the input that holds it (8 × port + VC), the input port last
served, and its round-robin credit. -/
structure OutVc where
  tag : Nat := 0
  owner : Option Nat := none
  lastIn : Nat := 29
  cur : Int := 0
  deriving DecidableEq, Repr

/-- The Stocktake of a port (08 R224, R225): number of the next marker sent, when the timer's next is due, and the report that the
next marker carries: marker checked, pools that mismatched. -/
structure Marker where
  next : Nat := 0
  due : Nat := 1000000
  report : Option (Nat × Nat) := none
  /-- number of the next marker when the link was last reset -/
  resetAt : Nat := 0
  deriving DecidableEq, Repr

/-- The router (08 R210-R238).  Pools are keyed by 8 × port + pool, 6 the shared pool. -/
structure RouterSt where
  ins : SMap InVc := []
  outs : SMap OutVc := []
  /-- credits spent and not come back -/
  spent : SMap Nat := []
  /-- flits sent and credits received, cumulative -/
  sent : SMap Nat := []
  credIn : SMap Nat := []
  /-- flits received, credits returned, and credits freed that no frame has carried back yet -/
  rx : SMap Nat := []
  returned : SMap Nat := []
  owed : SMap Nat := []
  /-- strict slots used and slots gone by in the current window -/
  strict : SMap (Nat × Nat) := []
  markers : SMap Marker := []
  /-- counters by their offset in the fabric window (08 Table 08-11), and the two snapshot banks -/
  cnt : SMap Nat := []
  bankS : SMap Nat := []
  bankH : SMap Nat := []
  /-- routing table (16 bits an entry) and group table (32 bits) -/
  routes : SMap Nat := []
  groups : SMap Nat := []
  deriving DecidableEq, Repr

/-- A frame of the replay buffer (10 R274, R276): its fseq, type and credit returns (pool, count), and its slots. -/
structure TxFrame where
  seq : Nat
  ftype : Nat
  rets : List (Nat × Nat)
  slots : List Flit
  deriving DecidableEq, Repr

/-- A packet being sealed at an up port (10 R291): link tag, counter, epoch, the additional data, plaintext bytes sent, the ciphertext,
the head's flits, and whether its last flit has left so that the seal flit follows. -/
structure SealTx where
  tag : Nat
  ctr : Nat
  epoch : Nat
  aad : List Byte
  cipher : List Byte
  src : Nat
  flits : Nat
  last : Bool
  deriving DecidableEq, Repr

/-- The link layer of an optical port (10 R272-R292). -/
structure LinkPort where
  /-- CK is received (R271) -/
  ck : Bool := false
  /-- within a measured phase: 0 aligning, 1 measuring, 2 waiting for the neighbour's record -/
  stage : Nat := 0
  /-- the phase a held port was held in (R287) -/
  heldIn : Nat := 0
  txSeq : Nat := 0
  rxSeq : Nat := 0
  nak : Bool := false
  replay : List TxFrame := []
  /-- flits of the frame being assembled -/
  slots : List Flit := []
  /-- the fseq that successive replays started from, how many, and when the last one started -/
  replayFrom : Nat := 0
  replays : Nat := 0
  replayAt : Nat := 0
  /-- when each uncorrectable frame of the last 1 ms came, newest first -/
  uncorrAt : List Nat := []
  /-- when a flit or link frame was last ready to send -/
  busy : Nat := 0
  quietSent : Bool := false
  quietGot : Bool := false
  quietSince : Nat := 0
  /-- last PAM4 level of each data lane (R272) -/
  levels : List Nat := []
  /-- slips (plus one; 0 failed) and skew of each lane at rungs 1 to 3 (R281) -/
  align : SMap (List (Nat × Nat)) := []
  /-- lanes this receiver passed at each rung (R280) -/
  pass : SMap Nat := []
  /-- the last valid identity record (R284), and when this end last sent its own -/
  record : List Byte := []
  idSent : Nat := 0
  /-- the last time-transfer request sent was sent again by a replay (11 R307) -/
  timeSpoilt : Bool := false
  sealTx : SMap SealTx := []
  /-- flits of sealed packets held until their check, by virtual channel (R291, R292) -/
  sealRx : SMap (List Flit) := []
  deriving DecidableEq, Repr

/-- Counters accepted from one sealing package (10 R292). -/
structure SealWindow where
  highest : Nat
  seen : List Nat
  deriving DecidableEq, Repr

/-- The optical ports and sealing (10). -/
structure LinkSt where
  ports : SMap LinkPort := []
  /-- the slice key, its epoch and the package's counter under it (R290, R291) -/
  sealKey : Option Nat := none
  sealEpoch : Nat := 0
  sealCtr : Nat := 0
  /-- the Pattern's seal list: chips and endpoints (R290) -/
  sealList : List Nat := []
  sealSeen : SMap SealWindow := []
  deriving DecidableEq, Repr

/-- An entry of the Mending list (13 Table 13-4): the tile core's die, physical row and column, its source and test, and the power-on
count at entry. -/
structure MendEntry where
  die : Nat
  row : Nat
  col : Nat
  source : Nat
  test : Nat
  powerOn : Nat
  deriving DecidableEq, Repr

/-- A copy of the Mending list in flash (13 R341).  The device key's signature on it always verifies: only this package writes it (log
entry 35). -/
structure MendCopy where
  gen : Nat
  entries : List MendEntry
  deriving DecidableEq, Repr

/-- A Warrant held in flash (13 Table 13-6). -/
structure Warrant where
  kind : Nat
  code : Nat
  serial : Nat
  tiles : Nat
  mask : Nat
  power : Nat
  /-- its 224 bytes -/
  raw : List Byte
  deriving DecidableEq, Repr

/-- An enrolled owner key (15 R400): 97 bytes and the slice. -/
structure OwnerKey where
  key : List Byte
  slice : Nat
  deriving DecidableEq, Repr

/-- Package flash, which a power cycle keeps, but for the firmware slots and the Daybook mirror. -/
structure Flash where
  idRecord : List Byte := []
  mends : List MendCopy := []
  warrants : List Warrant := []
  /-- Mending entries that a service command removes at the next cold path: die, row, column (13 R342) -/
  removals : List (Nat × Nat × Nat) := []
  /-- the custodian key, 97 bytes (15 R399) -/
  custodian : Option (List Byte) := none
  /-- serial of the last accepted key record of each kind (15 R409) -/
  recSerials : SMap Nat := []
  owners : List OwnerKey := []
  /-- highest Pattern serial applied, by owner key digest (12 R321) -/
  serials : List (Nat × Nat) := []
  /-- the last erasure receipt (15 R402) -/
  receipt : List Byte := []
  powerOns : Nat := 0
  deriving DecidableEq, Repr

/-- Bring-up (13).  The keys stand for constants of the part that the manual does not state (log entry 8). -/
structure BringSt where
  /-- Aetheveam's public key, 97 bytes, in the ROM -/
  vendorKey : List Byte := Config.vendorKey
  /-- the device's public key, 97 bytes, as derived from the PUF (13 R344) -/
  deviceKey : List Byte := Config.deviceKey
  /-- Aetheveam's service key, 97 bytes, which certificate slot 0 vouches for (15 Table 15-16) -/
  serviceKey : List Byte := Config.serviceKey
  identityOk : Bool := false
  /-- the Mending list in use -/
  mend : MendCopy := ⟨0, []⟩
  /-- proposals: die, row, column, cause (13 R342), in retained SRAM -/
  proposals : List (Nat × Nat × Nat × Nat) := []
  /-- stacks and dies that failed training or the Assay -/
  stackFail : Nat := 0
  dieFail : Nat := 0
  stacksTrained : Bool := false
  stackAssay : Bool := false
  tileAssay : Bool := false
  /-- the I/O die or the power stage failed its Assay -/
  unserviceable : Bool := false
  /-- when the start path began, package time in ns -/
  pathStart : Nat := 0
  /-- a chip reset was asked for during the cold path (13 Table 13-9) -/
  resetAfter : Bool := false
  /-- a warm path is due or running (13 R335) -/
  warm : Bool := false
  deriving DecidableEq, Repr

/-- A compute die's power state (14 R355, R364-R370).  Powers in mW, times in ns of package time. -/
structure DiePower where
  /-- operating point code (Table 14-2) and the point a change is to reach -/
  point : Nat := 0
  target : Nat := 0
  /-- a change under way: when the rail has slewed (rise) or was ready (fall), from when stretches are waited for -/
  change : Option Nat := none
  /-- governor's issue duty in sixteenths -/
  duty : Nat := 0
  allowance : Nat := 0
  estimate : Nat := 0
  /-- highest estimate since the last grant -/
  peak : Nat := 0
  /-- successive windows over the allowance, and fitting at the next point -/
  above : Nat := 0
  fit : Nat := 0
  /-- stretched clusters: cluster and depth (true: deep) -/
  stretch : List (Nat × Bool) := []
  stretchSince : Nat := 0
  /-- the 100 µs window of R369 and the time stretched in it -/
  winStart : Nat := 0
  winNs : Nat := 0
  /-- a droop-storm reduction is held until then -/
  storm : Option Nat := none
  deriving DecidableEq, Repr

/-- A stack's power state (14 R355, R364, R365, R375). -/
structure StackPower where
  /-- engine clock code, and the channel duty of the governor and of temperature, in sixteenths -/
  engine : Nat := 0
  duty : Nat := 16
  heat : Nat := 16
  allowance : Nat := 0
  estimate : Nat := 0
  peak : Nat := 0
  fit : Nat := 0
  /-- at its floor for DRAM temperature, and since when the DRAM die has read 90 °C or less -/
  floor : Bool := false
  cool : Option Nat := none
  deriving DecidableEq, Repr

/-- A sensor (14 R374): its reading in 1/16 °C, since when it has stood there, and its partner's reading then. -/
structure Sensor where
  value : Int := 0
  since : Nat := 0
  partner : Int := 0
  dropped : Bool := false
  deriving DecidableEq, Repr

/-- A hot-spot site (14 R374, R375): two sensors, the protective reading, the region's issue duty. -/
structure Site where
  a : Sensor := {}
  b : Sensor := {}
  protect : Int := 0
  flagged : Bool := false
  /-- since when the two have differed by more than 6 K -/
  apart : Option Nat := none
  duty : Nat := 16
  /-- since when the region has read 100 °C or more at the lowest duty -/
  hot : Option Nat := none
  /-- readings of the last 200 ms, one every 10 ms, newest first (R380) -/
  past : List Int := []
  deriving DecidableEq, Repr

/-- Power, droop and cooling (14). -/
structure PowerSt where
  dies : SMap DiePower := []
  stks : SMap StackPower := []
  /-- the link domain: allowance, estimate, highest estimate, mW -/
  linkAllow : Nat := 0
  linkEst : Nat := 0
  linkPeak : Nat := 0
  /-- estimate of the always-on domain, mW -/
  alwaysEst : Nat := 0
  /-- the slots but the host's, in W (R359), and the recorded effective cap with its binding slot -/
  tray : Nat := 2800
  patternW : Nat := 1200
  thermal : Nat := 3600
  warrant : Nat := 1200
  effective : Nat := 1200
  binding : Nat := 2
  /-- the tray lease (R361): state of Table 14-13, orphan cap, end -/
  leaseState : Nat := 0
  orphan : Nat := 2800
  leaseEnd : Nat := 0
  /-- the regulator alert: asserted, cleared at, PWR_ALERT_N asserted -/
  alert : Bool := false
  alertClear : Nat := 0
  alertPin : Bool := false
  /-- TRAY_HOLD_N is low; when it went high -/
  hold : Bool := false
  holdHigh : Nat := 0
  /-- forced by a critical temperature; since when every reading is at or below 100 °C -/
  critical : Bool := false
  criticalCool : Option Nat := none
  trip : Bool := false
  tripAt : Nat := 0
  /-- forced by coolant loss; since when the flow is good -/
  coolant : Bool := false
  coolantGood : Option Nat := none
  /-- the package is in a forced floor state, or on its way out of one; when it last took a step -/
  forced : Bool := false
  stepAt : Nat := 0
  /-- what the floor was last forced by, as PWR_CAP_STATUS.forced codes it; 0 a cap below the floor allowances -/
  cause : Nat := 0
  /-- until when DROOP has counted the stretches -/
  droopSince : Nat := 0
  /-- the Mute: the sites' protective readings when armed or at its last step, when that was, and whether it has stepped -/
  mute : Option (SMap Int) := none
  muteAt : Nat := 0
  muteStepped : Bool := false
  inputW : Nat := 0
  inputCv : Nat := 0
  /-- correction factor, 0x8000 is 1 (R357), and the sum and number of uncorrected window estimates since the last update -/
  factor : Nat := 0x8000
  rawSum : Nat := 0
  rawWindows : Nat := 0
  /-- time accrued by each reason, ns, and energy by counter, nJ -/
  reasonNs : SMap Nat := []
  energyNj : SMap Nat := []
  active : Nat := 0
  /-- time of the last estimator window, calibration, grant, sample, adjustment and R_th update -/
  lastWindow : Nat := 0
  lastCal : Nat := 0
  lastGrant : Nat := 0
  lastSample : Nat := 0
  lastAdjust : Nat := 0
  lastRth : Nat := 0
  lastPast : Nat := 0
  sites : SMap Site := []
  /-- measured input power with each entry of the sites' past, newest first -/
  pastInput : List Nat := []
  /-- coolant report: inlet, outlet (1/16 °C), flow in mL/min, when -/
  inlet : Int := 0
  outlet : Int := 0
  flow : Nat := 0
  reportAt : Option Nat := none
  noReport : Bool := false
  /-- R_th in 2^-32 K/W, and the thermal slot before its clamp -/
  rth : Nat := 0x3B645A2
  thermalRaw : Nat := 0
  deriving DecidableEq, Repr

/-- An SPDM session (15 R397): its number, role, transport (true: DOE), and when it last had traffic, package time in ns. -/
structure Session where
  id : Nat
  role : Role
  doe : Bool
  last : Nat
  deriving DecidableEq, Repr

/-- A handshake in progress (15 R396): the session number it sets up, its transport and the requester's address. -/
structure Handshake where
  id : Nat
  doe : Bool
  src : Nat
  deriving DecidableEq, Repr

/-- The management port and its sessions (15 R395-R398). -/
structure MgmtSt where
  sessions : List Session := []
  shakes : List Handshake := []
  /-- requests of strangers answered within the last second: source address and time (R396) -/
  asked : List (Nat × Nat) := []
  /-- pieces of key records taken so far, by 65,536 × session + command: total length and bytes by place (R408) -/
  parts : SMap (Nat × SMap Byte) := []
  /-- the port has fallen back to CSMA/CD, and how often beacons were lost (R395) -/
  csma : Bool := false
  beaconLosses : Nat := 0
  /-- a CYCLE_REQUEST that the tray has not answered: reason, and when it was last sent (17 R435) -/
  cycle : Option (Nat × Nat) := none
  /-- the tray has answered the last one -/
  answered : Bool := false
  /-- sequence number of the package's own requests -/
  seq : Nat := 0
  deriving DecidableEq, Repr

/-- A sub-image entry of a manifest (16 Table 16-3). -/
structure SubImage where
  kind : Nat
  cls : Nat
  version : Nat
  first : Nat
  blocks : Nat
  length : Nat
  req : List (Nat × Nat)
  digest : Nat
  deriving DecidableEq, Repr

/-- A manifest (16 Table 16-2). -/
structure Manifest where
  contractMajor : Nat := 0
  contractMinor : Nat := 0
  version : Nat := 0
  security : Nat := 0
  peerClass : Nat := 0
  peerLo : Nat := 0
  peerHi : Nat := 0
  recFormat : Nat := 0
  recLo : Nat := 0
  blocks : Nat := 0
  length : Nat := 0
  settings : Nat := 0
  subs : List SubImage := []
  deriving DecidableEq, Repr

/-- A flash slot (16 R414): its state of Table 16-5, the bundle's manifest and bytes, and the cold-path boots of its trial. -/
structure FwSlot where
  state : Nat := 0
  man : Manifest := {}
  data : List Byte := []
  boots : Nat := 0
  deriving DecidableEq, Repr

/-- A settings copy (16 R421): its version, generation and held mark, and what its body gives that the manual's rules use: the default
orphan cap and trace masks. -/
structure SettingsCopy where
  version : Nat
  gen : Nat
  held : Bool
  orphan : Nat
  masks : List Nat
  deriving DecidableEq, Repr

/-- What the handover record holds of the loop core's working values, and its header (16 R418).  Everything else that it carries
stands in State under its own name and survives a restart there. -/
structure HandRecord where
  format : Nat := 0
  writer : Nat := 0
  gen : Nat := 0
  /-- when it was last written, package time in ns -/
  at_ : Nat := 0
  rth : Nat := 0
  thermalRaw : Nat := 0
  factor : Nat := 0
  inlet : Int := 0
  outlet : Int := 0
  flow : Nat := 0
  reportAt : Option Nat := none
  noReport : Bool := false
  deriving DecidableEq, Repr

/-- Where an activation, a fallback or a restart stands (16 Table 16-7, 17 R437). -/
inductive HandPhase where
  | idle
  /-- A2 -/
  | drain
  /-- A3 has ended: the record is written and the Mute armed -/
  | quiesced
  /-- A4 has ended -/
  | loaded
  /-- A5 has ended -/
  | restored
  deriving DecidableEq, Repr

/-- Firmware (16).  The slots, the minimum security version, the settings and the sources of the sub-images in force lie in flash. -/
structure FwSt where
  /-- the manifest of the running image -/
  running : Manifest := {}
  /-- slots A (0) and B (1) -/
  slots : SMap FwSlot := []
  minSecurity : Nat := 0
  settings : SMap SettingsCopy := []
  /-- the slots that supply the stack controller, port sequencer and power-stage controller in force -/
  stackFrom : Nat := 0
  portFrom : Nat := 0
  powerFrom : Nat := 0
  /-- the slot of the running image -/
  booted : Option Nat := none
  /-- the settings copy in use; none: built-in defaults -/
  settingsUse : Option Nat := none
  phase : HandPhase := .idle
  /-- the slot that an activation goes to -/
  target : Nat := 0
  /-- a deferred activation: when it was asked for and last tried (16 R420) -/
  deferred : Option (Nat × Nat) := none
  /-- when A3 began, or the trial that a cold path began (16 R415, R419) -/
  trialAt : Nat := 0
  /-- since when the trial image has been healthy; none while it is not -/
  healthy : Option Nat := none
  record : HandRecord := {}
  deriving DecidableEq, Repr

/-- The supplies and pins as the package sees them (18). -/
structure PinSt where
  /-- SLOT_ID as latched -/
  slotId : Nat := 0
  /-- the always-on supply, and the 40 V input, are good (R460) -/
  aux : Bool := false
  input : Bool := false
  /-- held in reset for loss of the 40 V input (R461) -/
  held : Bool := false
  /-- the power stage has stopped converting behind THERM_TRIP_N -/
  stopped : Bool := false
  /-- PERST_N is asserted, as it is when unconnected (R459) -/
  perst : Bool := true
  deriving DecidableEq, Repr

/-- Where an accepted step stands (12 R328-R330). -/
inductive StepPhase where
  /-- accepted, no readiness contribution yet -/
  | accepted
  /-- readiness contributed, the result awaited -/
  | voting
  /-- to start at E -/
  | ready
  | running
  /-- completion contributed, the result awaited -/
  | voted
  deriving DecidableEq, Repr

/-- A step whose record was accepted (12 Table 12-11): its ring slot, the record's fields, and how far it is. -/
structure StepRun where
  slot : Nat
  step : Nat
  start : Nat
  deadline : Nat
  stagger : Nat
  wakeUs : Nat
  flags : Nat
  /-- entry of each gang of the context, in gang-number order: (gang, bundle or 0xFFFF) -/
  entries : List (Nat × Nat)
  arg0 : Nat
  arg1 : Nat
  phase : StepPhase
  deferrals : Nat
  /-- generation of the vote that is awaited -/
  gen : Nat
  aborted : Bool
  /-- local fault and detail (12 Table 12-12) -/
  fault : Option (Nat × Nat)
  woken : Bool
  ramp : Bool
  /-- stagger classes begun -/
  classes : Nat
  /-- generation of the twin group that the step's digest was contributed to (17 R443) -/
  digestGen : Option Nat
  deriving DecidableEq, Repr

/-- A context's plan (12 R325-R332). -/
structure CtxPlan where
  head : Nat := 0
  /-- step number of the last accepted record -/
  last : Option Nat := none
  /-- accepted steps that are not terminal, in order -/
  steps : List StepRun := []
  deferrals : Nat := 0
  refused : Nat := 0
  /-- faulted by a host read of poison (07 R204): no later step starts until the context is reset -/
  faulted : Bool := false
  deriving DecidableEq, Repr

/-- Plans and the applied Pattern (12). -/
structure PlanSt where
  pattern : Option Pattern := none
  /-- physical position 32 × row + column of each logical tile (12 R320) -/
  place : SMap Nat := []
  ctxs : SMap CtxPlan := []
  /-- the last plan scan, package time in ns -/
  scanned : Nat := 0
  /-- Pattern stream in force, for restores: the raw section bodies by type -/
  sections : SMap (List Byte) := []
  /-- tiles that reported their image (12 R324): the multicast pass is over -/
  imagesSent : Bool := false
  deriving DecidableEq, Repr

/-- Why the package stops.  No command of this model stops it: every command of the table has an effect, or no
occasion and then no effect. -/
inductive Fault where
  /-- raised by no command; safe -/
  | none
  deriving DecidableEq, Repr

/-- Why a command has no meaning. -/
inductive Refusal where
  /-- raised by an arm of exec whose command has no meaning yet; safe -/
  | notModelled (mnemonic : String)
  deriving DecidableEq, Repr

/-- The whole package. -/
structure State where
  /-- commands that wait, first in first out; the model's own -/
  pending : List Instr := []
  /-- time since the always-on supply came up, in ns (11 R303; log entry 2) -/
  clock : Nat := 0
  /-- free values drawn so far; the model's own (log entry 7) -/
  freeCtr : Nat := 0
  /-- what the package has sent; the model's own (log entry 6) -/
  outbox : List Emit := []
  regs : SMap Word := []
  mem : List Host.Cell := []
  memPoison : List Nat := []
  /-- upset bits standing in lines: 512 data bits, then 64 side bits by pin and beat (07 R195) -/
  lineErr : SMap Nat := []
  book : Daybook := {}
  host : HostSt := {}
  plan : PlanSt := {}
  drone : DroneSt := {}
  tiles : SMap Tile := []
  gangs : SMap Gang := []
  chans : SMap Chan := []
  engs : SMap Engine := []
  scrub : Option Scrub := none
  strum : StrumSt := {}
  coll : CollSt := {}
  rcv : RcvSt := {}
  router : RouterSt := {}
  link : LinkSt := {}
  fw : FwSt := {}
  power : PowerSt := {}
  bring : BringSt := {}
  flash : Flash := {}
  pins : PinSt := {}
  twin : TwinSt := {}
  mgmt : MgmtSt := {}
  deriving DecidableEq, Repr

/-- The package before its always-on supply comes up: what a power cycle leaves. -/
def State.reset : State := {}

end Sys2Proof.Machine
end

