-- ==== Sys2Proof/Machine/Ops.lean ====
section
/-! DEFINITION. The named operations over registers, package memory, the Daybook, the event ring and the outbox.
Registers: 00 R16-R19.  Memory: 05 R149, 07 R203.  Daybook: 15 R405, R406, R464.  Events: 15 R390, R392. -/

namespace Sys2Proof.Machine

/-- The package's Drone reading, in whole ns (11 R303). -/
def droneNs (s : State) : Nat := s.drone.count / 2 ^ 24

/-- Value of a register. -/
def regGet (s : State) (k : Nat) : Word := (mapFind s.regs k).getD (regReset k)

/-- The register table with one register set; a register at its reset value is not listed. -/
def regsPut (m : SMap Word) (k : Nat) (v : Word) : SMap Word := if v = regReset k then mapDel m k else mapPut m k v

/-- Set a register. -/
def regSet (s : State) (k : Nat) (v : Word) : State := { s with regs := regsPut s.regs k v }

/-- A field of a register. -/
def regField (s : State) (k hi lo : Nat) : Nat := fieldOf (regGet s k) hi lo

/-- Set a field of a register. -/
def regPut (s : State) (k hi lo x : Nat) : State := regSet s k (withField (regGet s k) hi lo x)

/-- Add to a 64-bit counter register, modulo 2^64. -/
def regAdd (s : State) (k n : Nat) : State := regSet s k (regGet s k + BitVec.ofNat 64 n)

/-- Add to a field that saturates at all ones. -/
def regSatAdd (s : State) (k hi lo n : Nat) : State :=
  regPut s k hi lo (satAdd (2 ^ (hi - lo + 1) - 1) (regField s k hi lo) n)

/-- Restore the registers whose key p accepts to their reset values. -/
def regRestore (s : State) (p : Nat → Bool) : State := { s with regs := mapDrop p s.regs }

/-- Hand something to the outside (log entry 6). -/
def emit (s : State) (e : Emit) : State := { s with outbox := s.outbox ++ [e] }

/-- Hand a list of things to the outside, in order. -/
def emitAll (s : State) (es : List Emit) : State := { s with outbox := s.outbox ++ es }

/-- The next free value's number; the counter advances (log entry 7). -/
def freshFree (s : State) : Nat × State := (s.freeCtr, { s with freeCtr := s.freeCtr + 1 })

/-! ### Package memory -/

/-- Bytes in one stack (05 R145). -/
def stackBytes : Nat := 0x1200000000
/-- Bytes in one channel (05 R145). -/
def channelBytes : Nat := 0x90000000

/-- The enabled stacks, ascending (05 R146): the mask that bring-up writes into STK_MAP.enabled_stacks; before it is
written every stack counts (log entry 13). -/
def enabledStacks (s : State) : List Nat :=
  match setBits 8 (regField s (regStkMap 0) 55 48) with
  | [] => List.range 8
  | l => l

/-- Size of the offset space (05 R149). -/
def spaceBytes (s : State) : Nat := (enabledStacks s).length * stackBytes

/-- The Steward reserve starts here (05 R149). -/
def reserveBase (s : State) : Nat := spaceBytes s - 0x20000000

/-- The canonical form of memory: addresses strictly rising, and no byte listed that reads as an unlisted one does. -/
abbrev Memory.wf (m : List Host.Cell) : Bool := mapWf (0 : Byte) m

/-- Read n bytes of package memory at an offset; bytes nothing has written read 0 (log entry 4). -/
def memRead (s : State) (off n : Nat) : List Byte := mapGetList 0 s.mem off n

/-- Write bytes into package memory, the data only. -/
def memPutBytes (s : State) (off : Nat) (bs : List Byte) : State := { s with mem := mapSetList 0 s.mem off bs }

/-- The lines (of 64 bytes) that n bytes at an offset touch. -/
def linesOf (off n : Nat) : List Nat := if n = 0 then [] else rangeFrom (off / 64) ((off + n - 1) / 64 - off / 64 + 1)

/-- Is a line marked poisoned in store. -/
def linePoisoned (s : State) (l : Nat) : Bool := s.memPoison.contains l

/-- Set or clear a line's poison mark. -/
def setLinePoison (s : State) (l : Nat) (p : Bool) : State :=
  { s with memPoison := if p then setInsert s.memPoison l else setErase s.memPoison l }

/-! ### The event ring -/

/-- The vector of an event kind (15 R390). -/
def eventVector (kind ctx : Nat) : Nat :=
  if kind = 1 ∨ kind = 2 then 16 + ctx else if kind = 7 then 0 else if kind = 3 ∨ kind = 4 then 1
  else if kind = 6 then 2 else if kind = 5 then 3 else 4

/-- Signal a vector: sent when the MSI-X table leaves it unmasked, else pending in the PBA. -/
def signalVector (s : State) (v : Nat) : State :=
  if regField s (regMsix v) 32 32 = 1 then regPut s regPba v v 1 else emit s (.vector v)

/-- The 32 bytes of an event entry (15 Table 15-4). -/
def eventBytes (e : HostEvent) : List Byte :=
  bytesOf 8 e.time ++ bytesOf 8 e.step ++ bytesOf 1 e.kind ++ bytesOf 1 e.context ++ bytesOf 1 e.state
    ++ bytesOf 1 e.fault ++ bytesOf 4 e.detail ++ bytesOf 8 e.seq

/-- Entries of the event ring (15 Table 15-6). -/
def ringSize (s : State) : Nat := 256 * 2 ^ (min 7 (regField s regEventRing 63 60))

/-- Append an event to the ring, or count it where the ring is full, and signal its vector (15 R390).  One entry is
kept free to tell a full ring from an empty one (log entry 14). -/
def ringAppend (s : State) (e : HostEvent) : State :=
  let head := regField s regEventHead 15 0
  let next := (head + 1) % ringSize s
  let s1 :=
    if next = regField s regEventTail 15 0 then regSatAdd s regEventStatus 63 32 1
    else
      let base := regField s regEventRing 47 12 * 4096
      regPut (memPutBytes s (base + 32 * head) (eventBytes e)) regEventHead 15 0 next
  signalVector s1 (eventVector e.kind e.context)

/-- Is a context orphaned (15 R392, R393). -/
def isOrphaned (s : State) (ctx : Nat) : Bool := s.host.orphaned.contains ctx

/-- Hold an event in the Steward reserve (15 R392). -/
def holdEvent (s : State) (e : HostEvent) : State :=
  if s.host.held.length < 65536 then { s with host := { s.host with held := s.host.held ++ [e] } }
  else regSatAdd s regLeaseStatus 31 16 1

/-- Report an event to the host (15 R390, R392, R393): appended, or held in the orphan state.  Before any driver was
accepted since reset there is no ring and nothing is reported (log entry 14). -/
def eventAppend (s : State) (kind ctx step state fault detail : Nat) : State :=
  let e : HostEvent := ⟨droneNs s, step, kind, ctx, state, fault, detail, s.host.eventSeq⟩
  match s.host.lease with
  | .none => s
  | .orphan => holdEvent { s with host := { s.host with eventSeq := s.host.eventSeq + 1 } } e
  | .leased =>
    let s1 := { s with host := { s.host with eventSeq := s.host.eventSeq + 1 } }
    if ctx < 16 ∧ isOrphaned s ctx then holdEvent s1 e else ringAppend s1 e

/-! ### The Daybook -/

/-- Nanoseconds in a second. -/
def secondNs : Nat := 1000000000

/-- Write an entry at the head of the ring and advance the registers (15 R405). -/
def bookWrite (s : State) (e : DbEntry) : State :=
  let b := s.book
  let ring := (e :: b.ring).take 16384
  let s1 := { s with book := { b with ring := ring, next := b.next + 1 } }
  let s2 := regSet s1 regDaybookHead (BitVec.ofNat 64 (b.next + 1))
  regSet s2 regDaybookOldest (BitVec.ofNat 64 (b.next + 1 - ring.length))

/-- Copy an entry to the flash mirror. -/
def mirrorWrite (s : State) (e : DbEntry) : State :=
  let s1 := { s with book := { s.book with mirror := (e :: s.book.mirror).take 131072 } }
  regSet s1 regDaybookMirror (BitVec.ofNat 64 e.seq)

/-- Mirror an entry of warning severity or above within its second's limit of 1,000 (15 R405). -/
def mirrorEntry (s : State) (e : DbEntry) : State :=
  if s.book.mirrored < 1000 then mirrorWrite { s with book := { s.book with mirrored := s.book.mirrored + 1 } } e
  else
    { s with book := { s.book with
        unmirrored := s.book.unmirrored + 1,
        firstUnmirrored := if s.book.unmirrored = 0 then e.seq else s.book.firstUnmirrored } }

/-- Begin the counts of a new Drone second where none of the last second's entries wait for their 0xF100 entry. -/
def rollSecond (s : State) : State :=
  let now := droneNs s / secondNs
  if s.book.second = now ∨ s.book.unmirrored ≠ 0 then s
  else { s with book := { s.book with second := now, mirrored := 0, traced := 0 } }

/-- Does an entry of error severity with this code come from the stored-data logic, residue checkers, ports or power stage (17 R443). -/
def twinFaultCode (code : Nat) : Bool :=
  [2, 5, 6].contains (code / 4096) || [0x3001, 0x3002, 0x4001].contains code

/-- Write a Daybook entry (15 R405, R464): mirrored from warning severity up, an event of kind 0x07 from error up; a critical entry
of the Steward ends a trial image's spell of health (16 R419). -/
def logEvent (s : State) (source code severity ctx : Nat) (args : List Nat) : State :=
  let s0 := rollSecond s
  let e : DbEntry := ⟨droneNs s, s.book.next, source, code, severity, ctx, (args ++ [0, 0, 0, 0, 0]).take 5⟩
  let s1 := bookWrite s0 e
  let s2 := if severity ≥ 3 then mirrorEntry s1 e else s1
  if severity ≥ 4 then
    let s3 := if twinFaultCode code then { s2 with twin := { s2.twin with fault := true } } else s2
    let s4 := if severity = 5 ∧ source ≤ 2 then { s3 with fw := { s3.fw with healthy := s3.fw.healthy.map fun _ => s3.clock } } else s3
    eventAppend s4 7 ctx 0 0 0 code
  else s2

/-- The 64 bytes of a Daybook entry (15 Table 15-12). -/
def dbBytes (e : DbEntry) : List Byte :=
  bytesOf 8 e.time ++ bytesOf 8 e.seq ++ bytesOf 2 e.source ++ bytesOf 2 e.code ++ bytesOf 1 e.severity
    ++ bytesOf 1 e.context ++ zeros 2 ++ (e.args.take 5).flatMap (bytesOf 8)

/-! ### What the applied Pattern says -/

/-- The context record, where a Pattern defines the context. -/
def ctxRec (s : State) (c : Nat) : Option CtxRec := s.plan.pattern.bind fun p => mapFind p.ctxs c

/-- Does the context read in strict mode (12 Table 12-7); no context reads in deferred mode (07 R198). -/
def isStrict (s : State) (c : Nat) : Bool := match ctxRec s c with | some r => r.strict | none => false

/-- The gang record of a gang number. -/
def gangRec (s : State) (g : Nat) : Option GangRec := s.plan.pattern.bind fun p => p.gangs[g]?

/-- Columns of a gang shape (03 Table 03-5). -/
def gangCols (log2 : Nat) : Nat := if log2 = 0 then 1 else if log2 ≤ 2 then 2 else 4

/-- The logical tiles of a gang in gang-index order (03 R99). -/
def gangTilesOf (r : GangRec) : List Nat :=
  (List.range (2 ^ r.log2)).map fun i => r.first + (i / gangCols r.log2) * 32 + i % gangCols r.log2

/-- The members of a gang number; none where no Pattern gives the gang. -/
def gangTiles (s : State) (g : Nat) : List Nat := match gangRec s g with | some r => gangTilesOf r | none => []

/-- The gang a tile belongs to, with its index. -/
def gangOfTile (s : State) (t : Nat) : Option (Nat × Nat) :=
  match s.plan.pattern with
  | none => none
  | some p =>
    (firstIdx (fun r => (gangTilesOf r).contains t) p.gangs).map fun g =>
      (g, ((p.gangs[g]?).bind fun r => firstIdx (· == t) (gangTilesOf r)).getD 0)

/-- The context a tile works for; 16 where it works for none. -/
def ctxOfTile (s : State) (t : Nat) : Nat :=
  match gangOfTile s t with
  | some (g, _) => ((gangRec s g).map (·.ctx)).getD 16
  | none => 16

/-- A tile's state. -/
def tileGet (s : State) (t : Nat) : Tile := mapGet {} s.tiles t

/-- Set a tile's state. -/
def tileSet (s : State) (t : Nat) (x : Tile) : State := { s with tiles := mapSet {} s.tiles t x }

/-- Change a tile. -/
def tileMod (s : State) (t : Nat) (f : Tile → Tile) : State := tileSet s t (f (tileGet s t))

/-- A gang's issue state. -/
def gangGet (s : State) (g : Nat) : Gang := mapGet {} s.gangs g

/-- Set a gang's issue state. -/
def gangSet (s : State) (g : Nat) (x : Gang) : State := { s with gangs := mapSet {} s.gangs g x }

/-- Change a gang. -/
def gangMod (s : State) (g : Nat) (f : Gang → Gang) : State := gangSet s g (f (gangGet s g))

/-! ### Recovery triggers (17 R425, R426) -/

/-- Has a context a gang on a die. -/
def ctxOnDie (s : State) (c d : Nat) : Bool :=
  match s.plan.pattern with | some p => p.gangs.any fun r => r.ctx == c && r.die == d | none => false

/-- Does a requested level reset the context: its own level, an engine level of one of its tiles, a partition level of a die that holds
one of its gangs, and the wider levels (17 Table 17-5). -/
def reqHolds (s : State) (c : Nat) (q : RcvReq) : Bool :=
  match q.level with
  | 1 => q.index == c
  | 2 => !q.stack && ctxOfTile s q.index == c
  | 3 => !q.stack && ctxOnDie s c q.index
  | l => l ≥ 4

/-- Is a reset of the context asked for or running. -/
def ctxInReset (s : State) (c : Nat) : Bool := s.rcv.reqs.any (reqHolds s c)

/-- The widest level in progress. -/
def widestLevel (s : State) : Nat := s.rcv.reqs.foldl (fun a q => max a q.level) 0

/-- Record a blame in RCV_BLAME and the Daybook (17 R426). -/
def recordBlame (s : State) (c trigger src detail : Nat) : State :=
  logEvent (regSet s regRcvBlame (BitVec.ofNat 64 (2 ^ 63 + c % 16 * 2 ^ 59 + trigger % 256 * 2 ^ 48 + src % 2 ^ 16 * 2 ^ 32 + detail % 2 ^ 32)))
    1 0x7001 4 c [c, trigger, src, detail]

/-- The engines that a reset request freezes until the reset: the one of an engine level, all 32 of a stack's partition level (17 R428). -/
def freezeEngines (s : State) (q : RcvReq) : State :=
  let hit := fun (e : Nat) => q.stack && ((q.level == 2 && e == q.index) || (q.level == 3 && e / 32 == q.index))
  (List.range 256).foldl (fun a e => if hit e then { a with engs := mapSet {} a.engs e { mapGet {} a.engs e with inReset := true } } else a) s

/-- Raise a recovery trigger (17 Table 17-1): the level is asked for, and the context that hardware names is blamed.  A second
trigger for a context already in reset is recorded and changes nothing else (17 Table 17-9). -/
def raiseTrigger (s : State) (q : RcvReq) (ctx : Option Nat) : State :=
  if q.level = 1 ∧ ctxInReset s q.index then logEvent s 1 0x7004 3 q.index [q.index, q.trigger]
  else
    let s1 := freezeEngines { s with rcv := { s.rcv with reqs := s.rcv.reqs ++ [q] } } q
    let s2 := regPut s1 regRcvStatus 63 60 (widestLevel s1)
    match ctx with
    | some c => recordBlame s2 c q.trigger q.src q.detail
    | none => s2

/-- Change every tile of a list. -/
def tilesMod (s : State) (ts : List Nat) (f : Tile → Tile) : State := ts.foldl (fun a t => tileMod a t f) s

/-- The package's own chip number (05 R147), 0xFFFF before a Pattern. -/
def ownChip (s : State) : Nat := match s.plan.pattern with | some p => p.chip | none => 0xFFFF

/-- The 64 KiB pages that n bytes at an offset touch; regions consist of whole pages (05 R150). -/
def pagesOf (off n : Nat) : List Nat := if n = 0 then [] else rangeFrom (off / 65536) ((off + n - 1) / 65536 - off / 65536 + 1)

/-- Do all n bytes at an offset lie in the context's own regions (05 R150). -/
def inRegions (s : State) (c off n : Nat) : Bool :=
  match s.plan.pattern with
  | some p => (pagesOf off n).all fun g => p.regions.any fun r => r.ctx == c && r.base ≤ g * 65536 && g * 65536 < r.base + r.size
  | none => false

/-- Does a line lie in a region of a sink (12 Table 12-5 attributes bit 0). -/
def lineSink (s : State) (l : Nat) : Bool :=
  match s.plan.pattern with
  | some p => p.regions.any fun r => r.sink && r.base ≤ 64 * l && 64 * l < r.base + r.size
  | none => false

/-- The context whose region holds a line; 0xFF where none does. -/
def lineOwner (s : State) (l : Nat) : Nat :=
  match s.plan.pattern with
  | some p => ((p.regions.find? fun r => r.base ≤ 64 * l && 64 * l < r.base + r.size).map (·.ctx)).getD 0xFF
  | none => 0xFF

end Sys2Proof.Machine
end

