-- ==== Sys2Proof/Machine/Ecc.lean ====
section
/-! DEFINITION. Where a line lies, the stored-data codes, and reading and writing lines and words under them
(05 R149-R153, 07 R192-R207). -/

namespace Sys2Proof.Machine

/-! ### Interleaves (05 R152) -/

/-- Stack, channel and byte within the channel of an offset; none outside the offset space. -/
def decodeOffset (s : State) (o : Nat) : Option (Nat × Nat × Nat) :=
  let e := enabledStacks s
  let k := e.length
  if o ≥ k * stackBytes then none
  else
    let u := o / 256
    match regField s (regStkMap 0) 3 0 with
    | 1 =>
      let start := fun d => ((List.range d).map fun i => (e.filter (· / 2 == i)).length * stackBytes).foldl (· + ·) 0
      let d := ((List.range 4).find? fun i => o < start (i + 1)).getD 3
      let ds := e.filter (· / 2 == d)
      let v := (o - start d) / 256
      some (at' 0 ds ((v / 32) % ds.length), v % 32, v / (32 * ds.length) * 256 + o % 256)
    | 2 =>
      let v := o % stackBytes / 256
      some (at' 0 e (o / stackBytes), v % 32, v / 32 * 256 + o % 256)
    | 3 =>
      let c := o / channelBytes
      some (at' 0 e (c / 32), c % 32, o % channelBytes)
    | _ => some (at' 0 e ((u / 32) % k), u % 32, u / (32 * k) * 256 + o % 256)

/-- Channel index 32 × stack + channel of a line; stack 0 channel 0 outside the space. -/
def chanOfLine (s : State) (l : Nat) : Nat :=
  match decodeOffset s (64 * l) with
  | some (st, ch, _) => 32 * st + ch
  | none => 0

/-- A channel arbiter's state. -/
def chanGet (s : State) (i : Nat) : Chan := mapGet {} s.chans i

/-- Set a channel arbiter's state. -/
def chanSet (s : State) (i : Nat) (c : Chan) : State := { s with chans := mapSet {} s.chans i c }

/-! ### The SRAM word code (07 R192, R193) -/

/-- How a stored word or line decodes. -/
inductive EccKind where
  | clean | dataBit | pinColumn | sideBit | uncorrectable | misdirected
  deriving DecidableEq, Repr

/-- May the data not be delivered as clean. -/
def EccKind.bad : EccKind → Bool
  | .uncorrectable => true | .misdirected => true
  | .clean => false | .dataBit => false | .pinColumn => false | .sideBit => false

/-- Was a correction made. -/
def EccKind.corrected : EccKind → Bool
  | .dataBit => true | .pinColumn => true | .sideBit => true
  | .clean => false | .uncorrectable => false | .misdirected => false

/-- The parity of the listed bits of v. -/
def parityOf (v : Nat) (is : List Nat) : Bool := is.foldl (fun p i => p != bitOf v i) false

/-- Failing rows of the 8 × 8 array under upset bits e (07 R193). -/
def sramRows (e : Nat) : List Nat :=
  (List.range 8).filter fun r => parityOf e ((64 + r) :: (List.range 8).map fun c => 8 * r + c)

/-- Failing columns. -/
def sramCols (e : Nat) : List Nat :=
  (List.range 8).filter fun c => parityOf e ((72 + c) :: (List.range 8).map fun r => 8 * r + c)

/-- Decode of a word with upset bits e: the kind, and the data bits that stay wrong in what is delivered
(07 Table 07-1). -/
def sramDecode (e : Nat) : EccKind × Nat :=
  if e = 0 then (.clean, 0)
  else
    let d := e % 2 ^ 64
    match sramRows e, sramCols e with
    | [], [] => (.clean, d)
    | [r], [c] => (.dataBit, d ^^^ 2 ^ (8 * r + c))
    | [_], [] => (.sideBit, d)
    | [], [_] => (.sideBit, d)
    | _, _ => (.uncorrectable, d)

/-- Upset bits that decode as uncorrectable and leave the data: the check-bit pattern of 07 R198 for bundles. -/
def badPattern : Nat := 3 * 2 ^ 64

/-- A number whose bits at the listed positions are set. -/
def maskOf (is : List Nat) : Nat := is.foldl (fun a i => a ||| 2 ^ i) 0

/-- Physical row and column of a logical tile, as the Pattern's application resolved it (12 R320). -/
def physOf (s : State) (t : Nat) : Nat × Nat :=
  let p := mapGet 0 s.plan.place t
  (p / 32, p % 32)

/-- Logical tiles per die (12 Table 12-8): the warranted count, 576 while no Warrant is in effect. -/
def tilesPerDie (s : State) : Nat :=
  let t := regField s regSecWarrant 31 16
  if t = 0 then 576 else t

/-- The die of a logical tile. -/
def dieOfTile (s : State) (t : Nat) : Nat := t / tilesPerDie s

/-- Find the log entry of an event, or take the lowest free one (07 R205): the index and whether it is new. -/
def logSlot (isThis isFree : Nat → Bool) : Option (Nat × Bool) :=
  match (List.range 32).find? isThis with
  | some i => some (i, false)
  | none => ((List.range 32).find? isFree).map fun i => (i, true)

/-- A tile whose SRAM fails in service becomes a Mending proposal, once: cause 1 an uncorrectable log entry, 2 corrections that reach 255
(13 R342). -/
def mendPropose (s : State) (t cause : Nat) : State :=
  let d := dieOfTile s t
  let (pr, pc) := physOf s t
  let ph := regField s regStwBoot 63 60
  if ph < 5 ∨ ph > 7 ∨ s.bring.proposals.any fun q => q.1 == d && q.2.1 == pr && q.2.2.1 == pc then s
  else
    let ps := s.bring.proposals ++ [(d, pr, pc, cause)]
    logEvent (regPut { s with bring := { s.bring with proposals := ps } } regStwMend 15 8 (min 255 ps.length)) 1 0x0004 2 0xFF [d, pr, pc, Config.mendCause cause]

/-- Does register k hold a log entry of this word (03 Table 03-16), whatever its count, rows and columns. -/
def dieEntryIs (s : State) (k kind structure_ pr pc word : Nat) : Bool :=
  regField s k 63 61 == 4 + kind && regField s k 60 58 == structure_ && regField s k 49 45 == pr && regField s k 44 40 == pc
    && regField s k 39 17 == word

/-- Record a correction or an uncorrectable read of an SRAM word in its die's log (07 R205, Table 07-14). -/
def dieLog (s : State) (t kind structure_ word rows cols : Nat) : State :=
  let d := dieOfTile s t
  let (pr, pc) := physOf s t
  match logSlot (fun i => dieEntryIs s (regDieEccLog d i) kind structure_ pr pc word) fun i => regField s (regDieEccLog d i) 63 63 == 0 with
  | none => regSatAdd s (regDieEccLogStatus d) 39 8 1
  | some (i, false) => regSatAdd s (regDieEccLog d i) 57 50 1
  | some (i, true) =>
    let e := 2 ^ 63 + kind * 2 ^ 61 + structure_ * 2 ^ 58 + 2 ^ 50 + pr * 2 ^ 45 + pc * 2 ^ 40 + word * 2 ^ 17 + rows * 2 ^ 8 + cols
    let s1 := regSet s (regDieEccLog d i) (BitVec.ofNat 64 e)
    let s2 := regPut s1 (regDieEccLogStatus d) 5 0 (regField s1 (regDieEccLogStatus d) 5 0 + 1)
    let s3 := logEvent s2 (0x20 + d) 0x2001 3 0xFF [d, word, kind]
    if kind = 3 then mendPropose s3 t 1 else s3

/-- One more corrected word of a tile (03 Table 03-16); the 255th proposes the tile. -/
def tileCorrected (s : State) (t : Nat) : State :=
  let s1 := tileMod s t fun x => { x with cntCorrected := x.cntCorrected + 1 }
  if (tileGet s1 t).cntCorrected = 255 then mendPropose s1 t 2 else s1

/-- Is a die in service (07 R199). -/
def dieInService (s : State) (d : Nat) : Bool := regField s (regDieEccCtrl d) 0 0 == 0

/-- Count and log what decoding an SRAM word of a tile gave (07 R193, R205): structure 0 scratchpad, 1 instruction
buffer. -/
def sramCount (s : State) (t structure_ word e : Nat) : State :=
  match (sramDecode e).1 with
  | .clean => s
  | .dataBit =>
    dieLog (tileCorrected s t) t 1 structure_ word
      (maskOf (sramRows e)) (maskOf (sramCols e))
  | .sideBit =>
    dieLog (tileCorrected s t) t 2 structure_ word
      (maskOf (sramRows e)) (maskOf (sramCols e))
  | _ =>
    dieLog (regAdd s (regDieEccUncorr (dieOfTile s t)) 1) t 3 structure_ word (maskOf (sramRows e)) (maskOf (sramCols e))

/-! ### Scratchpad words -/

/-- Scratchpad words of 8 bytes in a tile (03 R89). -/
def padWords : Nat := 98304

/-- The data of a scratchpad word as its cells hold it, without upsets. -/
def padRaw (x : Tile) (w : Nat) : Nat := ofBytes (mapGetList 0 x.pad (8 * w) 8)

/-- A scratchpad word as a read delivers it: data, poison, and whether it is uncorrectable. -/
def padWord (x : Tile) (w : Nat) : Nat × Bool × Bool :=
  let d := sramDecode (mapGet 0 x.padErr w)
  ((padRaw x w) ^^^ d.2, x.padPoison.contains w || d.1.bad, d.1.bad)

/-- Write one whole scratchpad word with its poison; fresh check bits, a waiting write-back cancelled (07 R192, R200). -/
def padPut (x : Tile) (w v : Nat) (p : Bool) : Tile :=
  { x with
    pad := mapSetList 0 x.pad (8 * w) (bytesOf 8 v)
    padErr := mapDel x.padErr w
    padPoison := if p then setInsert x.padPoison w else setErase x.padPoison w
    fix := setErase x.fix w }

/-- Write successive words of (value, poison). -/
def padPutWords : Tile → Nat → List (Nat × Bool) → Tile
  | x, _, [] => x
  | x, w, (v, p) :: l => padPutWords (padPut x w v p) (w + 1) l

/-- Cut bytes into 8-byte words; fuel is the number of words. -/
def wordsOf : Nat → List Byte → List Nat
  | 0, _ => []
  | n + 1, bs => ofBytes (bs.take 8) :: wordsOf n (bs.drop 8)

/-- What a read of n scratchpad words does in the store: each correction and uncorrectable read is counted and logged;
in service a corrected word waits for its write-back and an uncorrectable one is marked poisoned (07 R199-R202). -/
def padReadEffects (s : State) (t w n : Nat) : State :=
  (rangeFrom w n).foldl (fun a i =>
    let e := mapGet 0 (tileGet a t).padErr i
    if e = 0 then a
    else
      let k := (sramDecode e).1
      let b := sramCount a t 0 i e
      if !dieInService a (dieOfTile a t) then b
      else if k.bad then tileMod b t fun x => padPut x i (padRaw x i ^^^ (e % 2 ^ 64)) true
      else if k.corrected then tileMod b t fun x => { x with fix := setInsert x.fix i }
      else b) s

/-- Words read for a consumer: values, poisons, and whether any is uncorrectable. -/
def padReadWords (x : Tile) (w n : Nat) : List (Nat × Bool) × Bool :=
  let l := (rangeFrom w n).map (padWord x)
  (l.map fun v => (v.1, v.2.1), l.any fun v => v.2.2)

/-! ### DRAM lines (07 R195-R205) -/

/-- Upset of data pin c in beat b. -/
def pinBit (e b c : Nat) : Bool := bitOf e (8 * (4 * b + c / 8) + c % 8)

/-- Upset of side pin 32 + p in beat b. -/
def sideBitOf (e p b : Nat) : Bool := bitOf e (512 + 16 * p + b)

/-- Failing column parities F_c. -/
def lineCols (e : Nat) : List Nat :=
  (List.range 32).filter fun c =>
    (List.range 16).foldl (fun p b => p != pinBit e b c) (sideBitOf e (1 + c / 16) (c % 16))

/-- Failing row parities F_r: side pin 32 covers the data pins and side pin 35 (07 Table 07-2). -/
def lineRows (e : Nat) : List Nat :=
  (List.range 16).filter fun b =>
    (List.range 32).foldl (fun p c => p != pinBit e b c) (sideBitOf e 0 b != sideBitOf e 3 b)

/-- In which bits the stored address check differs from the check recomputed under the stored poison bit. -/
def addrDiff (e : Nat) : Nat :=
  ((List.range 8).foldl (fun a b => a + bit (sideBitOf e 3 b) * 2 ^ (7 - b)) 0) ^^^ (bit (sideBitOf e 3 8) * 0xFF)

/-- The reserved side bits that read 1: beats 9 to 15 of side pin 35. -/
def reservedOn (e : Nat) : List Nat := (rangeFrom 9 7).filter (sideBitOf e 3)

/-- What decoding a line gives: the kind, the data bits that stay wrong, whether the delivered poison bit differs from
the line's own, F_r and F_c. -/
structure LineDecode where
  kind : EccKind
  residual : Nat
  poisonFlip : Bool
  rows : List Nat
  cols : List Nat
  deriving DecidableEq, Repr

/-- Decode of a line with upset bits e (07 Table 07-3, rows in order). -/
def lineDecodeBits (e : Nat) : LineDecode :=
  let fc := lineCols e
  let fr := lineRows e
  let match_ := addrDiff e == 0
  let res0 := (reservedOn e).isEmpty
  let d := e % 2 ^ 512
  let pf := sideBitOf e 3 8
  let bad : LineDecode := ⟨.uncorrectable, d, pf, fr, fc⟩
  match fc, fr with
  | [], [] =>
    if match_ then (if res0 then ⟨.clean, d, pf, fr, fc⟩ else bad)
    else ⟨.misdirected, d, pf, fr, fc⟩
  | [_], [] => if match_ && res0 then ⟨.sideBit, d, pf, fr, fc⟩ else bad
  | [c], bs =>
    let fixed := bs.foldl (fun a b => a ^^^ 2 ^ (8 * (4 * b + c / 8) + c % 8)) d
    if match_ && res0 then ⟨if bs.length = 1 then .dataBit else .pinColumn, fixed, pf, fr, fc⟩ else bad
  | [], [b] =>
    if b ≤ 7 && addrDiff e == 2 ^ (7 - b) && res0 then ⟨.sideBit, d, pf, fr, fc⟩
    else if b == 8 && addrDiff e == 0xFF && res0 then ⟨.sideBit, d, !pf, fr, fc⟩
    else if b ≥ 9 && reservedOn e == [b] && match_ then ⟨.sideBit, d, pf, fr, fc⟩
    else if match_ && res0 then ⟨.sideBit, d, pf, fr, fc⟩
    else bad
  | _, _ => bad

/-- Decode of a line: one that no bit is upset in is clean. -/
def lineDecode (e : Nat) : LineDecode := if e = 0 then ⟨.clean, 0, false, [], []⟩ else lineDecodeBits e

/-- CRC-8 of a 34-bit line address, from bit 33 down, generator x^8 + x^2 + x + 1 (07 R196). -/
def crc8Addr (a : Nat) : Nat → Nat → Nat
  | 0, c => c
  | i + 1, c =>
    let top := bitOf c 7 != bitOf a i
    crc8Addr a i ((c * 2 % 256) ^^^ (bit top * 0x07))

/-- The stored address check of a line (07 R196): inverted where the line is poisoned. -/
def addrCheck (stack channel index : Nat) (poisoned : Bool) : Nat :=
  crc8Addr (stack * 2 ^ 31 + channel * 2 ^ 26 + index) 34 0 ^^^ (bit poisoned * 0xFF)

/-- Bytes with upset bits applied. -/
def xorBytes : List Byte → Nat → List Byte
  | [], _ => []
  | b :: bs, e => (b ^^^ BitVec.ofNat 8 e) :: xorBytes bs (e / 256)

/-- The log kind of a line (07 Table 07-11). -/
def lineLogKind : EccKind → Nat
  | .clean => 0 | .dataBit => 1 | .pinColumn => 2 | .sideBit => 3 | .uncorrectable => 4 | .misdirected => 5

/-- Record an event in a stack's correction log (07 R205, Tables 07-11 and 07-12). -/
def stackLog (s : State) (n l : Nat) (d : LineDecode) : State :=
  let kind := lineLogKind d.kind
  let same := fun i =>
    let a := regGet s (regEccLogA n i)
    fieldOf a 63 63 == 1 && fieldOf a 62 60 == kind && fieldOf a 47 0 == 64 * l
  match logSlot same fun i => regField s (regEccLogA n i) 63 63 == 0 with
  | none => regSatAdd s (regEccLogStatus n) 39 8 1
  | some (i, false) => regSatAdd s (regEccLogA n i) 55 48 1
  | some (i, true) =>
    let s1 := regSet s (regEccLogA n i) (BitVec.ofNat 64 (2 ^ 63 + kind * 2 ^ 60 + 2 ^ 48 + 64 * l))
    let s2 := regSet s1 (regEccLogB n i) (BitVec.ofNat 64 (maskOf d.rows * 2 ^ 48 + maskOf d.cols * 2 ^ 16))
    let s3 := regPut s2 (regEccLogStatus n) 5 0 (regField s2 (regEccLogStatus n) 5 0 + 1)
    logEvent s3 (0x10 + n) 0x2001 3 0xFF [n, 64 * l, kind]

/-- Is a stack in service (07 R199). -/
def stackInService (s : State) (n : Nat) : Bool := regField s (regEccCtrl n) 0 0 == 0

/-- The class-0 request of a line's write-back (05 Table 05-7); its id is the line. -/
def wbRequest (c : Chan) (l : Nat) : ChanReq := ⟨17, 0, 1, l, c.cycle, c.cycle + 1⟩

/-- Queue a line's write-back at its channel and ask for its class-0 grant, or count it as skipped where eight wait (07 R200). -/
def queueWriteBack (s : State) (l : Nat) (mark : Bool) : State :=
  let i := chanOfLine s l
  let c := chanGet s i
  if c.wb.any fun w => w.line == l then s
  else if c.wb.length < 8 then chanSet s i { c with wb := c.wb ++ [⟨l, mark⟩], pend := c.pend ++ [wbRequest c l] }
  else regAdd s (regEccWbSkip (i / 32)) 1

/-- Count and log what reading a line found (07 R205). -/
def lineReadCount (s : State) (l : Nat) : State :=
  let d := lineDecode (mapGet 0 s.lineErr l)
  let n := chanOfLine s l / 32
  if d.kind = .clean then s
  else
    let s1 := regAdd s (if d.kind.bad then regEccUncorr n else regEccCorr n) 1
    stackLog (if d.kind = .misdirected then regAdd s1 (regEccAddr n) 1 else s1) n l d

/-- Count, log and, in service, queue the write-back of what reading a line found (07 R199-R202, R205). -/
def lineReadEffects (s : State) (l : Nat) : State :=
  let e := mapGet 0 s.lineErr l
  if e = 0 then s
  else
    let d := lineDecode e
    if d.kind = .clean then s
    else if stackInService s (chanOfLine s l / 32) then queueWriteBack (lineReadCount s l) l d.kind.bad
    else lineReadCount s l

/-- A line as a read delivers it: bytes, poison, and whether it is uncorrectable (07 R197, R198). -/
def lineData (s : State) (l : Nat) : List Byte × Bool × Bool :=
  let e := mapGet 0 s.lineErr l
  let raw := memRead s (64 * l) 64
  if e = 0 then (raw, linePoisoned s l, false)
  else
    let d := lineDecode e
    (xorBytes raw d.residual, (linePoisoned s l != d.poisonFlip) || d.kind.bad, d.kind.bad)

/-- Lines read one after the other: the state after their effects. -/
def linesReadEffects (s : State) (ls : List Nat) : State := ls.foldl lineReadEffects s

/-- A channel without a line's write-back and its request. -/
def dropWriteBack (c : Chan) (l : Nat) : Chan :=
  { c with wb := c.wb.filter (fun w => w.line != l), pend := c.pend.filter fun q => !(q.ctx == 17 && q.id == l) }

/-- Drop a line's waiting write-back: a newer write carries fresh side bits (07 R200). -/
def cancelWriteBack (s : State) (l : Nat) : State :=
  let i := chanOfLine s l
  let c := chanGet s i
  if c.wb.any fun w => w.line == l then regAdd (chanSet s i (dropWriteBack c l)) (regEccWbSkip (i / 32)) 1 else s

/-- Write a line whole, with its poison and fresh side bits (07 R200, R203). -/
def lineStore (s : State) (l : Nat) (bs : List Byte) (p : Bool) : State :=
  let s1 := cancelWriteBack s l
  setLinePoison { (memPutBytes s1 (64 * l) bs) with lineErr := mapDel s1.lineErr l } l p

/-- Write part of a line from byte o: the rest is kept, merged with the line as read where it is uncorrectable, and the
poison is the OR of the old and the new (07 R203). -/
def linePart (s : State) (l o : Nat) (bs : List Byte) (p : Bool) : State :=
  let old := lineData s l
  let s1 := lineReadEffects s l
  lineStore s1 l (old.1.take o ++ bs ++ old.1.drop (o + bs.length)) (old.2.1 || p)

/-- Store bytes at an offset, line by line; poisoned names the lines that receive poisoned words; fuel is the number of
lines.  Offsets above the offset space are backed by nothing (05 R149) and keep nothing. -/
def memStoreLines (poisoned : Nat → Bool) : Nat → State → Nat → List Byte → State
  | 0, s, _, _ => s
  | n + 1, s, off, bs =>
    if bs.isEmpty then s
    else
      let l := off / 64
      let o := off % 64
      let piece := bs.take (64 - o)
      let s1 :=
        if off ≥ spaceBytes s then s
        else if o = 0 ∧ piece.length = 64 then lineStore s l piece (poisoned l)
        else linePart s l o piece (poisoned l)
      memStoreLines poisoned n s1 (off + piece.length) (bs.drop (64 - o))

/-- Store bytes at an offset with per-line poison. -/
def memStore (s : State) (off : Nat) (bs : List Byte) (poisoned : Nat → Bool) : State :=
  memStoreLines poisoned (bs.length / 64 + 2) s off bs

/-- Store clean bytes (the Steward's own writes). -/
def memStoreClean (s : State) (off : Nat) (bs : List Byte) : State := memStore s off bs fun _ => false

/-- Bytes at an offset as a read delivers them, their lines' poison, and whether any line is uncorrectable. -/
def memLoad (s : State) (off n : Nat) : List Byte × Bool × Bool :=
  let ls := (linesOf off n).map (lineData s)
  (slice (ls.flatMap (·.1)) (off % 64) n, ls.any (·.2.1), ls.any (·.2.2))

/-- Add upset bits to a stored line: what the environment did to its cells before a read. -/
def upsetLine (s : State) (l e : Nat) : State := { s with lineErr := mapSet 0 s.lineErr l (mapGet 0 s.lineErr l ^^^ e) }

/-- Add upset bits to scratchpad or instruction-buffer words: (structure, word, bits) with structure 0 the scratchpad and
1 the instruction buffer (index 8 × bundle + word). -/
def upsetTile (x : Tile) (u : Nat × Nat × Nat) : Tile :=
  if u.1 = 0 then { x with padErr := mapSet 0 x.padErr u.2.1 (mapGet 0 x.padErr u.2.1 ^^^ u.2.2 % 2 ^ 80) }
  else { x with ibufErr := mapSet 0 x.ibufErr u.2.1 (mapGet 0 x.ibufErr u.2.1 ^^^ u.2.2 % 2 ^ 80) }

/-- Apply the upsets of a command: (tile, structure, word, bits). -/
def upsetTiles (s : State) (us : List (Nat × Nat × Nat × Nat)) : State :=
  us.foldl (fun a u => tileMod a u.1 fun x => upsetTile x u.2) s

end Sys2Proof.Machine
end

