-- ==== Sys2Proof/Machine/Packets.lean ====
section
/-! DEFINITION. Packets of the fabric: head words, kinds and their channels, and the packets that agents send
(08 R212-R216). -/

namespace Sys2Proof.Machine

/-- The virtual channel of a packet kind (08 Table 08-4); none for a reserved kind. -/
def kindVc : Nat → Option Nat
  | 0x01 => some 0 | 0x02 => some 0 | 0x03 => some 1 | 0x04 => some 1 | 0x05 => some 0 | 0x06 => some 1 | 0x07 => some 1
  | 0x08 => some 3 | 0x09 => some 2 | 0x0A => some 2 | 0x0B => some 4 | 0x0C => some 5 | _ => none

/-- Words 0 to 4 of a head (08 Table 08-3). -/
def headLow (p : Packet) : List Nat :=
  [ p.dst % 2 ^ 16 * 2 ^ 48 + p.src % 2 ^ 16 * 2 ^ 32 + p.srcCtx % 16 * 2 ^ 28 + p.dstCtx % 16 * 2 ^ 24 + p.vc % 8 * 2 ^ 21
      + p.kind % 32 * 2 ^ 16 + p.flits % 64 * 2 ^ 10 + bit p.mcast * 2 ^ 9 + bit p.group * 2 ^ 8 + p.rsv % 256,
    p.twinSeq % 2 ^ 32 * 2 ^ 32 + p.srcTag % 2 ^ 16 * 2 ^ 16 + p.dstTile % 2 ^ 16,
    p.channel % 256 * 2 ^ 56 + p.status % 256 * 2 ^ 48 + p.offset % 2 ^ 48,
    p.members % 2 ^ 64,
    p.origin % 2 ^ 16 * 2 ^ 48 + p.rsv / 256 % 2 ^ 35 * 2 ^ 13 + p.bytes % 2 ^ 13 ]

/-- The 16 words of a head flit. -/
def headWords (p : Packet) : List Nat := headLow p ++ (p.ext.map BitVec.toNat ++ List.replicate 11 0).take 11

/-- The head fields that 16 words spell. -/
def packetOfWords (ws : List Nat) : Packet :=
  let w := fun i => at' 0 ws i
  { dst := bitsOf (w 0) 63 48, src := bitsOf (w 0) 47 32, srcCtx := bitsOf (w 0) 31 28, dstCtx := bitsOf (w 0) 27 24,
    vc := bitsOf (w 0) 23 21, kind := bitsOf (w 0) 20 16, flits := bitsOf (w 0) 15 10, mcast := bitOf (w 0) 9,
    group := bitOf (w 0) 8, twinSeq := bitsOf (w 1) 63 32, srcTag := bitsOf (w 1) 31 16, dstTile := bitsOf (w 1) 15 0,
    channel := bitsOf (w 2) 63 56, status := bitsOf (w 2) 55 48, offset := bitsOf (w 2) 47 0, members := w 3,
    origin := bitsOf (w 4) 63 48, bytes := bitsOf (w 4) 12 0, rsv := bitsOf (w 0) 7 0 + bitsOf (w 4) 47 13 * 256,
    ext := ((ws.drop 5).take 11).map (BitVec.ofNat 64) }

/-- A head extension word of a packet (word 5 is index 0). -/
def extWord (p : Packet) (i : Nat) : Nat := (at' 0 p.ext i).toNat

/-- Payload flits of n bytes. -/
def flitsOf (n : Nat) : Nat := (n + 127) / 128

/-- The payload as 128-byte flits, zero-filled. -/
def payloadFlits (p : Packet) : List (List Byte) :=
  chunksOf 128 (flitsOf p.payload.length) (p.payload ++ zeros (flitsOf p.payload.length * 128 - p.payload.length))

/-- Is any payload flit poisoned. -/
def payloadPoisoned (p : Packet) : Bool := p.poison / 2 != 0

/-- Is the payload byte at index i in a poisoned flit. -/
def bytePoisoned (p : Packet) (i : Nat) : Bool := bitOf p.poison (1 + i / 128)

/-- The poison mask of payload flits from a per-byte mark: flit i + 1 is poisoned where one of its bytes is. -/
def flitPoison (n : Nat) (marked : Nat → Bool) : Nat :=
  (List.range (flitsOf n)).foldl (fun a f => if (List.range 128).any fun j => f * 128 + j < n && marked (f * 128 + j)
    then a + 2 ^ (f + 1) else a) 0

/-- Complete a packet: its channel, flits and bytes from its kind and payload (08 R212, R214). -/
def finishPacket (p : Packet) : Packet :=
  { p with vc := (kindVc p.kind).getD 0, flits := flitsOf p.payload.length, bytes := p.payload.length }

/-- The internal port of a unit (08 Table 08-1): tile side and memory side of a die, strum units, Steward, PCI Express
controller, router agent. -/
def portTile (die : Nat) : Nat := 18 + 2 * die
def portMem (die : Nat) : Nat := 19 + 2 * die
def portStrum : Nat := 26
def portSteward : Nat := 27
def portHost : Nat := 28
def portAgent : Nat := 29

/-- The agent number of a packet's twin sequence (17 R440): the tile, the strum units, or the Steward. -/
def twinAgent (port : Nat) (p : Packet) : Nat :=
  if port = portStrum then 0xFFE else if port < portStrum ∧ p.origin < 0xFFE then p.origin else 0xFFF

/-- Is the package one of a twin pair (17 R438, R449). -/
def isTwin (s : State) : Bool := regField s regRcvTwin 47 45 != 0

/-- Give a packet that a twin originates on VC0, VC2 or VC3 its sequence number (17 R440): the count runs from 1 and
skips 0 when it wraps. -/
def twinStamp (s : State) (port : Nat) (p : Packet) : State × Packet :=
  if isTwin s && (p.vc == 0 || p.vc == 2 || p.vc == 3) then
    let a := twinAgent port p
    let n := mapGet 0 s.twin.counts (8 * a + p.vc) % (2 ^ 20 - 1) + 1
    ({ s with twin := { s.twin with counts := mapSet 0 s.twin.counts (8 * a + p.vc) n } }, { p with twinSeq := a * 2 ^ 20 + n })
  else (s, p)

/-- Hand a packet to the router at an internal port. -/
def inject (s : State) (port : Nat) (p : Packet) : State :=
  let (s1, q) := twinStamp s port p
  emit s1 (.inject port q)

/-- Hand packets to the router in order. -/
def injectAll (s : State) (port : Nat) (ps : List Packet) : State := ps.foldl (fun a p => inject a port p) s

/-- Add an output item of a step to its context's digest (17 R443): the low 128 bits of its SHA-384, modulo 2^128. -/
def twinItem (s : State) (ctx : Nat) (item : List Byte) : State :=
  if isTwin s then
    let h := ofBytesBE ((sha384 item).drop 32)
    { s with twin := { s.twin with digest := mapSet 0 s.twin.digest ctx ((mapGet 0 s.twin.digest ctx + h) % 2 ^ 128) } }
  else s

/-- The digest items of lines written (17 R443, type 0x01): endpoint, offset, poison, data. -/
def twinLines (s : State) (ctx chip off : Nat) (bs : List Byte) (poisoned : Nat → Bool) : State :=
  if isTwin s then
    ((chunksOf 64 (bs.length / 64) bs).zip (List.range (bs.length / 64))).foldl (fun a (l, i) =>
      twinItem a ctx ([1] ++ bytesOf 2 chip ++ bytesOf 6 (off + 64 * i) ++ bytesOf 1 (bit (poisoned i)) ++ l)) s
  else s

/-- A memory read request of a tile (08 Table 08-4, 0x02): its bytes field says how much to read. -/
def readRequest (s : State) (t ctx tk chip off n : Nat) : Packet :=
  { (finishPacket {
    dst := chip, src := ownChip s, srcCtx := ctx, dstCtx := ctx, kind := 0x02, srcTag := tk,
    offset := off, origin := t }) with bytes := n }

/-- Cut a transfer into pieces of up to 4,096 bytes: (offset from its start, length); fuel is the number of pieces. -/
def piecesOf : Nat → Nat → Nat → List (Nat × Nat)
  | 0, _, _ => []
  | k + 1, o, n => if n = 0 then [] else (o, min n 4096) :: piecesOf k (o + 4096) (n - min n 4096)

/-- The pieces of a transfer of n bytes (04 R138). -/
def pieces (n : Nat) : List (Nat × Nat) := piecesOf (n / 4096 + 1) 0 n

/-- A write acknowledgement or landed-message acknowledgement (08 Table 08-4, 0x04). -/
def ackPacket (s : State) (p : Packet) (status : Nat) : Packet :=
  finishPacket {
    dst := p.src, src := ownChip s, srcCtx := p.dstCtx, kind := 0x04, srcTag := p.srcTag,
    dstTile := p.origin, status := status, twinSeq := 0 }

/-- A refusal that answers a packet (08 R232). -/
def refusalPacket (s : State) (p : Packet) (status : Nat) : Packet :=
  finishPacket {
    dst := p.src, src := ownChip s, kind := 0x07, srcTag := p.srcTag, dstTile := p.origin, channel := p.channel,
    offset := p.offset, status := status, ext := [BitVec.ofNat 64 (p.dst % 2 ^ 16 * 2 ^ 48 + p.kind % 32 * 2 ^ 43)] }

/-- A channel credit, or a restore that carries the depth (08 R216). -/
def creditPacket (s : State) (chip sender receiver chan n : Nat) (restore : Bool) : Packet :=
  finishPacket {
    dst := chip, src := ownChip s, srcCtx := ctxOfTile s receiver % 16, kind := 0x06,
    dstTile := sender, channel := chan, origin := receiver,
    ext := [BitVec.ofNat 64 (n * 2 ^ 56 + bit restore * 2 ^ 55)] }

end Sys2Proof.Machine
end

