-- ==== Sys2Proof/Machine/StrumCore.lean ====
section
/-! DEFINITION. The strum units: tokens, generations, partials, results (09 R239-R251, R467; 02 R67, R76-R78). -/

namespace Sys2Proof.Machine

/-! ### Combining payloads (09 R240) -/

/-- Split bytes into elements of n bytes; fuel is the number of elements. -/
def elemsOf (n : Nat) (bs : List Byte) : List Nat := (chunksOf n (bs.length / n) bs).map ofBytes

/-- Elements of n bytes back to bytes. -/
def elemBytes (n : Nat) (es : List Nat) : List Byte := es.flatMap (bytesOf n)

/-- Combine two lists of elements position by position. -/
def zipElems (f : Nat → Nat → Nat) : List Nat → List Nat → List Nat
  | a :: as, b :: bs => f a b :: zipElems f as bs
  | _, _ => []

/-- Combine two working values of a strum: FP32 lists for a floating sum, containers for a long sum, elements of the
contribution format else (operations of 04 Table 04-15). -/
def strumCombine (op fmt : Nat) (x y : List Byte) : List Byte :=
  match op with
  | 1 =>
    if fmt = 8 then
      elemBytes 16 (zipElems (fun a b => lsContainer (lsAdd (lsOfContainer a) (lsOfContainer b))) (elemsOf 16 x) (elemsOf 16 y))
    else elemBytes 4 (zipElems fp32Add (elemsOf 4 x) (elemsOf 4 y))
  | 2 =>
    match fmtOfCode fmt with
    | some f => elemBytes (f.width / 8) (zipElems (fmtMin f) (elemsOf (f.width / 8) x) (elemsOf (f.width / 8) y))
    | none => x
  | 3 =>
    match fmtOfCode fmt with
    | some f => elemBytes (f.width / 8) (zipElems (fmtMax f) (elemsOf (f.width / 8) x) (elemsOf (f.width / 8) y))
    | none => x
  | 4 => elemBytes 1 (zipElems (· &&& ·) (elemsOf 1 x) (elemsOf 1 y))
  | 5 => elemBytes 1 (zipElems (· ||| ·) (elemsOf 1 x) (elemsOf 1 y))
  | 6 => elemBytes 1 (zipElems (· ^^^ ·) (elemsOf 1 x) (elemsOf 1 y))
  | _ => []

/-- A contribution as a working value: BF16 sums are widened to FP32 (09 R240). -/
def strumWiden (op fmt : Nat) (x : List Byte) : List Byte :=
  if op = 1 ∧ fmt = 1 then elemBytes 4 ((elemsOf 2 x).map (· * 2 ^ 16)) else x

/-- The root's one rounding of a BF16 sum (09 R240). -/
def strumNarrow (op fmt : Nat) (x : List Byte) : List Byte :=
  if op = 1 ∧ fmt = 1 then
    elemBytes 2 ((elemsOf 4 x).map fun v => (encodeNum .bf16 .nearest 0 false (decodeNum .fp32 v)).1)
  else x

/-- Fold working values from left to right in listed order (09 R240). -/
def strumFold (op fmt : Nat) : List (List Byte) → List Byte
  | [] => []
  | x :: xs => xs.foldl (strumCombine op fmt) x

/-- Do the anchors of a long-sum value's containers agree with another's (02 R62): where not, the addition fails as for a
residue mismatch (02 Table 02-8). -/
def anchorsAgree (op fmt : Nat) (xs : List (List Byte)) : Bool :=
  if op = 1 ∧ fmt = 8 then
    match xs with
    | [] => true
    | x :: ys =>
      let anchors := fun v => (elemsOf 16 v).map fun c => (lsOfContainer c).anchor
      ys.all fun y => anchors y == anchors x
  else true

/-- Do all containers of an arriving long-sum payload pass the residue check (02 R77). -/
def residuesOk (op fmt : Nat) (x : List Byte) : Bool :=
  if op = 1 ∧ fmt = 8 then (elemsOf 16 x).all lsResidueOk else true

/-! ### Groups -/

/-- The record of a group the Pattern defines. -/
def groupRec (s : State) (g : Nat) : Option GroupRec := s.plan.pattern.bind fun p => mapFind p.groups g

/-- A group's state. -/
def groupGet (s : State) (g : Nat) : StrumGroup := mapGet {} s.strum.groups g

/-- Set a group's state. -/
def groupSet (s : State) (g : Nat) (x : StrumGroup) : State :=
  { s with strum := { s.strum with groups := mapSet {} s.strum.groups g x } }

/-- Fields of COL_GROUP_CFG in a record (09 Table 09-12). -/
def GroupRec.tree (r : GroupRec) : Nat := fieldOf r.cfg 58 47
def GroupRec.owner (r : GroupRec) : Nat := fieldOf r.cfg 62 59
def GroupRec.isRoot (r : GroupRec) : Bool := fieldOf r.cfg 32 32 == 1
def GroupRec.waitNs (r : GroupRec) : Nat := fieldOf r.cfg 31 16 * 1000
def GroupRec.deadlineNs (r : GroupRec) : Nat := fieldOf r.cfg 15 0 * 1000

/-- The group on this package that holds a tree number. -/
def groupOfTree (s : State) (tree : Nat) : Option Nat :=
  s.plan.pattern.bind fun p => (p.groups.find? fun e => e.2.tree == tree).map (·.1)

/-- The context that owns a member gang. -/
def gangCtx (s : State) (g : Nat) : Nat := ((gangRec s g).map (·.ctx)).getD 16

/-- Insert a chip into an ascending list that may repeat chips. -/
def insertChip : List Nat → Nat → List Nat
  | [], x => [x]
  | a :: l, x => if x < a then x :: a :: l else a :: insertChip l x

/-- Write the entry of 02 R78 to the Daybook: unit class 1 strum unit, 2 bulk-collective adder and 4 lane adder of a tile, 3 engine; what
identifies the operation; the predicted and the observed residue, none for an anchor mismatch (log entry 30). -/
def logResidue (s : State) (cls unit_ ctx : Nat) (ident : Nat × Nat) (res : Option (Nat × Nat)) : State :=
  let source := if cls = 1 then 0x61 else if cls = 3 then 0x10 + unit_ / 32 else 0x20 + dieOfTile s unit_
  logEvent s source 0x4001 4 ctx
    [Config.unitClass cls, unit_, ctx, Config.operationWord cls ident.1 ident.2, Config.residueWord res s.book.next]

/-- The residue field and the residue of the bits of the first container whose two differ (02 R77). -/
def badResidue (xs : List Byte) : Option (Nat × Nat) :=
  ((elemsOf 16 xs).find? fun c => !lsResidueOk c).map fun c => (bitsOf c 113 108, residue63 (c % 2 ^ 108))

/-- The number of the generation that a node opens next: the one after the newest it holds. -/
def nextGen (x : StrumGroup) : Nat := (x.gens.getLast?.map fun k => (k.gen + 1) % 2 ^ 16).getD x.next

/-- Refresh COL_GROUP_STATUS.open_gen and contributed for a group (09 Table 09-13). -/
def groupStatus (s : State) (g : Nat) : State :=
  let x := groupGet s g
  let (num, n) := match x.gens.find? fun k => !k.sent with
    | some k => (k.gen, (k.tokens.filter fun t => !t.lost).length)
    | none => (nextGen x, 0)
  regPut (regPut s (regGroupStatus g) 63 48 num) (regGroupStatus g) 8 0 n

/-- Members a generation accounts for. -/
def coveredOf (k : StrumGen) : Nat := k.tokens.length + (k.partials.map (·.covered)).foldl (· + ·) 0

/-- Members a node must account for: its local members and its children's subtrees. -/
def wholeOf (r : GroupRec) : Nat := r.members.length + (r.children.map (·.2)).foldl (· + ·) 0

/-- A fresh generation with the members that are absent declared lost (09 R245, Table 09-5). -/
def openGen (s : State) (r : GroupRec) (num : Nat) : StrumGen :=
  let gone := r.members.filter fun m => s.strum.absent.contains (gangCtx s m)
  ⟨num, none, false, gone.map fun m => ⟨m, true, false, false, []⟩, [], gone.length,
    gone.map fun _ => ownChip s, s.clock + r.waitNs, false⟩

/-- May a new generation open: a node holds at most two, and a token that needs a third breaks the Balance (09 R244; log entry 20). -/
def mayOpen (x : StrumGroup) : Bool := x.gens.length ≤ 1

/-- A strum head (09 R242, Table 09-2). -/
def strumPacket (s : State) (r : GroupRec) (dst ttype outcome covered : Nat) (k : StrumGen) (payload : List Byte)
    (poison : Bool) : Packet :=
  let (op, fmt, len) := k.kind.getD (0, 0, 0)
  let w5 := r.tree * 2 ^ 52 + k.gen % 2 ^ 16 * 2 ^ 36 + ttype * 2 ^ 34 + op * 2 ^ 30 + fmt * 2 ^ 26
    + (len / 8 - 1) * 2 ^ 21 + outcome * 2 ^ 19
  let w6 := covered % 2 ^ 16 * 2 ^ 48 + k.lostCount % 2 ^ 16 * 2 ^ 32
  let chips := (k.lostChips ++ List.replicate 32 0xFFFF).take 32
  let lost := (chunksFour chips).map fun q => BitVec.ofNat 64 q
  finishPacket {
    dst := dst, src := ownChip s, srcCtx := r.owner, kind := 0x08, payload := payload,
    poison := if poison then flitPoison payload.length fun _ => true else 0,
    ext := [BitVec.ofNat 64 w5, BitVec.ofNat 64 w6] ++ lost ++ [0] }
where
  /-- four 16-bit chip numbers to a word -/
  chunksFour : List Nat → List Nat
    | a :: b :: c :: d :: l => (a + b * 2 ^ 16 + c * 2 ^ 32 + d * 2 ^ 48) :: chunksFour l
    | _ => []

/-- The node's value and whether it is poisoned: the fold of local tokens, then of the partials, in listed order; an
anchor mismatch fails like a residue mismatch (02 R62, R78). -/
def genValue (r : GroupRec) (k : StrumGen) : List Byte × Bool :=
  let (op, fmt, _) := k.kind.getD (0, 0, 0)
  let locals := r.members.filterMap fun m => (k.tokens.find? fun t => t.member == m && !t.lost).map fun t => strumWiden op fmt t.payload
  let kids := r.children.filterMap fun c => (k.partials.find? fun p => p.child == c.1 && !p.lost && p.outcome != 1).map (·.payload)
  let xs := locals ++ kids
  (strumFold op fmt xs, k.broken || (k.tokens.any (·.poison)) || (k.partials.any fun p => p.poison || p.outcome == 2)
    || !anchorsAgree op fmt xs)

/-- The outcome field of a generation: member-lost before poisoned (09 R243, R248). -/
def genOutcome (k : StrumGen) (poisoned : Bool) : Nat := if k.lostCount ≠ 0 then 1 else if poisoned then 2 else 0

/-- Count and log a break by an anchor mismatch in this node's fold. -/
def anchorCheck (s : State) (g : Nat) (r : GroupRec) (k : StrumGen) : State :=
  let (op, fmt, _) := k.kind.getD (0, 0, 0)
  let xs := (k.tokens.filter fun t => !t.lost).map (·.payload) ++ (k.partials.filter fun p => !p.lost && p.outcome != 1).map (·.payload)
  if anchorsAgree op fmt xs then s
  else logResidue (regAdd s regColResidue 1) 1 g r.owner (g, k.gen) none

/-- The chips a result goes to: every child in listed order, both twins of a child whose partial carried a twin sequence
(17 R442). -/
def resultChips (r : GroupRec) (k : StrumGen) : List Nat :=
  r.children.flatMap fun c => if k.partials.any fun p => p.child == c.1 && p.twin then [c.1, c.1 ^^^ 1] else [c.1]

/-- A node whose count is whole, or whose wait expired, sends its partial upward; the root closes the generation, sends the
result to every child in listed order and keeps it for its own members (09 R245). -/
def sendUp (s : State) (g : Nat) (r : GroupRec) (k : StrumGen) : State :=
  let s := anchorCheck s g r k
  let (val, poisoned) := genValue r k
  let out := genOutcome k poisoned
  let x := groupGet s g
  let (op, fmt, _) := k.kind.getD (0, 0, 0)
  if r.isRoot then
    let result := if out = 1 then [] else strumNarrow op fmt val
    let pk := fun dst => strumPacket s r dst 2 out (coveredOf k) k result (out == 2)
    let s1 := ((resultChips r k).filter (· != ownChip s)).foldl (fun a c => inject a portStrum (pk c)) s
    let s2 := groupSet s1 g { x with gens := x.gens.filter fun q => q.gen != k.gen, results := x.results ++ [pk (ownChip s)],
                                     next := nextGen x }
    if out = 1 then
      logEvent s2 0x61 0x4002 2 r.owner [r.tree, k.gen, k.lostCount, ofBytes ((k.lostChips.take 4).flatMap (bytesOf 2)), 0]
    else s2
  else
    let pk := strumPacket s r r.parent 1 out (coveredOf k) k (if out = 1 then [] else val) (out == 2)
    let gens := x.gens.map fun q => if q.gen = k.gen then { k with sent := true } else q
    inject (groupSet s g { x with gens := gens, next := nextGen x }) portStrum pk

/-- Replace a generation of a group, or send it where its count is whole. -/
def putGen (s : State) (g : Nat) (r : GroupRec) (k : StrumGen) : State :=
  let x := groupGet s g
  let gens := if x.gens.any fun q => q.gen == k.gen then x.gens.map fun q => if q.gen = k.gen then k else q
    else x.gens ++ [k]
  let s1 := groupSet s g { x with gens := gens }
  groupStatus (if coveredOf k ≥ wholeOf r ∧ !k.sent then sendUp s1 g r k else s1) g

/-- A break of the token balance (01 R41, 09 R244): counted, logged, and the newest generation ends poisoned. -/
def strumBreak (s : State) (g member : Nat) : State :=
  let x := groupGet s g
  let num := (x.gens.getLast?.map (·.gen)).getD x.next
  let s1 := logEvent (regAdd s regColBreak 1) 0x61 0x3003 4 (((groupRec s g).map GroupRec.owner).getD 0xFF) [g, num, member]
  let gens := x.gens.map fun q => if q.gen = num then { q with broken := true } else q
  groupSet s1 g { (groupGet s1 g) with gens := gens }

/-- Tokens that agree keep the generation's kind; the first that disagrees poisons it and is named (09 R245). -/
def agreeKind (s : State) (g member : Nat) (k : StrumGen) (kind : Nat × Nat × Nat) : State × StrumGen :=
  match k.kind with
  | none => (s, { k with kind := some kind })
  | some q =>
    if q = kind ∨ k.broken then (s, if q = kind then k else { k with broken := true })
    else
      (logEvent s 0x61 0x4003 4 (((groupRec s g).map GroupRec.owner).getD 0xFF) [g, k.gen, member], { k with broken := true })

/-- Where a member's token goes (09 R244). -/
inductive TokenPlace where
  | into (gen : Nat) | late (gen : Nat) | opens | breaks
  deriving DecidableEq, Repr

/-- The oldest generation that still lacks the member, a held one that lost it, a new one, or a break. -/
def placeToken (m : Nat) (x : StrumGroup) : List StrumGen → TokenPlace
  | [] => if mayOpen x then .opens else .breaks
  | k :: ks =>
    match k.tokens.find? fun t => t.member == m with
    | none => if k.sent then placeToken m x ks else .into k.gen
    | some t => if t.lost ∧ k.sent ∧ !t.late then .late k.gen else placeToken m x ks

/-- Add a member's ticket. -/
def addTicket (s : State) (g : Nat) (t : StrumTicket) : State :=
  let x := groupGet s g
  groupSet s g { x with tickets := x.tickets ++ [t] }

/-- A member contributes (09 R244, R245): kind is (operation, format, bytes).  Answers the generation its ticket waits for
(0x10000: none, it waits for its deadline alone, log entry 20). -/
def strumContribute (s : State) (g m : Nat) (kind : Nat × Nat × Nat) (payload : List Byte) (poison steward : Bool) :
    State × Nat :=
  match groupRec s g with
  | none => (s, 0x10000)
  | some r =>
    let x := groupGet s g
    let ticket := fun n => (⟨m, n, s.clock + r.deadlineNs, steward, false⟩ : StrumTicket)
    let place := fun (a : State) (k : StrumGen) =>
      let (b, k1) := agreeKind a g m k kind
      let k2 := { k1 with tokens := k1.tokens ++ [⟨m, false, false, poison, payload⟩] }
      (putGen (addTicket (regAdd b regColTokens 1) g (ticket k.gen)) g r k2, k.gen)
    match placeToken m x x.gens with
    | .into n =>
      match x.gens.find? fun k => k.gen == n with
      | some k => place s k
      | none => (s, 0x10000)
    | .late n =>
      let gens := x.gens.map fun k =>
        if k.gen = n then { k with tokens := k.tokens.map fun t => if t.member = m then { t with late := true } else t } else k
      (addTicket (groupSet (regAdd s regColLate 1) g { x with gens := gens }) g (ticket n), n)
    | .opens =>
      let k := openGen s r (nextGen x)
      if k.tokens.any fun t => t.member == m then
        -- absent contexts' members do not contribute; their token is late in the generation that opens (09 R249)
        (addTicket (putGen (regAdd (regAdd s regColLate 1) regColTokens k.tokens.length) g r k) g (ticket k.gen), k.gen)
      else place (regAdd (groupSet s g { x with gens := x.gens ++ [k] }) regColTokens k.tokens.length) k
    | .breaks => (addTicket (strumBreak s g m) g (ticket 0x10000), 0x10000)

/-- Declare the members that p accepts lost in a generation, naming this package's chip (09 R246, Table 09-5). -/
def declareLost (s : State) (r : GroupRec) (k : StrumGen) (p : Nat → Bool) : State × StrumGen :=
  let gone := r.members.filter fun m => p m && !k.tokens.any fun t => t.member == m
  (regAdd s regColTokens gone.length,
    { k with tokens := k.tokens ++ gone.map fun m => ⟨m, true, false, false, []⟩,
             lostCount := k.lostCount + gone.length,
             lostChips := gone.foldl (fun l _ => insertChip l (ownChip s)) k.lostChips })

/-- Declare the members that p accepts lost in every open generation of a group that is still collecting (09 Table 09-5). -/
def groupLose (s : State) (g : Nat) (r : GroupRec) (p : Nat → Bool) : State :=
  (groupGet s g).gens.foldl (fun a k =>
    if k.sent then a
    else
      let (b, k1) := declareLost a r k p
      if k1.tokens.length = k.tokens.length then a else putGen b g r k1) s

/-- Declare every member that p accepts lost in every group of the package. -/
def strumLose (s : State) (p : Nat → Bool) : State :=
  match s.plan.pattern with
  | none => s
  | some pat => pat.groups.foldl (fun a e => groupLose a e.1 e.2 p) s

/-- STRUM_WAIT_EXPIRY at a node (09 R246): the collecting generation whose timer has run out loses its missing members and
subtrees and is sent. -/
def strumExpire (s : State) (g : Nat) : State :=
  match groupRec s g with
  | none => s
  | some r =>
    match (groupGet s g).gens.find? fun k => !k.sent && k.expiry ≤ s.clock with
    | none => s
    | some k =>
      let (s1, k1) := declareLost s r k fun _ => true
      let quiet := r.children.filter fun c => !k1.partials.any fun p => p.child == c.1
      let n := (quiet.map (·.2)).foldl (· + ·) 0
      let k2 := { k1 with
        partials := k1.partials ++ quiet.map fun c => ⟨c.1, true, c.2, c.2, 1, false, [], false⟩,
        lostCount := k1.lostCount + n,
        lostChips := quiet.foldl (fun l c => insertChip l c.1) k1.lostChips }
      putGen (regAdd s1 regColTokens n) g r k2

/-- Fields of a strum head (09 Table 09-2). -/
def strumTree (p : Packet) : Nat := bitsOf (extWord p 0) 63 52
def strumGenNo (p : Packet) : Nat := bitsOf (extWord p 0) 51 36
def strumType (p : Packet) : Nat := bitsOf (extWord p 0) 35 34
def strumKind (p : Packet) : Nat × Nat × Nat :=
  (bitsOf (extWord p 0) 33 30, bitsOf (extWord p 0) 29 26,
    if bitsOf (extWord p 0) 33 30 = 0 then 8 else 8 * (bitsOf (extWord p 0) 25 21 + 1))
def strumOutcome (p : Packet) : Nat := bitsOf (extWord p 0) 20 19
def strumCovered (p : Packet) : Nat := bitsOf (extWord p 1) 63 48
def strumLostCount (p : Packet) : Nat := bitsOf (extWord p 1) 47 32

/-- The lost chips a head names. -/
def strumLostChips (p : Packet) : List Nat :=
  ((List.range 32).map fun i => bitsOf (extWord p (2 + i / 4)) (16 * (i % 4) + 15) (16 * (i % 4))).filter (· != 0xFFFF)

/-- Is a strum packet malformed, or for a tree no group holds (09 R467). -/
def strumMalformed (s : State) (p : Packet) : Bool :=
  (groupOfTree s (strumTree p)).isNone || strumType p == 0 || strumType p == 3 || strumOutcome p == 3

/-- Discard a malformed strum packet (09 R467). -/
def strumDiscard (s : State) (p : Packet) : State :=
  logEvent (regAdd s regColMalformed 1) 0x61 0x4004 3 0xFF [p.src, strumTree p]

/-- How far a 16-bit generation number lies from another, going up. -/
def genAhead (a b : Nat) : Nat := (a + 2 ^ 16 - b % 2 ^ 16) % 2 ^ 16

/-- A child's partial joins its generation (09 R245, R249). -/
def strumPartial (s : State) (p : Packet) : State :=
  if strumMalformed s p || strumType p != 1 then strumDiscard s p
  else
    match groupOfTree s (strumTree p) with
    | none => s
    | some g =>
      match groupRec s g with
      | none => s
      | some r =>
        let x := groupGet s g
        let num := strumGenNo p
        -- a twin's partial is that of the single child the record names (17 R442)
        let twin := p.twinSeq != 0
        let child := if twin && !r.children.any fun c => c.1 == p.src then p.src ^^^ 1 else p.src
        if !r.children.any fun c => c.1 == child then strumBreak s g p.src
        else
          let kind := strumKind p
          let okResidue := residuesOk kind.1 kind.2.1 p.payload
          let entry : StrumPartial :=
            ⟨child, false, strumCovered p, strumLostCount p, strumOutcome p, payloadPoisoned p || !okResidue, p.payload, twin⟩
          let add := fun (a : State) (k : StrumGen) =>
            let a1 := if okResidue then a
              else logResidue (regAdd a regColResidue 1) 1 g r.owner (g, k.gen) (badResidue p.payload)
            let (b, k1) := agreeKind a1 g p.src k kind
            putGen (regAdd b regColTokens 1) g r
              { k1 with partials := k1.partials ++ [entry], lostCount := k1.lostCount + entry.lostCount,
                        lostChips := (strumLostChips p).foldl insertChip k1.lostChips }
          match x.gens.find? fun k => k.gen == num with
          | some k =>
            if twin && k.partials.any fun q => q.child == child && q.twin then s
            else if k.sent then regAdd s regColLate 1
            else if k.partials.any fun q => q.child == child then strumBreak s g p.src
            else add s k
          | none =>
            let ahead := genAhead num (nextGen x)
            if ahead = 0 ∧ mayOpen x then
              let k := openGen s r num
              add (regAdd (groupSet s g { x with gens := x.gens ++ [k] }) regColTokens k.tokens.length) k
            else if ahead ≥ 2 ^ 15 then regAdd s regColLate 1
            else strumBreak s g p.src

/-! ### Delivering a result -/

/-- The ticket code of an outcome (09 Table 09-3). -/
def outcomeCode (outcome : Nat) : Nat := if outcome = 0 then 2 else if outcome = 1 then 8 else 3

/-- Write bytes to a tile's scratchpad in whole words with one poison mark. -/
def padWriteBytes (x : Tile) (off : Nat) (bs : List Byte) (poison : Bool) : Tile :=
  padPutWords x (off / 8) ((wordsOf ((bs.length + 7) / 8) bs).map fun v => (v, poison))

/-- End a ticket slot of a tile with a code. -/
def endTicket (x : Tile) (tk code : Nat) : Tile := { x with tick := mapSet 0 x.tick tk code, ops := mapDel x.ops tk }

/-- Deliver a result to one tile: every strum ticket of the group and generation ends; the result is written at its dst. -/
def strumToTile (g num outcome : Nat) (payload : List Byte) (x : Tile) : Tile :=
  x.ops.foldl (fun a e =>
    match e.2 with
    | .strum g' n dst len =>
      if g' = g ∧ n = num then
        let b := if outcome = 1 ∨ payload.isEmpty then a else padWriteBytes a dst (payload.take len) (outcome == 2)
        endTicket b e.1 (outcomeCode outcome)
      else a
    | _ => a) x

/-- End the strum tickets of a group and generation in a tile with a code, and write nothing. -/
def strumEndTile (g num code : Nat) (x : Tile) : Tile :=
  x.ops.foldl (fun a e =>
    match e.2 with
    | .strum g' n _ _ => if g' = g ∧ n = num then endTicket a e.1 code else a
    | _ => a) x

/-- Record a result in the group's registers (09 Tables 09-13 and 09-14). -/
def recordResult (s : State) (g num outcome lost : Nat) (chips : List Nat) : State :=
  let st := regGroupStatus g
  let s1 := regPut (regPut (regPut s st 47 32 num) st 31 30 outcome) st 23 16 (min 255 lost)
  if outcome = 1 then
    (List.range 32).foldl (fun a i => regPut a (regGroupLost g (i / 4)) (16 * (i % 4) + 15) (16 * (i % 4)) (at' 0xFFFF chips i)) s1
  else s1

/-- What a result that reached the node gives: the state after its tickets have ended, the group, and the members whose
tickets were the Steward's. -/
structure Delivered where
  state : State
  group : Nat
  gen : Nat
  outcome : Nat
  payload : List Byte
  steward : List Nat

/-- A result passes a node (09 R245, R248, R249): to the children of a node that is not the root, to the local members whose
tickets wait for it, and into the registers.  Late where the node has closed the generation. -/
def strumResult (s : State) (p : Packet) : Option Delivered :=
  match groupOfTree s (strumTree p) with
  | none => none
  | some g =>
    match groupRec s g with
    | none => none
    | some r =>
      let x := groupGet s g
      let num := strumGenNo p
      -- a payload poisoned on its way poisons the result (09 R243, Table 09-3)
      let out := if strumOutcome p = 0 ∧ payloadPoisoned p then 2 else strumOutcome p
      let deliver := fun (s1 : State) =>
        let all := (groupGet s1 g).tickets.filter fun t => t.gen == num
        let tks := all.filter fun t => !t.expired
        let s2 := tks.foldl (fun a t =>
          if t.steward then a else tilesMod a (gangTiles a t.member) (strumToTile g num out p.payload)) s1
        let y := groupGet s2 g
        let s3 := regAdd (groupSet s2 g { y with tickets := y.tickets.filter fun t => t.gen != num }) regColLate
          (all.length - tks.length)
        some ⟨groupStatus (recordResult s3 g num out (strumLostCount p) (strumLostChips p)) g, g, num, out, p.payload,
          (tks.filter (·.steward)).map (·.member)⟩
      if r.isRoot then
        if x.results.head? = some p then deliver (groupSet s g { x with results := x.results.tail }) else none
      else if x.gens.any fun k => k.gen == num then
        let chips := ((x.gens.find? fun k => k.gen == num).map (resultChips r)).getD []
        let s1 := chips.foldl (fun a c => inject a portStrum { p with dst := c, src := ownChip a, twinSeq := 0 }) s
        deliver (groupSet s1 g { x with gens := x.gens.filter fun k => k.gen != num, next := nextGen x })
      else if x.gens.isEmpty ∧ num = x.next then
        -- nothing has opened the generation here, and the parent has lost the whole subtree (09 R245, R246)
        let s1 := (r.children.map (·.1)).foldl (fun a c => inject a portStrum { p with dst := c, src := ownChip a, twinSeq := 0 }) s
        deliver (groupSet s1 g { x with next := (num + 1) % 2 ^ 16 })
      else none

/-- A result that closes nothing here: late where its generation is closed, else for a generation not open (09 R249). -/
def resultStray (s : State) (p : Packet) : State :=
  match groupOfTree s (strumTree p) with
  | some g => if genAhead (strumGenNo p) (nextGen (groupGet s g)) < 2 ^ 15 then strumBreak s g p.src else regAdd s regColLate 1
  | none => regAdd s regColLate 1

/-- A member's deadline D passes (09 R247): its ticket ends 0x9 and nothing is written.  Answers whether it was the
Steward's. -/
def strumDeadline (s : State) (g m : Nat) : State × Bool :=
  let x := groupGet s g
  match takeFirst (fun t => t.member == m && !t.expired && t.deadline ≤ s.clock) x.tickets with
  | none => (s, false)
  | some (t, others) =>
    let rest := if t.gen = 0x10000 then others else others ++ [{ t with expired := true }]
    let s1 := regPut (groupSet s g { x with tickets := rest }) (regGroupStatus g) 31 30 3
    (if t.steward then s1 else tilesMod s1 (gangTiles s1 m) (strumEndTile g t.gen 9), t.steward)

end Sys2Proof.Machine
end

