-- ==== Sys2Proof/Machine/CollCore.lean ====
section
/-! DEFINITION. Bulk collectives: starting, sending, staging, adding, storing, and ending (09 R252-R266, R466). -/

namespace Sys2Proof.Machine

/-- The record of a set the Pattern defines. -/
def setRec (s : State) (n : Nat) : Option SetRec := s.plan.pattern.bind fun p => mapFind p.sets n

/-- The guard group's tree number, which names the set across the slice (09 R252). -/
def setTree (s : State) (r : SetRec) : Nat := ((groupRec s r.guardGroup).map GroupRec.tree).getD 0

/-- The set whose guard group carries a tree number. -/
def setOfTree (s : State) (tree : Nat) : Option Nat :=
  s.plan.pattern.bind fun p => (p.sets.find? fun e => (groupRec s e.2.guardGroup).isSome && setTree s e.2 == tree).map (·.1)

/-! ### Descriptor fields (09 Table 09-6) -/

/-- Descriptor word i as a number. -/
def cWord (d : List Word) (i : Nat) : Nat := (at' 0 d i).toNat
def cOp (d : List Word) : Nat := bitsOf (cWord d 0) 63 56
def cSet (d : List Word) : Nat := bitsOf (cWord d 0) 55 48
def cFmt (d : List Word) : Nat := bitsOf (cWord d 0) 47 44
def cFmtO (d : List Word) : Nat := bitsOf (cWord d 0) 43 40
def cRop (d : List Word) : Nat := bitsOf (cWord d 0) 39 37
def cRnd (d : List Word) : Nat := bitsOf (cWord d 0) 36 35
def cSat (d : List Word) : Bool := bitOf (cWord d 0) 34
def cBs (d : List Word) : Bool := bitOf (cWord d 0) 33
def cAnchor (d : List Word) : Int := signedOf 9 (bitsOf (cWord d 0) 32 24)
def cChunkBytes (d : List Word) : Nat := 4096 * 2 ^ (bitsOf (cWord d 0) 23 20)
def cDepth (d : List Word) : Nat := bitsOf (cWord d 0) 19 17 + 1
def cRoot (d : List Word) : Nat := bitsOf (cWord d 0) 12 0
def cCount (d : List Word) : Nat := bitsOf (cWord d 3) 63 32
def cStaging (d : List Word) : Nat := bitsOf (cWord d 3) 19 0
def cSlot (d : List Word) : Nat := bitsOf (cWord d 4) 63 40
def cRecvCounts (d : List Word) : Nat := bitsOf (cWord d 4) 39 20
def cSendCounts (d : List Word) : Nat := bitsOf (cWord d 4) 19 0
def cElemBase (d : List Word) : Nat := bitsOf (cWord d 5) 31 0

/-- Is an operand in scratchpad, and its offset. -/
def cPlace (d : List Word) (i : Nat) : Bool × Nat := (bitOf (cWord d i) 63, bitsOf (cWord d i) 47 0)

/-- The input format, FP32 where the code is reserved (the start refuses it first). -/
def cFormat (d : List Word) : Fmt := (fmtOfCode (cFmt d)).getD .fp32
def cFormatO (d : List Word) : Fmt := (fmtOfCode (cFmtO d)).getD .fp32

/-- Does the operation reduce. -/
def cReduces (d : List Word) : Bool := cOp d == 1 || cOp d == 2

/-- Format, rounding and saturate rules of 09 R254: which combinations start. -/
def collFormatsOk (d : List Word) : Bool :=
  match fmtOfCode (cFmt d), fmtOfCode (cFmtO d), rndOfCode (cRnd d) with
  | some f, some fo, some _ =>
    if cReduces d then
      match cRop d with
      | 0 => (f.isNarrow || f.isWide) && fo != .e8m0 && (fo != .longSum || f.isNarrow) && (!cBs d || f.isNarrowFloat)
      | 1 => (f.isWide || f == .int8) && fo == f && !cBs d
      | 2 => (f.isWide || f == .int8) && fo == f && !cBs d
      | _ => fo == f && !cBs d
    else fo == f && (!cBs d || f.isNarrowFloat)
  | _, _, _ => false

/-- Bytes that n elements of a format take, packed (02 R58). -/
def packedBytes (f : Fmt) (n : Nat) : Nat := (n * f.width + 7) / 8

/-- Bytes per element on the wire while reducing (09 Table 09-7): 16 for containers, 4 for FP32, else the input's. -/
def wireBytes (d : List Word) (n : Nat) : Nat :=
  if cRop d = 0 then (if (cFormat d).isWide then 4 * n else 16 * n) else packedBytes (cFormat d) n

/-- The first element of shard j of E elements over N members (09 R255). -/
def shardStart (e n j : Nat) : Nat := 64 * (j * e / (64 * n))

/-- The elements [lo, hi) of part ρ of shard j, with r rings (09 R255); all-gather blocks are cut in the same way. -/
def partRange (r : SetRec) (d : List Word) (j ring : Nat) : Nat × Nat :=
  let n := r.members.length
  let k := max 1 r.rings
  let (lo, hi) := if cReduces d then (shardStart (cCount d) n j, shardStart (cCount d) n (j + 1)) else (0, cCount d)
  (lo + shardStart (hi - lo) k ring, lo + shardStart (hi - lo) k (ring + 1))

/-! ### Operands: memory, or the concatenation of the gang's scratchpads (09 R253) -/

/-- Read n bytes at byte o of an operand of total bytes. -/
def collRead (s : State) (gang : Nat) (place : Bool × Nat) (total o n : Nat) : List Byte × Bool :=
  if place.1 then
    let ts := gangTiles s gang
    let per := ceilDiv total (max 1 ts.length)
    let cell := fun i =>
      let x := tileGet s (at' 0 ts ((o + i) / max 1 per))
      let a := place.2 + (o + i) % max 1 per
      let w := padWord x (a / 8)
      (BitVec.ofNat 8 (w.1 / 2 ^ (8 * (a % 8))), w.2.1)
    let cs := (List.range n).map cell
    (cs.map (·.1), cs.any (·.2))
  else
    let l := memLoad s (place.2 + o) n
    (l.1, l.2.1)

/-- Write bytes at byte o of an operand of total bytes. -/
def collWrite (s : State) (gang : Nat) (place : Bool × Nat) (total o : Nat) (bs : List Byte) (poison : Bool) : State :=
  if place.1 then
    let ts := gangTiles s gang
    let per := ceilDiv total (max 1 ts.length)
    (bs.zip (List.range bs.length)).foldl (fun a (b, i) =>
      tileMod a (at' 0 ts ((o + i) / max 1 per)) fun x =>
        let q := place.2 + (o + i) % max 1 per
        let w := padWord x (q / 8)
        padPut x (q / 8) (putBits w.1 (8 * (q % 8) + 7) (8 * (q % 8)) b.toNat) (w.2.1 && o % 8 != 0 || poison)) s
  else memStore s (place.2 + o) bs fun _ => poison

/-- A member's own values of elements [lo, hi) as wire bytes (09 R259), with their poison. -/
def ownWire (s : State) (run : CollRun) (lo hi : Nat) : List Byte × Bool :=
  let d := run.desc
  let f := cFormat d
  let e := cCount d
  let total := packedBytes f e
  let n := hi - lo
  let (bs, p) := collRead s run.gang (cPlace d 1) total (packedBytes f lo) (packedBytes f n)
  let v := ofBytes bs
  let el := fun i => (v / 2 ^ (f.width * i)) % 2 ^ f.width
  if cReduces d ∧ cRop d = 0 then
    if f.isWide then
      (elemBytes 4 ((List.range n).map fun i => if f = .bf16 then el i * 2 ^ 16 else el i), p)
    else
      let scaleAt := (total + 63) / 64 * 64
      let (ks, pk) := if cBs d then collRead s run.gang (cPlace d 1) (scaleAt + e / 32) (scaleAt + lo / 32) (n / 32) else ([], false)
      (elemBytes 16 ((List.range n).map fun i =>
        lsContainer (lsOfNarrow (cAnchor d) (decodeNum f (el i)) (if cBs d then some (at' 0 ks (i / 32)).toNat else none))), p || pk)
  else (bs, p)

/-- Own value ⊕ arriving value (09 R240, R256): the bytes, and whether an anchor differed. -/
def wireAdd (d : List Word) (own arriving : List Byte) : List Byte × Bool :=
  if cRop d = 0 then
    let fmt := if (cFormat d).isWide then 0 else 8
    (strumCombine 1 fmt own arriving, !anchorsAgree 1 fmt [own, arriving])
  else (strumCombine (cRop d + 1) (cFmt d) own arriving, false)

/-- The Fret key of a collective's final conversion (09 R259). -/
def collKey (s : State) (r : SetRec) : Nat := 0xFFFE0000 + setTree s r

/-- Convert reduced wire bytes of elements from lo on to fmt_o (09 R259). -/
def collFinal (s : State) (r : SetRec) (run : CollRun) (lo : Nat) (w : List Byte) : List Byte × Bool :=
  let d := run.desc
  if cRop d ≠ 0 then (w, false)
  else
    let fo := cFormatO d
    let mode := (rndOfCode (cRnd d)).getD .nearest
    let step := (tileGet s ((gangTiles s run.gang).headD 0)).step
    let seed := (s.plan.pattern.map (·.seed)).getD 0
    let draw := fun i => fret seed step (collKey s r) ((cElemBase d + lo + i) % 2 ^ 32)
    if fo = .longSum then (w, false)
    else
      let size := if (cFormat d).isWide then 4 else 16
      let es := elemsOf size w
      let cs := (es.zip (List.range es.length)).map fun (e, i) =>
        if size = 4 then encodeNum fo mode (draw i) (cSat d) (decodeNum .fp32 e)
        else lsConvert fo mode (draw i) (cSat d) (lsOfContainer e)
      let v := (cs.map (·.1)).foldr (fun e a => e + a * 2 ^ fo.width) 0
      (bytesOf (packedBytes fo es.length) v, cs.any (·.2))

/-! ### Rings and trees -/

/-- Position of a member in a ring order. -/
def ringPos (o : List Nat) (m : Nat) : Nat := (firstIdx (· == m) o).getD 0

/-- The member after m in a ring order. -/
def ringNext (o : List Nat) (m : Nat) : Nat := at' 0 o ((ringPos o m + 1) % max 1 o.length)

/-- A ring order of the set. -/
def ringOrder (r : SetRec) (ring : Nat) : List Nat := at' [] r.orders ring

/-- The parent of a tree member (0xFFFF at the root). -/
def treeParent (r : SetRec) (m : Nat) : Nat := at' 0xFFFF (at' [] r.orders 0) m

/-- The children of a tree member in ascending set index (09 R252). -/
def treeChildren (r : SetRec) (m : Nat) : List Nat :=
  (List.range r.members.length).filter fun i => treeParent r i == m

/-- Cut a part's wire bytes into chunks, ready to go to dest. -/
def chunksOut (d : List Word) (phase ring shard : Nat) (dest : Option Nat) (bs : List Byte) (poison : Bool) : List CollOut :=
  let c := cChunkBytes d
  let n := ceilDiv bs.length c
  ((chunksOf c n bs).zip (List.range n)).map fun (b, i) => ⟨phase, ring, shard, i, dest, b, poison⟩

/-- The elements that chunk number i of a part begins with. -/
def chunkElem (d : List Word) (i : Nat) : Nat :=
  let c := cChunkBytes d
  if cReduces d ∧ cRop d = 0 then i * c / (if (cFormat d).isWide then 4 else 16) else i * c * 8 / (cFormat d).width

/-- What a member begins to send at its COLL (09 R256-R258). -/
def collBegin (s : State) (r : SetRec) (run : CollRun) : List CollOut :=
  let d := run.desc
  let n := r.members.length
  let ring := r.algorithm == 0
  match cOp d with
  | 3 =>
    (List.range (max 1 r.rings)).flatMap fun ρ =>
      let (lo, hi) := partRange r d run.me ρ
      let (bs, p) := ownWire s run lo hi
      chunksOut d 2 ρ run.me (if ring then some (ringNext (ringOrder r ρ) run.me) else none) bs p
  | 4 =>
    let f := cFormat d
    let counts := (List.range n).map fun j =>
      let x := tileGet s ((gangTiles s run.gang).headD 0)
      ofBytes (mapGetList 0 x.pad (cSendCounts d + 4 * j) 4)
    let total := packedBytes f (counts.foldl (· + ·) 0)
    (rangeFrom 1 (n - 1)).flatMap fun k =>
      let j := (run.me + k) % n
      let lo := (counts.take j).foldl (· + ·) 0
      let (bs, p) := collRead s run.gang (cPlace d 1) total (packedBytes f lo) (packedBytes f (at' 0 counts j))
      let cs := chunksOut d 2 0 run.me (some j) bs p
      if bs.length % cChunkBytes d = 0 then cs ++ [⟨2, 0, run.me, cs.length, some j, [], p⟩] else cs
  | 5 =>
    if cRoot d = run.me then
      let (bs, p) := ownWire s run 0 (cCount d)
      chunksOut d 2 0 run.me none bs p
    else []
  | _ =>
    if ring then
      (List.range n).flatMap fun j =>
        (List.range (max 1 r.rings)).flatMap fun ρ =>
          let o := ringOrder r ρ
          if ringNext o j = run.me then
            let (lo, hi) := partRange r d j ρ
            let (bs, p) := ownWire s run lo hi
            chunksOut d 0 ρ j (some (ringNext o run.me)) bs p
          else []
    else if (treeChildren r run.me).isEmpty then
      (List.range n).flatMap fun j =>
        let (lo, hi) := partRange r d j 0
        let (bs, p) := ownWire s run lo hi
        chunksOut d 0 0 j (some (treeParent r run.me)) bs p
    else []

/-- Bytes a member will store at dst; all-to-all: the senders whose blocks it awaits. -/
def collNeed (r : SetRec) (run : CollRun) : Nat :=
  let d := run.desc
  let n := r.members.length
  let fo := cFormatO d
  match cOp d with
  | 1 => packedBytes fo (cCount d)
  | 2 => packedBytes fo (shardStart (cCount d) n (run.me + 1) - shardStart (cCount d) n run.me)
  | 3 => n * packedBytes (cFormat d) (cCount d)
  | 4 => n
  | _ => packedBytes (cFormat d) (cCount d)

/-- Total bytes of the dst operand. -/
def collDstBytes (r : SetRec) (run : CollRun) : Nat :=
  let d := run.desc
  match cOp d with
  | 4 => r.members.length * packedBytes (cFormat d) (cSlot d)
  | _ => collNeed r run

/-- Replace a run. -/
def runPut (s : State) (run : CollRun) : State :=
  { s with coll := { s.coll with runs := s.coll.runs.map fun q => if q.set = run.set ∧ q.gang = run.gang then run else q } }

/-- The run of a set at a member gang. -/
def runGet (s : State) (set gang : Nat) : Option CollRun := s.coll.runs.find? fun q => q.set == set && q.gang == gang

/-- Store bytes at dst and count them off. -/
def collStore (s : State) (r : SetRec) (run : CollRun) (o : Nat) (bs : List Byte) (poison : Bool) : State :=
  let s1 := collWrite s run.gang (cPlace run.desc 2) (collDstBytes r run) o bs poison
  runPut s1 { run with left := run.left - bs.length, flags := run.flags ||| bit poison }

/-- Copy a member's own block to its own dst (09 R256, R258: all-gather and broadcast of its own block, all-to-all to
itself). -/
def collSelf (s : State) (r : SetRec) (run : CollRun) : State :=
  let d := run.desc
  match cOp d with
  | 3 =>
    let (bs, p) := ownWire s run 0 (cCount d)
    collStore s r run (run.me * packedBytes (cFormat d) (cCount d)) bs p
  | 4 =>
    let f := cFormat d
    let x := tileGet s ((gangTiles s run.gang).headD 0)
    let counts := (List.range r.members.length).map fun j => ofBytes (mapGetList 0 x.pad (cSendCounts d + 4 * j) 4)
    let mine := at' 0 counts run.me
    let lo := (counts.take run.me).foldl (· + ·) 0
    let total := packedBytes f (counts.foldl (· + ·) 0)
    let (bs, p) := collRead s run.gang (cPlace d 1) total (packedBytes f lo) (packedBytes f mine)
    let kept := bs.take (packedBytes f (cSlot d))
    let s1 := collWrite s run.gang (cPlace d 2) (collDstBytes r run) (run.me * packedBytes f (cSlot d)) kept p
    let s2 := tilesMod s1 (gangTiles s run.gang) fun y =>
      { y with pad := mapSetList 0 y.pad (cRecvCounts d + 4 * run.me) (bytesOf 4 mine) }
    runPut s2 { run with left := run.left - 1, flags := run.flags ||| bit p ||| (bit (mine > cSlot d) * 16) }
  | 5 =>
    if cRoot d = run.me then
      let (bs, p) := ownWire s run 0 (cCount d)
      collStore s r run 0 bs p
    else s
  | _ => s

/-- Has the member's last chunk landed and left (09 R261). -/
def collFinished (run : CollRun) : Bool := run.left == 0 && run.out.isEmpty

/-- Contribute the guard flags (09 R261): an or of 8 bytes by the member's collective engine. -/
def collGuard (s : State) (run : CollRun) : State :=
  match setRec s run.set with
  | none => s
  | some r =>
    if run.contributed then s
    else
      (strumContribute (runPut s { run with contributed := true, out := [], staged := [], gather := [] }) r.guardGroup run.gang
        (5, 0, 8) (bytesOf 8 run.flags) false true).1

/-- Start a collective at a member gang (09 R254): the format check, its own block, its first chunks. -/
def collStart (s : State) (set gang : Nat) (d : List Word) : State :=
  match setRec s set with
  | none => s
  | some r =>
    let endAll := fun (a : State) (code : Nat) => tilesMod a (gangTiles a gang) fun x =>
      x.ops.foldl (fun y e => match e.2 with
        | .coll n _ => if n = set then endTicket y e.1 code else y
        | _ => y) x
    if !collFormatsOk d then endAll s 0xB
    else
      match firstIdx (fun m => m.1 == ownChip s && m.2 == gang) r.members with
      | none => s
      | some me =>
        let run : CollRun := ⟨set, gang, me, d, s.clock, [], [], [], 0, [], 0, false, none⟩
        let run1 := { run with left := collNeed r run }
        let s1 := { s with coll := { s.coll with runs := s.coll.runs ++ [run1] } }
        let s2 := collSelf s1 r run1
        match runGet s2 set gang with
        | none => s2
        | some run2 => runPut s2 { run2 with out := collBegin s r run2 }

/-- COLL at issue: the collective starts, or waits for an earlier one on its set at that member (09 R254). -/
def collIssue (s : State) (set gang : Nat) (d : List Word) : State :=
  if (runGet s set gang).isSome then { s with coll := { s.coll with waiting := s.coll.waiting ++ [(set, gang, d)] } }
  else collStart s set gang d

/-- COLL_QUEUED_START (09 R254): the oldest waiting COLL of a set at a member starts once no collective runs there. -/
def collQueued (s : State) (set gang : Nat) : State :=
  if (runGet s set gang).isSome then s
  else
    match takeFirst (fun w => w.1 == set && w.2.1 == gang) s.coll.waiting with
    | none => s
    | some (w, rest) => collStart { s with coll := { s.coll with waiting := rest } } set gang w.2.2

/-! ### Sending -/

/-- The path a chunk's flight is counted on (09 R260): its ring, or the tree path of its destination. -/
def collPath (r : SetRec) (c : CollOut) : Nat :=
  if r.algorithm = 0 ∧ c.dest.isSome then c.ring else 8 + c.dest.getD 8191

/-- The packets of a chunk (09 R466). -/
def chunkPackets (s : State) (r : SetRec) (run : CollRun) (c : CollOut) : List Packet :=
  let (chip, gang) := match c.dest with
    | some j => at' (0, 0) r.members j
    | none => (0, run.gang)
  let tiles := gangTiles s gang
  let dstTile := at' 0 tiles (c.chunk % max 1 tiles.length)
  let isGroup := r.mcast < 4096
  let w5 := setTree s r * 2 ^ 52 + c.phase * 2 ^ 50 + c.ring * 2 ^ 47 + c.shard * 2 ^ 34 + run.me * 2 ^ 21
  let ps := if c.data.isEmpty then [(0, 0)] else pieces c.data.length
  (ps.zip (List.range ps.length)).map fun ((o, n), i) =>
    finishPacket {
      dst := if c.dest.isSome then chip else if isGroup then 0 else ownChip s / 64 * 64,
      src := ownChip s, srcCtx := r.owner, kind := 0x09, mcast := c.dest.isNone, group := c.dest.isNone && isGroup,
      members := if c.dest.isNone then r.mcast else 0, dstTile := dstTile,
      origin := (gangTiles s run.gang).headD 0,
      payload := slice c.data o n, poison := if c.poison then flitPoison n fun _ => true else 0,
      ext := [BitVec.ofNat 64 w5, BitVec.ofNat 64 (c.chunk * 2 ^ 32 + i * 2 ^ 24)] }

/-- CHUNK_SEND (09 R260): the first chunk whose path has fewer than depth chunks in flight is sent as packets. -/
def collSend (s : State) (set gang : Nat) : State :=
  match runGet s set gang, setRec s set with
  | some run, some r =>
    if run.contributed ∨ run.stopBy.isSome then s
    else
      match takeFirst (fun c => mapGet 0 run.inflight (collPath r c) < cDepth run.desc) run.out with
      | none => s
      | some (c, rest) =>
        let k := collPath r c
        let flight := if c.dest.isSome then mapSet 0 run.inflight k (mapGet 0 run.inflight k + 1) else run.inflight
        let s1 := runPut s { run with out := rest, inflight := flight }
        let die := dieOfTile s ((gangTiles s gang).headD 0)
        injectAll s1 (portTile die) (chunkPackets s r run c)
  | _, _ => s

/-! ### Arriving -/

/-- Fields of a chunk head (09 R466). -/
def chTree (p : Packet) : Nat := bitsOf (extWord p 0) 63 52
def chPhase (p : Packet) : Nat := bitsOf (extWord p 0) 51 50
def chRing (p : Packet) : Nat := bitsOf (extWord p 0) 49 47
def chShard (p : Packet) : Nat := bitsOf (extWord p 0) 46 34
def chSender (p : Packet) : Nat := bitsOf (extWord p 0) 33 21
def chChunk (p : Packet) : Nat := bitsOf (extWord p 1) 63 32
def chPacket (p : Packet) : Nat := bitsOf (extWord p 1) 31 24

/-- Wire bytes of a whole part in a phase. -/
def phaseBytes (d : List Word) (phase n : Nat) : Nat :=
  if phase = 0 then wireBytes d n else if phase = 1 then packedBytes (cFormatO d) n else packedBytes (cFormat d) n

/-- Bytes of chunk number i of a part in a phase: reduced results keep the cut of the reduction (log entry 21). -/
def chunkLen (r : SetRec) (d : List Word) (phase ring shard i : Nat) : Nat :=
  let (lo, hi) := if r.algorithm = 0 ∧ cOp d ≠ 5 then partRange r d shard ring
    else if cOp d = 5 then (0, cCount d) else partRange r d shard 0
  let first := chunkElem d i
  phaseBytes d phase (min (hi - lo) (chunkElem d (i + 1)) - first)

/-- The slot credit a receiver returns when a staged chunk has been consumed (09 R260, 08 R216). -/
def slotCredit (s : State) (r : SetRec) (set : Nat) (run : CollRun) (sender ring : Nat) : Packet :=
  let (chip, gang) := at' (0, 0) r.members sender
  finishPacket {
    dst := chip, src := ownChip s, srcCtx := r.owner, kind := 0x06, channel := 0xFF,
    dstTile := (gangTiles s gang).headD 0, origin := (gangTiles s run.gang).headD 0,
    ext := [BitVec.ofNat 64 (1 * 2 ^ 56 + set * 2 ^ 48 + ring * 2 ^ 45 + run.me * 2 ^ 32)] }

/-- A reduced value at its final holder: converted, stored where dst takes it, and sent on where the operation
distributes it (09 R256, R257). -/
def collReduced (s : State) (r : SetRec) (run : CollRun) (ring shard chunk : Nat) (w : List Byte) (poison : Bool) : State :=
  let d := run.desc
  let (lo, _) := partRange r d shard (if r.algorithm = 0 then ring else 0)
  let e0 := lo + chunkElem d chunk
  let (bs, pc) := collFinal s r run e0 w
  let p := poison || pc
  let fo := cFormatO d
  let n := r.members.length
  let out := fun (dest : Option Nat) => (⟨1, ring, shard, chunk, dest, bs, p⟩ : CollOut)
  if cOp d = 1 then
    let more := if r.algorithm = 0 then [out (some (ringNext (ringOrder r ring) run.me))] else [out none]
    collStore s r { run with out := run.out ++ more } (packedBytes fo e0) bs p
  else if shard = run.me then
    collStore s r run (packedBytes fo (e0 - shardStart (cCount d) n shard)) bs p
  else runPut s { run with out := run.out ++ [out (some shard)] }

/-- A whole chunk has been staged: it is added, stored or passed on (09 R256-R258). -/
def collConsume (s : State) (r : SetRec) (run : CollRun) (c : CollIn) : State :=
  let d := run.desc
  let bs := (c.pieces.map (·.2)).flatten
  let ring := r.algorithm == 0
  let o := ringOrder r c.ring
  let (lo, hi) := partRange r d c.shard (if ring then c.ring else 0)
  let e0 := lo + chunkElem d c.chunk
  match c.phase with
  | 0 =>
    let n := min (hi - lo) (chunkElem d (c.chunk + 1)) - chunkElem d c.chunk
    let sums := cRop d == 0 && !(cFormat d).isWide
    let okRes := !sums || (elemsOf 16 bs).all lsResidueOk
    let (own, po) := ownWire s run e0 (e0 + n)
    let fail := fun (a : State) => regAdd (logResidue a 2 ((gangTiles a run.gang).headD 0) r.owner (run.set, c.chunk) (if okRes then none else badResidue bs))
      regColResidue 1
    if ring then
      let (v, differ) := wireAdd d own bs
      let bad := !okRes || differ
      let s1 := if bad then fail s else s
      let p := c.poison || po || bad
      let run1 := { run with flags := run.flags ||| bit p ||| (bit bad * 4) }
      if c.shard = run.me then collReduced (runPut s1 run1) r run1 c.ring c.shard c.chunk v p
      else runPut s1 { run1 with out := run1.out ++ [⟨0, c.ring, c.shard, c.chunk, some (ringNext o run.me), v, p⟩] }
    else
      let kids := treeChildren r run.me
      let g := (run.gather.find? fun q => q.shard == c.shard && q.chunk == c.chunk).getD ⟨c.shard, c.chunk, []⟩
      let g1 := { g with got := g.got ++ [(c.sender, bs, c.poison || !okRes)] }
      let others := run.gather.filter fun q => !(q.shard == c.shard && q.chunk == c.chunk)
      let s0 := if okRes then s else fail s
      let flags0 := run.flags ||| (bit (!okRes) * 5)
      if kids.all fun k => g1.got.any fun q => q.1 == k then
        let vals := kids.filterMap fun k => g1.got.find? fun q => q.1 == k
        let fold := vals.foldl (fun (a : List Byte × Bool) v => let w := wireAdd d a.1 v.2.1; (w.1, a.2 || w.2)) (own, false)
        let p := po || fold.2 || vals.any (·.2.2)
        let s1 := if fold.2 then fail s0 else s0
        let run1 := { run with gather := others, flags := flags0 ||| bit p ||| (bit fold.2 * 4) }
        if treeParent r run.me = 0xFFFF then collReduced (runPut s1 run1) r run1 0 c.shard c.chunk fold.1 p
        else runPut s1 { run1 with out := run1.out ++ [⟨0, 0, c.shard, c.chunk, some (treeParent r run.me), fold.1, p⟩] }
      else runPut s0 { run with gather := others ++ [g1], flags := flags0 }
  | 1 =>
    let fo := cFormatO d
    let base := if cOp d = 2 then e0 - shardStart (cCount d) r.members.length c.shard else e0
    let run1 := if ring ∧ cOp d = 1 ∧ ringNext o run.me ≠ c.shard then
        { run with out := run.out ++ [⟨1, c.ring, c.shard, c.chunk, some (ringNext o run.me), bs, c.poison⟩] }
      else run
    if cOp d = 1 ∧ c.shard = run.me ∧ ring then s else collStore s r run1 (packedBytes fo base) bs c.poison
  | _ =>
    let f := cFormat d
    match cOp d with
    | 4 =>
      let slot := packedBytes f (cSlot d)
      let at_ := c.chunk * cChunkBytes d
      let kept := bs.take (slot - at_)
      let s1 := collWrite s run.gang (cPlace d 2) (collDstBytes r run) (c.shard * slot + at_) kept c.poison
      let got := (at_ + bs.length) * 8 / f.width
      let done := bs.length < cChunkBytes d
      let s2 := if done then tilesMod s1 (gangTiles s run.gang) fun y =>
          { y with pad := mapSetList 0 y.pad (cRecvCounts d + 4 * c.shard) (bytesOf 4 got) } else s1
      runPut s2 { run with left := run.left - bit done, flags := run.flags ||| bit c.poison ||| (bit (bs.length > kept.length) * 16) }
    | 3 =>
      let block := c.shard * packedBytes f (cCount d)
      let run1 := if ring ∧ ringNext o run.me ≠ c.shard then
          { run with out := run.out ++ [⟨2, c.ring, c.shard, c.chunk, some (ringNext o run.me), bs, c.poison⟩] }
        else run
      if c.shard = run.me then s else collStore s r run1 (block + packedBytes f e0) bs c.poison
    | _ => if run.me = cRoot d then s else collStore s r run (c.chunk * cChunkBytes d) bs c.poison

/-- CHUNK_ARRIVAL (09 R260, R466): a chunk packet is staged at the member whose tile it names; a whole chunk is consumed and
its slot credit goes back. -/
def collArrive (s : State) (p : Packet) : State :=
  match setOfTree s (chTree p) with
  | none => logEvent (regAdd s regColMalformed 1) 0x61 0x4004 3 0xFF [p.src, chTree p]
  | some set =>
    match setRec s set with
    | none => s
    | some r =>
      if chShard p ≥ r.members.length ∨ chSender p ≥ r.members.length then
        logEvent (regAdd s regColMalformed 1) 0x61 0x4004 3 0xFF [p.src, chTree p]
      else
        match s.coll.runs.find? fun q => q.set == set && !q.contributed &&
            (p.mcast || (gangTiles s q.gang).contains p.dstTile) with
        | none => s
        | some run =>
          let same := fun (q : CollIn) => q.phase == chPhase p && q.ring == chRing p && q.shard == chShard p &&
            q.sender == chSender p && q.chunk == chChunk p
          let c := (run.staged.find? same).getD ⟨chPhase p, chRing p, chShard p, chSender p, chChunk p, [], false⟩
          let bs := p.payload ++ zeros (p.bytes - p.payload.length)
          let c1 := { c with pieces := mapPut c.pieces (chPacket p) bs, poison := c.poison || payloadPoisoned p || p.cut }
          let others := run.staged.filter fun q => !same q
          let run1 := { run with flags := run.flags ||| bit c1.poison ||| (bit p.cut * 2) }
          let have_ := (c1.pieces.map fun e => e.2.length).foldl (· + ·) 0
          let whole := if cOp run.desc = 4 then
              -- an all-to-all chunk ends with a packet shorter than 4 KiB, or is full (log entry 21)
              have_ == cChunkBytes run.desc || bs.length < 4096
            else have_ ≥ chunkLen r run.desc (chPhase p) (chRing p) (chShard p) (chChunk p)
          if whole then
            let run2 := { run1 with staged := others }
            let s1 := collConsume (runPut s run2) r run2 c1
            let s2 := regAdd s1 regColChunks 1
            if p.mcast then s2 else inject s2 (portTile (dieOfTile s p.dstTile)) (slotCredit s r set run (chSender p) (chRing p))
          else runPut s { run1 with staged := others ++ [c1] }

/-- SLOT_CREDIT_ARRIVAL (09 R260, 08 R216): the sender's path has one chunk less in flight.  The set is named in the
receiver's numbering, so the run is found by the sending tile and the returning member (log entry 21). -/
def collCredit (s : State) (p : Packet) : State :=
  let n := bitsOf (extWord p 0) 63 56
  let ring := bitsOf (extWord p 0) 47 45
  let back := bitsOf (extWord p 0) 44 32
  match s.coll.runs.find? fun q => (gangTiles s q.gang).contains p.dstTile &&
      (((setRec s q.set).bind fun r => r.members[back]?).map (·.1)) == some p.src with
  | none => s
  | some run =>
    match setRec s run.set with
    | none => s
    | some r =>
      let k := if r.algorithm = 0 ∧ cOp run.desc ≠ 4 then ring else 8 + back
      runPut s { run with inflight := mapSet 0 run.inflight k (mapGet 0 run.inflight k - n) }

/-! ### Ending -/

/-- The ticket code of a guard result (09 Table 09-8). -/
def collCode (outcome flags : Nat) : Nat :=
  if outcome = 1 then 8 else if bitOf flags 2 then 4 else if bitOf flags 3 then 9 else if bitOf flags 4 then 5
  else if bitOf flags 1 then 6 else if bitOf flags 0 ∨ outcome = 2 then 3 else 2

/-- End the COLL tickets of a set at a member with a code and drop the run. -/
def collEnd (s : State) (set gang code : Nat) : State :=
  let d := (runGet s set gang).map (·.desc)
  let s1 := tilesMod s (gangTiles s gang) fun x =>
    x.ops.foldl (fun y e => match e.2 with
      | .coll n w => if n = set ∧ d = some w then endTicket y e.1 code else y
      | _ => y) x
  { s1 with coll := { s1.coll with runs := s1.coll.runs.filter fun q => !(q.set == set && q.gang == gang) } }

/-- The sets whose guard group is g. -/
def setsOfGuard (s : State) (g : Nat) : List Nat :=
  match s.plan.pattern with
  | none => []
  | some p => (p.sets.filter fun e => e.2.guardGroup == g).map (·.1)

/-- A guard result reaches a member (09 R261). -/
def collGuardResult (s : State) (g gang outcome : Nat) (payload : List Byte) : State :=
  (setsOfGuard s g).foldl (fun a n =>
    if (runGet a n gang).isSome then collEnd a n gang (collCode outcome (ofBytes payload)) else a) s

/-- Stop a member's collective: its chunks are purged and it contributes with a guard flag set (09 R263-R265). -/
def collStop (s : State) (run : CollRun) (flag : Nat) : State := collGuard s { run with flags := run.flags ||| flag }

end Sys2Proof.Machine
end

