-- ==== Sys2Proof/Machine/Slots.lean ====
section
/-! DEFINITION. The native bundle encoding: slots, headers and fields (03 R81, 04 R115-R119, R123-R126, R132, R137,
R140). -/

namespace Sys2Proof.Machine

/-- Slot code of TIL_EXC.slot (03 Table 03-2). -/
def slotCode : Slot → Nat
  | .s0 => 0 | .s1 => 1 | .l0 => 2 | .l1 => 3 | .st => 4 | .v0 => 5 | .v1 => 6 | .mx => 7 | .dm => 8 | .sy => 9

/-- Lowest bundle bit of a slot. -/
def slotLo : Slot → Nat
  | .s0 => 448 | .s1 => 400 | .l0 => 352 | .l1 => 304 | .st => 256 | .v0 => 192 | .v1 => 128 | .mx => 64 | .dm => 16
  | .sy => 0

/-- Width of a slot. -/
def slotWidth : Slot → Nat
  | .s0 => 64 | .s1 => 48 | .l0 => 48 | .l1 => 48 | .st => 48 | .v0 => 64 | .v1 => 64 | .mx => 64 | .dm => 48 | .sy => 16

/-- All slots, in the order of Table 03-2. -/
def allSlots : List Slot := [.s0, .s1, .l0, .l1, .st, .v0, .v1, .mx, .dm, .sy]

/-- The bits of a slot in a bundle. -/
def slotBits (b : BitVec 512) (sl : Slot) : Nat := (b.toNat / 2 ^ slotLo sl) % 2 ^ slotWidth sl

/-- The opcode of a slot's bits: the high 8 bits, in SY the high 5 (04 R115, R140). -/
def slotOp (sl : Slot) (w : Nat) : Nat := if sl = .sy then w / 2 ^ 11 else w / 2 ^ (slotWidth sl - 8)

/-- The header of Table 04-1 in place, for a slot of width w. -/
def headerBits (w op : Nat) (gp : BitVec 4) (gn : Bool) : Nat :=
  op * 2 ^ (w - 8) + gp.toNat * 2 ^ (w - 12) + bit gn * 2 ^ (w - 13)

/-- A scalar slot's word (04 Table 04-2). -/
def encodeScalar (sl : Slot) (op : Nat) (f : ScalarFields) : Nat :=
  if sl = .s0 then
    headerBits 64 op f.gp f.gn + f.rd.toNat * 2 ^ 46 + f.rs1.toNat * 2 ^ 41 + f.rs2.toNat * 2 ^ 36 + f.imm.toNat
  else
    headerBits 48 op f.gp f.gn + f.rd.toNat * 2 ^ 30 + f.rs1.toNat * 2 ^ 25 + f.rs2.toNat * 2 ^ 20 + f.imm.toNat

/-- A load or store slot's word (04 Table 04-5). -/
def encodeMem (op : Nat) (f : MemFields) : Nat :=
  headerBits 48 op f.gp f.gn + f.reg.toNat * 2 ^ 29 + f.base.toNat * 2 ^ 24 + f.off.toNat * 2 ^ 4 + f.aux.toNat

/-- A vector slot's word (04 Table 04-7). -/
def encodeVec (op : Nat) (f : VecFields) : Nat :=
  headerBits 64 op f.gp f.gn + f.vd.toNat * 2 ^ 45 + f.va.toNat * 2 ^ 39 + f.vb.toNat * 2 ^ 33 + f.vc.toNat * 2 ^ 27
    + f.fmt.toNat * 2 ^ 23 + f.rnd.toNat * 2 ^ 21 + bit f.sat * 2 ^ 20 + f.fmt2.toNat * 2 ^ 16 + f.imm.toNat

/-- A matrix slot's word (04 Table 04-9). -/
def encodeMx (op : Nat) (f : MxFields) : Nat :=
  headerBits 64 op f.gp f.gn + bit f.bank * 2 ^ 50 + f.row.toNat * 2 ^ 45 + f.ta.toNat * 2 ^ 42 + f.asel.toNat * 2 ^ 36
    + f.tb.toNat * 2 ^ 33 + f.fmta.toNat * 2 ^ 29 + f.fmtb.toNat * 2 ^ 25 + bit f.bs * 2 ^ 24 + f.vsb.toNat * 2 ^ 18
    + f.vsa.toNat * 2 ^ 12 + f.anchor.toNat * 2 ^ 3 + f.rsv.toNat

/-- A DM slot's word (04 Table 04-12). -/
def encodeDm (op : Nat) (f : DmFields) : Nat :=
  headerBits 48 op f.gp f.gn + f.tk.toNat * 2 ^ 30 + f.ra.toNat * 2 ^ 25 + f.rb.toNat * 2 ^ 20 + f.rc.toNat * 2 ^ 15
    + f.aux.toNat

/-- An SY slot's word (04 R140). -/
def encodeSy (op : Nat) (operand : BitVec 11) : Nat := op * 2 ^ 11 + operand.toNat

/-- The fields of a scalar slot's word. -/
def decodeScalar (sl : Slot) (w : Nat) : ScalarFields :=
  if sl = .s0 then
    ⟨BitVec.ofNat 4 (w / 2 ^ 52), bitOf w 51, BitVec.ofNat 5 (w / 2 ^ 46), BitVec.ofNat 5 (w / 2 ^ 41),
      BitVec.ofNat 5 (w / 2 ^ 36), BitVec.ofNat 36 w⟩
  else
    ⟨BitVec.ofNat 4 (w / 2 ^ 36), bitOf w 35, BitVec.ofNat 5 (w / 2 ^ 30), BitVec.ofNat 5 (w / 2 ^ 25),
      BitVec.ofNat 5 (w / 2 ^ 20), BitVec.ofNat 36 (w % 2 ^ 20)⟩

/-- The fields of a load or store slot's word. -/
def decodeMem (w : Nat) : MemFields :=
  ⟨BitVec.ofNat 4 (w / 2 ^ 36), bitOf w 35, BitVec.ofNat 6 (w / 2 ^ 29), BitVec.ofNat 5 (w / 2 ^ 24),
    BitVec.ofNat 20 (w / 2 ^ 4), BitVec.ofNat 4 w⟩

/-- The fields of a vector slot's word. -/
def decodeVec (w : Nat) : VecFields :=
  ⟨BitVec.ofNat 4 (w / 2 ^ 52), bitOf w 51, BitVec.ofNat 6 (w / 2 ^ 45), BitVec.ofNat 6 (w / 2 ^ 39),
    BitVec.ofNat 6 (w / 2 ^ 33), BitVec.ofNat 6 (w / 2 ^ 27), BitVec.ofNat 4 (w / 2 ^ 23), BitVec.ofNat 2 (w / 2 ^ 21),
    bitOf w 20, BitVec.ofNat 4 (w / 2 ^ 16), BitVec.ofNat 16 w⟩

/-- The fields of a matrix slot's word. -/
def decodeMx (w : Nat) : MxFields :=
  ⟨BitVec.ofNat 4 (w / 2 ^ 52), bitOf w 51, bitOf w 50, BitVec.ofNat 5 (w / 2 ^ 45), BitVec.ofNat 3 (w / 2 ^ 42),
    BitVec.ofNat 6 (w / 2 ^ 36), BitVec.ofNat 3 (w / 2 ^ 33), BitVec.ofNat 4 (w / 2 ^ 29), BitVec.ofNat 4 (w / 2 ^ 25),
    bitOf w 24, BitVec.ofNat 6 (w / 2 ^ 18), BitVec.ofNat 6 (w / 2 ^ 12), BitVec.ofNat 9 (w / 2 ^ 3), BitVec.ofNat 3 w⟩

/-- The fields of a DM slot's word. -/
def decodeDm (w : Nat) : DmFields :=
  ⟨BitVec.ofNat 4 (w / 2 ^ 36), bitOf w 35, BitVec.ofNat 5 (w / 2 ^ 30), BitVec.ofNat 5 (w / 2 ^ 25),
    BitVec.ofNat 5 (w / 2 ^ 20), BitVec.ofNat 5 (w / 2 ^ 15), BitVec.ofNat 15 w⟩

/-- Opcodes the catalogue lists for a slot, the no-op apart (04 Tables 04-3, 04-4, 04-6, 04-8, 04-11, 04-13, 04-14). -/
def slotOps : Slot → List Nat
  | .s0 => rangeFrom 0x01 13 ++ rangeFrom 0x10 7 ++ [0x18, 0x19] ++ rangeFrom 0x20 12 ++ rangeFrom 0x40 6 ++ [0x4F]
  | .s1 => rangeFrom 0x01 13 ++ rangeFrom 0x10 7 ++ rangeFrom 0x20 12 ++ [0x30, 0x31]
  | .l0 => rangeFrom 0x01 4
  | .l1 => rangeFrom 0x01 4
  | .st => [0x01, 0x02]
  | .v0 => rangeFrom 0x01 13 ++ rangeFrom 0x10 11 ++ [0x20, 0x21, 0x22, 0x28, 0x30, 0x31]
  | .v1 => rangeFrom 0x01 13 ++ rangeFrom 0x10 11 ++ [0x20, 0x21, 0x22, 0x28, 0x30, 0x31]
  | .mx => rangeFrom 0x01 3
  | .dm => rangeFrom 0x01 7
  | .sy => rangeFrom 0x01 4

/-- Does a non-zero slot word hold an opcode of the catalogue (04 R116: anything else is an illegal opcode). -/
def slotDefined (sl : Slot) (w : Nat) : Bool := (slotOps sl).contains (slotOp sl w)

/-- The slots that hold each kind of operation; a command that names another slot finds no word of its kind there. -/
def isScalarSlot (sl : Slot) : Bool := sl == .s0 || sl == .s1
def isLoadSlot (sl : Slot) : Bool := sl == .l0 || sl == .l1
def isVecSlot (sl : Slot) : Bool := sl == .v0 || sl == .v1

/-- Is a scalar slot word a branch or END (04 Table 04-4). -/
def isBranchOp (op : Nat) : Bool := (0x40 ≤ op && op ≤ 0x45) || op == 0x4F

end Sys2Proof.Machine
end

