-- ==== Sys2Proof/Machine/Operands.lean ====
section
/-! DEFINITION. Reading the operands of a slot: registers, guards, elements and lanes, stages and rows
(03 R79, R82, R105, R106, 04 R115-R118, R125). -/

namespace Sys2Proof.Machine

/-- A scalar register with its poison; s0 reads as zero (03 Table 03-1). -/
def sReg (x : Tile) (r : Nat) : Word × Bool := if r = 0 then (0, false) else mapGet (0, false) x.scal r

/-- A predicate register; p0 reads as 1 (03 Table 03-1). -/
def pReg (x : Tile) (r : Nat) : Bool := r == 0 || x.pred.getLsbD r

/-- The guard of a slot: the predicate exclusive-or the negate bit (04 R115). -/
def guardTrue (x : Tile) (gp : BitVec 4) (gn : Bool) : Bool := pReg x gp.toNat != gn

/-- A vector register with its 64 lane marks. -/
def vReg (x : Tile) (r : Nat) : BitVec 2048 × BitVec 64 := mapGet (0, 0) x.vec r

/-- An accumulator row by index 32 × bank + row. -/
def accRow (x : Tile) (i : Nat) : AccRow := mapGet {} x.acc i

/-- A sign-extended scalar immediate: 36 bits in S0, 20 bits in S1 (04 R118). -/
def scalarImm (sl : Slot) (imm : BitVec 36) : Word :=
  if sl = .s0 then imm.signExtend 64 else (imm.setWidth 20).signExtend 64

/-- n elements of w bits from the low bits up (04 R125). -/
def elemsAt (w n v : Nat) : List Nat := (List.range n).map fun i => v / 2 ^ (w * i) % 2 ^ w

/-- Elements of w bits packed from the low bits up. -/
def packElems (w : Nat) : List Nat → Nat
  | [] => 0
  | e :: es => e % 2 ^ w + packElems w es * 2 ^ w

/-- Elements a vector register holds in a width (04 R125): 341 of six bits. -/
def vecCapacity (w : Nat) : Nat := 2048 / w

/-- The 32-bit lanes that element i of width w touches. -/
def lanesOf (w i : Nat) : List Nat := rangeFrom (w * i / 32) ((w * i + w - 1) / 32 - w * i / 32 + 1)

/-- Does element i of width w lie in a poisoned lane (03 R106). -/
def elemPoisoned (p : BitVec 64) (w i : Nat) : Bool := (lanesOf w i).any p.getLsbD

/-- The lane marks of elements of width w that are marked (03 R106). -/
def laneMarks (w : Nat) (marked : List Bool) : BitVec 64 :=
  ((marked.zip (List.range marked.length)).filter (·.1)).foldl (fun a m => (lanesOf w m.2).foldl (fun b l => b ||| 1#64 <<< l) a) 0

/-- The marks of every lane that n elements of width w fill. -/
def lanesFilled (w n : Nat) : BitVec 64 := laneMarks w (List.replicate n true)

/-- A stage as one number with its 256 word marks (03 Table 03-6). -/
def stageBits (x : Tile) (t : Nat) : Nat × Nat :=
  let ps := (List.range 8).map fun i => mapGet ((0 : BitVec 2048), (0 : BitVec 32)) x.stage (8 * t + i)
  (packElems 2048 (ps.map fun p => p.1.toNat), packElems 32 (ps.map fun p => p.2.toNat))

/-- Are any of the 8-byte words that bytes lo to lo + n - 1 touch marked. -/
def wordsMarked (marks lo n : Nat) : Bool := n != 0 && (rangeFrom (lo / 8) ((lo + n - 1) / 8 - lo / 8 + 1)).any (bitOf marks)

/-- The scratchpad address of a load or store (04 R123): the base's value plus the unsigned offset, modulo 2^64, and
whether the base is poisoned. -/
def padAddress (x : Tile) (f : MemFields) : Nat × Bool :=
  let b := sReg x f.base.toNat
  ((b.1 + f.off.setWidth 64).toNat, b.2)

/-- The top of scratchpad: offsets run to 0x000B_FFFF (03 R89). -/
def padTop : Nat := 0xC0000

/-- The bank of a scratchpad offset (03 R89). -/
def padBank (a : Nat) : Nat := a / 256 % 24

/-- The checks of 04 R123 in order: exception code where one fails. -/
def padCheck (a : Nat × Bool) (size : Nat) : Option Nat :=
  if a.2 then some 0x0A
  else if a.1 + size > padTop then some 0x04
  else if a.1 % size != 0 then some 0x03
  else none

/-- The Fret's logical tile key (02 R71): TIL_ID bits 47:16. -/
def tileKey (x : Tile) : Nat := fieldOf x.id 47 16

/-- The Fret's draw for an element of a tile's operation (02 R71): seed, running step, key, base plus position. -/
def tileDraw (s : State) (x : Tile) (base i : Nat) : Nat :=
  fret ((s.plan.pattern.map (·.seed)).getD 0) x.step (tileKey x) ((base + i) % 2 ^ 32)

end Sys2Proof.Machine
end

