-- ==== Sys2Proof/Machine/Issue.lean ====
section
/-! DEFINITION. Issue: results that take effect, slots that execute, bundles that commit or fault
(03 R81-R88, R95, R96, R99-R104, R111, 04 R115, R116, R121, R122, R137-R141). -/

namespace Sys2Proof.Machine

/-! ### Results (03 R84, R86, R88) -/

/-- The register a result goes to; none where it goes to no register of the files, or to s0 or p0, which discard it. -/
def resKey : Res → Option (Nat × Nat)
  | .scalar r _ _ => if r = 0 then none else some (0, r)
  | .pred r _ => if r = 0 then none else some (1, r)
  | .vec r _ _ => some (2, r)
  | .stage i _ _ => some (3, i)
  | .row i _ => some (4, i)
  | .ticket r _ => if r = 0 then none else some (0, r)
  | .flags _ => none

/-- Set bits of TIL_FLAGS. -/
def setFlags (x : Tile) (bits : Nat) : Tile := { x with flags := x.flags ||| BitVec.ofNat 64 bits }

/-- Mark poison_made where a result is poisoned (03 Table 03-15). -/
def notePoison (x : Tile) (p : Bool) : Tile := if p then setFlags x 32 else x

/-- A result takes effect in a tile's files. -/
def applyRes (x : Tile) : Res → Tile
  | .scalar r v p => notePoison (if r = 0 then x else { x with scal := mapSet (0, false) x.scal r (v, p) }) p
  | .pred r v => if r = 0 then x else { x with pred := if v then x.pred ||| (1#16 <<< r) else x.pred &&& ~~~(1#16 <<< r) }
  | .vec r v p => notePoison { x with vec := mapSet (0, 0) x.vec r (v, p) } (p != 0)
  | .stage i v p => notePoison { x with stage := mapSet (0, 0) x.stage i (v, p) } (p != 0)
  | .row i v => notePoison { x with acc := mapSet {} x.acc i v } v.poison
  | .ticket r tk => if r = 0 then x else { x with scal := mapSet (0, false) x.scal r (BitVec.ofNat 64 (mapGet 0 x.tick tk), false) }
  | .flags b => setFlags x b

/-- Order in which results of one issue cycle reach a register: the slot nearer bit 0 last, then the later-issued last
(03 R84). -/
def pipeBefore (a b : Pipe) : Bool := a.slot < b.slot || (a.slot == b.slot && a.issued ≤ b.issued)

/-- Insert a result into that order. -/
def insertPipe (q : Pipe) : List Pipe → List Pipe
  | [] => [q]
  | a :: l => if pipeBefore a q then a :: insertPipe q l else q :: a :: l

/-- The results of one issue cycle in that order. -/
def sortPipe (l : List Pipe) : List Pipe := l.foldr insertPipe []

/-- Apply results in order, counting those that a later one of the same register replaces (03 R84). -/
def applyPipe (x : Tile) : List Pipe → Tile
  | [] => x
  | q :: l =>
    if (resKey q.res).isSome && l.any fun r => resKey r.res == resKey q.res then
      applyPipe { x with cntWcollide := x.cntWcollide + 1 } l
    else applyPipe (applyRes x q.res) l

/-- Results due at or before an issue cycle take effect in a tile (03 R86). -/
def settleTile (c : Nat) (x : Tile) : Tile :=
  applyPipe { x with pipe := x.pipe.filter fun q => c < q.due } (sortPipe (x.pipe.filter fun q => q.due ≤ c))

/-- Every result in flight takes effect, cycle by cycle; no latency passes 16 (03 Table 03-3). -/
def flushTile (c : Nat) (x : Tile) : Tile := (rangeFrom c 18).foldl (fun a n => settleTile n a) x

/-- Results due in a gang's issue cycle take effect in every member. -/
def settle (s : State) (g : Nat) : State := tilesMod s (gangTiles s g) (settleTile (gangGet s g).cycle)

/-- The members of a gang with their gang indices. -/
def gangMembers (s : State) (g : Nat) : List (Nat × Nat) := (List.range (gangTiles s g).length).zip (gangTiles s g)

/-! ### Exceptions (03 R104, R111) -/

/-- The exception that is recorded: the slot higher in Table 03-2, then the lower gang index; a fetch exception stands
alone. -/
def worstExc : List TileExc → Option TileExc
  | [] => none
  | e :: l =>
    match worstExc l with
    | none => some e
    | some d => if e.slot < d.slot || (e.slot == d.slot && e.index ≤ d.index) then some e else some d

/-- TIL_EXC for an exception at a program counter (03 Table 03-13). -/
def excWord (e : TileExc) (pc : Nat) : Word :=
  BitVec.ofNat 64 (2 ^ 63 + e.code % 64 * 2 ^ 52 + e.slot % 16 * 2 ^ 48 + e.index % 16 * 2 ^ 44 + pc % 2 ^ 11)

/-- A gang raises an exception: no slot of the bundle has an effect, earlier results complete, and every member records the
exception and halts (03 R111). -/
def raiseExc (s : State) (g : Nat) (e : TileExc) : State :=
  let G := gangGet s g
  let s1 := tilesMod s (gangTiles s g) fun x =>
    { flushTile G.cycle x with exc := excWord e G.pc, excInfo := BitVec.ofNat 64 e.info, tstate := .halted }
  gangSet s1 g { G with phase := .halted, opened := false, left := [], buf := [], exc := [], taken := none, waits := [] }

/-! ### DM operations that begin (04 R137-R139) -/

/-- The context of a gang; 16 where no Pattern gives the gang. -/
def ctxOfGang (s : State) (g : Nat) : Nat := gangCtx s g

/-- Is an endpoint the package's own (04 R138, 05 R148). -/
def isLocal (s : State) (addr : Nat) : Bool := addr / 2 ^ 48 % 2 ^ 16 == ownChip s

/-- The offset of a global address. -/
def gOff (addr : Nat) : Nat := addr % 2 ^ 48

/-- The chip of a global address. -/
def gChip (addr : Nat) : Nat := addr / 2 ^ 48 % 2 ^ 16

/-- The channel record that names a receiving tile and a channel (04 R139). -/
def chanRec (s : State) (t ch : Nat) : Option ChanRec :=
  s.plan.pattern.bind fun p => p.chans.find? fun r => r.tile == t && r.chan == ch

/-- A tile's receive channel. -/
def rxGet (x : Tile) (ch : Nat) : RxChan := mapGet {} x.rx ch

/-- Halt a tile's DMA and fabric engine for its context after a strict-mode read of bad data (07 R201): the ticket ends 0xA,
queued operations end 0xA, and trigger 0x03 asks for the context reset. -/
def strictHalt (s : State) (t tk : Nat) : State :=
  let c := ctxOfTile s t
  let s1 := tileMod s t fun x =>
    let y := endTicket { x with dmaHalt := true } tk 0xA
    y.ops.foldl (fun a e => match e.2 with
      | .send _ _ _ _ _ _ false => endTicket a e.1 0xA
      | .dock _ _ _ false => endTicket a e.1 0xA
      | _ => a) y
  raiseTrigger s1 ⟨1, false, c, 0x03, s.clock, 0x04, 0x20 + dieOfTile s t, t⟩ (some c)

/-- Scratchpad bytes that an operation sends, with poison by 8-byte word, and whether any word is uncorrectable; the read's
effects on the store are padReadEffects'. -/
def padSource (x : Tile) (off len : Nat) : List Byte × List Bool × Bool :=
  let r := padReadWords x (off / 8) (len / 8)
  (r.1.flatMap fun w => bytesOf 8 w.1, r.1.map (·.2), r.2)

/-- Read requests of a remote GLD or FILL (04 R138, 08 R214): one for each piece of up to 4,096 bytes; src_tag holds the ticket
slot in bits 4:0 and the piece above it. -/
def remoteReads (s : State) (t tk addr len : Nat) : List Packet :=
  let ps := pieces len
  (ps.zip (List.range ps.length)).map fun ((o, n), i) =>
    { readRequest s t (ctxOfTile s t) (tk + 32 * i) (gChip addr) (gOff addr + o) n with srcCtx := ctxOfTile s t }

/-- Memory writes of a remote GST (08 Table 08-4). -/
def remoteWrites (s : State) (t tk addr : Nat) (bs : List Byte) (marks : List Bool) : List Packet :=
  let ps := pieces bs.length
  (ps.zip (List.range ps.length)).map fun ((o, n), i) =>
    finishPacket {
      dst := gChip addr, src := ownChip s, srcCtx := ctxOfTile s t, dstCtx := ctxOfTile s t, kind := 0x01,
      srcTag := tk + 32 * i, offset := gOff addr + o, origin := t, payload := slice bs o n,
      poison := (fun ms : List Bool => flitPoison n fun j => at' false ms (j / 8)) ((marks.drop (o / 8)).take (n / 8)) }

/-- A DM or strum operation claims its ticket slot (03 R95). -/
def claimTicket (x : Tile) (tk : Nat) (op : DmOp) : Tile := { x with tick := mapSet 0 x.tick tk 1, ops := mapPut x.ops tk op }

/-- Complete a RECV whose message has landed (04 R139). -/
def recvDone (x : Tile) (tk ch n : Nat) : Tile :=
  let c := rxGet x ch
  if n < c.landed then endTicket x tk (at' 2 c.codes n) else x

/-- A DM operation begins in member i, tile t, of a gang (04 R138, R139). -/
def dmBegin (s : State) (g i t tk : Nat) (op : DmOp) : State :=
  let x := tileGet s t
  if x.dmaHalt then tileMod s t fun y => endTicket y tk 0xA
  else
    let s1 := tileMod s t fun y => claimTicket y tk op
    let port := portTile (dieOfTile s t)
    match op with
    | .gld addr _ len _ _ => if isLocal s addr then s1 else injectAll s1 port (remoteReads s t tk addr len)
    | .fill addr _ count _ _ => if isLocal s addr then s1 else injectAll s1 port (remoteReads s t tk addr (64 * count))
    | .gst addr off len _ _ =>
      if isLocal s addr then s1
      else
        let (bs, marks, bad) := padSource x off len
        let s2 := padReadEffects s1 t (off / 8) (len / 8)
        if bad && isStrict s (ctxOfTile s t) then strictHalt s2 t tk
        else
          let s3 := twinLines s2 (ctxOfTile s t) (gChip addr) (gOff addr) bs fun k => ((marks.drop (8 * k)).take 8).any id
          injectAll s3 port (remoteWrites s t tk addr bs marks)
    | .recv ch n =>
      let s2 := tileMod s1 t fun y => { y with rx := mapSet {} y.rx ch { rxGet y ch with claimed := n + 1 } }
      let s3 :=
        match chanRec s t ch with
        | some r => if n = 0 then s2 else inject s2 port (creditPacket s2 r.chip r.sender t ch 1 false)
        | none => s2
      tileMod s3 t fun y => recvDone y tk ch n
    | .coll set d => if i = 0 then collIssue s1 set g d else s1
    | .send _ _ _ _ _ _ _ => s1
    | .dock _ _ _ _ => s1
    | .strum _ _ _ _ => s1

/-! ### Strum contributions of a bundle (04 R142, R143) -/

/-- Fields of a strum descriptor (04 Table 04-15). -/
def sdGroup (d : Word) : Nat := fieldOf d 63 58
def sdTicket (d : Word) : Nat := fieldOf d 57 53
def sdOp (d : Word) : Nat := fieldOf d 52 49
def sdFmt (d : Word) : Nat := fieldOf d 48 45
def sdLen (d : Word) : Nat := if sdOp d = 0 then 0 else 8 * (fieldOf d 44 40 + 1)
def sdSrc (d : Word) : Nat := fieldOf d 39 20
def sdDst (d : Word) : Nat := fieldOf d 19 0

/-- The contribution of a gang: the payload comes from gang index 0's scratchpad under its descriptor, and every member's
ticket waits for the generation. -/
def strumBegin (s : State) (g : Nat) (ds : List (Nat × Word)) : State :=
  match ds.find? fun e => e.1 == 0 with
  | none => s
  | some (_, d) =>
    let t0 := at' 0 (gangTiles s g) 0
    let (bs, marks, bad) := padSource (tileGet s t0) (sdSrc d) (sdLen d)
    let s1 := padReadEffects s t0 (sdSrc d / 8) (sdLen d / 8)
    let poison := bad || marks.any id
    let r := groupRec s (sdGroup d)
    let kind := (sdOp d, sdFmt d, if sdOp d = 0 then 8 else sdLen d)
    let (s2, gen) := strumContribute s1 (sdGroup d) g kind bs poison false
    let s3 := twinItem s2 (ctxOfGang s g)
      ([3] ++ bytesOf 2 ((r.map GroupRec.tree).getD 0) ++ bytesOf 2 gen ++ bytesOf 1 (bit poison) ++ bs)
    ds.foldl (fun a e => tileMod a (at' 0 (gangTiles s g) e.1) fun x =>
      claimTicket x (sdTicket e.2) (.strum (sdGroup e.2) gen (sdDst e.2) (sdLen e.2))) s3

/-! ### Commit -/

/-- Ticket slots of a mask that are pending in a tile. -/
def pendingIn (x : Tile) (mask : Nat) : Bool := (setBits 32 mask).any fun k => mapGet 0 x.tick k == 1

/-- Does a gang's wait still hold issue: some named slot is pending in some member (03 R96, R101). -/
def waitHolds (s : State) (g : Nat) (ws : List (Nat × Nat)) : Bool :=
  ws.any fun w => (gangTiles s g).any fun t => pendingIn (tileGet s t) w.2

/-- Bank conflicts of one member (03 R90, 06 R176): L0 with L1, and a docket read with either. -/
def bankStalls (es : List Eff) : Nat :=
  let bank := fun n => es.findSome? fun e => match e with | .bank k b => if k = n then some b else none | _ => none
  bit ((bank 2).isSome && bank 2 == bank 3) + bit ((bank 8).isSome && (bank 8 == bank 2 || bank 8 == bank 3))

/-- The effects of one member's slots that act on its own tile at once: results into the pipelines, the store. -/
def effTile (cycle : Nat) (x : Tile) (slot : Nat) : Eff → Tile
  | .result lat r => { x with pipe := x.pipe ++ [⟨cycle + lat, cycle, slot, r⟩] }
  | .store off bs p => padPutWords x (off / 8) ((wordsOf (bs.length / 8) bs).zip ((List.range (bs.length / 8)).map (bitOf p)))
  | _ => x

/-- The exception of a bundle whose DM and STRUM name one ticket slot in a member (04 R141). -/
def clashExc (buf : List (Nat × Nat × Eff)) : List TileExc :=
  buf.filterMap fun e =>
    match e.2.2 with
    | .strum d =>
      if buf.any fun q => q.1 == e.1 && (match q.2.2 with | .dm tk _ => tk == sdTicket d | _ => false)
      then some ⟨9, e.1, 0x08, sdTicket d⟩ else none
    | _ => none

/-- Where the program counter goes after a bundle, and the branch left in flight (03 R85, 04 R121, R122): the target 0x10000 is
END. -/
def nextPc (G : Gang) : Nat × Option (Nat × Nat) × GangPhase :=
  let (pc, br, ph) :=
    match G.branch with
    | some (t, n) =>
      if n ≤ 1 then (if t = 0x10000 then (G.pc, none, GangPhase.draining) else (t, none, .running))
      else (G.pc + 1, some (t, n - 1), .running)
    | none => (G.pc + 1, none, .running)
  match G.taken with
  | some t => (pc, some (t, 2), ph)
  | none => (pc, br, ph)

/-- Does a bundle hold a branch or END. -/
def hasBranch (b : BitVec 512) : Bool := isBranchOp (slotOp .s0 (slotBits b .s0))

/-- A bundle commits: all its slots' effects take place together (03 R83), then the gang moves on. -/
def commitBundle (s : State) (g : Nat) : State :=
  let G := gangGet s g
  match worstExc (G.exc ++ clashExc G.buf) with
  | some e => raiseExc s g e
  | none =>
    let ms := gangMembers s g
    let s1 := ms.foldl (fun a m =>
      let es := G.buf.filter fun e => e.1 == m.1
      tileMod a m.2 fun x =>
        let y := es.foldl (fun b e => effTile G.cycle b e.2.1 e.2.2) x
        { y with
          cntIssue := y.cntIssue + 1
          cntMxBusy := y.cntMxBusy + BitVec.ofNat 64 (bit (slotBits G.bundle .mx != 0))
          cntBankStall := y.cntBankStall + BitVec.ofNat 64 (bankStalls (es.map fun e => e.2.2)) }) s
    let s2 := G.buf.foldl (fun a e =>
      match e.2.2 with
      | .dm tk op => dmBegin a g e.1 (at' 0 (gangTiles s g) e.1) tk op
      | .mismatch vd => logResidue a 4 (at' 0 (gangTiles s g) e.1) (ctxOfGang s g) (vd, 0) none
      | _ => a) s1
    let ds := G.buf.filterMap fun e => match e.2.2 with | .strum d => some (e.1, d) | _ => none
    let s3 := strumBegin s2 g ds
    let ws := G.buf.filterMap fun e => match e.2.2 with | .wait m => some (e.1, m) | _ => none
    let (pc, br, ph) := nextPc G
    gangSet s3 g { G with
      phase := ph, pc := pc, branch := br, taken := none, opened := false, left := [], buf := [], exc := [],
      shadow := if hasBranch G.bundle then 2 else G.shadow - 1,
      waits := if waitHolds s3 g ws then ws else [] }

/-- Commit where every slot of the bundle has executed. -/
def commitIfDone (s : State) (g : Nat) : State :=
  let G := gangGet s g
  if G.opened ∧ G.left.isEmpty then commitBundle s g else s

/-! ### Slots -/

/-- What a slot does in one member. -/
inductive SlotOut where
  | done (es : List Eff)
  | raise (code info : Nat)
  deriving DecidableEq, Repr

/-- May a slot command execute: the gang issues, and the slot's word in the latched bundle has not executed. -/
def slotReady (s : State) (g : Nat) (sl : Slot) (op : Nat) : Bool :=
  let G := gangGet s g
  G.phase == .running && G.opened && G.left.contains (slotCode sl) && slotOp sl (slotBits G.bundle sl) == op
    && (slotOps sl).contains op

/-- Collect the outcomes of a slot in every member into the gang: effects and exceptions. -/
def slotCollect (slot : Nat) : List (Nat × SlotOut) → List (Nat × Nat × Eff) × List TileExc
  | [] => ([], [])
  | (i, .done es) :: l => let r := slotCollect slot l; (es.map (fun e => (i, slot, e)) ++ r.1, r.2)
  | (i, .raise code info) :: l => let r := slotCollect slot l; (r.1, ⟨slot, i, code, info⟩ :: r.2)

/-- Record a slot as executed with outcomes (gang index, outcome). -/
def slotPut (s : State) (g : Nat) (sl : Slot) (outs : List (Nat × SlotOut)) : State :=
  gangMod s g fun G =>
    let r := slotCollect (slotCode sl) outs
    { G with left := setErase G.left (slotCode sl), buf := G.buf ++ r.1, exc := G.exc ++ r.2 }

/-- The outcomes of a slot: its decode fault, raised whatever the guard and recorded with gang index 0 (04 R116), else what f
gives for each member and its guard. -/
def slotOuts (s : State) (g : Nat) (dec : Option Nat) (gp : BitVec 4) (gn : Bool) (f : Nat → Nat → Tile → Bool → SlotOut) :
    List (Nat × SlotOut) :=
  match dec with
  | some code => [(0, .raise code 0)]
  | none => (gangMembers s g).map fun m => (m.1, f m.1 m.2 (tileGet s m.2) (guardTrue (tileGet s m.2) gp gn))

/-- A slot whose members act by themselves: outcomes under a true guard, nothing under a false one (03 R82). -/
def slotRun (s : State) (g : Nat) (sl : Slot) (dec : Option Nat) (gp : BitVec 4) (gn : Bool)
    (f : Nat → Nat → Tile → SlotOut) : State :=
  commitIfDone (slotPut s g sl (slotOuts s g dec gp gn fun i t x b => if b then f i t x else .done [])) g

/-- Run a slot command after the results due have taken effect; a command that does not name the next work of a latched bundle
changes nothing (log entry 1). -/
def slotExec (s : State) (g : Nat) (sl : Slot) (op : Nat) (fields : Nat → Bool) (run : State → State) :
    Host.Outcome State Fault Refusal :=
  if slotReady s g sl op && fields (slotBits (gangGet s g).bundle sl) then .next (run (settle s g)) else .next s

/-- An illegal-opcode fault where a condition fails (04 R116). -/
def illegalUnless (ok : Bool) : Option Nat := if ok then none else some 0x01

/-- Illegal opcode before illegal format (04 R116). -/
def decodeFault (op fmt : Bool) : Option Nat := if !op then some 0x01 else if !fmt then some 0x02 else none

end Sys2Proof.Machine
end

