-- ==== Sys2Proof/Machine/Branch.lean ====
section
/-! DEFINITION. Branches and END of S0 (03 R85, R102, 04 R121, R122). -/

namespace Sys2Proof.Machine

/-- Decode faults of a branch: unused fields, imm[35:11], and a branch in the two bundles after a branch (03 R85). -/
def branchDecode (s : State) (g : Nat) (ok : Bool) (f : ScalarFields) : Option Nat :=
  illegalUnless (ok && f.imm.toNat < 2 ^ 11 && (gangGet s g).shadow == 0)

/-- The taken-or-not outcome of each member: the guard and the condition (04 R121). -/
def branchTaken (s : State) (g : Nat) (f : ScalarFields) (cond : Tile → Bool) : List Bool :=
  (gangMembers s g).map fun m => guardTrue (tileGet s m.2) f.gp f.gn && cond (tileGet s m.2)

/-- Execute a branch: each member raises or writes as eff says; the members' outcomes must agree, else the lowest gang index
that differs from index 0 is recorded with 0x09 (03 R102); a taken branch names its target by index 0 (log entry 24). -/
def branchRun (s : State) (g : Nat) (dec : Option Nat) (f : ScalarFields) (eff : Tile → SlotOut) (cond : Tile → Bool)
    (target : Tile → Nat) : State :=
  let outs := slotOuts s g dec f.gp f.gn fun _ _ x b => if b then eff x else .done []
  let raised := (slotCollect 0 outs).2 != []
  let taken := branchTaken s g f cond
  let s1 :=
    if raised then slotPut s g .s0 outs
    else
      match firstIdx (fun b => b != taken.headD false) taken with
      | some i => slotPut s g .s0 [(i, .raise 0x09 0)]
      | none =>
        let s2 := slotPut s g .s0 outs
        if taken.headD false then
          gangMod s2 g fun G => { G with taken := some (target (tileGet s (at' 0 (gangTiles s g) 0))) }
        else s2
  commitIfDone s1 g

/-- The condition value of BZ, BNZ and JR: a poisoned rs1 raises 0x0B. -/
def branchRead (f : ScalarFields) (x : Tile) : SlotOut := if (sReg x f.rs1.toNat).2 then .raise 0x0B 0 else .done []

/-- JMP: always (04 Table 04-4). -/
def execJmp (g : Nat) (f : ScalarFields) (s : State) : Host.Outcome State Fault Refusal :=
  slotExec s g .s0 0x40 (fun w => decide (decodeScalar .s0 w = f)) fun s =>
    branchRun s g (branchDecode s g (f.rd == 0 && f.rs1 == 0 && f.rs2 == 0) f) f (fun _ => .done []) (fun _ => true)
      fun _ => f.imm.toNat

/-- BZ: taken if rs1 = 0. -/
def execBz (g : Nat) (f : ScalarFields) (s : State) : Host.Outcome State Fault Refusal :=
  slotExec s g .s0 0x41 (fun w => decide (decodeScalar .s0 w = f)) fun s =>
    branchRun s g (branchDecode s g (f.rd == 0 && f.rs2 == 0) f) f (branchRead f) (fun x => (sReg x f.rs1.toNat).1 == 0)
      fun _ => f.imm.toNat

/-- BNZ: taken if rs1 ≠ 0. -/
def execBnz (g : Nat) (f : ScalarFields) (s : State) : Host.Outcome State Fault Refusal :=
  slotExec s g .s0 0x42 (fun w => decide (decodeScalar .s0 w = f)) fun s =>
    branchRun s g (branchDecode s g (f.rd == 0 && f.rs2 == 0) f) f (branchRead f) (fun x => (sReg x f.rs1.toNat).1 != 0)
      fun _ => f.imm.toNat

/-- LOOP: rd = rd − 1 whenever the guard is true, taken if the new rd ≠ 0; a poisoned rd raises 0x0B. -/
def execLoop (g : Nat) (f : ScalarFields) (s : State) : Host.Outcome State Fault Refusal :=
  slotExec s g .s0 0x43 (fun w => decide (decodeScalar .s0 w = f)) fun s =>
    branchRun s g (branchDecode s g (f.rs1 == 0 && f.rs2 == 0) f) f
      (fun x =>
        let d := sReg x f.rd.toNat
        if d.2 then .raise 0x0B 0 else .done [.result 1 (.scalar f.rd.toNat (d.1 - 1) false)])
      (fun x => (sReg x f.rd.toNat).1 - 1 != 0) fun _ => f.imm.toNat

/-- CALL: always; rd = program counter + 3. -/
def execCall (g : Nat) (f : ScalarFields) (s : State) : Host.Outcome State Fault Refusal :=
  slotExec s g .s0 0x44 (fun w => decide (decodeScalar .s0 w = f)) fun s =>
    branchRun s g (branchDecode s g (f.rs1 == 0 && f.rs2 == 0) f) f
      (fun _ => .done [.result 1 (.scalar f.rd.toNat (BitVec.ofNat 64 ((gangGet s g).pc + 3)) false)]) (fun _ => true)
      fun _ => f.imm.toNat

/-- JR: always; the target is rs1.  A target no bundle stands at keeps the bits that TIL_EXC.pc shows. -/
def execJr (g : Nat) (f : ScalarFields) (s : State) : Host.Outcome State Fault Refusal :=
  slotExec s g .s0 0x45 (fun w => decide (decodeScalar .s0 w = f)) fun s =>
    branchRun s g (branchDecode s g (f.rd == 0 && f.rs2 == 0 && f.imm == 0) f) f (branchRead f) (fun _ => true)
      fun x => let t := (sReg x f.rs1.toNat).1.toNat; if t < 1536 then t else 2048 + t % 2048

/-- END: when taken, the two following bundles issue, then the gang stops and waits for its tickets (04 R122). -/
def execEnd (g : Nat) (f : ScalarFields) (s : State) : Host.Outcome State Fault Refusal :=
  slotExec s g .s0 0x4F (fun w => decide (decodeScalar .s0 w = f)) fun s =>
    branchRun s g (branchDecode s g (f.rd == 0 && f.rs1 == 0 && f.rs2 == 0 && f.imm == 0) f) f (fun _ => .done [])
      (fun _ => true) fun _ => 0x10000

end Sys2Proof.Machine
end

