-- ==== Sys2Proof/Machine/Channel.lean ====
section
/-! DEFINITION. The channel arbiters (05 R156-R166): requests, decisions, grants and refresh.  A channel is named by
32 × stack + channel.  The cycles operand of a command says how many channel cycles have passed since the channel's last
command; no time passes an event that the arbiter must decide (log entry 28). -/

namespace Sys2Proof.Machine

/-- One step of the LFSR x^31 + x^28 + 1 (05 R160). -/
def lfsrStep (x : Nat) : Nat := x * 2 % 2 ^ 31 + bit (bitOf x 30 != bitOf x 27)

/-- n steps of the LFSR. -/
def lfsrSteps : Nat → Nat → Nat
  | 0, x => x
  | n + 1, x => lfsrSteps n (lfsrStep x)

/-- The LFSR's load value for a channel (05 R160). -/
def lfsrSeed (seed ch : Nat) : Nat := if seed ^^^ ch = 0 then 1 else seed ^^^ ch

/-- Is a request one of a stack engine, whose grants move four bursts a cycle (05 R155, R161). -/
def ChanReq.isEngine (q : ChanReq) : Bool := q.ctx < 16 && q.src == 4

/-- Bursts a grant moves in a channel cycle. -/
def burstRate (q : ChanReq) : Nat := if q.isEngine then 4 else 1

/-- The class of a requester (05 Table 05-7). -/
def reqClass (s : State) (ch : Nat) (q : ChanReq) : Nat :=
  if q.ctx ≥ 17 then 0
  else if q.ctx = 16 then 1
  else regField s (regArbClass (ch / 32) q.ctx) (2 * q.src + 1) (2 * q.src)

/-- The burst limit of a class (05 R161, Table 05-13). -/
def burstLimit (s : State) (ch cls : Nat) : Nat := regField s (regArbCtrl (ch / 32)) (29 + 6 * cls) (24 + 6 * cls) + 1

/-- N of R163. -/
def starveN (s : State) (ch : Nat) : Nat := regField s (regArbCtrl (ch / 32)) 63 56 + 1

/-- Tickets of an entrant (05 R160). -/
def ticketsOf (s : State) (ch e : Nat) : Nat :=
  let n := ch / 32
  if e = 16 then regField s (regArbCtrl n) 23 16
  else if e < 8 then regField s (regTicketsLo n) (8 * e + 7) (8 * e)
  else regField s (regTicketsHi n) (8 * (e - 8) + 7) (8 * (e - 8))

/-- The bursts after which a grant ends: its transfer's, or its class's limit. -/
def grantEnd (s : State) (ch : Nat) (g : Grant) : Nat := min g.req.lines (burstLimit s ch g.cls)

/-- Channel cycles until a grant ends. -/
def grantLeft (s : State) (ch : Nat) (g : Grant) : Nat := ceilDiv (grantEnd s ch g - g.moved) (burstRate g.req)

/-- Is a class-0 request pending that this cycle sees. -/
def urgentSeen (c : Chan) : Bool := c.pend.any fun q => q.ctx ≥ 17 && q.seen ≤ c.cycle

/-- Has the idle arbiter something to decide. -/
def chanBusyIdle (c : Chan) : Bool := c.refreshDue || c.resume.isSome || !c.pend.isEmpty

/-- The channel cycles that may pass before an event of the arbiter's own: the end of its grant or refresh, or a decision. -/
def chanSpan (s : State) (ch n : Nat) : Nat :=
  let c := chanGet s ch
  let m := if c.refreshDue then n else min n (ceilDiv (c.nextRefresh - 16 * c.cycle) 16)
  match c.grant with
  | some g => min m (if urgentSeen c && g.cls != 0 then 0 else grantLeft s ch g)
  | none => if c.refreshLeft > 0 then min m c.refreshLeft else if chanBusyIdle c then min m 1 else m

/-- n channel cycles pass: the LFSR steps, the grant moves bursts, the refresh runs down, and the busy and refresh counters
count (05 R157, R160, Table 05-18). -/
def chanPass (s : State) (ch n : Nat) : State :=
  let k := chanSpan s ch n
  let c := chanGet s ch
  let c1 : Chan := { c with
    cycle := c.cycle + k
    lfsr := lfsrSteps k c.lfsr
    refreshLeft := c.refreshLeft - k
    grant := c.grant.map fun g => { g with moved := min (grantEnd s ch g) (g.moved + k * burstRate g.req) } }
  let s1 := chanSet s ch c1
  if c.grant.isSome then regAdd s1 (regChBusy (ch / 32) (ch % 32)) k
  else if c.refreshLeft > 0 then regAdd s1 (regChRefresh (ch / 32) (ch % 32)) k
  else s1

/-- Are two requests of one requester (05 R158): a context's source, the system entrant, or a class-0 kind. -/
def sameRequester (a b : ChanReq) : Bool := a.ctx == b.ctx && (a.src == b.src || a.ctx ≥ 16)

/-- Has a requester a transfer in service: pending, granted, or to be resumed.  The class-0 kinds queue in the pending set
itself, oldest first (05 R159). -/
def inService (c : Chan) (q : ChanReq) : Bool :=
  q.ctx < 17 && (c.pend.any (sameRequester q) || (match c.grant with | some g => sameRequester q g.req | none => false)
    || (match c.resume with | some r => sameRequester q r | none => false))

/-- A request becomes pending, or queues behind its requester's transfer (05 R158). -/
def chanAsk (c : Chan) (q : ChanReq) : Chan :=
  if inService c q then { c with queue := c.queue ++ [q] } else { c with pend := c.pend ++ [q] }

/-- CHANNEL_REQUEST: a transfer of 1 to 64 lines becomes pending (05 R158); the arbiter sees it in the next cycle (05 R165). -/
def execChannelRequest (ch ctx src lines id cycles : Nat) (s : State) : Host.Outcome State Fault Refusal :=
  if ch < 256 ∧ ctx < 20 ∧ src < 5 ∧ 1 ≤ lines ∧ lines ≤ 64 then
    let s1 := chanPass s ch cycles
    let c := chanGet s1 ch
    .next (chanSet s1 ch (chanAsk c ⟨ctx, src, lines, id, c.cycle, c.cycle + 1⟩))
  else .next s

/-- The next queued transfer of a requester becomes pending once the one before it is complete. -/
def chanNext (c : Chan) (q : ChanReq) : Chan :=
  match takeFirst (sameRequester q) c.queue with
  | some (r, rest) => { c with queue := rest, pend := c.pend ++ [{ r with since := c.cycle, seen := c.cycle }] }
  | none => c

/-- TRANSFER_COMPLETE: a granted transfer within its burst limit moves its last burst; its request is dropped and the grant
ends. -/
def execTransferComplete (ch : Nat) (s : State) : Host.Outcome State Fault Refusal :=
  match (chanGet s ch).grant with
  | some g =>
    let s1 := chanPass s ch (grantLeft s ch g)
    let c := chanGet s1 ch
    match c.grant with
    | some h => if h.moved = h.req.lines then .next (chanSet s1 ch (chanNext { c with grant := none } h.req)) else .next s1
    | none => .next s1
  | none => .next s

/-- BURST_LIMIT_EXPIRY: a grant has moved its class's burst limit and its transfer is not complete; the remainder is pending
from this cycle (05 R161). -/
def execBurstLimitExpiry (ch : Nat) (s : State) : Host.Outcome State Fault Refusal :=
  match (chanGet s ch).grant with
  | some g =>
    let s1 := chanPass s ch (grantLeft s ch g)
    let c := chanGet s1 ch
    match c.grant with
    | some h =>
      if h.moved = burstLimit s ch h.cls ∧ h.moved < h.req.lines then
        let q := { h.req with lines := h.req.lines - h.moved, since := c.cycle, seen := c.cycle }
        .next (chanSet s1 ch { c with grant := none, pend := c.pend ++ [q] })
      else .next s1
    | none => .next s1
  | none => .next s

/-! ### Decisions (05 R160-R165) -/

/-- The longest-waiting of two requests: earlier, then the lower context, then the lower source (05 R163). -/
def waitsLonger (a b : ChanReq) : Bool :=
  a.since < b.since || (a.since == b.since && (a.ctx < b.ctx || (a.ctx == b.ctx && a.src ≤ b.src)))

/-- The longest-waiting request of a list. -/
def longestOf : List ChanReq → Option ChanReq
  | [] => none
  | q :: l =>
    match longestOf l with
    | none => some q
    | some r => if waitsLonger q r then some q else some r

/-- The class-0 request that is served first: the kind in R159's order, then the oldest. -/
def urgentOf (p : List ChanReq) : Option ChanReq :=
  ([17, 18, 19].findSome? fun k => longestOf (p.filter fun q => q.ctx == k))

/-- Walk the entrants with their tickets: the first whose tickets exceed the running draw wins (05 R160). -/
def walkTickets : List (Nat × Nat) → Nat → Option Nat
  | [], _ => none
  | (e, t) :: l, r => if r < t then some e else walkTickets l (r - t)

/-- The lottery among the entrants with a seen request and non-zero tickets; none where no one holds tickets. -/
def lotteryWinner (s : State) (ch : Nat) (x : Nat) (p : List ChanReq) : Option Nat :=
  let es := ((List.range 17).filter fun e => p.any fun q => q.ctx == e).map fun e => (e, ticketsOf s ch e)
  let t := (es.map (·.2)).foldl (· + ·) 0
  if t = 0 then none else walkTickets es (x * t / 2 ^ 31)

/-- Round robin by source in the winner's lowest pending class, from the source after the one granted last (05 R161). -/
def roundRobin (s : State) (ch : Nat) (c : Chan) (e : Nat) (p : List ChanReq) : Option ChanReq :=
  let mine := p.filter fun q => q.ctx == e
  match (List.range 4).find? fun k => mine.any fun q => reqClass s ch q == k with
  | none => none
  | some k =>
    let last := mapGet 4 c.rr (4 * e + k)
    ((List.range 5).findSome? fun i => mine.find? fun q => reqClass s ch q == k && q.src == (last + 1 + i) % 5)

/-- Turn estimates of the requests not granted (05 R164): what is left of the grant or refresh, and the lesser of remaining
bursts and burst limit of every request that waits longer; a class-0 grant that is due counts for every other requester. -/
def turnEstimates (s : State) (ch left : Nat) (p : List ChanReq) : List (Nat × Nat) :=
  p.map fun q =>
    let before := p.filter fun r => r.since < q.since || (r.ctx ≥ 17 && q.ctx < 17)
    let cost := fun (r : ChanReq) => min r.lines (burstLimit s ch (reqClass s ch r)) / (if r.isEngine then 4 else 1)
    (q.id, min 1023 (left + (before.map cost).foldl (· + ·) 0))

/-- The channel is granted to a request: at its burst limit the grant lasts this many cycles. -/
def chanGrant (s : State) (ch : Nat) (c : Chan) (q : ChanReq) : State :=
  let k := reqClass s ch q
  let c1 := { c with grant := some ⟨q, k, 0⟩, pend := c.pend.filter (· != q) }
  let left := ceilDiv (burstLimit s ch k) (burstRate q)
  let rr := if k = 0 then c1.rr else mapSet 4 c1.rr (4 * q.ctx + k) q.src
  regAdd (chanSet s ch { c1 with rr := rr, turns := turnEstimates s ch left c1.pend }) (regChGrants (ch / 32) (ch % 32)) 1

/-- The request a class-0 arrival pre-empts is abandoned whole and keeps the right to a resume grant (05 R162). -/
def chanPreempt (s : State) (ch : Nat) : State :=
  let c := chanGet s ch
  match c.grant with
  | some g =>
    if g.cls ≠ 0 ∧ urgentSeen c ∧ g.moved < grantEnd s ch g then
      regAdd (chanSet s ch { c with grant := none, resume := some g.req }) (regChPreempt (ch / 32) (ch % 32)) 1
    else s
  | none => s

/-- Would the next counted grant be the Nth (05 R163). -/
def starveDue (s : State) (ch : Nat) : Bool := (chanGet s ch).count + 1 ≥ starveN s ch

/-- Does the arbiter stand before a counted grant: nothing runs, no refresh, class-0 or resume grant goes first, and a
request is seen. -/
def lotteryDue (c : Chan) : Bool :=
  c.grant.isNone && c.refreshLeft == 0 && !c.refreshDue && !urgentSeen c && c.resume.isNone && c.pend.any fun q => q.seen ≤ c.cycle

/-- The arbiter's decision but for a starvation grant (05 R165). -/
def chanDecide (s : State) (ch : Nat) : State :=
  let c := chanGet s ch
  let p := c.pend.filter fun q => q.seen ≤ c.cycle
  if c.grant.isSome ∨ c.refreshLeft > 0 then s
  else if c.refreshDue then
    chanSet s ch { c with refreshDue := false, refreshLeft := 152, turns := turnEstimates s ch 152 c.pend }
  else
    match urgentOf p with
    | some q => chanGrant s ch c q
    | none =>
      match c.resume with
      | some q => chanGrant s ch { c with resume := none } q
      | none =>
        if p.isEmpty ∨ starveDue s ch then s
        else
          let c1 := { c with count := c.count + 1 }
          match (lotteryWinner s ch c.lfsr p).bind fun e => roundRobin s ch c e p with
          | some q => chanGrant s ch c1 q
          | none =>
            match longestOf p with
            | some q => regAdd (chanGrant s ch c1 q) (regChStarve (ch / 32) (ch % 32)) 1
            | none => s

/-- An engine's state, by 32 × stack + engine. -/
def engGet (s : State) (e : Nat) : Engine := mapGet {} s.engs e

/-- Set an engine's state. -/
def engSet (s : State) (e : Nat) (x : Engine) : State := { s with engs := mapSet {} s.engs e x }

/-- Change an engine. -/
def engMod (s : State) (e : Nat) (f : Engine → Engine) : State := engSet s e (f (engGet s e))

/-- A running engine whose own request waits for a turn 64 or more channel cycles away stops its clock (06 R169). -/
def gateEngine (s : State) (ch : Nat) : State :=
  let c := chanGet s ch
  let x := engGet s ch
  let turn := ((c.pend.filter (·.isEngine)).filterMap fun q => (c.turns.find? fun t => t.1 == q.id).map (·.2)).foldl max 0
  if x.running.isSome ∧ !x.gated ∧ turn ≥ 64 then
    engSet s ch { x with gated := true, gatedSince := c.cycle, gatedTurn := turn }
  else s

/-- CHANNEL_ARBITRATION: cycles pass; a class-0 request pre-empts; with no grant running the arbiter decides. -/
def execChannelArbitration (ch cycles : Nat) (s : State) : Host.Outcome State Fault Refusal :=
  if ch < 256 then .next (gateEngine (chanDecide (chanPreempt (chanPass s ch cycles) ch) ch) ch) else .next s

/-- STARVATION_GRANT: the counted grant is the Nth; it goes to the longest-waiting requester, and the counter returns to
zero. -/
def execStarvationGrant (ch cycles : Nat) (s : State) : Host.Outcome State Fault Refusal :=
  if ch < 256 then
    let s1 := chanPass s ch cycles
    let c := chanGet s1 ch
    if lotteryDue c ∧ starveDue s1 ch then
      match longestOf (c.pend.filter fun q => q.seen ≤ c.cycle) with
      | some q => .next (regAdd (chanGrant s1 ch { c with count := 0 } q) (regChStarve (ch / 32) (ch % 32)) 1)
      | none => .next s1
    else .next s1
  else .next s

/-- Interval between refreshes in units of 0.04 ns (05 Table 05-6). -/
def refreshEvery (s : State) (n : Nat) : Nat := if regField s (regRefresh n) 0 0 = 1 then 48750 else 97500

/-- REFRESH_DUE: the channel's refresh falls due once its interval has passed (05 R157). -/
def execRefreshDue (ch cycles : Nat) (s : State) : Host.Outcome State Fault Refusal :=
  if ch < 256 then
    let s1 := chanPass s ch cycles
    let c := chanGet s1 ch
    if 16 * c.cycle ≥ c.nextRefresh ∧ !c.refreshDue then
      .next (chanSet s1 ch { c with refreshDue := true, nextRefresh := c.nextRefresh + refreshEvery s (ch / 32) })
    else .next s1
  else .next s

/-! ### Resets (05 Table 05-8, 17 R427) -/

/-- A context reset at a channel: its grant ends at the current burst, its transfers are purged, its resume is cancelled. -/
def chanPurge (ctx : Nat) (c : Chan) : Chan :=
  { c with
    pend := c.pend.filter (·.ctx != ctx)
    queue := c.queue.filter (·.ctx != ctx)
    grant := match c.grant with | some g => if g.req.ctx = ctx then none else some g | none => none
    resume := match c.resume with | some q => if q.ctx = ctx then none else some q | none => none }

/-- Purge a context's transfers at every channel. -/
def chansPurge (s : State) (ctx : Nat) : State := { s with chans := s.chans.map fun e => (e.1, chanPurge ctx e.2) }

/-- A partition reset at a channel: everything is cleared and the LFSR reseeded; refresh goes on. -/
def chanRestart (s : State) (ch : Nat) : State :=
  let c := chanGet s ch
  chanSet s ch { cycle := c.cycle, nextRefresh := c.nextRefresh, lfsr := lfsrSeed (regField s (regArbSeed (ch / 32)) 30 0) ch }

end Sys2Proof.Machine
end

