-- ==== Sys2Proof/Machine/HostGate.lean ====
section
/-! DEFINITION. The host's register writes and what stands before them (01 R45, 15 R386, R387). -/

namespace Sys2Proof.Machine

/-- Does the service core run: HST_STEWARD.state reads running, not booting, restarting or handover (15 Table 15-6). -/
def stewardRuns (s : State) : Bool := regField s regHstSteward 63 62 == 1

/-- Is the package ready (13 R336). -/
def isReady (s : State) : Bool := regField s regStwReady 63 63 == 1

/-! ### The host's register writes (01 R45, 15 R386) -/

/-- The MSI-X table and PBA are held in hardware (15 R386). -/
def keyMsix (k : Nat) : Bool := 0xF000 ≤ k && k < 0x10000

/-- Registers whose writes take effect before a driver is accepted: those that present the driver, the window, and the update requests
that 01 R45 answers. -/
def keyExempt (k : Nat) : Bool := [regContractDrv, regContractCheck, regHstWindow].contains k || (0x8000 ≤ k && k < 0x9000)

/-- The key of a byte of die d's tile window page 0: 256-byte tile blocks, logical tile − d × T (03 R113, 15 Table 15-3). -/
def blockKey (die off : Nat) : Nat := 0x300000 + die * 0x40000 + off

/-- The BAR0 offset at which a register's key shows (15 Table 15-3). -/
def bar0Offset (k : Nat) : Nat :=
  if k < 0x100000 then k
  else if k < 0x200000 then 0x10000 + (k - 0x100000) % 0x10000
  else if k < 0x300000 then 0x40000 + (k - 0x200000) % 0x10000
  else 0x40000 + (k - 0x300000) % 0x40000

/-- Is the host's window closed: D3hot or PERST_N (15 R387, 18 R460). -/
def windowClosed (s : State) : Bool := s.host.d3hot || s.pins.perst

/-- A write before a driver is accepted is completed without effect, with one Daybook warning for each register (01 R45). -/
def discardWrite (s : State) (k : Nat) (v : Word) : State :=
  if s.book.warned.contains k then s
  else logEvent { s with book := { s.book with warned := k :: s.book.warned } } 1 0x1002 3 0xFF [bar0Offset k, v.toNat]

/-- What stands before the host's write of a register takes effect. -/
inductive Gate where
  /-- the window is closed: no write arrives -/
  | closed
  /-- the hardware responder discards and counts it -/
  | away
  /-- no driver is accepted -/
  | stranger
  /-- it takes effect -/
  | ok
  deriving DecidableEq, Repr

/-- The gate of a register. -/
def hostGate (s : State) (k : Nat) : Gate :=
  if windowClosed s then .closed
  else if !stewardRuns s && !keyMsix k then .away
  else if s.host.accepted || keyExempt k || (keyMsix k && !stewardRuns s) then .ok
  else .stranger

/-- A host write of v to a register whose effect is f. -/
def hostWrite (s : State) (k : Nat) (v : Word) (f : State → State) : State :=
  match hostGate s k with
  | .closed => s
  | .away => regSatAdd s regHstSteward 31 0 1
  | .stranger => discardWrite s k v
  | .ok => f s

/-- A write by management, which no gate holds, or by the host. -/
def writeBy (mgmt : Bool) (s : State) (k : Nat) (v : Word) (f : State → State) : State := if mgmt then f s else hostWrite s k v f

end Sys2Proof.Machine
end

