-- ==== Sys2Proof/Machine/EccEvents.lean ====
section
/-! DEFINITION. Line reads, write-backs and the correction logs (07 R197-R207). -/

namespace Sys2Proof.Machine

/-- DRAM_LINE_READ: a channel reads a line, which the environment upset by the given bits since it was written, and decodes it:
counted, logged and, in service, queued for its write-back (07 R197-R202, R205). -/
def execDramLineRead (line flips : Nat) (s : State) : Host.Outcome State Fault Refusal :=
  if 64 * line < spaceBytes s then .next (lineReadEffects (upsetLine s line (flips % 2 ^ 576)) line) else .next s

/-- The line whose write-back the channel has granted (05 R159). -/
def wbGranted (s : State) (l : Nat) : Option WriteBack :=
  let c := chanGet s (chanOfLine s l)
  match c.grant with
  | some g => if g.req.ctx = 17 ∧ g.req.id = l then c.wb.find? fun w => w.line == l else none
  | none => none

/-- Store a line as its read delivered it, with fresh side bits: corrected, or marked poisoned (07 R200, R202). -/
def writeBackLine (s : State) (l : Nat) (mark : Bool) : State :=
  let d := lineData s l
  let s1 := setLinePoison { (memPutBytes s (64 * l) d.1) with lineErr := mapDel s.lineErr l } l (d.2.1 || mark)
  regAdd s1 (regEccWb (chanOfLine s l / 32)) 1

/-- A granted write-back is made: the line is stored, its queue entry leaves, and its burst has moved. -/
def makeWriteBack (s : State) (l : Nat) (mark : Bool) : State :=
  let i := chanOfLine s l
  let s1 := writeBackLine s l mark
  let c := dropWriteBack (chanGet s1 i) l
  let s2 := chanPass (chanSet s1 i c) i 1
  let d := chanGet s2 i
  chanSet s2 i { d with grant := none }

/-- CORRECTION_WRITEBACK: a queued corrected line is written back under its class-0 grant. -/
def execCorrectionWriteback (line : Nat) (s : State) : Host.Outcome State Fault Refusal :=
  match wbGranted s line with
  | some w => if w.mark then .next s else .next (makeWriteBack s line false)
  | none => .next s

/-- POISON_MARK_IN_STORE: a queued uncorrectable line is written back as read, with its poison bit set. -/
def execPoisonMarkInStore (line : Nat) (s : State) : Host.Outcome State Fault Refusal :=
  match wbGranted s line with
  | some w => if w.mark then .next (makeWriteBack s line true) else .next s
  | none => .next s

/-- Empty a stack's correction log (07 R205, Table 07-8). -/
def stackLogClear (s : State) (n : Nat) : State :=
  let s1 := regSet s (regEccLogStatus n) 0
  (List.range 32).foldl (fun a i => regSet (regSet a (regEccLogA n i) 0) (regEccLogB n i) 0) s1

/-- Empty a die's correction log. -/
def dieLogClear (s : State) (d : Nat) : State :=
  (List.range 32).foldl (fun a i => regSet a (regDieEccLog d i) 0) (regSet s (regDieEccLogStatus d) 0)

/-- ECC_LOG_CLEAR: log_clear is written, by the Steward or by the host, in STK_ECC_CTRL of a stack (onStack) or in TIL_DIE_ECC_CTRL of a
die. -/
def execEccLogClear (mgmt onStack : Bool) (index : Nat) (s : State) : Host.Outcome State Fault Refusal :=
  if onStack then (if index < 8 then .next (writeBy mgmt s (regEccCtrl index) 2 fun a => stackLogClear a index) else .next s)
  else if index < 4 then .next (writeBy mgmt s (regDieEccCtrl index) 2 fun a => dieLogClear a index)
  else .next s

end Sys2Proof.Machine
end

