-- ==== Sys2Proof/Machine/Crypto.lean ====
section
/-! DEFINITION. ECDSA over P-384 with SHA-384, the one signature scheme the manual names (12 Table 12-4, 13 R346, 15 R399, 16 R411).
Its arithmetic is that of FIPS 186 (PRESUMED, log entry 23). -/

namespace Sys2Proof.Machine

/-- The field prime of P-384. -/
def p384P : Nat := 2 ^ 384 - 2 ^ 128 - 2 ^ 96 + 2 ^ 32 - 1
/-- The group order. -/
def p384N : Nat := 0xFFFFFFFFFFFFFFFFFFFFFFFFFFFFFFFFFFFFFFFFFFFFFFFFC7634D81F4372DDF581A0DB248B0A77AECEC196ACCC52973
/-- The curve constant b; a is -3. -/
def p384B : Nat := 0xB3312FA7E23EE7E4988E056BE3F82D19181D9C6EFE8141120314088F5013875AC656398D8A2ED19D2A85C8EDD3EC2AEF
/-- The base point. -/
def p384G : Nat × Nat :=
  (0xAA87CA22BE8B05378EB1C71EF320AD746E1D3B628BA79B9859F741E082542A385502F25DBF55296C3A545E3872760AB7,
   0x3617DE4A96262C6F5D9E98BF9292DC29F8F41DBD289A147CE9DA3113B5F0B8C00A60B1CE1D7E819D7A431D7C90EA0E5F)

/-- b to the power e modulo m, e below 2^384. -/
def powMod (b e m : Nat) : Nat :=
  ((List.range 384).foldl (fun (r : Nat × Nat) i => (if bitOf e i then r.1 * r.2 % m else r.1, r.2 * r.2 % m)) (1, b % m)).1

/-- A point in Jacobian coordinates; z = 0 at infinity. -/
abbrev JPoint := Nat × Nat × Nat

/-- Difference modulo the field prime. -/
def subP (a b : Nat) : Nat := (a + p384P - b % p384P) % p384P

/-- Double a point. -/
def jDouble (q : JPoint) : JPoint :=
  let x := q.1
  let y := q.2.1
  let z := q.2.2
  let delta := z * z % p384P
  let gamma := y * y % p384P
  let beta := x * gamma % p384P
  let alpha := 3 * (subP x delta * (x + delta)) % p384P
  let x3 := subP (alpha * alpha) (8 * beta)
  let z3 := subP (subP ((y + z) * (y + z)) gamma) delta
  (x3, subP (alpha * subP (4 * beta) x3) (8 * (gamma * gamma)), z3)

/-- Add two points. -/
def jAdd (q r : JPoint) : JPoint :=
  if q.2.2 = 0 then r else if r.2.2 = 0 then q
  else
    let z1 := q.2.2 * q.2.2 % p384P
    let z2 := r.2.2 * r.2.2 % p384P
    let u1 := q.1 * z2 % p384P
    let u2 := r.1 * z1 % p384P
    let s1 := q.2.1 * (r.2.2 * z2) % p384P
    let s2 := r.2.1 * (q.2.2 * z1) % p384P
    if u1 = u2 then (if s1 = s2 then jDouble q else (1, 1, 0))
    else
      let h := subP u2 u1
      let d := subP s2 s1
      let h2 := h * h % p384P
      let h3 := h * h2 % p384P
      let v := u1 * h2 % p384P
      let x3 := subP (subP (d * d) h3) (2 * v)
      (x3, subP (d * subP v x3) (s1 * h3), q.2.2 * r.2.2 * h % p384P)

/-- k times a point. -/
def jMul (k : Nat) (q : JPoint) : JPoint :=
  (List.range 384).foldl (fun r i => let d := jDouble r; if bitOf k (383 - i) then jAdd d q else d) (1, 1, 0)

/-- Is a pair a point of the curve. -/
def onCurve (x y : Nat) : Bool := x < p384P && y < p384P && y * y % p384P == subP (x * x * x + p384B) (3 * x)

/-- Verify a signature (r, s) of a digest under a public key (x, y). -/
def ecdsaVerify (key : Nat × Nat) (digest r s : Nat) : Bool :=
  if !onCurve key.1 key.2 ∨ r = 0 ∨ s = 0 ∨ r ≥ p384N ∨ s ≥ p384N then false
  else
    let w := powMod s (p384N - 2) p384N
    let q := jAdd (jMul (digest * w % p384N) (p384G.1, p384G.2, 1)) (jMul (r * w % p384N) (key.1, key.2, 1))
    if q.2.2 = 0 then false
    else q.1 * powMod (q.2.2 * q.2.2) (p384P - 2) p384P % p384P % p384N == r

/-- Verify 96 signature bytes, r then s, big-endian, over the SHA-384 digest of a message; the key is 96 bytes, x then y. -/
def sigOk (key : List Byte) (msg sig : List Byte) : Bool :=
  ecdsaVerify (ofBytesBE (slice key 0 48), ofBytesBE (slice key 48 48)) (ofBytesBE (sha384 msg)) (ofBytesBE (slice sig 0 48))
    (ofBytesBE (slice sig 48 48))

end Sys2Proof.Machine
end

