-- ==== Sys2Proof/Machine/Power.lean ====
section
/-! DEFINITION. Power: cap slots, allowances, governors, droop, operating points and the forced floor (14 R352-R373, R381-R384). -/

namespace Sys2Proof.Machine

def pwr (s : State) (f : PowerSt → PowerSt) : State := { s with power := f s.power }
def dieGet (s : State) (d : Nat) : DiePower := mapGet {} s.power.dies d
def dieMod (s : State) (d : Nat) (f : DiePower → DiePower) : State := pwr s fun p => { p with dies := mapSet {} p.dies d (f (mapGet {} p.dies d)) }
def stackGet (s : State) (n : Nat) : StackPower := mapGet {} s.power.stks n
def stackMod (s : State) (n : Nat) (f : StackPower → StackPower) : State :=
  pwr s fun p => { p with stks := mapSet {} p.stks n (f (mapGet {} p.stks n)) }

/-- Every compute die and every stack. -/
def allDies : List Nat := List.range 4
def allStacks : List Nat := List.range 8

/-- W of a compute die at full activity at a point, its rail in mV (14 Table 14-2). -/
def pointWatts (k : Nat) : Nat := at' 60 [525, 395, 285, 190, 115, 60] k
def pointRail (k : Nat) : Nat := at' 520 [800, 740, 680, 620, 570, 520] k

/-- The slowest point: the floor. -/
def floorPoint : Nat := 5
/-- The slowest engine clock code. -/
def floorEngine : Nat := 2

/-- Fastest point and engine clock allowed (14 Table 14-15). -/
def maxPoint (s : State) : Nat := min floorPoint (regField s regPwrCfg 55 52)
def maxEngine (s : State) : Nat := min floorEngine (regField s regPwrCfg 51 48)

/-- Is the Mute armed (14 R381). -/
def muted (s : State) : Bool := s.power.mute.isSome

/-- Add time to a reason (14 R382). -/
def reasonAdd (s : State) (n ns : Nat) : State := pwr s fun p => { p with reasonNs := mapSet 0 p.reasonNs n (mapGet 0 p.reasonNs n + ns) }

/-! ### Caps (14 R359-R362) -/

/-- The Warrant maximum in W: 3,600 where no variant Warrant is in effect yet (14 Table 14-3). -/
def warrantMax (s : State) : Nat := if regField s regSecWarrant 47 32 = 0 then 3600 else regField s regSecWarrant 47 32

/-- Clamp a slot. -/
def slotClamp (s : State) (w : Nat) : Nat := min (warrantMax s) (max 1200 w)

/-- The five slots in the order of PWR_CAP_STATUS.binding. -/
def slots (s : State) : List Nat :=
  [s.power.tray, regField s regPwrCapHost 15 0, s.power.patternW, s.power.thermal, s.power.warrant]

/-- The smallest slot, and the lowest code that gives it. -/
def effectiveCap (s : State) : Nat × Nat :=
  let m := (slots s).foldl min 3600
  (m, ((firstIdx (· == m) (slots s)).getD 4))

/-- Power that allowances may share, in mW: the cap less the always-on reserve. -/
def budget (cap : Nat) : Nat := (cap - 20) * 1000

/-- Floor allowances in mW (14 Table 14-1): a disabled stack draws none; the link domain its measured draw. -/
def dieFloor : Nat := 60000
def stackFloor (s : State) (n : Nat) : Nat := if (enabledStacks s).contains n then 30000 else 0

/-- The sum of the allowances in force, mW. -/
def allowanceSum (s : State) : Nat :=
  (allDies.map fun d => (dieGet s d).allowance).foldl (· + ·) 0 + (allStacks.map fun n => (stackGet s n).allowance).foldl (· + ·) 0
    + s.power.linkAllow

/-- A die's allowance falls or rises; a rise of its point that waits is abandoned when it falls (14 Table 14-8). -/
def dieAllow (s : State) (d w : Nat) : State :=
  dieMod s d fun x =>
    if w < x.allowance ∧ x.change.isSome ∧ x.target < x.point then { x with allowance := w, change := none, target := x.point }
    else { x with allowance := w }

/-- Withdraw up to n mW from a unit down to its floor: what is still to be withdrawn. -/
def takeFrom (have_ floor n : Nat) : Nat × Nat :=
  let t := min n (have_ - floor)
  (have_ - t, n - t)

/-- Withdraw from the compute dies, or from the stacks. -/
def withdrawDies (s : State) (n : Nat) : State × Nat :=
  allDies.reverse.foldl (fun (a : State × Nat) d =>
    let r := takeFrom (dieGet a.1 d).allowance dieFloor a.2
    (dieAllow a.1 d r.1, r.2)) (s, n)
def withdrawStacks (s : State) (n : Nat) : State × Nat :=
  allStacks.reverse.foldl (fun (a : State × Nat) k =>
    let r := takeFrom (stackGet a.1 k).allowance (stackFloor a.1 k) a.2
    (stackMod a.1 k fun x => { x with allowance := r.1 }, r.2)) (s, n)
def withdrawLink (s : State) (n : Nat) : State × Nat :=
  let r := takeFrom s.power.linkAllow s.power.linkEst n
  (pwr s fun p => { p with linkAllow := r.1 }, r.2)

/-- Withdraw allowances in reverse priority order until they fit the new cap (14 R362). -/
def withdraw (s : State) (cap : Nat) : State :=
  let n := allowanceSum s - budget cap
  let a := if regField s regPwrCfg 63 56 = 0 then withdrawDies s n else withdrawStacks s n
  let b := if regField s regPwrCfg 63 56 = 0 then withdrawStacks a.1 a.2 else withdrawDies a.1 a.2
  (withdrawLink b.1 b.2).1

/-- A slot changed: a lowered effective cap takes hold at once, a raised one at the next grant; nothing moves under the Mute
(14 R362, R381). -/
def capChanged (s : State) : State :=
  if muted s then s
  else
    let e := effectiveCap s
    if e.1 < s.power.effective then pwr (withdraw s e.1) fun p => { p with effective := e.1, binding := e.2 } else s

/-- Set a slot. -/
def setTray (s : State) (w : Nat) : State := capChanged (pwr s fun p => { p with tray := w })
def setPatternW (s : State) (w : Nat) : State := capChanged (pwr s fun p => { p with patternW := w })
def setThermal (s : State) (w : Nat) : State := capChanged (pwr s fun p => { p with thermal := w })
def setWarrantW (s : State) (w : Nat) : State := capChanged (pwr s fun p => { p with warrant := w })
/-- A write to PWR_CAP_HOST. -/
def setHostCap (s : State) (w : Nat) : State := capChanged (regPut s regPwrCapHost 15 0 (slotClamp s w))

/-- 30 s in ns. -/
def trayLeaseNs : Nat := 30000000000

/-- The tray's lease starts anew (14 R361). -/
def leaseTray (s : State) : State := pwr s fun p => { p with leaseState := 1, leaseEnd := s.clock + trayLeaseNs }

/-- TRAY_LEASE_EXPIRY: the tray slot falls to the orphan cap; under the Mute it waits for the loop core (14 R361, R381). -/
def execTrayLeaseExpiry (s : State) : Host.Outcome State Fault Refusal :=
  if s.power.leaseState = 1 ∧ s.clock ≥ s.power.leaseEnd ∧ !muted s then
    .next (setTray (pwr s fun p => { p with leaseState := 2 }) s.power.orphan)
  else .next s

/-! ### Operating points (14 R355, R370) -/

/-- Ask for a point; nothing is asked in a forced floor. -/
def askPoint (s : State) (d point : Nat) : State :=
  if s.power.forced then s else dieMod s d fun x => if x.point = point then x else { x with target := point }

/-- A die's point falls by one step. -/
def lowerPoint (s : State) (d : Nat) : State := askPoint s d (min floorPoint ((dieGet s d).point + 1))
/-- A die's point rises by one step, within max_point. -/
def raisePoint (s : State) (d : Nat) : State :=
  let p := (dieGet s d).point
  askPoint s d (if p > maxPoint s then p - 1 else p)

/-- OPERATING_POINT_CHANGE: a point that was asked for is set about: a rise slews the rail first, at 20 mV/µs; then stretches are
waited for. -/
def execOperatingPointChange (die : Nat) (s : State) : Host.Outcome State Fault Refusal :=
  let x := dieGet s die
  if die < 4 ∧ x.target ≠ x.point ∧ x.change.isNone ∧ !s.power.forced then
    .next (dieMod s die fun y => { y with change := some (s.clock + if y.target < y.point then (pointRail y.target - pointRail y.point) * 50 else 0) })
  else .next s

/-- POINT_SWITCH: once the stretches have ended, or 10 µs have passed, the divider switches and the thresholds re-band; the
governor's duty limit is released (14 R365, R370). -/
def execPointSwitch (die : Nat) (s : State) : Host.Outcome State Fault Refusal :=
  let x := dieGet s die
  match x.change with
  | some t =>
    if die < 4 ∧ s.clock ≥ t ∧ (x.stretch.isEmpty ∨ s.clock ≥ t + 10000) then
      .next (dieMod s die fun y => { y with point := y.target, change := none, duty := 16, above := 0, fit := 0 })
    else .next s
  | none => .next s

/-! ### Droop (14 R368, R369) -/

/-- Is a cluster of any die stretched. -/
def stretching (s : State) : Bool := allDies.any fun d => !(dieGet s d).stretch.isEmpty

/-- Is a storm's reduction held on any die. -/
def stormHeld (s : State) : Bool := allDies.any fun d => (dieGet s d).storm.isSome

/-- DROOP counts the time in which at least one cluster stretched; while a storm's reduction is held every window counts whole (14 R382). -/
def droopCount (s : State) : State :=
  let s1 := if stretching s && !stormHeld s then reasonAdd s 7 (s.clock - s.power.droopSince) else s
  pwr s1 fun p => { p with droopSince := s.clock }

/-- The time that the die has stretched so far is counted for the storm window and for DROOP. -/
def stretchCount (s : State) (d : Nat) : State :=
  let s1 := droopCount s
  let x := dieGet s1 d
  if x.stretch.isEmpty then s1
  else dieMod s1 d fun y => { y with winNs := y.winNs + (s.clock - x.stretchSince), stretchSince := s.clock }

/-- DROOP_DETECT: a cluster's rail falls below a threshold and its clock is stretched; deep: below the deep one. -/
def execDroopDetect (die cluster : Nat) (deep : Bool) (s : State) : Host.Outcome State Fault Refusal :=
  if die < 4 ∧ cluster < 38 then
    let s1 := stretchCount s die
    .next (dieMod s1 die fun x => { x with
      stretch := (cluster, deep) :: x.stretch.filter (·.1 != cluster)
      stretchSince := s.clock })
  else .next s

/-- DROOP_STRETCH_END: 16 cycles with margin have passed. -/
def execDroopStretchEnd (die cluster : Nat) (s : State) : Host.Outcome State Fault Refusal :=
  if (dieGet s die).stretch.any (·.1 == cluster) then
    .next (dieMod (stretchCount s die) die fun x => { x with stretch := x.stretch.filter (·.1 != cluster) })
  else .next s

/-- DROOP_STORM: a 100 µs window ends; a die that stretched for longer than storm_us in it falls by one step for 10 ms. -/
def execDroopStorm (die : Nat) (s : State) : Host.Outcome State Fault Refusal :=
  if die ≥ 4 ∨ s.clock < (dieGet s die).winStart + 100000 then .next s
  else
    let s1 := stretchCount s die
    let long := (dieGet s1 die).winNs > regField s regPwrCfg 39 32 * 1000
    let s2 := dieMod s1 die fun x => { x with winStart := s.clock, winNs := 0 }
    if long ∧ !muted s then
      let s3 := regSatAdd (lowerPoint s2 die) regPwrEvents 15 0 1
      .next (dieMod s3 die fun x => { x with storm := some (s.clock + 10000000) })
    else .next s2

/-- STORM_REDUCTION_END: the 10 ms have passed; the point is given back. -/
def execStormReductionEnd (die : Nat) (s : State) : Host.Outcome State Fault Refusal :=
  match (dieGet s die).storm with
  | some t => if die < 4 ∧ s.clock ≥ t ∧ !muted s then .next (raisePoint (dieMod s die fun x => { x with storm := none }) die) else .next s
  | none => .next s

/-! ### Forced floor (14 R371-R373) -/

/-- The causes that stand, as PWR_CAP_STATUS.forced codes them: 0 none, 1 alert, 2 TRAY_HOLD_N, 3 temperature or coolant. -/
def forcedCode (p : PowerSt) : Nat :=
  if p.alert then 1 else if p.hold then 2 else if p.critical || p.coolant || p.trip then 3 else if p.forced then p.cause else 0

/-- Every die and stack goes to the floor at once; a change under way is abandoned (14 R353, R371, Table 14-8). -/
def forceFloor (s : State) : State :=
  let s1 := pwr s fun p => { p with
    forced := true, stepAt := s.clock, cause := forcedCode p
    dies := allDies.foldl (fun m d =>
      let x := mapGet {} m d
      mapSet {} m d { x with point := floorPoint, target := floorPoint, change := none }) p.dies
    stks := allStacks.foldl (fun m n =>
      let x := mapGet {} m n
      mapSet {} m n { x with engine := floorEngine, duty := 4 }) p.stks }
  if s.power.forced then s1 else eventAppend s1 6 0xFF 0 0 0 0

/-- The regulator alert is asserted: the floor, and PWR_ALERT_N on the land. -/
def alertAssert (s : State) : State :=
  if s.power.alert then s
  else
    let s1 := regSatAdd (pwr s fun p => { p with alert := true, alertPin := true }) regPwrEvents 63 48 1
    forceFloor (if s.power.alertPin then s1 else emit s1 (.pin "PWR_ALERT_N" true))

/-- REGULATOR_ALERT: a die regulator or the power stage asserts the shared wire. -/
def execRegulatorAlert (s : State) : Host.Outcome State Fault Refusal := .next (alertAssert s)

/-- OVERCURRENT: the input current has stood above 105 A for 1 µs; the power stage asserts the alert (14 R354). -/
def execOvercurrent (s : State) : Host.Outcome State Fault Refusal := .next (alertAssert (regSatAdd s regPwrEvents 47 32 1))

/-- REGULATOR_ALERT_CLEAR: the wire clears. -/
def execRegulatorAlertClear (s : State) : Host.Outcome State Fault Refusal :=
  if s.power.alert then .next (pwr s fun p => { p with alert := false, alertClear := s.clock }) else .next s

/-- PWR_ALERT_N is released 1 ms after the alert clears. -/
def alertPinTick (s : State) : State :=
  if s.power.alertPin ∧ !s.power.alert ∧ s.clock ≥ s.power.alertClear + 1000000 then
    emit (pwr s fun p => { p with alertPin := false }) (.pin "PWR_ALERT_N" false)
  else s

/-- TRAY_HOLD: TRAY_HOLD_N has been low for 100 ns. -/
def execTrayHold (s : State) : Host.Outcome State Fault Refusal :=
  if s.power.hold then .next s else .next (forceFloor (regSatAdd (pwr s fun p => { p with hold := true }) regPwrEvents 31 16 1))

/-- TRAY_HOLD_RELEASE: the pin goes high. -/
def execTrayHoldRelease (s : State) : Host.Outcome State Fault Refusal :=
  if s.power.hold then .next (pwr s fun p => { p with hold := false, holdHigh := s.clock }) else .next s

/-- Has every cause of the forced floor cleared for as long as Table 14-6 asks. -/
def floorMayEnd (s : State) : Bool :=
  let p := s.power
  !p.alert && (p.alertClear == 0 || s.clock ≥ p.alertClear + 1000000) && !p.hold && (p.holdHigh == 0 || s.clock ≥ p.holdHigh + 10000000)
    && !p.critical && !p.coolant && !p.trip

/-- FORCED_FLOOR_EXIT_STEP: every cause has cleared; each die and engine rises one step, at most every 100 µs; the state ends once none
is left to raise (14 R373). -/
def execForcedFloorExitStep (s : State) : Host.Outcome State Fault Refusal :=
  if !s.power.forced ∨ muted s ∨ !floorMayEnd s ∨ s.clock < s.power.stepAt + 100000 then .next s
  else
    let done := allDies.all (fun d => (dieGet s d).point ≤ maxPoint s) && allStacks.all fun n => (stackGet s n).engine ≤ maxEngine s
    if done then
      .next (pwr s fun p => { p with
        forced := false
        stks := allStacks.foldl (fun m n => let x := mapGet {} m n; mapSet {} m n { x with duty := 16 }) p.stks })
    else
      .next (pwr s fun p => { p with
        stepAt := s.clock
        dies := allDies.foldl (fun m d =>
          let x := mapGet {} m d
          let q := if x.point > maxPoint s then x.point - 1 else x.point
          mapSet {} m d { x with point := q, target := q }) p.dies
        stks := allStacks.foldl (fun m n =>
          let x := mapGet {} m n
          mapSet {} m n { x with engine := if x.engine > maxEngine s then x.engine - 1 else x.engine }) p.stks })

/-! ### Estimator, governors and grants (14 R356-R358, R364, R365) -/

/-- The estimate of a die scaled to the next higher point (log entry 36). -/
def scaledUp (x : DiePower) : Nat := x.estimate * pointWatts (x.point - 1) / pointWatts x.point

/-- A die's governor in one window. -/
def governDie (s : State) (d : Nat) : State :=
  let x := dieGet s d
  if x.estimate > x.allowance then
    if x.above ≥ 1 then lowerPoint (dieMod s d fun y => { y with above := 0, fit := 0 }) d
    else dieMod s d fun y => { y with above := 1, fit := 0, duty := min y.duty 12 }
  else
    let fits := x.point > maxPoint s && scaledUp x ≤ x.allowance
    dieMod s d fun y => { y with above := 0, fit := if fits then y.fit + 1 else 0 }

/-- A stack's governor in one window: over, the engine clock falls a step, then the channel duty; after 25 fitting windows a step is
given back (log entry 36). -/
def governStack (s : State) (n : Nat) : State :=
  stackMod s n fun x =>
    if x.estimate > x.allowance then
      if x.engine < floorEngine then { x with engine := x.engine + 1, fit := 0 } else { x with duty := max 4 (x.duty - 1), fit := 0 }
    else if s.power.forced ∨ muted s ∨ x.floor then { x with fit := 0 }
    else if x.fit < 24 then { x with fit := x.fit + 1 }
    else if x.duty < 16 then { x with duty := x.duty + 1, fit := 0 }
    else { x with engine := if x.engine > maxEngine s then x.engine - 1 else x.engine, fit := 0 }

/-- A corrected estimate: the factor applied. -/
def corrected (s : State) (raw : Nat) : Nat := raw * s.power.factor / 0x8000

/-- Is a die throttled. -/
def dieThrottled (s : State) (d : Nat) : Bool := (dieGet s d).point > maxPoint s || (dieGet s d).duty < 16
def stackThrottled (s : State) (n : Nat) : Bool := (stackGet s n).engine > maxEngine s || (stackGet s n).duty < 16

/-- Demand of a die and of a stack: the highest estimate of the last 100 µs and, if throttled, one operating point more (14 R364). -/
def dieDemand (s : State) (d : Nat) : Nat :=
  let x := dieGet s d
  x.peak + if dieThrottled s d then (pointWatts (x.point - 1) - pointWatts x.point) * 1000 else 0
def stackDemand (s : State) (n : Nat) : Nat := if stackThrottled s n then max (stackGet s n).peak 105000 else (stackGet s n).peak

/-- The sum of all demands. -/
def demandSum (s : State) : Nat :=
  (allDies.map (dieDemand s)).foldl (· + ·) 0 + (allStacks.map (stackDemand s)).foldl (· + ·) 0 + s.power.linkPeak

/-- The package's estimate. -/
def packageEstimate (s : State) : Nat :=
  (allDies.map fun d => (dieGet s d).estimate).foldl (· + ·) 0 + (allStacks.map fun n => (stackGet s n).estimate).foldl (· + ·) 0
    + s.power.linkEst

/-- The reasons that accrue in a window (14 Table 14-7), but DROOP's stretch time. -/
def activeReasons (s : State) : List Nat :=
  let p := s.power
  let e := p.effective
  let floors := allDies.length * dieFloor + (allStacks.map (stackFloor s)).foldl (· + ·) 0 + p.linkEst
  let withheld := demandSum s > budget e || floors > budget e
  let slot := fun (i n : Nat) => if withheld && at' 0 (slots s) i == e then [n] else []
  let share := (allDies.any (dieThrottled s) || allStacks.any (stackThrottled s)) && packageEstimate s < budget e && !p.forced
  let heat := p.sites.any (fun x => x.2.duty < 16) || allStacks.any (fun n => (stackGet s n).heat < 16 || (stackGet s n).floor)
    || p.critical || p.trip || p.muteStepped
  slot 0 0 ++ slot 1 1 ++ slot 2 2 ++ (if share then [3] else []) ++ (if heat then [4] else []) ++ slot 3 5
    ++ (if p.coolant then [6] else []) ++ (if stormHeld s then [7] else [])
    ++ (if p.forced && (p.alert || forcedCode p == 1) then [8] else [])
    ++ (if p.forced && (p.hold || forcedCode p == 2) then [9] else []) ++ slot 4 10

/-- ESTIMATOR_WINDOW: every 4 µs the units' estimates are taken, corrected and held to the allowances, energy is charged and reasons
accrue.  est: the uncorrected estimates in mW of dies 0 to 3, stacks 0 to 7, the link and the always-on domain, as activity and the calibration
table give them; energy: nJ by counter (14 R358; log entry 36). -/
def execEstimatorWindow (est : List Nat) (energy : List (Nat × Nat)) (s : State) : Host.Outcome State Fault Refusal :=
  if s.clock < s.power.lastWindow + 4000 then .next s
  else
    let c := fun i => corrected s (at' 0 est i)
    let s1 := allDies.foldl (fun a d => dieMod a d fun x => { x with estimate := c d, peak := max x.peak (c d) }) s
    let s2 := allStacks.foldl (fun a n => stackMod a n fun x => { x with estimate := c (4 + n), peak := max x.peak (c (4 + n)) }) s1
    let s3 := pwr s2 fun p => { p with
      linkEst := c 12, linkPeak := max p.linkPeak (c 12), alwaysEst := c 13, lastWindow := s.clock
      rawSum := p.rawSum + (est.take 14).foldl (· + ·) 0, rawWindows := p.rawWindows + 1
      energyNj := energy.foldl (fun m e => if e.1 ≤ 16 then mapSet 0 m e.1 (mapGet 0 m e.1 + e.2) else m) p.energyNj }
    let s4 := if s.power.forced then s3 else allStacks.foldl governStack (allDies.foldl governDie s3)
    let rs := activeReasons s4
    .next (rs.foldl (fun a n => reasonAdd a n 4000)
      (pwr s4 fun p => { p with active := (if stretching s4 then 7 :: rs else rs).foldl (fun a n => a ||| 2 ^ n) 0 }))

/-- GOVERNOR_RAISE: 25 successive windows have fitted; the die's point rises a step (14 R365). -/
def execGovernorRaise (die : Nat) (s : State) : Host.Outcome State Fault Refusal :=
  if die < 4 ∧ (dieGet s die).fit ≥ 25 ∧ !muted s ∧ !s.power.forced ∧ (dieGet s die).storm.isNone then
    .next (raisePoint (dieMod s die fun x => { x with fit := 0 }) die)
  else .next s

/-- POWER_CALIBRATION: every 1 ms the factor moves towards measured over estimated power, by at most 1 %, within 0.90 to 1.10
(14 R357).  Measured power in mW, voltage in 10 mV. -/
def execPowerCalibration (inputMw inputCv : Nat) (s : State) : Host.Outcome State Fault Refusal :=
  if s.clock < s.power.lastCal + 1000000 ∨ muted s then .next s
  else
    let p := s.power
    let s1 := pwr s fun q => { q with inputW := min 65535 (inputMw / 1000), inputCv := min 65535 inputCv, lastCal := s.clock, rawSum := 0, rawWindows := 0 }
    if p.rawSum = 0 then .next s1
    else
      let want := inputMw * p.rawWindows * 0x8000 / p.rawSum
      let near := max (p.factor - p.factor / 100) (min (p.factor + p.factor / 100) want)
      let f := max 29491 (min 36044 near)
      let s2 := pwr s1 fun q => { q with factor := f }
      if (f = 29491 ∨ f = 36044) ∧ f ≠ p.factor then .next (logEvent s2 0x70 0x6001 3 0xFF [f]) else .next s2

/-- Give units of a domain their share up to demand, in order: what is left. -/
def giveDies (s : State) (n : Nat) : State × Nat :=
  allDies.foldl (fun (a : State × Nat) d =>
    let g := min a.2 (dieDemand a.1 d - dieFloor)
    (dieAllow a.1 d (dieFloor + g), a.2 - g)) (s, n)
def giveStacks (s : State) (n : Nat) : State × Nat :=
  allStacks.foldl (fun (a : State × Nat) k =>
    let g := min a.2 (stackDemand a.1 k - stackFloor a.1 k)
    (stackMod a.1 k fun x => { x with allowance := stackFloor a.1 k + g }, a.2 - g)) (s, n)
def giveLink (s : State) (n : Nat) : State × Nat :=
  let g := min n (s.power.linkPeak - s.power.linkEst)
  (pwr s fun p => { p with linkAllow := p.linkEst + g }, n - g)

/-- What is left goes to the last domain, in equal parts (log entry 36). -/
def giveRestDies (s : State) (n : Nat) : State := allDies.foldl (fun a d => dieMod a d fun x => { x with allowance := x.allowance + n / 4 }) s
def giveRestStacks (s : State) (n : Nat) : State :=
  (enabledStacks s).foldl (fun a k => stackMod a k fun x => { x with allowance := x.allowance + n / (enabledStacks s).length }) s

/-- Every unit at its floor allowance. -/
def floorAllow (s : State) : State :=
  let s1 := allDies.foldl (fun a d => dieAllow a d dieFloor) s
  let s2 := allStacks.foldl (fun a n => stackMod a n fun x => { x with allowance := stackFloor s n }) s1
  pwr s2 fun p => { p with linkAllow := p.linkEst }

/-- ALLOWANCE_GRANT: every 100 µs the cap is shared: floors, then demand in the order of the priority code, the rest to the last
domain; during a chip reset the floors stand (14 R364, Table 14-8). -/
def execAllowanceGrant (s : State) : Host.Outcome State Fault Refusal :=
  if s.clock < s.power.lastGrant + 100000 ∨ muted s then .next s
  else
    let e := effectiveCap s
    let s1 := floorAllow (pwr s fun p => { p with effective := e.1, binding := e.2, lastGrant := s.clock })
    let left := budget e.1 - allowanceSum s1
    let clear := fun (a : State) => pwr a fun p => { p with
      linkPeak := p.linkEst
      dies := allDies.foldl (fun m d => let x := mapGet {} m d; mapSet {} m d { x with peak := x.estimate }) p.dies
      stks := allStacks.foldl (fun m n => let x := mapGet {} m n; mapSet {} m n { x with peak := x.estimate }) p.stks }
    if allowanceSum s1 > budget e.1 then .next (clear (withdraw (forceFloor s1) e.1))
    else if s.rcv.reqs.any (fun q => q.level == 4) then .next (clear s1)
    else
      let a := giveLink s1 left
      if regField s regPwrCfg 63 56 = 0 then
        let b := giveStacks a.1 a.2
        let c := giveDies b.1 b.2
        .next (clear (giveRestDies c.1 c.2))
      else
        let b := giveDies a.1 a.2
        let c := giveStacks b.1 b.2
        .next (clear (giveRestStacks c.1 c.2))

/-! ### The Mute (14 R381) -/

/-- Arm the Mute: the protective readings are noted, everything else stands as it is. -/
def muteArm (s : State) : State :=
  if muted s then s
  else pwr s fun p => { p with mute := some (p.sites.map fun e => (e.1, e.2.protect)), muteAt := s.clock, muteStepped := false }

/-- The loop core reclaims: the points stand, the Mute disarms, and what waited takes hold (14 R381). -/
def muteReclaim (s : State) : State :=
  if muted s then
    let s1 := pwr s fun p => { p with mute := none, muteStepped := false }
    let s2 := if s1.power.leaseState = 1 ∧ s1.clock ≥ s1.power.leaseEnd then pwr s1 fun p => { p with leaseState := 2, tray := p.orphan } else s1
    capChanged s2
  else s

/-- MUTE_STEP_DOWN: while armed, a reading 3 K above its value at the last step, or at 95 °C, lowers every die and engine by a step, at
most every 10 ms. -/
def execMuteStepDown (s : State) : Host.Outcome State Fault Refusal :=
  match s.power.mute with
  | none => .next s
  | some base =>
    let hot := s.power.sites.any fun e => e.2.protect ≥ 95 * 16 || e.2.protect ≥ mapGet 0 base e.1 + 48
    if !hot ∨ (s.power.muteStepped ∧ s.clock < s.power.muteAt + 10000000) then .next s
    else
      .next (pwr s fun p => { p with
        mute := some (p.sites.map fun e => (e.1, e.2.protect)), muteAt := s.clock, muteStepped := true
        dies := allDies.foldl (fun m d =>
          let x := mapGet {} m d
          let q := min floorPoint (x.point + 1)
          mapSet {} m d { x with point := q, target := q, change := none }) p.dies
        stks := allStacks.foldl (fun m n =>
          let x := mapGet {} m n
          mapSet {} m n { x with engine := min floorEngine (x.engine + 1) }) p.stks })

/-! ### Register images -/

/-- PWR_SLOTS. -/
def pwrSlots (p : PowerSt) : Nat := p.tray * 2 ^ 48 + p.patternW * 2 ^ 32 + p.thermal * 2 ^ 16 + p.warrant
/-- PWR_CAP_STATUS. -/
def pwrCapStatus (p : PowerSt) : Nat :=
  p.effective * 2 ^ 48 + p.binding * 2 ^ 44 + forcedCode p * 2 ^ 42 + bit p.mute.isSome * 2 ^ 41 + p.inputW * 2 ^ 16 + p.inputCv
/-- PWR_TRAY_LEASE. -/
def pwrTrayLease (s : State) : Nat :=
  let p := s.power
  p.leaseState * 2 ^ 62 + p.orphan * 2 ^ 32 + if p.leaseState = 1 then (p.leaseEnd - s.clock) / 1000000 else 0
/-- PWR_DOMAIN_k. -/
def pwrDomain (p : PowerSt) (k : Nat) : Nat :=
  let d := mapGet {} p.dies k
  let n := mapGet {} p.stks (k - 4)
  let image := fun (a e q duty : Nat) => min 65535 (a / 1000) * 2 ^ 48 + min 65535 (e / 1000) * 2 ^ 32 + q * 2 ^ 28 + duty * 2 ^ 23
  if k < 4 then image d.allowance d.estimate d.point d.duty
  else if k < 12 then (if mapHas p.stks (k - 4) then image n.allowance n.estimate n.engine n.duty else 0)
  else if k = 12 then image p.linkAllow p.linkEst 0 0
  else image (if p.lastGrant = 0 then 0 else 20000) p.alwaysEst 0 0

end Sys2Proof.Machine
end

