-- ==== Sys2Proof/Machine/Transfers.lean ====
section
/-! DEFINITION. Completion of ticketed transfers: GLD, GST, FILL, and the dispatch of a SEND (04 R138, R139, 05 R155, 07 R198, R201,
R203). -/

namespace Sys2Proof.Machine

/-- The ticket code of a transfer whose pieces gave a worst code; 0 stands for none. -/
def worstCode (w : Nat) : Nat := if w = 0 then 2 else w

/-- The worse of two piece codes: a failure over poisoned over done; the first failure stays. -/
def worseOf (a b : Nat) : Nat := if a > 3 then a else if b > 3 then b else max a b

/-- The DM operation of a ticket slot. -/
def opOf (s : State) (t tk : Nat) : Option DmOp := mapFind (tileGet s t).ops tk

/-- End a tile's ticket. -/
def postTicket (s : State) (t tk code : Nat) : State := tileMod s t fun x => endTicket x tk code

/-- A piece of a remote transfer is answered with a code: src_tag holds the ticket slot in bits 4:0 and the piece above it.  A GLD
or FILL counts the bytes still to land, a GST the pieces; a GST posts with its last piece, a SEND at once. -/
def answerPiece (s : State) (t srcTag code : Nat) : State :=
  let tk := srcTag % 32
  let len := fun (n : Nat) => (at' (0, 0) (pieces n) (srcTag / 32)).2
  let put := fun op => tileMod s t fun x => { x with ops := mapPut x.ops tk op }
  match opOf s t tk with
  | some (.gld a off n left w) => put (.gld a off n (left - len n) (worseOf w code))
  | some (.fill a first c left w) => put (.fill a first c (left - len (64 * c)) (worseOf w code))
  | some (.gst a off n left w) =>
    if left ≤ 1 then postTicket s t tk (worseOf w code) else put (.gst a off n (left - 1) (worseOf w code))
  | some (.send _ _ _ _ _ _ true) => postTicket s t tk code
  | _ => s

/-- Lines of memory as scratchpad words with their poison (07 R203): each of a line's 8 words takes the line's mark. -/
def lineWords (s : State) (l : Nat) : List (Nat × Bool) :=
  let d := lineData s l
  (wordsOf 8 d.1).map fun w => (w, d.2.1)

/-- GLOBAL_LOAD_COMPLETE: a local GLD's lines land in scratchpad and its ticket posts; a remote one posts once every response has
landed.  In strict mode an uncorrectable line ends it 0xA, delivers nothing and halts the engine (log entry 27). -/
def execGlobalLoadComplete (tile tk : Nat) (s : State) : Host.Outcome State Fault Refusal :=
  match opOf s tile tk with
  | some (.gld addr off len left worst) =>
    if isLocal s addr then
      let ls := linesOf (gOff addr) len
      let s1 := linesReadEffects s ls
      if isStrict s (ctxOfTile s tile) && ls.any fun l => (lineData s l).2.2 then .next (strictHalt s1 tile tk)
      else
        let ws := ls.flatMap (lineWords s)
        let code := if ws.any (·.2) then 3 else 2
        .next (postTicket (tileMod s1 tile fun x => padPutWords x (off / 8) ws) tile tk code)
    else if left = 0 then .next (postTicket s tile tk (worstCode worst))
    else .next s
  | _ => .next s

/-- Write a tile's lines to memory: poisoned lines of a sink are left unwritten (07 R204).  Answers whether one was left. -/
def storeLines (s : State) (off : Nat) : Nat → List Byte → List Bool → State × Bool
  | 0, _, _ => (s, false)
  | n + 1, bs, ms =>
    let p := (ms.take 8).any id
    let l := off / 64
    let r := storeLines (if p && lineSink s l then s else lineStore s l (bs.take 64) p) (off + 64) n (bs.drop 64) (ms.drop 8)
    (r.1, r.2 || (p && lineSink s l))

/-- GLOBAL_STORE_COMPLETE: the last line of a local GST is written at its channel, and the ticket posts. -/
def execGlobalStoreComplete (tile tk : Nat) (s : State) : Host.Outcome State Fault Refusal :=
  match opOf s tile tk with
  | some (.gst addr off len _ _) =>
    if isLocal s addr then
      let (bs, marks, bad) := padSource (tileGet s tile) off len
      let s1 := padReadEffects s tile (off / 8) (len / 8)
      let c := ctxOfTile s tile
      if bad && isStrict s c then .next (strictHalt s1 tile tk)
      else
        let s2 := (storeLines s1 (gOff addr) (len / 64) bs marks).1
        let s3 := twinLines s2 c (ownChip s) (gOff addr) bs fun k => ((marks.drop (8 * k)).take 8).any id
        .next (postTicket s3 tile tk (if marks.any id then 3 else 2))
    else .next s
  | _ => .next s

/-- Write a bundle into an instruction buffer: from bad data it is stored with check bits that decode as uncorrectable (07 R198). -/
def ibufPut (x : Tile) (b : Nat) (v : BitVec 512) (bad : Bool) : Tile :=
  let y := { x with
    ibuf := mapSet 0 x.ibuf b v
    ibufErr := (List.range 8).foldl (fun m w => mapDel m (8 * b + w)) x.ibufErr
    fix := x.fix.filter fun f => !(padWords + 8 * b ≤ f && f < padWords + 8 * b + 8) }
  if bad then { y with ibufErr := mapSet 0 y.ibufErr (8 * b) badPattern } else y

/-- FILL_COMPLETE: a local FILL's bundles are written and its ticket posts; a remote one posts once every response has landed.  In
strict mode no bundle of an uncorrectable line is written, the ticket ends 0xA and the engine halts. -/
def execFillComplete (tile tk : Nat) (s : State) : Host.Outcome State Fault Refusal :=
  match opOf s tile tk with
  | some (.fill addr first count left worst) =>
    if isLocal s addr then
      let s1 := linesReadEffects s (linesOf (gOff addr) (64 * count))
      let strict := isStrict s (ctxOfTile s tile)
      let parts := (List.range count).map fun i => (first + i, memLoad s (gOff addr + 64 * i) 64)
      let s2 := tileMod s1 tile fun x => parts.foldl (fun y p =>
        if strict && p.2.2.2 then y else ibufPut y p.1 (BitVec.ofNat 512 (ofBytes p.2.1)) (p.2.2.1 || p.2.2.2)) x
      if strict && parts.any fun p => p.2.2.2 then .next (strictHalt s2 tile tk)
      else .next (postTicket s2 tile tk (if parts.any fun p => p.2.2.1 || p.2.2.2 then 3 else 2))
    else if left = 0 then .next (postTicket s tile tk (worstCode worst))
    else .next s
  | _ => .next s

/-- Does a transmit record name a channel. -/
def txNames (chip t ch : Nat) (c : TxChan) : Bool := c.chip == chip && c.tile == t && c.chan == ch

/-- Credits that a sending tile holds for a channel (04 R139). -/
def txCredits (x : Tile) (chip t ch : Nat) : Nat := ((x.tx.find? (txNames chip t ch)).map (·.credits)).getD 0

/-- Set the credits of a channel. -/
def txSet (x : Tile) (chip t ch n : Nat) : Tile :=
  { x with tx := x.tx.filter (fun c => !txNames chip t ch c) ++ (if n = 0 then [] else [⟨chip, t, ch, n⟩]) }

/-- Is a SEND the earliest of its channel that has not left (04 R139: messages arrive in the sender's issue order). -/
def sendFirst (x : Tile) (chip t ch issued : Nat) : Bool :=
  x.ops.all fun e => match e.2 with
    | .send c u h _ _ i false => !(c == chip && u == t && h == ch) || issued ≤ i
    | _ => true

/-- SEND_DISPATCH: a pending SEND that holds a credit leaves as one channel message. -/
def execSendDispatch (tile tk : Nat) (s : State) : Host.Outcome State Fault Refusal :=
  let x := tileGet s tile
  match opOf s tile tk with
  | some (.send chip t ch off len issued false) =>
    let n := txCredits x chip t ch
    if n = 0 ∨ !sendFirst x chip t ch issued then .next s
    else
      let (bs, marks, bad) := padSource x off len
      let s1 := padReadEffects s tile (off / 8) (len / 8)
      let c := ctxOfTile s tile
      if bad && isStrict s c then .next (strictHalt s1 tile tk)
      else
        let p := finishPacket {
          dst := chip, src := ownChip s, srcCtx := c, kind := 0x05, srcTag := tk, dstTile := t, channel := ch, origin := tile,
          payload := bs, poison := flitPoison len fun j => at' false marks (j / 8) }
        let s2 := tileMod s1 tile fun y =>
          { (txSet y chip t ch (n - 1)) with ops := mapPut y.ops tk (.send chip t ch off len issued true) }
        let s3 := twinItem s2 c ([2] ++ bytesOf 2 chip ++ bytesOf 1 ch ++ bytesOf 1 (bit (marks.any id)) ++ bs)
        .next (inject s3 (portTile (dieOfTile s tile)) p)
  | _ => .next s

end Sys2Proof.Machine
end

