-- ==== Sys2Proof/Machine/Router.lean ====
section
/-! DEFINITION. The router: heads, worms, outputs, scheduling, cuts and its counters (08 R210-R238, 17 R441). -/

namespace Sys2Proof.Machine

/-! ### Control words and ports (08 Tables 08-1 and 08-2) -/

def ctrlKind (c : Nat) : Nat := bitsOf c 31 30
def ctrlVc (c : Nat) : Nat := bitsOf c 29 27
def ctrlPoison (c : Nat) : Bool := bitOf c 26
def ctrlCut (c : Nat) : Bool := bitOf c 25
def ctrlPool (c : Nat) : Bool := bitOf c 24
def ctrlTag (c : Nat) : Nat := bitsOf c 23 12
def ctrlIndex (c : Nat) : Nat := bitsOf c 11 6

/-- A control word. -/
def ctrlWord (kind vc : Nat) (poison cut pool : Bool) (tag index : Nat) : Nat :=
  kind * 2 ^ 30 + vc * 2 ^ 27 + bit poison * 2 ^ 26 + bit cut * 2 ^ 25 + bit pool * 2 ^ 24 + tag % 4096 * 2 ^ 12 + index % 64 * 2 ^ 6

/-- Is a flit the last of its packet. -/
def ctrlLast (c : Nat) : Bool := ctrlKind c ≥ 2

/-- Is a port an internal one. -/
def isInternal (port : Nat) : Bool := port ≥ 18

/-- Rank of a port's group (08 R220). -/
def portRank (port : Nat) : Nat := if port < 7 then 1 else if port < 14 then 2 else if port < 18 then 3 else 0

/-- The order rule of R220. -/
def orderOk (arrival out : Nat) : Bool := portRank arrival != 3 && portRank out > portRank arrival

/-- FAB_PORT_STATUS.state. -/
def portState (s : State) (p : Nat) : Nat := regField s (regPortStatus p) 3 0

/-- Set FAB_PORT_STATUS.state; a change is reported to the host (15 R390, event kind 0x05). -/
def setPortState (s : State) (p v : Nat) : State :=
  if portState s p = v then s else eventAppend (regPut s (regPortStatus p) 3 0 v) 5 0xFF 0 0 0 p

/-- Does a port carry packets: internal, active, in Quiet, or in a link reset (08 Table 08-15). -/
def portUp (s : State) (p : Nat) : Bool := isInternal p || portState s p == 2 || portState s p == 3 || portState s p == 7

/-- Key of a virtual channel or pool of a port. -/
def pvKey (port v : Nat) : Nat := 8 * port + v

def inGet (s : State) (port vc : Nat) : InVc := mapGet {} s.router.ins (pvKey port vc)
def inSet (s : State) (port vc : Nat) (x : InVc) : State :=
  { s with router := { s.router with ins := mapSet {} s.router.ins (pvKey port vc) x } }
def outGet (s : State) (port vc : Nat) : OutVc := mapGet {} s.router.outs (pvKey port vc)
def outSet (s : State) (port vc : Nat) (x : OutVc) : State :=
  { s with router := { s.router with outs := mapSet {} s.router.outs (pvKey port vc) x } }

/-! ### Counters (08 R237) -/

/-- Offset of a counter in the fabric window. -/
def vcOff (port vc off : Nat) : Nat := fabPort port + 0x100 * (vc + 1) + off

/-- Add to a counter, modulo 2^64. -/
def cntAdd (s : State) (port vc off n : Nat) : State :=
  let k := vcOff port vc off
  { s with router := { s.router with cnt := mapSet 0 s.router.cnt k ((mapGet 0 s.router.cnt k + n) % 2 ^ 64) } }

def cPktIn := 0x00
def cPktOut := 0x08
def cPktTrunc := 0x10
def cPktRefused := 0x18
def cPktDiscarded := 0x20
def cPktHeld := 0x28
def cOrphan := 0x30
def cFlitsRx := 0x38
def cFlitsTx := 0x40
def cPktsTx := 0x48
def cStall := 0x50
def cQueue := 0x58
def cDiscard (r : Nat) := 0x80 + 8 * r

/-- A packet is discarded for a reason. -/
def cntDiscard (s : State) (port vc reason : Nat) : State := cntAdd (cntAdd s port vc cPktDiscarded 1) port vc (cDiscard reason) 1

/-- Add to a pool's table. -/
def poolAdd (m : SMap Nat) (k n : Nat) : SMap Nat := mapSet 0 m k ((mapGet 0 m k + n) % 2 ^ 32)

/-- The pool of a flit on a port: its VC, or 6 the shared pool. -/
def poolOf (vc : Nat) (pool : Bool) : Nat := if pool then 6 else vc

/-- Configured credits of a pool (08 R223). -/
def poolSize (pool : Nat) : Nat := if pool = 6 then 384 else 16

/-- A flit's buffer is freed: its credit goes back (08 R222); an internal port returns it on side wires at once. -/
def freeFlit (s : State) (port vc : Nat) (pool : Bool) : State :=
  let k := pvKey port (poolOf vc pool)
  if isInternal port then { s with router := { s.router with returned := poolAdd s.router.returned k 1 } }
  else { s with router := { s.router with owed := poolAdd s.router.owed k 1 } }

/-- Free a list of flits of a virtual channel. -/
def freeFlits (s : State) (port vc : Nat) (fs : List (Flit × Bool)) : State := fs.foldl (fun a f => freeFlit a port vc f.2) s

/-- Flits of a virtual channel in the input buffer. -/
def vcFlits (x : InVc) : Nat := (x.worms.map fun w => w.flits.length).foldl (· + ·) 0

/-- Note the depth of an input buffer for the peaks. -/
def notePeak (x : InVc) : InVc := { x with peakS := max x.peakS (vcFlits x), peakH := max x.peakH (vcFlits x) }

/-! ### Heads (08 R214, R215) -/

/-- The head that 128 bytes spell. -/
def headOf (data : Nat) : Packet := packetOfWords (elemsAt 64 16 data)

/-- The 128 bytes of a head. -/
def headData (p : Packet) : Nat := packElems 64 (headWords p)

/-- Kinds that may carry mcast (08 Table 08-4). -/
def kindMcast (k : Nat) : Bool := k == 0x09 || k == 0x0A || k == 0x0B

/-- Is a packet refusable: kinds 0x01, 0x02, 0x05, and 0x09 as unicast. -/
def refusable (p : Packet) : Bool := p.kind == 1 || p.kind == 2 || p.kind == 5 || (p.kind == 9 && !p.mcast)

/-- Are head words 5 + i and on zero. -/
def extZeroFrom (p : Packet) (i : Nat) : Bool := (p.ext.drop i).all (· == 0)

/-- Reserved fields of the kind-specific words (08 R214, R216, R232); the other kinds' agents check their own. -/
def extReservedOk (p : Packet) : Bool :=
  if p.kind ≤ 5 then extZeroFrom p 0
  else if p.kind = 6 then
    extZeroFrom p 1 && (if p.channel = 0xFF then extWord p 0 % 2 ^ 32 == 0 else extWord p 0 % 2 ^ 55 == 0)
  else if p.kind = 7 then extZeroFrom p 1 && extWord p 0 % 2 ^ 43 == 0
  else if p.kind = 0x0B then extZeroFrom p 1 && bitsOf (extWord p 0) 47 32 == 0
  else true

/-- The packet's own rack base (08 Table 08-3). -/
def rackBase (s : State) : Nat := ownChip s / 64 * 64

/-- Is a head malformed (08 R215). -/
def headMalformed (s : State) (vc : Nat) (p : Packet) : Bool :=
  kindVc p.kind != some vc || p.vc != vc
    || (if p.kind = 2 then p.flits != 0 || p.bytes < 64 || p.bytes > 4096 || p.bytes % 64 != 0
        else p.flits != (p.bytes + 127) / 128 || p.bytes > 4096)
    || p.rsv != 0 || !extReservedOk p || (p.mcast && !kindMcast p.kind)
    || (p.mcast && p.group && p.members ≥ 4096) || (p.mcast && !p.group && p.dst != rackBase s)

/-! ### Where a packet goes (08 R217-R220, R232-R234) -/

def routeEntry (s : State) (dst : Nat) : Nat := mapGet 0 s.router.routes dst
def routeValid (s : State) (dst : Nat) : Bool := bitOf (routeEntry s dst) 15
def routeAllows (s : State) (dst vc : Nat) : Bool := bitOf (routeEntry s dst) (9 + vc)
def routePort (s : State) (dst : Nat) : Nat := bitsOf (routeEntry s dst) 8 4
def groupEntry (s : State) (g : Nat) : Nat := mapGet 0 s.router.groups g

/-- What becomes of a packet. -/
inductive Verdict where
  | out (port : Nat)
  | refuse (status : Nat)
  | discard (reason : Nat)
  /-- a twin duplicate, with the recorded poison bit -/
  | duplicate (poison : Bool)
  deriving DecidableEq, Repr

/-- Refused where the kind allows it, else discarded. -/
def refuseOr (p : Packet) (status reason : Nat) : Verdict := if refusable p then .refuse status else .discard reason

/-- Is a level that takes the chip's local agents down in progress (08 R234). -/
def chipDown (s : State) : Bool := s.rcv.reqs.any fun q => q.level ≥ 4

/-- Is a stack in a partition reset, its own or its die's (17 R433, R434). -/
def stackDown (s : State) (n : Nat) : Bool :=
  s.rcv.reqs.any fun q => q.level == 3 && ((q.stack && q.index == n) || (!q.stack && q.index == n / 2))

/-- Does the applied Pattern define a context. -/
def ctxDefined (s : State) (c : Nat) : Bool := (ctxRec s c).isSome

/-- The context a packet is delivered for (08 R219); none for agents without one. -/
def destCtx (s : State) (p : Packet) : Option Nat :=
  if p.kind = 1 ∨ p.kind = 2 then some p.dstCtx
  else if p.dstTile < 0xFFFE then some (ctxOfTile s p.dstTile)
  else none

/-- Local delivery of a memory packet (08 R219, R232). -/
def memVerdict (s : State) (p : Packet) : Verdict :=
  if chipDown s then .refuse 0x02
  else if !ctxDefined s p.dstCtx then .refuse 0x03
  else if ctxInReset s p.dstCtx then .refuse 0x01
  else
    match decodeOffset s p.offset with
    | none => .refuse 0x04
    | some (st, _, _) =>
      if stackDown s st then .refuse 0x02
      else if !inRegions s p.dstCtx p.offset p.bytes then .refuse 0x04
      else .out (portMem (st / 2))

/-- Is a packet's sender the one its channel record names (04 R139); a twin's copy counts for either of the pair (17 R441). -/
def isSender (r : ChanRec) (p : Packet) : Bool :=
  r.sender == p.origin && (r.chip == p.src || (p.twinSeq != 0 && r.chip / 2 == p.src / 2))

/-- Local delivery of a packet to a tile. -/
def tileVerdict (s : State) (p : Packet) : Verdict :=
  if chipDown s then refuseOr p 0x02 0x8
  else if (gangOfTile s p.dstTile).isNone then refuseOr p 0x03 0xA
  else if ctxInReset s (ctxOfTile s p.dstTile) ∧ p.kind ≠ 6 then refuseOr p 0x01 0x8
  else if p.kind = 5 then
    match chanRec s p.dstTile p.channel with
    | none => .refuse 0x03
    | some r =>
      if !isSender r p then .refuse 0x03
      else if p.bytes > r.slot then .refuse 0x05
      else .out (portTile (dieOfTile s p.dstTile))
  else .out (portTile (dieOfTile s p.dstTile))

/-- Local delivery by kind (08 R219); a twin mirror record goes to the Steward (17 R446). -/
def localVerdict (s : State) (p : Packet) : Verdict :=
  match p.kind with
  | 0x01 => memVerdict s p
  | 0x02 => memVerdict s p
  | 0x08 => .out portStrum
  | 0x0B => .out portSteward
  | 0x0C => .out portSteward
  | k =>
    if (k = 3 ∨ k = 4 ∨ k = 7) ∧ p.dstTile = 0xFFFE then .out portHost
    else if (k = 3 ∨ k = 4 ∨ k = 7) ∧ p.dstTile = 0xFFFF then .out portSteward
    else tileVerdict s p

/-! ### The twin filter (17 R441) -/

def seqAgent (p : Packet) : Nat := p.twinSeq / 2 ^ 20
def seqCount (p : Packet) : Nat := p.twinSeq % 2 ^ 20

/-- Is a stream that of a packet. -/
def isStream (p : Packet) (t : TwinStream) : Bool :=
  t.src == p.src / 2 * 2 && t.ctx == p.srcCtx && t.vc == p.vc && t.agent == seqAgent p

/-- How far count a lies after count b: counts run from 1 to 2^20 - 1 and wrap (17 R440). -/
def seqAfter (a b : Nat) : Nat := (a + (2 ^ 20 - 1) - b % (2 ^ 20 - 1)) % (2 ^ 20 - 1)

/-- Does a count lie above the highest of its stream: the nearer way round (log entry 52). -/
def seqAbove (t : TwinStream) (n : Nat) : Bool := t.high == 0 || (seqAfter n t.high != 0 && seqAfter n t.high < 2 ^ 19)

/-- What the filter says of a packet: none where it is to be delivered. -/
def twinVerdict (s : State) (p : Packet) : Option Verdict :=
  if p.twinSeq = 0 ∨ p.kind = 2 then none
  else
    match s.twin.streams.find? (isStream p) with
    | none => if s.twin.streams.length < 16384 then none else some (.discard 0xB)
    | some t =>
      match t.marks.find? fun m => m.1 == seqCount p with
      | some m => some (.duplicate m.2)
      | none => if !seqAbove t (seqCount p) && seqAfter t.high (seqCount p) > 1023 then some (.duplicate false) else none

/-- Open the packet's stream, or note its arrival. -/
def twinTouch (s : State) (p : Packet) : State :=
  if p.twinSeq = 0 ∨ p.kind = 2 then s
  else
    let fresh : TwinStream := ⟨p.src / 2 * 2, p.srcCtx, p.vc, seqAgent p, 0, [], s.clock⟩
    let streams :=
      if s.twin.streams.any (isStream p) then s.twin.streams.map fun t => if isStream p t then { t with last := s.clock } else t
      else s.twin.streams ++ [fresh]
    { s with twin := { s.twin with streams := streams } }

/-- Mark a whole copy's count with its poison. -/
def twinMark (s : State) (p : Packet) (poison : Bool) : State :=
  if p.twinSeq = 0 ∨ p.kind = 2 then s
  else
    let mark := fun (t : TwinStream) =>
      let h := if seqAbove t (seqCount p) then seqCount p else t.high
      { t with high := h, marks := (t.marks ++ [(seqCount p, poison)]).filter fun m => seqAfter h m.1 ≤ 1023 }
    { s with twin := { s.twin with streams := s.twin.streams.map fun t => if isStream p t then mark t else t } }

/-! ### Arrival of a head (08 R218) -/

/-- A unicast head's fate. -/
def unicastVerdict (s : State) (port : Nat) (p : Packet) : Verdict :=
  if !routeValid s p.dst then (if isInternal port then .discard 0x0 else refuseOr p 0x07 0xA)
  else if !isInternal port && !routeValid s p.src then .discard 0x1
  else if !routeAllows s p.dst p.vc then .discard 0x2
  else if routePort s p.dst = 31 then
    match localVerdict s p with
    | .out q => (match twinVerdict s p with | some v => v | none => .out q)
    | v => v
  else if !orderOk port (routePort s p.dst) then .discard 0x3
  else if !portUp s (routePort s p.dst) then refuseOr p 0x06 0x8
  else .out (routePort s p.dst)

/-- Add a member bit to a port's sub-mask. -/
def maskAdd (m : SMap Nat) (port i : Nat) : SMap Nat := mapPut m port (mapGet 0 m port ||| 2 ^ i)

/-- The branches of a member-mask packet (08 R230), the reasons its members were pruned for, in order. -/
def maskBranches (s : State) (port : Nat) (p : Packet) : SMap Nat × List Nat :=
  let own := ownChip s % 64
  (setBits 64 p.members).foldl (fun (a : SMap Nat × List Nat) i =>
    if i = own then
      match localVerdict s p with
      | .out q => (maskAdd a.1 q i, a.2)
      | .discard r => (a.1, a.2 ++ [r])
      | _ => (a.1, a.2 ++ [0xA])
    else
      let e := rackBase s + i
      if !routeValid s e then (a.1, a.2 ++ [0x0])
      else if !routeAllows s e p.vc then (a.1, a.2 ++ [0x2])
      else if !orderOk port (routePort s e) then (a.1, a.2 ++ [0x3])
      else if !portUp s (routePort s e) then (a.1, a.2 ++ [0x8])
      else (maskAdd a.1 (routePort s e) i, a.2)) ([], [])

/-- The branches of a group packet (08 R230). -/
def groupBranches (s : State) (port : Nat) (p : Packet) : SMap Nat × List Nat :=
  let e := groupEntry s p.members
  let deliver :=
    if !bitOf e 18 then (([] : SMap Nat), ([] : List Nat))
    else
      match localVerdict s p with
      | .out q => ([(q, p.members)], [])
      | .discard r => ([], [r])
      | _ => ([], [0xA])
  if !bitOf e 31 then ([], [0x0])
  else if !bitOf e (25 + p.vc) then ([], [0x2])
  else if portRank port = 3 then (if bitOf e 18 then deliver else ([], [0x2]))
  else
    let ups := ((List.range 4).filter fun u => bitOf e (14 + u)).map (· + 14)
    let ok := ups.filter (portUp s)
    (ok.foldl (fun m u => mapPut m u p.members) deliver.1, deliver.2 ++ (ups.filter fun u => !portUp s u).map fun _ => 0x8)

/-- A worm begins at an input virtual channel. -/
def wormBegin (s : State) (port vc ctrl data : Nat) (p : Packet) (branches : List Branch) : State :=
  let w : Worm := ⟨ctrlTag ctrl, p, branches, [(⟨ctrl, data⟩, ctrlPool ctrl)], 0, ctrlLast ctrl, false, false, s.clock, false, false⟩
  let x := inGet s port vc
  inSet s port vc (notePeak { x with worms := x.worms ++ [w] })

/-- The head's flit is drained with the flits that follow it. -/
def headDrain (s : State) (port vc ctrl : Nat) : State :=
  let s1 := freeFlit s port vc (ctrlPool ctrl)
  if ctrlLast ctrl then s1 else inSet s1 port vc { inGet s1 port vc with drain := some (ctrlTag ctrl) }

/-- The sending agent's ticket ends 0x7 where its packet's destination lies outside the slice (08 R218 check 1). -/
def agentOutside (s : State) (p : Packet) : State :=
  if p.origin < 0xFFFE ∧ p.src = ownChip s ∧ refusable p then answerPiece s p.origin p.srcTag 0x7 else s

/-- The router agent turns a packet back, or the refusal is discarded with it (08 R232). -/
def refusePacket (s : State) (p : Packet) (status : Nat) : State := inject s portAgent (refusalPacket s p status)

/-- A checked head meets its verdict. -/
def headVerdict (s : State) (port vc ctrl data : Nat) (p : Packet) : State :=
  if p.mcast then
    if !isInternal port && !routeValid s p.src then headDrain (cntDiscard s port vc 0x1) port vc ctrl
    else
      let (subs, pruned) := if p.group then groupBranches s port p else maskBranches s port p
      let s1 := pruned.foldl (fun a r => cntAdd a port vc (cDiscard r) 1) s
      if subs.isEmpty then headDrain (cntAdd s1 port vc cPktDiscarded 1) port vc ctrl
      else
        wormBegin s1 port vc ctrl data p
          (subs.map fun e => ⟨e.1, if p.group || isInternal e.1 then none else some e.2, false, 0, false⟩)
  else
    match unicastVerdict s port p with
    | .out q =>
      let s1 := if isInternal q then twinTouch s p else s
      wormBegin s1 port vc ctrl data p [⟨q, none, false, 0, false⟩]
    | .refuse status => headDrain (refusePacket (cntAdd s port vc cPktRefused 1) p status) port vc ctrl
    | .discard r =>
      let s1 := if r = 0 then agentOutside s p else s
      let s2 := if r = 0xB then logEvent (regSatAdd s1 regRcvTwinCnt 31 16 1) 0x60 Config.filterEvent 4 0xFF [p.src] else s1
      headDrain (cntDiscard s2 port vc r) port vc ctrl
    | .duplicate poison =>
      let s1 := cntDiscard s port vc 0xB
      let s2 := if p.kind = 1 then inject s1 portAgent (ackPacket s1 p (if poison then 2 else 0)) else s1
      headDrain s2 port vc ctrl

/-- A flit counts as received (08 R224, R237). -/
def countRx (s : State) (port vc ctrl : Nat) : State :=
  let s1 := cntAdd s port vc cFlitsRx 1
  { s1 with router := { s1.router with rx := poolAdd s1.router.rx (pvKey port (poolOf vc (ctrlPool ctrl))) 1 } }

/-- A flit of an orphaned worm is discarded (08 R228). -/
def orphanFlit (s : State) (port vc ctrl : Nat) : State :=
  let s1 := freeFlit (cntAdd (cntAdd s port vc cOrphan 1) port vc (cDiscard 6) 1) port vc (ctrlPool ctrl)
  if ctrlLast ctrl then inSet s1 port vc { inGet s1 port vc with orphan := none } else s1

/-- A head flit reaches an input. -/
def headArrive (s : State) (port ctrl data : Nat) : State :=
  let vc := ctrlVc ctrl
  let s1 := countRx s port vc ctrl
  let x := inGet s1 port vc
  if x.orphan = some (ctrlTag ctrl) then orphanFlit s1 port vc ctrl
  else
    let s2 := cntAdd (inSet s1 port vc { x with orphan := none }) port vc cPktIn 1
    let p := headOf data
    if ctrlPoison ctrl then headDrain (cntDiscard s2 port vc 0x5) port vc ctrl
    else if headMalformed s2 vc p then headDrain (cntDiscard s2 port vc 0x4) port vc ctrl
    else headVerdict s2 port vc ctrl data p

/-- PACKET_HEAD_ARRIVAL: a head flit reaches an input port.  A flit with a virtual channel of 6 or 7 is discarded at an internal port
with a Daybook entry, and never reaches the router from an external one (10 R275). -/
def execPacketHeadArrival (port ctrl data : Nat) (s : State) : Host.Outcome State Fault Refusal :=
  if port ≥ 30 ∨ (ctrlKind ctrl ≠ 0 ∧ ctrlKind ctrl ≠ 3) then .next s
  else if ctrlVc ctrl ≥ 6 then
    if isInternal port then .next (logEvent s 0x60 Config.strayFlitEvent 4 0xFF [port]) else .next s
  else .next (headArrive s port (ctrl % 2 ^ 32) (data % 2 ^ 1024))

/-! ### Body and tail flits -/

/-- A flit joins the open worm of its tag: the last one, whose tail has not come. -/
def joinWorm (clock : Nat) (f : Flit) : List Worm → Option (List Worm)
  | [] => none
  | w :: ws =>
    if ws.isEmpty then
      if w.tag = ctrlTag f.ctrl ∧ !w.ended then
        some [{ w with
          flits := w.flits ++ [(f, ctrlPool f.ctrl)], ended := ctrlLast f.ctrl, cut := w.cut || ctrlCut f.ctrl, since := clock,
          poison := w.poison || ctrlPoison f.ctrl }]
      else none
    else (joinWorm clock f ws).map fun l => w :: l

/-- A body or tail flit reaches an input (08 R227, R228). -/
def flitArrive (s : State) (port ctrl data : Nat) : State :=
  let vc := ctrlVc ctrl
  let s1 := countRx s port vc ctrl
  let x := inGet s1 port vc
  if x.orphan = some (ctrlTag ctrl) then orphanFlit s1 port vc ctrl
  else if x.drain = some (ctrlTag ctrl) then
    let s2 := freeFlit s1 port vc (ctrlPool ctrl)
    if ctrlLast ctrl then inSet s2 port vc { inGet s2 port vc with drain := none } else s2
  else
    match joinWorm s.clock ⟨ctrl, data⟩ x.worms with
    | some ws => inSet s1 port vc (notePeak { x with worms := ws })
    | none => freeFlit s1 port vc (ctrlPool ctrl)

/-- FLIT_ARRIVAL: a body or tail flit reaches an input port. -/
def execFlitArrival (port ctrl data : Nat) (s : State) : Host.Outcome State Fault Refusal :=
  if port ≥ 30 ∨ ctrlKind ctrl = 0 ∨ ctrlKind ctrl = 3 then .next s
  else if ctrlVc ctrl ≥ 6 then
    if isInternal port then .next (logEvent s 0x60 Config.strayFlitEvent 4 0xFF [port]) else .next s
  else .next (flitArrive s port (ctrl % 2 ^ 32) (data % 2 ^ 1024))

/-! ### Outputs (08 R231, R235) -/

/-- The branch a worm asks for next: in ascending port number, one at a time. -/
def nextBranch (w : Worm) : Option Nat := (w.branches.find? fun b => !b.held && !b.done).map (·.port)

/-- The input ports whose oldest worm asks for an output virtual channel. -/
def askers (s : State) (port vc : Nat) : List Nat :=
  (List.range 30).filter fun i => match (inGet s i vc).worms with | w :: _ => nextBranch w == some port | [] => false

/-- Replace the oldest worm of an input virtual channel. -/
def headWorm (f : Worm → Worm) (x : InVc) : InVc :=
  match x.worms with
  | w :: ws => { x with worms := f w :: ws }
  | [] => x

/-- OUTPUT_ALLOCATE: a free output virtual channel is taken by the next waiting worm, round robin by input port from the one last
served; the worm gets the output's next link tag (08 R213). -/
def execOutputAllocate (port vc : Nat) (s : State) : Host.Outcome State Fault Refusal :=
  let o := outGet s port vc
  if port ≥ 30 ∨ vc ≥ 6 ∨ o.owner.isSome then .next s
  else
    match ((List.range 30).map fun i => (o.lastIn + 1 + i) % 30).find? fun i => (askers s port vc).contains i with
    | none => .next s
    | some i =>
      let take := headWorm fun w => { w with branches := w.branches.map fun b => if b.port = port ∧ !b.done then { b with held := true } else b }
      .next (inSet (outSet s port vc { o with owner := some (pvKey i vc), lastIn := i, tag := (o.tag + 1) % 4096 }) i vc
        (take (inGet s i vc)))

/-- What a held branch can send next: a flit of the buffer, or the truncating tail of a worm that was cut. -/
inductive Ready where
  | flit (f : Flit)
  | truncate (index : Nat)
  deriving DecidableEq, Repr

/-- The flit that is ready on an output virtual channel, with its input port. -/
def readyFlit (s : State) (port vc : Nat) : Option (Nat × Ready) :=
  match (outGet s port vc).owner with
  | none => none
  | some k =>
    match (inGet s (k / 8) vc).worms with
    | w :: _ =>
      match w.branches.find? fun b => b.port == port && b.held && !b.done with
      | some b =>
        if b.sent < w.first + w.flits.length then
          (w.flits[b.sent - w.first]?).map fun f => (k / 8, .flit f.1)
        else if w.cutHere then some (k / 8, .truncate b.sent) else none
      | none => none
    | [] => none

/-- Credits the sender of a port still holds in a pool. -/
def credits (s : State) (port pool : Nat) : Nat := poolSize pool - mapGet 0 s.router.spent (pvKey port pool)

/-- The pool a flit of a virtual channel would spend: its own credits first (08 R222); an internal port's agent takes a flit at
once (log entry 31). -/
def spendPool (s : State) (port vc : Nat) : Option Nat :=
  if portState s port = 7 then none
  else if isInternal port then some vc
  else if portState s port ≠ 2 ∧ portState s port ≠ 3 then none
  else if credits s port vc > 0 then some vc
  else if credits s port 6 > 0 then some 6
  else none

/-- Is a packet sealed on a port: an up port with PRT_CTRL.seal, src and dst in the seal list (10 R290). -/
def sealDue (s : State) (port : Nat) (p : Packet) : Bool :=
  14 ≤ port && port < 18 && regField s (regPrtCtrl port) 38 38 == 1 && s.link.sealList.contains p.src && s.link.sealList.contains p.dst

/-- The head of the worm that an output virtual channel carries. -/
def outHead (s : State) (port vc : Nat) : Option Packet :=
  match (outGet s port vc).owner with
  | some k => ((inGet s (k / 8) vc).worms.head?).map (·.head)
  | none => none

/-- A packet to be sealed waits while the package holds no slice key (log entry 33). -/
def sealWaits (s : State) (port vc : Nat) : Bool :=
  match outHead s port vc with | some p => sealDue s port p && s.link.sealKey.isNone | none => false

/-- Is a virtual channel eligible (08 R235). -/
def eligible (s : State) (port vc : Nat) : Bool :=
  (readyFlit s port vc).isSome && (spendPool s port vc).isSome && !sealWaits s port vc

/-- Weight of a weighted virtual channel (08 Table 08-16). -/
def vcWeight (s : State) (port vc : Nat) : Nat :=
  let i := if vc = 0 then 0 else if vc = 1 then 1 else if vc = 2 then 2 else 3
  regField s (regPortWeights port) (8 * i + 7) (8 * i)

/-- The eligible weighted channel with the largest credit after its weight is added; ties go to the lower. -/
def pickWeighted (s : State) (port : Nat) (vs : List Nat) : Option Nat :=
  vs.foldl (fun (best : Option Nat) v =>
    let c := fun (u : Nat) => (outGet s port u).cur + (vcWeight s port u : Int)
    match best with
    | none => some v
    | some b => if c v > c b then some v else some b) none

/-- A slot that sends none of the virtual channels goes by. -/
def slotPass (s : State) (port : Nat) : State :=
  let st := mapGet (0, 0) s.router.strict port
  { s with router := { s.router with strict := mapSet (0, 0) s.router.strict port (st.1, st.2 + 1) } }

/-- The virtual channel of a slot, and the state with the round-robin credits and strict slots charged (08 R235). -/
def pickVc (s : State) (port : Nat) : Option (Nat × State) :=
  let st := mapGet (0, 0) s.router.strict port
  let share := max 1 (regField s regFabCtrl 21 16)
  let charge := fun (n : Nat) => { s with router := { s.router with strict := mapSet (0, 0) s.router.strict port (st.1 + n, st.2 + 1) } }
  let ws := [0, 1, 2, 5].filter (eligible s port)
  if eligible s port 3 && st.1 < share then some (3, charge 1)
  else if eligible s port 4 && st.1 < share then some (4, charge 1)
  else if ws.isEmpty then
    if eligible s port 3 then some (3, charge 0) else if eligible s port 4 then some (4, charge 0) else none
  else
    let total : Int := (((ws.map (vcWeight s port)).foldl (· + ·) 0 : Nat) : Int)
    match pickWeighted s port ws with
    | none => none
    | some v =>
      some (v, ws.foldl (fun a u =>
        let o := outGet a port u
        outSet a port u { o with cur := o.cur + (vcWeight s port u : Int) - (if u = v then total else 0) }) (charge 0))

/-- Drop the flits of a worm that every branch has taken, freeing their buffers (08 R231). -/
def wormFree (s : State) (port vc : Nat) : State :=
  let x := inGet s port vc
  match x.worms with
  | w :: ws =>
    let n := w.branches.foldl (fun a b => if b.done then a else min a b.sent) (w.first + w.flits.length) - w.first
    freeFlits (inSet s port vc { x with worms := { w with flits := w.flits.drop n, first := w.first + n } :: ws }) port vc (w.flits.take n)
  | [] => s

/-- The last branch's tail has left: the packet's outcome is counted, and the worm is gone. -/
def wormDone (s : State) (port vc : Nat) : State :=
  let x := inGet s port vc
  match x.worms with
  | w :: ws =>
    if w.branches.all (·.done) then
      let s1 := cntAdd (inSet s port vc { x with worms := ws }) port vc cPktOut 1
      let s2 := if w.cut || w.cutHere || w.lopped then cntAdd s1 port vc cPktTrunc 1 else s1
      if w.branches.any (fun b => isInternal b.port) && !(w.cut || w.cutHere) then twinMark s2 w.head w.poison else s2
    else s
  | [] => s

/-- The flit as it leaves on an output: its own link tag and pool bit, and for the head of a member-mask copy its members word. -/
def outFlit (w : Worm) (b : Branch) (f : Flit) (tag : Nat) (pool : Bool) : Flit :=
  let c := ctrlWord (ctrlKind f.ctrl) (ctrlVc f.ctrl) (ctrlPoison f.ctrl) (ctrlCut f.ctrl) pool tag (ctrlIndex f.ctrl)
  match b.members with
  | some m => if b.sent = 0 then ⟨c, headData { w.head with members := m }⟩ else ⟨c, f.data⟩
  | none => ⟨c, f.data⟩

/-- Send the ready flit of an output virtual channel: the flit, and the state after it. -/
def sendFlit (s : State) (port vc : Nat) : Option (Flit × State) :=
  match readyFlit s port vc, spendPool s port vc with
  | some (i, r), some pool =>
    let o := outGet s port vc
    let x := inGet s i vc
    match x.worms with
    | [] => none
    | w :: ws =>
      let b := (w.branches.find? fun b => b.port == port).getD ⟨port, none, true, 0, false⟩
      let f := match r with
        | .flit f => outFlit w b f o.tag (pool == 6)
        | .truncate n => ⟨ctrlWord 2 vc true true (pool == 6) o.tag n, 0⟩
      let last := ctrlLast f.ctrl
      let w1 := { w with branches := w.branches.map fun c => if c.port = port then { c with sent := c.sent + 1, done := last } else c }
      let s1 := inSet s i vc { x with worms := w1 :: ws }
      let s2 := outSet s1 port vc { outGet s1 port vc with owner := if last then none else o.owner }
      let k := pvKey port pool
      let s3 := { s2 with router := { s2.router with
        sent := poolAdd s2.router.sent k 1
        spent := if isInternal port then s2.router.spent else poolAdd s2.router.spent k 1
        credIn := if isInternal port then poolAdd s2.router.credIn k 1 else s2.router.credIn } }
      let s4 := cntAdd s3 port vc cFlitsTx 1
      let s5 := if b.sent = 0 then cntAdd s4 port vc cPktsTx 1 else s4
      some (f, wormDone (wormFree s5 i vc) i vc)
  | _, _ => none

/-- Virtual channels that hold a ready flit and no credit are counted (08 Table 08-19). -/
def countStalls (s : State) (port : Nat) : State :=
  (List.range 6).foldl (fun a v =>
    if (readyFlit s port v).isSome && (spendPool s port v).isNone then cntAdd a port v cStall 1 else a) s

/-- STRICT_WINDOW_END: 64 slots have gone by; the strict count restarts. -/
def execStrictWindowEnd (port : Nat) (s : State) : Host.Outcome State Fault Refusal :=
  if (mapGet (0, 0) s.router.strict port).2 ≥ 64 then
    .next { s with router := { s.router with strict := mapDel s.router.strict port } }
  else .next s

/-! ### Cuts (08 R226, R227, R233) -/

/-- The timeout of FAB_CTRL in ns. -/
def tailTimeout (s : State) : Nat := regField s regFabCtrl 41 32 * 1000

/-- Has a worm begun to leave. -/
def wormBegun (w : Worm) : Bool := w.branches.any fun b => b.held

/-- Cut a worm that has begun: the branches that hold an output end with a truncating tail, the others are removed; what is still
buffered is dropped, and later flits are orphans. -/
def cutWorm (w : Worm) : Worm :=
  let n := w.first + w.flits.length
  { w with
    flits := [], first := n, ended := true, cutHere := true, cut := true,
    branches := (w.branches.filter fun b => b.held || b.done).map fun b => if b.done then b else { b with sent := n } }

/-- Cut the oldest worm of an input virtual channel. -/
def cutHead (s : State) (port vc : Nat) : State :=
  let x := inGet s port vc
  match x.worms with
  | w :: ws =>
    let s1 := freeFlits s port vc w.flits
    inSet s1 port vc { x with worms := cutWorm w :: ws, orphan := if w.ended then x.orphan else some w.tag }
  | [] => s

/-- TAIL_TIMEOUT: a worm that holds an output has an empty buffer and no flit has come for the timeout; it is cut. -/
def execTailTimeout (port vc : Nat) (s : State) : Host.Outcome State Fault Refusal :=
  match (inGet s port vc).worms with
  | w :: _ =>
    if wormBegun w ∧ w.flits.isEmpty ∧ !w.ended ∧ s.clock ≥ w.since + tailTimeout s then .next (cutHead s port vc) else .next s
  | [] => .next s

/-- A packet that has not begun to leave is discarded; notice: its source is told with status 0x08 (08 R226). -/
def dropWorm (s : State) (port vc reason : Nat) (notice : Bool) (w : Worm) : State :=
  let s1 := freeFlits (cntDiscard s port vc reason) port vc w.flits
  let s2 := if notice ∧ refusable w.head then refusePacket s1 w.head 0x08 else s1
  if w.ended then s2 else inSet s2 port vc { inGet s2 port vc with drain := some w.tag }

/-- Cut or drop the worms of an input virtual channel that p accepts. -/
def purgeVc (s : State) (port vc reason : Nat) (notice : Bool) (p : Worm → Bool) : State :=
  let x := inGet s port vc
  let keep := x.worms.filter fun w => !p w || wormBegun w
  let gone := x.worms.filter fun w => p w && !wormBegun w
  let s1 := gone.foldl (fun a w => dropWorm a port vc reason notice w) (inSet s port vc { x with worms := keep })
  match keep with
  | w :: _ => if p w ∧ !w.cutHere then cutHead s1 port vc else s1
  | [] => s1

/-- The input worm that an output virtual channel carries is cut at this router: discarded under reason 0x7, its output released,
later flits orphans (08 R226 step 4); a multicast only loses the branch (08 R231). -/
def cutOutput (s : State) (port vc : Nat) : State :=
  match (outGet s port vc).owner with
  | none => s
  | some k =>
    let i := k / 8
    let s1 := outSet s port vc { outGet s port vc with owner := none }
    let x := inGet s1 i vc
    match x.worms with
    | [] => s1
    | w :: ws =>
      if w.head.mcast then
        let w1 := { w with branches := w.branches.filter fun b => b.port != port, lopped := true }
        if w1.branches.isEmpty then
          freeFlits (cntDiscard (inSet s1 i vc { x with worms := ws, orphan := if w.ended then x.orphan else some w.tag }) i vc 0x7) i vc w.flits
        else wormDone (wormFree (inSet s1 i vc { x with worms := w1 :: ws }) i vc) i vc
      else
        freeFlits (cntDiscard (inSet s1 i vc { x with worms := ws, orphan := if w.ended then x.orphan else some w.tag }) i vc 0x7) i vc w.flits

/-- Restore every pool of a port to its configured credits. -/
def restorePools (s : State) (port : Nat) : State :=
  let z := mapDrop fun k => k / 8 == port
  { s with router := { s.router with
      spent := z s.router.spent, sent := z s.router.sent, credIn := z s.router.credIn, rx := z s.router.rx,
      returned := z s.router.returned, owed := z s.router.owed } }

/-- Steps 2 to 5 of a link reset at a port (08 R226): worms whose input is the link are cut, packets not begun are discarded with a
notice, worms whose output is the link are cut here, the pools are restored and the orphan states end. -/
def portPurge (s : State) (port : Nat) : State :=
  let s1 := (List.range 6).foldl (fun a v => purgeVc a port v 0x7 true fun _ => true) s
  let s2 := (List.range 6).foldl (fun a v => cutOutput a port v) s1
  let s3 := (List.range 6).foldl (fun a v =>
    inSet a port v { inGet a port v with orphan := none, drain := none }) s2
  restorePools s3 port

/-- A context reset at the router (08 R233): its own packets not begun are discarded under reason 0x9, its worms cut. -/
def routerCtxReset (s : State) (ctx : Nat) : State :=
  (rangeFrom 18 12).foldl (fun a port => (List.range 6).foldl (fun b v =>
    purgeVc b port v 0x9 false fun w => w.head.src == ownChip s && w.head.srcCtx == ctx) a) s

/-- A chip reset at the router (08 R234): worms in progress from ports 18 to 25 are cut, the others there discarded. -/
def routerChipReset (s : State) : State :=
  (rangeFrom 18 8).foldl (fun a port => (List.range 6).foldl (fun b v => purgeVc b port v 0x9 false fun _ => true) a) s

/-! ### Snapshots (08 R238) -/

/-- The counters and gauges of a port as they stand: FAB_PKT_HELD is the number of worms, FAB_QUEUE the depth and its peak. -/
def snapshot (s : State) (port : Nat) (peak : InVc → Nat) : SMap Nat :=
  (List.range 6).flatMap fun v =>
    let x := inGet s port v
    let get := fun off => (vcOff port v off, mapGet 0 s.router.cnt (vcOff port v off))
    ([cPktIn, cPktOut, cPktTrunc, cPktRefused, cPktDiscarded].map get) ++ [(vcOff port v cPktHeld, x.worms.length)]
      ++ ([cOrphan, cFlitsRx, cFlitsTx, cPktsTx, cStall].map get)
      ++ [(vcOff port v cQueue, min 65535 (peak x) * 65536 + min 65535 (vcFlits x))]
      ++ ((List.range 16).map fun r => get (cDiscard r))

/-- Latch a bank. -/
def latch (bank : SMap Nat) (snap : SMap Nat) : SMap Nat := snap.foldl (fun m e => mapSet 0 m e.1 e.2) bank

/-- Latch the Steward's bank of a port. -/
def latchSteward (s : State) (port : Nat) : State :=
  let s1 := { s with router := { s.router with bankS := latch s.router.bankS (snapshot s port (·.peakS)) } }
  (List.range 6).foldl (fun a v => inSet a port v { inGet a port v with peakS := vcFlits (inGet a port v) }) s1

/-- Latch the host's bank of a port. -/
def latchHost (s : State) (port : Nat) : State :=
  let s1 := { s with router := { s.router with bankH := latch s.router.bankH (snapshot s port (·.peakH)) } }
  (List.range 6).foldl (fun a v => inSet a port v { inGet a port v with peakH := vcFlits (inGet a port v) }) s1

/-- The host's bank of the named ports is latched. -/
def fabSnapshot (ports : Nat) (s : State) : State := (setBits 30 ports).foldl latchHost s

/-- FAB_SNAPSHOT: written by the host. -/
def execFabSnapshot (ports : Nat) (s : State) : Host.Outcome State Fault Refusal :=
  .next (hostWrite s regFabSnapshot (BitVec.ofNat 64 ports) (fabSnapshot ports))

end Sys2Proof.Machine
end

