-- ==== Sys2Proof/Machine/Messages.lean ====
section
/-! DEFINITION. Packets delivered to the memory side, to tiles and to the Steward (04 R139, 07 R198, R203, R204, 08 R215, R216, R229,
R232). -/

namespace Sys2Proof.Machine

/-- Is a delivered packet a truncated copy of a twin's, which every kind but a memory write drops (17 R441). -/
def twinCut (p : Packet) : Bool := p.cut && p.twinSeq != 0

/-! ### The memory side -/

/-- Store the lines of a write, a piece of a line at a time, each with its poison; a poisoned line of a sink is left unwritten (07
R204); fuel is the number of lines. -/
def writeLines (mark : Nat → Bool) : Nat → State → Nat → Nat → List Byte → State
  | 0, s, _, _, _ => s
  | n + 1, s, off, i, bs =>
    if bs.isEmpty then s
    else
      let k := 64 - off % 64
      let part := bs.take k
      let p := (List.range part.length).any fun j => mark (i + j)
      let s1 := if p && lineSink s (off / 64) then s else memStore s off part fun _ => p
      writeLines mark n s1 (off + part.length) (i + part.length) (bs.drop k)

/-- Bytes of a packet that its receiver writes: those carried, then zeros up to its byte count (08 R229). -/
def carried (p : Packet) : List Byte := p.payload.take p.bytes ++ zeros (p.bytes - p.payload.length)

/-- Whole lines carried before a cut; the rest of the range is zero and poisoned. -/
def carriedLines (p : Packet) : List Byte :=
  if p.cut then p.payload.take (p.payload.length / 64 * 64) ++ zeros (p.bytes - p.payload.length / 64 * 64) else carried p

/-- Is byte i of a packet's range poisoned: in a poisoned flit, or beyond what came before a cut. -/
def rangeMark (p : Packet) (i : Nat) : Bool := bytePoisoned p i || (p.cut && i ≥ p.payload.length / 64 * 64)

/-- Statuses of an acknowledgement: truncated before poisoned (08 R215). -/
def ackStatus (p : Packet) : Nat := if p.cut then 1 else if payloadPoisoned p then 2 else 0

/-- The memory-side port of an offset. -/
def memPortOf (s : State) (off : Nat) : Nat := portMem (((decodeOffset s off).map fun d => d.1 / 2).getD 0)

/-- MEMORY_WRITE_ARRIVAL: a remote write is written at the memory side and acknowledged. -/
def execMemoryWriteArrival (p : Packet) (s : State) : Host.Outcome State Fault Refusal :=
  if p.kind ≠ 0x01 then .next s
  else
    let s1 := writeLines (rangeMark p) (p.bytes / 64 + 2) s p.offset 0 (carriedLines p)
    .next (inject s1 (memPortOf s p.offset) (ackPacket s1 p (ackStatus p)))

/-- The response to a read request: data, the poison of each flit's lines, and the status (08 R215, 07 R198). -/
def readResponse (s : State) (p : Packet) : Packet :=
  let ls := (linesOf p.offset p.bytes).map (lineData s)
  let marks := ls.map (·.2.1)
  let bad := ls.any (·.2.2)
  finishPacket {
    dst := p.src, src := ownChip s, srcCtx := p.dstCtx, kind := 0x03, srcTag := p.srcTag, dstTile := p.origin
    status := if bad then 3 else if marks.any id then 2 else 0
    payload := slice (ls.flatMap (·.1)) (p.offset % 64) p.bytes
    poison := flitPoison p.bytes fun i => at' false marks (i / 64) }

/-- MEMORY_READ_REQUEST: a remote read is served from the stacks and answered. -/
def execMemoryReadRequest (p : Packet) (s : State) : Host.Outcome State Fault Refusal :=
  if p.kind ≠ 0x02 then .next s
  else .next (inject (linesReadEffects s (linesOf p.offset p.bytes)) (memPortOf s p.offset) (readResponse s p))

/-! ### A tile's DMA and fabric engine -/

/-- The code of a piece that a response answers, in deferred mode (08 R215, R229). -/
def responseCode (p : Packet) : Nat :=
  if p.cut ∨ p.status = 1 then 6 else if p.status ≠ 0 ∨ payloadPoisoned p then 3 else 2

/-- The poison of scratchpad word i of a delivered packet: its flit's, or beyond what came before a cut. -/
def wordMark (p : Packet) (i : Nat) : Bool := bytePoisoned p (8 * i) || (p.cut && 8 * i + 8 > p.payload.length)

/-- A packet's bytes as scratchpad words with their poison; the bytes after a cut read zero. -/
def packetWords (p : Packet) : List (Nat × Bool) :=
  ((wordsOf (ceilDiv p.bytes 8) (carried p)).zip (List.range (ceilDiv p.bytes 8))).map fun w => (w.1, wordMark p w.2)

/-- READ_RESPONSE_ARRIVAL: a response lands in the requester's scratchpad or instruction buffer; a status 0x03 in strict mode ends the
ticket 0xA, delivers nothing and halts the engine (07 R201). -/
def execReadResponseArrival (p : Packet) (s : State) : Host.Outcome State Fault Refusal :=
  if p.kind ≠ 0x03 ∨ p.dstTile ≥ 0xFFFE then .next s
  else
    let t := p.dstTile
    let tk := p.srcTag % 32
    let strict := isStrict s (ctxOfTile s t)
    match opOf s t tk with
    | some (.gld _ off _ _ _) =>
      if p.status = 3 ∧ strict then .next (strictHalt s t tk)
      else
        let s1 := tileMod s t fun x => padPutWords x (off / 8 + 512 * (p.srcTag / 32)) (packetWords p)
        .next (answerPiece s1 t p.srcTag (responseCode p))
    | some (.fill _ first _ _ _) =>
      let b0 := first + 64 * (p.srcTag / 32)
      let put := fun (x : Tile) => (List.range (p.bytes / 64)).foldl (fun y i =>
        let bad := rangeMark p (64 * i)
        if bad && strict && p.status == 3 then y
        else ibufPut y (b0 + i) (BitVec.ofNat 512 (ofBytes (slice (carried p) (64 * i) 64))) bad) x
      if p.status = 3 ∧ strict then .next (strictHalt (tileMod s t put) t tk)
      else .next (answerPiece (tileMod s t put) t p.srcTag (responseCode p))
    | _ => .next s

/-- WRITE_ACK_ARRIVAL: an acknowledgement ends the GST's or SEND's ticket with 0x2, 0x6 or 0x3. -/
def execWriteAckArrival (p : Packet) (s : State) : Host.Outcome State Fault Refusal :=
  if p.kind ≠ 0x04 ∨ p.dstTile ≥ 0xFFFE then .next s
  else
    let code := if p.status = 1 then 6 else if p.status = 2 then 3 else 2
    match opOf s p.dstTile (p.srcTag % 32) with
    | some (.gst _ _ _ _ _) => .next (answerPiece s p.dstTile p.srcTag code)
    | some (.send _ _ _ _ _ _ true) => .next (answerPiece s p.dstTile p.srcTag code)
    | _ => .next s

/-- The ticket code of a refusal status (08 Table 08-9). -/
def refusalCode (status : Nat) : Nat := if status = 4 then 0xC else if status = 7 then 0x7 else 0x5

/-- The collectives of a tile's gang with a member on a chip stop with refused set (09 R265). -/
def refusedChunks (s : State) (t chip : Nat) : State :=
  match gangOfTile s t with
  | none => s
  | some (g, _) =>
    (s.coll.runs.filter fun r => r.gang == g && !r.contributed &&
        (match setRec s r.set with | some q => q.members.any fun m => m.1 == chip | none => false)).foldl
      (fun a r => collStop a r 16) s

/-- REFUSAL_ARRIVAL: a refusal ends the originating ticket with the code its status gives; a refused chunk stops its collective; a
channel message refused with status 0x01 leaves the sender no credit until the next restore (04 R139). -/
def execRefusalArrival (p : Packet) (s : State) : Host.Outcome State Fault Refusal :=
  if p.kind ≠ 0x07 ∨ p.dstTile ≥ 0xFFFE then .next s
  else
    let t := p.dstTile
    let chip := bitsOf (extWord p 0) 63 48
    if bitsOf (extWord p 0) 47 43 = 9 then .next (if p.status = 8 then s else refusedChunks s t chip)
    else
      let s1 :=
        match opOf s t (p.srcTag % 32) with
        | some (.send c u h _ _ _ true) => if p.status = 1 then tileMod s t fun x => txSet x c u h 0 else s
        | _ => s
      .next (answerPiece s1 t p.srcTag (refusalCode p.status))

/-- CHANNEL_MESSAGE_ARRIVAL: message m of a channel lands in slot m mod D and is acknowledged; one whose sender or length the channel's
record does not allow is refused (04 R139). -/
def execChannelMessageArrival (p : Packet) (s : State) : Host.Outcome State Fault Refusal :=
  if p.kind ≠ 0x05 ∨ twinCut p then .next s
  else
    let t := p.dstTile
    match chanRec s t p.channel with
    | none => .next (refusePacket s p 0x03)
    | some r =>
      if !isSender r p then .next (refusePacket s p 0x03)
      else if p.bytes > r.slot then .next (refusePacket s p 0x05)
      else
        let m := (rxGet (tileGet s t) p.channel).landed
        let code := if p.cut then 6 else if payloadPoisoned p then 3 else 2
        let s1 := tileMod s t fun x =>
          let y := padPutWords x ((r.base + m % r.depth * r.slot) / 8) (packetWords p)
          let c := rxGet y p.channel
          { y with rx := mapSet {} y.rx p.channel { c with landed := m + 1, codes := c.codes ++ [code] } }
        let s2 := tileMod s1 t fun x => x.ops.foldl (fun y e => match e.2 with
          | .recv h n => if h = p.channel then recvDone y e.1 h n else y
          | _ => y) x
        .next (inject s2 (portTile (dieOfTile s t)) (ackPacket s2 p (ackStatus p)))

/-- CHANNEL_CREDIT_ARRIVAL: returned credits are added to the sender's; a restore sets them to the depth it carries (04 R139). -/
def execChannelCreditArrival (p : Packet) (s : State) : Host.Outcome State Fault Refusal :=
  if p.kind ≠ 0x06 ∨ p.channel = 0xFF then .next s
  else
    let n := bitsOf (extWord p 0) 63 56
    let restore := bitOf (extWord p 0) 55
    .next (tileMod s p.dstTile fun x =>
      txSet x p.src p.origin p.channel (if restore then n else txCredits x p.src p.origin p.channel + n))

/-- SLOT_CREDIT_ARRIVAL: a collective slot credit frees a staging slot at the sender (09 R260). -/
def execSlotCreditArrival (p : Packet) (s : State) : Host.Outcome State Fault Refusal :=
  if p.kind ≠ 0x06 ∨ p.channel ≠ 0xFF then .next s else .next (collCredit s p)

/-! ### System messages (08 R216) -/

def sysType (p : Packet) : Nat := bitsOf (extWord p 0) 63 48

/-- Is a packet a whole system message; a truncated one is dropped (08 R229). -/
def isSystem (p : Packet) : Bool := p.kind == 0x0B && !p.cut

/-- ECHO_REQUEST: answered at once with the same payload and number. -/
def execEchoRequest (p : Packet) (s : State) : Host.Outcome State Fault Refusal :=
  if isSystem p ∧ sysType p = 1 then
    .next (inject s portSteward (finishPacket {
      dst := p.src, src := ownChip s, kind := 0x0B, payload := p.payload
      ext := [BitVec.ofNat 64 (2 * 2 ^ 48 + extWord p 0 % 2 ^ 32)] }))
  else .next s

/-- ECHO_REPLY: the Steward takes the reply; nothing else of the package changes. -/
def execEchoReply (_p : Packet) (s : State) : Host.Outcome State Fault Refusal := .next s

/-- RESET_NOTICE: logged at notice severity, and nothing else changes. -/
def execResetNotice (p : Packet) (s : State) : Host.Outcome State Fault Refusal :=
  if isSystem p ∧ sysType p = 3 then .next (logEvent s 1 0x3004 2 0xFF [p.src, numAt p.payload 0 1, numAt p.payload 4 8]) else .next s

/-- UNKNOWN_SYSTEM_MESSAGE: discarded with a Daybook warning. -/
def execUnknownSystemMessage (p : Packet) (s : State) : Host.Outcome State Fault Refusal :=
  if isSystem p ∧ ¬ (1 ≤ sysType p ∧ sysType p ≤ 3) then .next (logEvent s 1 0x3005 3 0xFF [p.src, sysType p]) else .next s

/-! ### Collectives at the package (09 R253-R266) -/

/-- COLL_QUEUED_START: a COLL that waited on its busy set starts (09 R254). -/
def execCollQueuedStart (set gang : Nat) (s : State) : Host.Outcome State Fault Refusal := .next (collQueued s set gang)

/-- CHUNK_SEND: a fully staged chunk with a slot credit is sent as packets (09 R260). -/
def execChunkSend (set gang : Nat) (s : State) : Host.Outcome State Fault Refusal := .next (collSend s set gang)

/-- CHUNK_ARRIVAL: a chunk is staged, then added, stored or passed on, and its slot credit is returned (09 R466). -/
def execChunkArrival (p : Packet) (s : State) : Host.Outcome State Fault Refusal :=
  if p.kind ≠ 0x09 ∨ twinCut p then .next s else .next (collArrive s p)

/-- GUARD_CONTRIBUTION: a member whose last chunk has been written and sent contributes its flags to the guard (09 R261). -/
def execGuardContribution (set gang : Nat) (s : State) : Host.Outcome State Fault Refusal :=
  match runGet s set gang with
  | some run => if collFinished run ∧ !run.contributed then .next (collGuard s run) else .next s
  | none => .next s

/-- COLLECTIVE_DEADLINE: a member still running at T stops and contributes with deadline set (09 R263). -/
def execCollectiveDeadline (set gang : Nat) (s : State) : Host.Outcome State Fault Refusal :=
  match runGet s set gang, setRec s set with
  | some run, some r =>
    if !run.contributed ∧ s.clock ≥ run.start + r.deadlineUs * 1000 then .next (collStop s run 8) else .next s
  | _, _ => .next s

/-! ### Strum (09 R244-R249) -/

/-- STRUM_PARTIAL_ARRIVAL: a child's partial joins its generation; a truncated one is dropped (08 R229). -/
def execStrumPartialArrival (p : Packet) (s : State) : Host.Outcome State Fault Refusal :=
  if p.kind ≠ 0x08 ∨ p.cut then .next s else .next (strumPartial s p)

/-- STRUM_WAIT_EXPIRY: a node's wait W has run out; missing members and subtrees are declared lost and the partial is sent. -/
def execStrumWaitExpiry (group : Nat) (s : State) : Host.Outcome State Fault Refusal := .next (strumExpire s group)

end Sys2Proof.Machine
end

