-- ==== Sys2Proof/Machine/Flags.lean ====
section
/-! DEFINITION. What a conversion does to TIL_FLAGS (03 Table 03-15; 02 R72-R75).

Bit 0 inexact, 1 saturated, 2 range, 3 nf, 4 nan_made, 5 poison_made.  An infinite input that a format without infinity
replaces counts as saturated; a conversion into a long sum records a lost bit in the container's own inexact flag and sets
no bit of TIL_FLAGS (log entry 22). -/

namespace Sys2Proof.Machine

/-- Does rounding a finite magnitude to a format change it. -/
def roundingLoses (f : Fmt) (mant : Nat) (exp : Int) : Bool :=
  if mant = 0 then false
  else
    let lsb : Int :=
      if f == .int8 then 0
      else max ((Nat.log2 mant : Int) + exp - f.spec.mbits) (1 - (f.spec.bias : Int) - f.spec.mbits)
    (shiftSplit mant (exp - lsb)).2.1 != 0

/-- Does a finite magnitude overflow a format once rounded (02 R72). -/
def overflows (f : Fmt) (mode : Rnd) (r : Nat) (neg : Bool) (mant : Nat) (exp : Int) : Bool :=
  if f == .int8 then roundUnits mode r mant exp 0 > (if neg then 128 else 127)
  else roundMag f.spec mode r mant exp > f.spec.maxFinite

/-- TIL_FLAGS bits that converting an exact value to a format sets. -/
def numFlags (f : Fmt) (mode : Rnd) (r : Nat) (x : Num) : Nat :=
  match x with
  | .nan => bit f.canonNaN.isSome * 16
  | .inf _ => bit (!f.hasInf) * 2
  | .fin neg m e => bit (roundingLoses f m e) + bit (overflows f mode r neg m e) * 2

/-- TIL_FLAGS bits that the flags of a long sum set when it is converted. -/
def sumFlagBits (x : LongSum) : Nat := bit x.inexact + bit (x.range || !lsGuardOk x) * 4 + bit x.nf * 8

/-- TIL_FLAGS bits that converting a long sum to a format sets (02 R74). -/
def sumFlags (f : Fmt) (mode : Rnd) (r : Nat) (x : LongSum) : Nat :=
  sumFlagBits x |||
    (if x.nf || x.range || !lsGuardOk x then bit f.canonNaN.isSome * 16
     else numFlags f mode r (lsNum x))

/-- TIL_FLAGS bits that quantising a block sets (02 R59). -/
def quantFlags (f : Fmt) (mode : Rnd) (rs : List Nat) (xs : List Num) : Nat :=
  let k := blockScale f xs
  if k == 0xFF then 0
  else
    (xs.zip rs).foldl (fun a (x, r) =>
      match x with
      | .fin n m e => a ||| numFlags f mode r (.fin n m (e + 127 - (k : Int)))
      | .nan => a
      | .inf _ => a) 0

end Sys2Proof.Machine
end

