-- ==== Sys2Proof/Machine/Vector.lean ====
section
/-! DEFINITION. Lane arithmetic, integer and logic of V0 and V1, and the lane reduction (04 R125-R127, R130, 02 R66-R68). -/

namespace Sys2Proof.Machine

/-- A vector result. -/
def vecResult (lat vd v : Nat) (p : BitVec 64) : SlotOut := .done [.result lat (.vec vd (BitVec.ofNat 2048 v) p)]

/-- Run a vector slot of an opcode. -/
def vecExec (op : Nat) (dec : Option Nat) (f : VecFields) (out : Tile → SlotOut) (g : Nat) (sl : Slot) (s : State) :
    Host.Outcome State Fault Refusal :=
  slotExec s g sl op (fun w => isVecSlot sl && decide (decodeVec w = f)) fun s =>
    slotRun s g sl dec f.gp f.gn fun _ _ x => out x

/-- Rounding codes that lane arithmetic and GRED accept: nearest-even and toward zero (04 R127). -/
def laneRnd (rnd : BitVec 2) : Bool := rnd.toNat < 2

/-- The rounding mode of lane arithmetic. -/
def laneMode (rnd : BitVec 2) : Rnd := if rnd = 1 then .zero else .nearest

/-- The format a source code names, FP32 where reserved (the decode check refuses it first). -/
def fmtOf (c : BitVec 4) : Fmt := (fmtOfCode c.toNat).getD .fp32

/-- Decode faults of operations 0x01 to 0x0D: unused fields zero, format FP32 or, where allowed, BF16, rounding code. -/
def floatDecode (bf : Bool) (usesB usesC : Bool) (f : VecFields) : Option Nat :=
  decodeFault ((usesB || f.vb == 0) && (usesC || f.vc == 0) && !f.sat && f.fmt2 == 0 && f.imm == 0)
    ((f.fmt == 0 || (bf && f.fmt == 1)) && laneRnd f.rnd)

/-- Marks of lane-by-lane sources: the OR of theirs (03 R106). -/
def laneOr (ps : List (BitVec 64)) : BitVec 64 := ps.foldl (· ||| ·) 0

/-- An element-wise operation of one source. -/
def floatUn (op : Nat) (bf : Bool) (fn : Fmt → Rnd → Nat → Nat) (g : Nat) (sl : Slot) (f : VecFields) (s : State) :
    Host.Outcome State Fault Refusal :=
  vecExec op (floatDecode bf false false f) f (fun x =>
    let w := (fmtOf f.fmt).width
    let a := vReg x f.va.toNat
    vecResult 4 f.vd.toNat (packElems w ((elemsAt w (2048 / w) a.1.toNat).map (fn (fmtOf f.fmt) (laneMode f.rnd)))) a.2) g sl s

/-- An element-wise operation of two sources. -/
def floatBin (op : Nat) (fn : Fmt → Rnd → Nat → Nat → Nat) (g : Nat) (sl : Slot) (f : VecFields) (s : State) :
    Host.Outcome State Fault Refusal :=
  vecExec op (floatDecode true true false f) f (fun x =>
    let w := (fmtOf f.fmt).width
    let a := vReg x f.va.toNat
    let b := vReg x f.vb.toNat
    vecResult 4 f.vd.toNat
      (packElems w (zipElems (fn (fmtOf f.fmt) (laneMode f.rnd)) (elemsAt w (2048 / w) a.1.toNat) (elemsAt w (2048 / w) b.1.toNat)))
      (laneOr [a.2, b.2])) g sl s

/-- The exact result rounded once to the format (04 R127). -/
def roundTo (fm : Fmt) (m : Rnd) (x : Num) : Nat := (encodeNum fm m 0 false x).1

/-- VADD. -/
def execVadd (g : Nat) (slot : Slot) (f : VecFields) (s : State) : Host.Outcome State Fault Refusal :=
  floatBin 0x01 (fun fm m a b => roundTo fm m (numSum [decodeNum fm a, decodeNum fm b])) g slot f s

/-- VSUB. -/
def execVsub (g : Nat) (slot : Slot) (f : VecFields) (s : State) : Host.Outcome State Fault Refusal :=
  floatBin 0x02 (fun fm m a b => roundTo fm m (numSum [decodeNum fm a, numNegate (decodeNum fm b)])) g slot f s

/-- VMUL. -/
def execVmul (g : Nat) (slot : Slot) (f : VecFields) (s : State) : Host.Outcome State Fault Refusal :=
  floatBin 0x03 (fun fm m a b => roundTo fm m (numMul (decodeNum fm a) (decodeNum fm b))) g slot f s

/-- VFMA: va × vb + vc with one rounding. -/
def execVfma (g : Nat) (slot : Slot) (f : VecFields) (s : State) : Host.Outcome State Fault Refusal :=
  vecExec 0x04 (floatDecode true true true f) f (fun x =>
    let fm := fmtOf f.fmt
    let w := fm.width
    let a := vReg x f.va.toNat
    let b := vReg x f.vb.toNat
    let c := vReg x f.vc.toNat
    let prod := zipElems (fun i j => i * 2 ^ w + j) (elemsAt w (2048 / w) a.1.toNat) (elemsAt w (2048 / w) b.1.toNat)
    let out := zipElems (fun ij k =>
      roundTo fm (laneMode f.rnd)
        (numSum [numMul (decodeNum fm (ij / 2 ^ w)) (decodeNum fm (ij % 2 ^ w)), decodeNum fm k])) prod
      (elemsAt w (2048 / w) c.1.toNat)
    vecResult 4 f.vd.toNat (packElems w out) (laneOr [a.2, b.2, c.2])) g slot s

/-- VMIN (02 R68). -/
def execVmin (g : Nat) (slot : Slot) (f : VecFields) (s : State) : Host.Outcome State Fault Refusal :=
  floatBin 0x05 (fun fm _ a b => fmtMin fm a b) g slot f s

/-- VMAX (02 R68). -/
def execVmax (g : Nat) (slot : Slot) (f : VecFields) (s : State) : Host.Outcome State Fault Refusal :=
  floatBin 0x06 (fun fm _ a b => fmtMax fm a b) g slot f s

/-- VABS: the sign bit only, NaN included. -/
def execVabs (g : Nat) (slot : Slot) (f : VecFields) (s : State) : Host.Outcome State Fault Refusal :=
  floatUn 0x07 true (fun fm _ a => a % 2 ^ (fm.width - 1)) g slot f s

/-- VNEG: the sign bit only, NaN included. -/
def execVneg (g : Nat) (slot : Slot) (f : VecFields) (s : State) : Host.Outcome State Fault Refusal :=
  floatUn 0x08 true (fun fm _ a => a ^^^ 2 ^ (fm.width - 1)) g slot f s

/-- VEXP2, correctly rounded. -/
def execVexp2 (g : Nat) (slot : Slot) (f : VecFields) (s : State) : Host.Outcome State Fault Refusal :=
  floatUn 0x09 false (fun fm m a => roundTo fm m (numExp2 (decodeNum fm a))) g slot f s

/-- VRCP, correctly rounded. -/
def execVrcp (g : Nat) (slot : Slot) (f : VecFields) (s : State) : Host.Outcome State Fault Refusal :=
  floatUn 0x0A false (fun fm m a => roundTo fm m (numRcp (decodeNum fm a))) g slot f s

/-- VRSQRT, correctly rounded; a negative non-zero operand gives the canonical NaN. -/
def execVrsqrt (g : Nat) (slot : Slot) (f : VecFields) (s : State) : Host.Outcome State Fault Refusal :=
  floatUn 0x0B false (fun fm m a => roundTo fm m (numRsqrt (decodeNum fm a))) g slot f s

/-- VFCMPLT: all ones if true. -/
def execVfcmplt (g : Nat) (slot : Slot) (f : VecFields) (s : State) : Host.Outcome State Fault Refusal :=
  floatBin 0x0C (fun fm _ a b => if numLt (decodeNum fm a) (decodeNum fm b) then 2 ^ fm.width - 1 else 0) g slot f s

/-- VFCMPEQ: all ones if true. -/
def execVfcmpeq (g : Nat) (slot : Slot) (f : VecFields) (s : State) : Host.Outcome State Fault Refusal :=
  floatBin 0x0D (fun fm _ a b => if numEq (decodeNum fm a) (decodeNum fm b) then 2 ^ fm.width - 1 else 0) g slot f s

/-! ### Integer and logic -/

/-- Decode faults of operations 0x10 to 0x1A: fmt zero and unused fields zero. -/
def intDecode (usesB usesC : Bool) (immMax : Nat) (f : VecFields) : Option Nat :=
  illegalUnless ((usesB || f.vb == 0) && (usesC || f.vc == 0) && f.fmt == 0 && f.rnd == 0 && !f.sat && f.fmt2 == 0
    && f.imm.toNat < immMax)

/-- The 64 lanes of a register. -/
def lanes (v : BitVec 2048) : List Nat := elemsAt 32 64 v.toNat

/-- A lane-wise operation of two sources. -/
def intBin (op : Nat) (fn : Nat → Nat → Nat) (g : Nat) (sl : Slot) (f : VecFields) (s : State) :
    Host.Outcome State Fault Refusal :=
  vecExec op (intDecode true false 1 f) f (fun x =>
    let a := vReg x f.va.toNat
    let b := vReg x f.vb.toNat
    vecResult 2 f.vd.toNat (packElems 32 (zipElems fn (lanes a.1) (lanes b.1))) (laneOr [a.2, b.2])) g sl s

/-- VIADD. -/
def execViadd (g : Nat) (slot : Slot) (f : VecFields) (s : State) : Host.Outcome State Fault Refusal :=
  intBin 0x10 (fun a b => (a + b) % 2 ^ 32) g slot f s

/-- VISUB. -/
def execVisub (g : Nat) (slot : Slot) (f : VecFields) (s : State) : Host.Outcome State Fault Refusal :=
  intBin 0x11 (fun a b => (a + 2 ^ 32 - b) % 2 ^ 32) g slot f s

/-- VAND. -/
def execVand (g : Nat) (slot : Slot) (f : VecFields) (s : State) : Host.Outcome State Fault Refusal :=
  intBin 0x12 (· &&& ·) g slot f s

/-- VOR. -/
def execVor (g : Nat) (slot : Slot) (f : VecFields) (s : State) : Host.Outcome State Fault Refusal :=
  intBin 0x13 (· ||| ·) g slot f s

/-- VXOR. -/
def execVxor (g : Nat) (slot : Slot) (f : VecFields) (s : State) : Host.Outcome State Fault Refusal :=
  intBin 0x14 (· ^^^ ·) g slot f s

/-- A lane-wise operation of one source and imm[4:0]. -/
def intShift (op : Nat) (fn : Nat → Nat → Nat) (g : Nat) (sl : Slot) (f : VecFields) (s : State) :
    Host.Outcome State Fault Refusal :=
  vecExec op (intDecode false false 32 f) f (fun x =>
    let a := vReg x f.va.toNat
    vecResult 2 f.vd.toNat (packElems 32 ((lanes a.1).map fun l => fn l f.imm.toNat)) a.2) g sl s

/-- VSHL. -/
def execVshl (g : Nat) (slot : Slot) (f : VecFields) (s : State) : Host.Outcome State Fault Refusal :=
  intShift 0x15 (fun a n => a * 2 ^ n % 2 ^ 32) g slot f s

/-- VSHR. -/
def execVshr (g : Nat) (slot : Slot) (f : VecFields) (s : State) : Host.Outcome State Fault Refusal :=
  intShift 0x16 (fun a n => a / 2 ^ n) g slot f s

/-- VSEL: per lane va if the vc lane is non-zero, otherwise vb; the poison of the lane not chosen is not carried. -/
def execVsel (g : Nat) (slot : Slot) (f : VecFields) (s : State) : Host.Outcome State Fault Refusal :=
  vecExec 0x17 (intDecode true true 1 f) f (fun x =>
    let a := vReg x f.va.toNat
    let b := vReg x f.vb.toNat
    let c := vReg x f.vc.toNat
    let pick := (lanes c.1).map (· != 0)
    let vals := (List.range 64).map fun i => at' 0 (lanes (if at' false pick i then a.1 else b.1)) i
    let marks := (List.range 64).map fun i => c.2.getLsbD i || (if at' false pick i then a.2.getLsbD i else b.2.getLsbD i)
    vecResult 2 f.vd.toNat (packElems 32 vals) (laneMarks 32 marks)) g slot s

/-- VROT: vd lane i = va lane (i + imm[5:0]) mod 64. -/
def execVrot (g : Nat) (slot : Slot) (f : VecFields) (s : State) : Host.Outcome State Fault Refusal :=
  vecExec 0x18 (intDecode false false 64 f) f (fun x =>
    let a := vReg x f.va.toNat
    vecResult 2 f.vd.toNat (a.1.rotateRight (32 * f.imm.toNat)).toNat (a.2.rotateRight f.imm.toNat)) g slot s

/-- VBCS: every lane = s(va)[31:0], with the scalar's poison. -/
def execVbcs (g : Nat) (slot : Slot) (f : VecFields) (s : State) : Host.Outcome State Fault Refusal :=
  vecExec 0x19 (if f.va.toNat < 32 then intDecode false false 1 f else some 0x01) f (fun x =>
    let a := sReg x f.va.toNat
    vecResult 2 f.vd.toNat (packElems 32 (List.replicate 64 (a.1.toNat % 2 ^ 32))) (if a.2 then -1#64 else 0)) g slot s

/-- VLANE: s(vd) = va lane imm[5:0], zero-extended, with the lane's poison. -/
def execVlane (g : Nat) (slot : Slot) (f : VecFields) (s : State) : Host.Outcome State Fault Refusal :=
  vecExec 0x1A (if f.vd.toNat < 32 then intDecode false false 64 f else some 0x01) f (fun x =>
    let a := vReg x f.va.toNat
    .done [.result 2 (.scalar f.vd.toNat (BitVec.ofNat 64 (at' 0 (lanes a.1) f.imm.toNat)) (a.2.getLsbD f.imm.toNat))]) g slot s

/-! ### The lane reduction (04 R130) -/

/-- Fold a list of elements with a selection or bitwise operation. -/
def foldElems (fn : Nat → Nat → Nat) : List Nat → Nat
  | [] => 0
  | a :: l => l.foldl fn a

/-- The bitwise operations of reduction codes 3, 4 and 5. -/
def bitwiseOp (o : Nat) : Nat → Nat → Nat :=
  if o = 3 then (· &&& ·) else if o = 4 then (· ||| ·) else (· ^^^ ·)

/-- Container addition over a list, with whether an anchor differed (02 R62). -/
def foldSums : List Nat → LongSum × Bool
  | [] => (lsZero 0, false)
  | c :: l => l.foldl (fun a d => (lsAdd a.1 (lsOfContainer d), a.2 || decide (a.1.anchor ≠ (lsOfContainer d).anchor)))
      (lsOfContainer c, false)

/-- A container with its poison flag set where the value is poisoned. -/
def poisonSum (x : LongSum) (p : Bool) : LongSum := { x with poison := x.poison || p }

/-- The anchor field imm[12:4] (04 R127, R129, R130). -/
def immAnchor (imm : BitVec 16) : Int := signedOf 9 (imm.toNat / 16)

/-- Which pairings of operation and format VRED accepts (04 R130, 02 R51). -/
def vredFormat (o : Nat) (fm : Option Fmt) : Bool :=
  match fm with
  | none => false
  | some fm => if o ≥ 3 then true else if o = 0 then fm != .e8m0 else fm != .e8m0 && fm != .longSum

/-- VRED: the elements of va reduced into element 0 of vd, the rest of vd zero. -/
def execVred (g : Nat) (slot : Slot) (f : VecFields) (s : State) : Host.Outcome State Fault Refusal :=
  let o := f.imm.toNat % 8
  let fm := fmtOf f.fmt
  let narrowSum := o == 0 && fm.isNarrow
  let dec := decodeFault
    (f.vb == 0 && f.vc == 0 && f.rnd == 0 && !f.sat && f.fmt2 == 0 && o ≤ 5 && !bitOf f.imm.toNat 3 && f.imm.toNat < 2 ^ 13
      && (narrowSum || f.imm.toNat < 8 || (fmtOfCode f.fmt.toNat).isNone))
    (vredFormat o (fmtOfCode f.fmt.toNat))
  vecExec 0x28 dec f (fun x =>
    let a := vReg x f.va.toNat
    let w := fm.width
    let es := elemsAt w (vecCapacity w) a.1.toNat
    let p := a.2 != 0
    let put := fun (v width : Nat) (q : Bool) => vecResult 4 f.vd.toNat v (if q then lanesFilled width 1 else 0)
    if narrowSum then
      let t := es.foldl (fun b e => lsPlaceProduct b (decodeNum fm e) (.fin false 1 0) none none) (lsZero (immAnchor f.imm))
      put (lsContainer (poisonSum t p)) 128 p
    else if o = 0 ∧ fm = .longSum then
      let t := foldSums es
      let out := lsContainer (poisonSum t.1 p)
      if t.2 then
        .done [.result 4 (.vec f.vd.toNat (BitVec.ofNat 2048 out) (lanesFilled 128 1)), .mismatch f.vd.toNat]
      else put out 128 p
    else if o = 0 then
      put (fp32PairSum 8 (es.map fun e => toFp32 (decodeNum fm e))) 32 p
    else if o = 1 then put (foldElems (fmtMin fm) es) w p
    else if o = 2 then put (foldElems (fmtMax fm) es) w p
    else put (foldElems (bitwiseOp o) es) w p) g slot s

end Sys2Proof.Machine
end

