-- ==== Sys2Proof/Machine/Convert.lean ====
section
/-! DEFINITION. Conversions: VCVT, VQBS and VACR (02 R59, R72-R75, 04 R127-R129). -/

namespace Sys2Proof.Machine

/-- What converting one element gives: its encoding, whether its destination is poisoned, and TIL_FLAGS bits. -/
structure Conv where
  code : Nat
  poison : Bool
  flags : Nat
  deriving DecidableEq, Repr

/-- Re-anchor a long sum (04 R127): the other flags are carried, the anchor becomes A. -/
def reanchor (a : Int) (x : LongSum) : LongSum :=
  if x.anchor = a then x
  else if x.anchor > a then
    let p := signedOf 108 x.g * 2 ^ (x.anchor - a).toNat
    { x with g := patternOf 108 p, anchor := a, range := x.range || decide (p < -(2 ^ 107)) || decide (p ≥ 2 ^ 107) }
  else
    let v := signedOf 108 x.g
    let q := v.natAbs / 2 ^ (a - x.anchor).toNat
    { x with
      g := patternOf 108 (if v < 0 then -(q : Int) else q), anchor := a,
      inexact := x.inexact || v.natAbs % 2 ^ (a - x.anchor).toNat != 0 }

/-- Convert one element between formats (02 R72-R75, 04 R127); poisoned says whether the source element is. -/
def convElem (fs fd : Fmt) (anchor : Int) (mode : Rnd) (r : Nat) (sat : Bool) (poisoned : Bool) (v : Nat) : Conv :=
  if fs = .longSum then
    let x := lsOfContainer v
    if fd = .longSum then
      let y := if x.anchor = anchor then v else lsContainer (reanchor anchor x)
      ⟨if poisoned then y ||| 2 ^ 117 else y, x.poison || poisoned, 0⟩
    else
      let c := lsConvert fd mode r sat x
      ⟨c.1, c.2 || poisoned, sumFlags fd mode r x⟩
  else
    let n := decodeNum fs v
    if fd = .longSum then
      let y := if fs.isWide then lsOfWide anchor n else lsOfNarrow anchor n none
      ⟨lsContainer (poisonSum y poisoned), poisoned, 0⟩
    else
      let c := encodeNum fd mode r sat n
      ⟨c.1, c.2 || poisoned, numFlags fd mode r n⟩

/-- The vector result and flags of converted elements of a width. -/
def convResult (vd w : Nat) (cs : List Conv) : List Eff :=
  let bits := cs.foldl (fun a c => a ||| c.flags) 0
  [.result 4 (.vec vd (BitVec.ofNat 2048 (packElems w (cs.map (·.code)))) (laneMarks w (cs.map (·.poison)))),
    .result 4 (.flags bits)]

/-- Is a format code one that conversions take (02 R50, R51). -/
def convFormat (c : BitVec 4) : Bool :=
  match fmtOfCode c.toNat with
  | some .e8m0 => false
  | some _ => true
  | none => false

/-- The scalar that holds the element base is read under stochastic rounding only (04 R127); otherwise vc is zero. -/
def baseOk (f : VecFields) (read : Bool) : Bool := if f.rnd = 2 ∧ read then f.vc.toNat < 32 else f.vc == 0

/-- The element base, or the poison exception where it is consumed poisoned (04 R127). -/
def withBase (f : VecFields) (read : Bool) (x : Tile) (k : Nat → SlotOut) : SlotOut :=
  if f.rnd = 2 ∧ read then
    let b := sReg x f.vc.toNat
    if b.2 then .raise 0x0A b.1.toNat else k (b.1.toNat % 2 ^ 32)
  else k 0

/-- Elements that VCVT converts (04 R127). -/
def vcvtCount (fs fd : Fmt) : Nat := 2048 / max fs.width fd.width

/-- VCVT: source elements n × imm[3:0] on, converted into elements 0 to n − 1. -/
def execVcvt (g : Nat) (slot : Slot) (f : VecFields) (s : State) : Host.Outcome State Fault Refusal :=
  let fs := fmtOf f.fmt
  let fd := fmtOf f.fmt2
  let n := vcvtCount fs fd
  let grp := f.imm.toNat % 16
  let both := fs == .longSum && fd == .longSum
  let fmts := convFormat f.fmt && convFormat f.fmt2
  let dec := decodeFault
    (f.vb == 0 && baseOk f (!both) && f.imm.toNat < 2 ^ 13 && (fd == .longSum || f.imm.toNat < 16)
      && (!fmts || n * (grp + 1) ≤ vecCapacity fs.width))
    (fmts && f.rnd != 3)
  slotExec s g slot 0x20 (fun w => isVecSlot slot && decide (decodeVec w = f)) fun s =>
    slotRun s g slot dec f.gp f.gn fun _ _ x =>
      withBase f (!both) x fun base =>
        let a := vReg x f.va.toNat
        let mode := (rndOfCode f.rnd.toNat).getD .nearest
        let cs := (List.range n).map fun j =>
          let i := n * grp + j
          convElem fs fd (immAnchor f.imm) mode (if f.rnd = 2 then tileDraw s x base j else 0) f.sat
            (elemPoisoned a.2 fs.width i) (a.1.toNat / 2 ^ (fs.width * i) % 2 ^ fs.width)
        .done (convResult f.vd.toNat fd.width cs)

/-- VQBS: 64 FP32 lanes quantised as two blocks (04 R128): the elements into vd, the scale bytes into vb. -/
def execVqbs (g : Nat) (slot : Slot) (f : VecFields) (s : State) : Host.Outcome State Fault Refusal :=
  let fd := fmtOf f.fmt2
  let fmts := f.fmt == 0 && (fmtOfCode f.fmt2.toNat).isSome && fd.isNarrowFloat
  let dec := decodeFault (f.imm == 0 && f.vd != f.vb && baseOk f true) (fmts && f.rnd != 3)
  slotExec s g slot 0x21 (fun w => isVecSlot slot && decide (decodeVec w = f)) fun s =>
    slotRun s g slot dec f.gp f.gn fun _ _ x =>
      withBase f true x fun base =>
        let a := vReg x f.va.toNat
        let mode := (rndOfCode f.rnd.toNat).getD .nearest
        let xs := (lanes a.1).map (decodeNum .fp32)
        let rs := (List.range 64).map fun i => if f.rnd = 2 then tileDraw s x base i else 0
        let q0 := quantBlock fd mode (rs.take 32) (xs.take 32)
        let q1 := quantBlock fd mode (rs.drop 32) (xs.drop 32)
        let p0 := a.2.toNat % 2 ^ 32 != 0
        let p1 := a.2.toNat / 2 ^ 32 != 0
        let bits := quantFlags fd mode (rs.take 32) (xs.take 32) ||| quantFlags fd mode (rs.drop 32) (xs.drop 32)
        .done [.result 4 (.vec f.vd.toNat (BitVec.ofNat 2048 (packElems fd.width (q0.2 ++ q1.2)))
            (laneMarks fd.width (List.replicate 32 p0 ++ List.replicate 32 p1))),
          .result 4 (.vec f.vb.toNat (BitVec.ofNat 2048 (q0.1 + 256 * q1.1)) (if p0 || p1 then 1 else 0)),
          .result 4 (.flags bits)]

/-- An accumulator entry as the long sum it holds, with its row's flags (03 R80). -/
def rowSum (r : AccRow) (j : Nat) : LongSum := ⟨at' 0 r.entries j, r.anchor, r.poison, r.inexact, r.range, r.nf⟩

/-- Convert entry j of a row (04 R129): a long sum by R74, an FP32 value by R72, an empty row's entry as +0; for fmt2 0x8 a long
sum is copied and an FP32 value converts at the anchor field. -/
def convEntry (r : AccRow) (fd : Fmt) (anchor : Int) (mode : Rnd) (draw : Nat) (sat : Bool) (j : Nat) : Conv :=
  match r.mode with
  | .longSum =>
    if fd = .longSum then ⟨lsContainer (rowSum r j), r.poison, sumFlagBits (rowSum r j)⟩
    else
      let c := lsConvert fd mode draw sat (rowSum r j)
      ⟨c.1, c.2 || r.poison, sumFlags fd mode draw (rowSum r j)⟩
  | .fp32 => convElem .fp32 fd anchor mode draw sat r.poison (at' 0 r.entries j)
  | .empty => convElem .fp32 fd anchor mode draw sat false 0

/-- VACR: accumulator row va (bank va[5], row va[4:0]) into vd, read at issue. -/
def execVacr (g : Nat) (slot : Slot) (f : VecFields) (s : State) : Host.Outcome State Fault Refusal :=
  let fd := fmtOf f.fmt2
  let toSum := fd == .longSum
  let immOk := if toSum then !bitOf f.imm.toNat 2 && !bitOf f.imm.toNat 3 && f.imm.toNat < 2 ^ 13 else f.imm == 0
  let dec := decodeFault (f.vb == 0 && f.fmt == 0 && immOk && baseOk f true) (convFormat f.fmt2 && f.rnd != 3)
  slotExec s g slot 0x22 (fun w => isVecSlot slot && decide (decodeVec w = f)) fun s =>
    slotRun s g slot dec f.gp f.gn fun _ _ x =>
      withBase f true x fun base =>
        let r := accRow x f.va.toNat
        let mode := (rndOfCode f.rnd.toNat).getD .nearest
        let js := if toSum then rangeFrom (16 * (f.imm.toNat % 4)) 16 else List.range 64
        let cs := (js.zip (List.range js.length)).map fun (j, i) =>
          convEntry r fd (immAnchor f.imm) mode (if f.rnd = 2 then tileDraw s x base i else 0) f.sat j
        .done (convResult f.vd.toNat fd.width cs)

end Sys2Proof.Machine
end

