-- ==== Sys2Proof/Machine/DocketCore.lean ====
section
/-! DEFINITION. Dockets: their fields, operands and layout, the checks of DOCK, and how an engine reads and writes its operands
(06 R173-R178, R182, R186). -/

namespace Sys2Proof.Machine

/-! ### Fields (06 Tables 06-3 and 06-4) -/

def dkW (ws : List Word) (i : Nat) : Nat := (at' 0 ws i).toNat
def dkType (ws : List Word) : Nat := bitsOf (dkW ws 0) 63 56
def dkStack (ws : List Word) : Nat := bitsOf (dkW ws 0) 55 53
def dkEngine (ws : List Word) : Nat := bitsOf (dkW ws 0) 52 48
def dkFmtA (ws : List Word) : Nat := bitsOf (dkW ws 0) 47 44
def dkFmtB (ws : List Word) : Nat := bitsOf (dkW ws 0) 43 40
def dkFmtO (ws : List Word) : Nat := bitsOf (dkW ws 0) 39 36
def dkRnd (ws : List Word) : Nat := bitsOf (dkW ws 0) 35 34
def dkSat (ws : List Word) : Bool := bitOf (dkW ws 0) 33
def dkBsA (ws : List Word) : Bool := bitOf (dkW ws 0) 32
def dkBsB (ws : List Word) : Bool := bitOf (dkW ws 0) 31
def dkAnchor (ws : List Word) : Nat := bitsOf (dkW ws 0) 30 22
def dkBuf (ws : List Word) : Nat := bitsOf (dkW ws 0) 21 11
def dkNvec (ws : List Word) : Nat := bitsOf (dkW ws 0) 10 8 + 1
def dkOp (ws : List Word) : Nat := bitsOf (dkW ws 0) 7 5
def dkParam (ws : List Word) : Nat := dkW ws 7
def dkCount (ws : List Word) : Nat := bitsOf (dkW ws 7) 31 0

/-- An operand of a docket: its space, offset of row 0, rows, lines per row, and stride in lines. -/
structure Oper where
  pad : Bool
  off : Nat
  rows : Nat
  lines : Nat
  stride : Nat
  deriving DecidableEq, Repr

/-- An operand's descriptor in two words; none where both are zero (06 R174). -/
def operOf (lo hi : Nat) : Option Oper :=
  if lo = 0 ∧ hi = 0 then none
  else
    let lines := bitsOf hi 47 32 + 1
    let stride := bitsOf hi 31 0
    some ⟨bitOf lo 63, bitsOf lo 47 0, bitsOf hi 63 48 + 1, lines, if stride = 0 then lines else stride⟩

def dkA (ws : List Word) : Option Oper := operOf (dkW ws 1) (dkW ws 2)
def dkB (ws : List Word) : Option Oper := operOf (dkW ws 3) (dkW ws 4)
def dkO (ws : List Word) : Option Oper := operOf (dkW ws 5) (dkW ws 6)

/-- A docket's format, FP32 where its code is reserved (the start refuses it first). -/
def dkFmt (c : Nat) : Fmt := (fmtOfCode c).getD .fp32

/-- Bytes of a row. -/
def Oper.rowBytes (o : Oper) : Nat := 64 * o.lines

/-- Offset of row r. -/
def Oper.row (o : Oper) (r : Nat) : Nat := o.off + r * o.stride * 64

/-- Elements of a format in a row. -/
def Oper.elems (o : Oper) (f : Fmt) : Nat := 512 * o.lines / f.width

/-- Where an operand's scale array begins (06 R175); rows are whole lines, so the boundary is reached. -/
def Oper.scaleBase (o : Oper) : Nat := o.off + o.rows * o.stride * 64

/-- One past the last byte of an operand, with its scale array where it is block-scaled. -/
def Oper.endByte (o : Oper) (f : Fmt) (bs : Bool) : Nat :=
  if bs then o.scaleBase + o.rows * (o.elems f / 32) else o.row (o.rows - 1) + o.rowBytes

/-- A length rounded up to 64 bytes. -/
def up64 (n : Nat) : Nat := (n + 63) / 64 * 64

/-- Bytes of a buffer vector of e elements (06 R175). -/
def vecFootprint (f : Fmt) (bs : Bool) (e : Nat) : Nat := up64 ((e * f.width + 7) / 8) + (if bs then up64 (e / 32) else 0)

/-- Elements of a buffer vector: those of an A row (06 R180, R181). -/
def dkElems (ws : List Word) : Nat := ((dkA ws).map fun o => o.elems (dkFmt (dkFmtA ws))).getD 0

/-- Format of the buffer vectors: fmt_a for LOADV and for ATTN's queries, whose fmt_b names the values; fmt_b for MATV (log entry
25). -/
def dkVecFmt (ws : List Word) : Fmt := if dkType ws = 0x02 then dkFmt (dkFmtB ws) else dkFmt (dkFmtA ws)

/-- Are the buffer vectors block-scaled. -/
def dkVecBs (ws : List Word) : Bool := if dkType ws = 0x02 then dkBsB ws else dkBsA ws

/-- Bytes of the buffer vectors from buf on. -/
def dkVecBytes (ws : List Word) : Nat := dkNvec ws * vecFootprint (dkVecFmt ws) (dkVecBs ws) (dkElems ws)

/-- Does a type use the buffer. -/
def dkUsesBuf (t : Nat) : Bool := t == 1 || t == 2 || t == 3

/-! ### Fields that a type uses, and sizes that agree (06 R173, R176, Table 06-5) -/

/-- Header fields that each type leaves unused are zero. -/
def dkUnusedZero (ws : List Word) : Bool :=
  let t := dkType ws
  let z := fun (used : List Nat) (v : Nat) => used.contains t || v == 0
  z [1, 2, 3, 4, 5, 6, 7] (dkFmtA ws) && z [2, 3, 4, 5] (dkFmtB ws) && z [2, 3, 4, 5, 6, 7] (dkFmtO ws)
    && z [2, 3, 6, 7] (dkRnd ws) && z [2, 3, 6, 7] (bit (dkSat ws)) && z [1, 2, 3, 6, 7] (bit (dkBsA ws))
    && z [2, 3] (bit (dkBsB ws)) && z [2, 3, 6] (dkAnchor ws) && z [1, 2, 3] (dkBuf ws) && z [1, 2, 3] (dkNvec ws - 1)
    && z [5, 6] (dkOp ws) && bitsOf (dkW ws 0) 4 0 == 0
    && (match t with
        | 1 => dkParam ws < 2 ^ 32
        | 3 => dkParam ws % 2 ^ 32 == 0
        | 4 => dkParam ws < 2 ^ 32
        | 5 => dkParam ws < 2 ^ 32
        | 6 => dkParam ws < 2
        | 9 => true
        | _ => dkParam ws == 0)

/-- Reserved bits and the alignment of an operand's two words. -/
def operFormOk (lo hi : Nat) : Bool :=
  bitsOf lo 62 48 == 0 && lo % 64 == 0 && (bitsOf hi 31 0 == 0 || bitsOf hi 31 0 ≥ bitsOf hi 47 32 + 1)

/-- Operands that a type has are present, the others absent. -/
def dkPresent (ws : List Word) : Bool :=
  let t := dkType ws
  let need := fun (l : List Nat) (o : Option Oper) => o.isSome == l.contains t
  need [1, 2, 3, 4, 5, 6, 7, 8] (dkA ws) && need [3, 4, 5] (dkB ws) && need [2, 3, 4, 5, 6, 7, 8, 9, 10, 11] (dkO ws)
    && operFormOk (dkW ws 1) (dkW ws 2) && operFormOk (dkW ws 3) (dkW ws 4) && operFormOk (dkW ws 5) (dkW ws 6)

/-- Bytes that n elements of a format take. -/
def elemsBytes (f : Fmt) (n : Nat) : Nat := (n * f.width + 7) / 8

/-- Operand sizes agree as the type requires. -/
def dkSizesOk (ws : List Word) : Bool :=
  let d : Oper := ⟨false, 0, 0, 0, 0⟩
  let a := (dkA ws).getD d
  let b := (dkB ws).getD d
  let o := (dkO ws).getD d
  let fo := dkFmt (dkFmtO ws)
  let e := dkElems ws
  let whole := fun (bs : Bool) => !bs || e % 32 == 0
  match dkType ws with
  | 1 => a.rows == dkNvec ws && whole (dkBsA ws)
  | 2 => o.rows == dkNvec ws && elemsBytes fo a.rows ≤ o.rowBytes && whole (dkBsA ws || dkBsB ws)
  | 3 =>
    let dv := b.elems (dkFmt (dkFmtB ws))
    a.rows == b.rows && o.rows == dkNvec ws && 1 ≤ dv && dv ≤ 512 && 8 + 4 * dv ≤ o.rowBytes && whole (dkBsA ws)
      && (!dkBsB ws || dv % 32 == 0)
  | 4 => dkCount ws ≤ o.rows && a.lines == o.lines && dkCount ws * 4 ≤ b.rows * b.rowBytes
  | 5 => dkCount ws ≤ a.rows && a.lines == o.lines && dkCount ws * 4 ≤ b.rows * b.rowBytes && dkOp ws ≤ 1
  | 6 => o.rows == 1 && elemsBytes fo (if dkParam ws = 0 then e else 1) ≤ o.rowBytes && whole (dkBsA ws) && dkOp ws ≤ 5
  | 7 => o.rows == a.rows && e % 32 == 0 && elemsBytes fo e ≤ o.rowBytes
  | 8 => a.rows * a.lines == o.rows * o.lines
  | _ => true

/-- Is an engine in a context's share, with its window (06 R171): base and size in units. -/
def engineWindow (s : State) (ctx stack eng : Nat) : Option (Nat × Nat) :=
  let r := regEngShare stack ctx
  if (enabledStacks s).contains stack ∧ regField s r (32 + eng) (32 + eng) = 1 then
    some (regField s r 21 11, regField s r 10 0 + 1)
  else none

/-- Item 3 of 06 R176 for a tile's docket. -/
def dkLegal (s : State) (ctx : Nat) (ws : List Word) : Bool :=
  let t := dkType ws
  1 ≤ t && t ≤ 10 && dkUnusedZero ws && dkPresent ws && dkSizesOk ws
    && (match engineWindow s ctx (dkStack ws) (dkEngine ws) with
        | some (_, size) => !dkUsesBuf t || 64 * dkBuf ws + dkVecBytes ws ≤ 64 * size
        | none => false)
    && (t != 1 || (setBits 32 (dkParam ws)).all fun e => (engineWindow s ctx (dkStack ws) e).isSome)

/-- The operands with their formats and whether their scales are read or written. -/
def dkOpers (ws : List Word) : List (Oper × Fmt × Bool) :=
  let put := fun (o : Option Oper) (f : Nat) (bs : Bool) => (o.map fun x => (x, dkFmt f, bs)).toList
  put (dkA ws) (dkFmtA ws) (dkBsA ws) ++ put (dkB ws) (dkFmtB ws) (dkBsB ws && dkType ws == 3)
    ++ put (dkO ws) (dkFmtO ws) (dkType ws == 7)

/-- The scratchpad operand that leaves scratchpad, by its offset (06 R176 item 4). -/
def dkPadFault (ws : List Word) : Option Nat :=
  ((dkOpers ws).find? fun q => q.1.pad && q.1.endByte q.2.1 q.2.2 > padTop).map fun q => q.1.off

/-- The memory operand that leaves the context's regions, by its offset (06 R176 item 5). -/
def dkRegionFault (s : State) (ctx : Nat) (ws : List Word) : Option Nat :=
  ((dkOpers ws).find? fun q => !q.1.pad && !inRegions s ctx q.1.off (q.1.endByte q.2.1 q.2.2 - q.1.off)).map fun q => q.1.off

/-- Formats, rounding code and saturate bit that a type accepts when it starts (06 R178, Table 06-5, 02 R50-R52, R69). -/
def dkFormatsOk (ws : List Word) : Bool :=
  let fa := fmtOfCode (dkFmtA ws)
  let fb := fmtOfCode (dkFmtB ws)
  let fo := fmtOfCode (dkFmtO ws)
  let a := dkFmt (dkFmtA ws)
  let b := dkFmt (dkFmtB ws)
  let o := dkFmt (dkFmtO ws)
  let rnd := (rndOfCode (dkRnd ws)).isSome
  let bsOk := fun (bs : Bool) (f : Fmt) => !bs || f.isNarrowFloat
  match dkType ws with
  | 1 => fa.isSome && bsOk (dkBsA ws) a
  | 2 =>
    fa.isSome && fb.isSome && fo.isSome && rnd && o != .e8m0 && (o != .longSum || a.isNarrow)
      && ((a.isNarrowFloat && b.isNarrowFloat) || (a == .int8 && b == .int8) || (a == b && a.isWide))
      && bsOk (dkBsA ws) a && bsOk (dkBsB ws) b
  | 3 =>
    fa.isSome && fb.isSome && fo == some .fp32 && dkRnd ws == 0 && !dkSat ws
      && (a == .e4m3 || a == .e5m2 || a == .bf16) && (b == .e4m3 || b == .e5m2 || b == .bf16 || b == .fp32)
      && bsOk (dkBsA ws) a && bsOk (dkBsB ws) b
  | 4 => fa.isSome && dkFmtB ws == 0 && fo == fa
  | 5 => fa.isSome && dkFmtB ws == 0 && fo == fa && (dkOp ws == 0 || a == .fp32 || a == .longSum)
  | 6 =>
    fa.isSome && fo.isSome && rnd && bsOk (dkBsA ws) a
      && (if dkOp ws = 0 then (a.isNarrow || a.isWide) && o != .e8m0 && (o != .longSum || a.isNarrow)
          else fo == fa && !dkBsA ws && (dkOp ws ≥ 3 || (a != .e8m0 && a != .longSum)))
  | 7 => (fa == some .fp32 || fa == some .bf16) && fo.isSome && o.isNarrowFloat && rnd && !dkBsA ws
  | _ => true

/-! ### Reading and writing operands -/

/-- A piece of an operand as the engine reads it: bytes, the poison of its 8-byte words, and the offset of its first
uncorrectable line or word. -/
structure Piece where
  bytes : List Byte
  marks : List Bool
  bad : Option Nat
  deriving DecidableEq, Repr

/-- Read n bytes of an operand at a byte offset, both multiples of 8: from the issuing tile's scratchpad or from memory. -/
def pieceRead (s : State) (tile : Nat) (pad : Bool) (off n : Nat) : Piece :=
  if pad then
    let ws := (rangeFrom (off / 8) (n / 8)).map fun w => (w, padWord (tileGet s tile) w)
    ⟨ws.flatMap fun w => bytesOf 8 w.2.1, ws.map fun w => w.2.2.1, (ws.find? fun w => w.2.2.2).map fun w => 8 * w.1⟩
  else
    let ls := (linesOf off n).map fun l => (l, lineData s l)
    let marks := ls.flatMap fun l => List.replicate 8 l.2.2.1
    ⟨slice (ls.flatMap fun l => l.2.1) (off % 64) n, (marks.drop (off % 64 / 8)).take (n / 8),
      (ls.find? fun l => l.2.2.2).map fun l => 64 * l.1⟩

/-- What reading a piece does in the store. -/
def pieceEffects (s : State) (tile : Nat) (pad : Bool) (off n : Nat) : State :=
  if pad then padReadEffects s tile (off / 8) (n / 8) else linesReadEffects s (linesOf off n)

/-- Is any word of a piece poisoned. -/
def Piece.poisoned (p : Piece) : Bool := p.marks.any id

/-- The elements of a piece. -/
def Piece.elems (p : Piece) (f : Fmt) (n : Nat) : List Nat :=
  let v := ofBytes p.bytes
  elemsAt f.width n v

/-- Is element i of a piece in a poisoned word. -/
def Piece.elemMark (p : Piece) (f : Fmt) (i : Nat) : Bool :=
  (rangeFrom (f.width * i / 64) ((f.width * i + f.width - 1) / 64 - f.width * i / 64 + 1)).any fun w => at' false p.marks w

/-- Merge bytes into scratchpad at any offset: whole words replaced, words written in part merged, with the OR of the poisons
(03 R93, 07 R192); fuel is the number of words touched. -/
def padMergeWords (marked : Nat → Bool) : Nat → Tile → Nat → List Byte → Tile
  | 0, x, _, _ => x
  | n + 1, x, off, bs =>
    if bs.isEmpty then x
    else
      let w := off / 8
      let o := off % 8
      let part := bs.take (8 - o)
      let y :=
        if o = 0 ∧ part.length = 8 then padPut x w (ofBytes part) (marked w)
        else
          let old := padWord x w
          padPut x w (putBits old.1 (8 * (o + part.length) - 1) (8 * o) (ofBytes part)) (old.2.1 || marked w)
      padMergeWords marked n y (off + part.length) (bs.drop (8 - o))

/-- Merge bytes into scratchpad. -/
def padMerge (x : Tile) (off : Nat) (bs : List Byte) (marked : Nat → Bool) : Tile :=
  padMergeWords marked (bs.length / 8 + 2) x off bs

/-- Write output bytes of a docket with a poison mark for each (byte index → mark): poisoned lines of a sink are left unwritten
(06 R186).  Answers the state and whether a line was left. -/
def pieceWrite (s : State) (tile : Nat) (pad : Bool) (off : Nat) (bs : List Byte) (mark : Nat → Bool) : State × Bool :=
  let anyIn := fun (lo n : Nat) => (List.range bs.length).any fun i => lo ≤ off + i && off + i < lo + n && mark i
  if pad then (tileMod s tile fun x => padMerge x off bs fun w => anyIn (8 * w) 8, false)
  else
    (linesOf off bs.length).foldl (fun (a : State × Bool) l =>
      let lo := max off (64 * l)
      let hi := min (off + bs.length) (64 * l + 64)
      let p := anyIn (64 * l) 64
      if p && lineSink a.1 l then (a.1, true) else (memStore a.1 lo (slice bs (lo - off) (hi - lo)) fun _ => p, a.2)) (s, false)

end Sys2Proof.Machine
end

