-- ==== Sys2Proof/Machine/Docket.lean ====
section
/-! DEFINITION. Stack engines: dockets that arrive, start, execute and complete (06 R168-R191). -/

namespace Sys2Proof.Machine

/-- The engine a docket names. -/
def dkEng (ws : List Word) : Nat := 32 * dkStack ws + dkEngine ws

/-- ENG_LAST_FAIL for a failed docket of a context (06 Table 06-11). -/
def engFail (s : State) (e : Nat) (d : Docket) (code where_ : Nat) : State :=
  if d.ctx < 16 then
    regSet s (regEngLastFail (e / 32) (e % 32))
      (BitVec.ofNat 64 (code * 2 ^ 60 + d.ctx * 2 ^ 56 + dkType d.words * 2 ^ 48 + where_ % 2 ^ 48))
  else s

/-- Post a docket's ticket; the Steward's dockets hold none. -/
def dkPost (s : State) (d : Docket) (code : Nat) : State :=
  if d.ctx < 16 then
    match opOf s d.tile d.tk with
    | some (.dock _ _ _ _) => postTicket s d.tile d.tk code
    | _ => s
  else s

/-! ### Arrival and start (06 R177, R188) -/

/-- Is a pending docket the earliest of its tile for its engine that has not been queued (06 R188). -/
def dockFirst (x : Tile) (e issued : Nat) : Bool :=
  x.ops.all fun o => match o.2 with
    | .dock ws _ i false => dkEng ws != e || issued ≤ i
    | _ => true

/-- DOCKET_ARRIVAL: a docket reaches its engine and takes a queue entry of its context's share, or waits where they are full; an
engine in reset, or the context's halted queue, ends it 0x5. -/
def execDocketArrival (tile tk : Nat) (s : State) : Host.Outcome State Fault Refusal :=
  match opOf s tile tk with
  | some (.dock ws base issued false) =>
    let e := dkEng ws
    let c := ctxOfTile s tile
    let x := engGet s e
    let d : Docket := ⟨c, tile, tk, ws, base⟩
    if !dockFirst (tileGet s tile) e issued then .next s
    else if x.inReset ∨ x.halted.contains c then .next (engFail (postTicket s tile tk 5) e d 5 0)
    else if (x.queue.filter fun q => q.ctx == c).length < regField s (regEngShare (e / 32) c) 31 28 then
      .next (engSet (tileMod s tile fun y => { y with ops := mapPut y.ops tk (.dock ws base issued true) }) e
        { x with queue := x.queue ++ [d] })
    else .next s
  | _ => .next s

/-- The context whose docket the engine takes next: round robin from the one after the last, the Steward (16) after the
contexts. -/
def engNext (x : Engine) : Option Nat :=
  ((List.range 17).map fun i => (x.lastCtx + 1 + i) % 17).find? fun c => x.queue.any fun d => d.ctx == c

/-- DOCKET_START: an idle engine takes its next docket; formats, rounding code and saturate bit that the type does not accept end
it 0xB (06 R178). -/
def execDocketStart (eng : Nat) (s : State) : Host.Outcome State Fault Refusal :=
  let x := engGet s eng
  if x.inReset ∨ x.running.isSome then .next s
  else
    match engNext x with
    | none => .next s
    | some c =>
      match takeFirst (fun d => d.ctx == c) x.queue with
      | none => .next s
      | some (d, rest) =>
        let y := { x with queue := rest, running := some d, result := none, lastCtx := c, gated := false, lastMove := s.clock }
        if c < 16 ∧ !dkFormatsOk d.words then .next (engFail (engSet s eng { y with result := some 0xB }) eng d 0xB 0)
        else .next (engSet s eng y)

/-! ### Operands as elements -/

/-- What executing a docket gives: the state with its outputs, its code, the position ENG_LAST_FAIL names, lines and
multiply-accumulates. -/
structure DkOut where
  state : State
  code : Nat
  pos : Nat
  lines : Nat
  macs : Nat

/-- Two pieces one after the other. -/
def Piece.append (a b : Piece) : Piece := ⟨a.bytes ++ b.bytes, a.marks ++ b.marks, a.bad.or b.bad⟩

/-- Rows of an operand, from row r on, n of them. -/
def operRows (s : State) (tile : Nat) (o : Oper) (r n : Nat) : Piece :=
  (rangeFrom r n).foldl (fun a i => a.append (pieceRead s tile o.pad (o.row i) o.rowBytes)) ⟨[], [], none⟩

/-- What reading rows of an operand does in the store. -/
def operRowsEffects (tile : Nat) (o : Oper) (r n : Nat) (s : State) : State :=
  (rangeFrom r n).foldl (fun a i => pieceEffects a tile o.pad (o.row i) o.rowBytes) s

/-- Bytes of an operand's scale array, in whole lines. -/
def scaleBytes (o : Oper) (f : Fmt) (bs : Bool) : Nat := if bs then up64 (o.rows * (o.elems f / 32)) else 0

/-- An operand's scale array. -/
def operScales (s : State) (tile : Nat) (o : Oper) (f : Fmt) (bs : Bool) : Piece :=
  pieceRead s tile o.pad o.scaleBase (scaleBytes o f bs)

/-- What reading an operand whole, with its scales, does in the store. -/
def operEffects (tile : Nat) (o : Oper) (f : Fmt) (bs : Bool) (s : State) : State :=
  pieceEffects (operRowsEffects tile o 0 o.rows s) tile o.pad o.scaleBase (scaleBytes o f bs)

/-- Lines of an operand with its scales. -/
def operLines (o : Oper) (f : Fmt) (bs : Bool) : Nat := o.rows * o.lines + scaleBytes o f bs / 64

/-- A row as elements: encodings, scale bytes (empty: unscaled), and each element's poison. -/
structure EVec where
  fmt : Fmt
  els : List Nat
  ks : List Nat
  marks : List Bool
  deriving DecidableEq, Repr

/-- The scale byte of element i. -/
def EVec.scale (v : EVec) (i : Nat) : Option Nat := if v.ks.isEmpty then none else some (at' 0xFF v.ks (i / 32))

/-- The exact value of element i, under its scale. -/
def EVec.num (v : EVec) (i : Nat) : Num :=
  let x := decodeNum v.fmt (at' 0 v.els i)
  match v.scale i with
  | some k => scaleNum x k
  | none => x

/-- Is any element poisoned. -/
def EVec.poisoned (v : EVec) : Bool := v.marks.any id

/-- Elements of n bytes, with the words that mark them and scale bytes with their marks. -/
def mkVec (f : Fmt) (e : Nat) (bytes : List Byte) (words : List Bool) (ks : List Byte) (kMarks : Nat → Bool) : EVec :=
  ⟨f, elemsAt f.width e (ofBytes bytes), ks.map BitVec.toNat,
    (List.range e).map fun i =>
      (Piece.mk bytes words none).elemMark f i || (!ks.isEmpty && kMarks (i / 32))⟩

/-- Row r of an operand read whole, as elements. -/
def rowVec (o : Oper) (f : Fmt) (bs : Bool) (rows scales : Piece) (r : Nat) : EVec :=
  let e := o.elems f
  let so := r * (e / 32)
  mkVec f e (slice rows.bytes (r * o.rowBytes) o.rowBytes) ((rows.marks.drop (r * o.lines * 8)).take (o.lines * 8))
    (if bs then slice scales.bytes so (e / 32) else []) fun k => at' false scales.marks ((so + k) / 8)

/-- Every row of an operand as elements. -/
def operVecs (s : State) (tile : Nat) (o : Oper) (f : Fmt) (bs : Bool) : List EVec :=
  let rows := operRows s tile o 0 o.rows
  let sc := operScales s tile o f bs
  (List.range o.rows).map (rowVec o f bs rows sc)

/-- The first uncorrectable line of operands that a docket reads whole. -/
def opersBad (s : State) (tile : Nat) (os : List (Oper × Fmt × Bool)) : Option Nat :=
  os.findSome? fun q => (operRows s tile q.1 0 q.1.rows).bad.or (operScales s tile q.1 q.2.1 q.2.2).bad

/-- What reading operands whole does in the store. -/
def opersEffects (s : State) (tile : Nat) (os : List (Oper × Fmt × Bool)) : State :=
  os.foldl (fun a q => operEffects tile q.1 q.2.1 q.2.2 a) s

/-- Lines of operands read whole. -/
def opersLines (os : List (Oper × Fmt × Bool)) : Nat := (os.map fun q => operLines q.1 q.2.1 q.2.2).foldl (· + ·) 0

/-- Is the docket's context strict; the Steward's dockets have none. -/
def dkStrict (s : State) (d : Docket) : Bool := d.ctx < 16 && isStrict s d.ctx

/-- Read operands whole, then go on; in strict mode an uncorrectable line ends the docket 0xA with nothing written (06 R190,
log entry 29). -/
def withOpers (s : State) (d : Docket) (os : List (Oper × Fmt × Bool)) (k : State → DkOut) : DkOut :=
  let s1 := opersEffects s d.tile os
  match opersBad s d.tile os with
  | some a => if dkStrict s d then ⟨s1, 0xA, a, opersLines os, 0⟩ else k s1
  | none => k s1

/-! ### Writing outputs -/

/-- Write output bytes with a mark per byte; memory lines enter the context's twin digest (17 R443).  Answers whether a poisoned
line of a sink was left, and the lines written. -/
def dkWrite (s : State) (d : Docket) (pad : Bool) (off : Nat) (bs : List Byte) (mark : Nat → Bool) : State × Bool × Nat :=
  let r := pieceWrite s d.tile pad off bs mark
  let ls := linesOf off bs.length
  let s1 :=
    if pad || !isTwin s then r.1
    else ls.foldl (fun a l => twinLines a d.ctx (ownChip a) (64 * l) (memRead a (64 * l) 64) fun _ => linePoisoned a l) r.1
  (s1, r.2, ls.length)

/-- Pack encodings of a width into bytes. -/
def packBytes (w : Nat) (es : List Nat) : List Byte := bytesOf ((es.length * w + 7) / 8) (packElems w es)

/-- The mark of byte i from the marks of elements of a width. -/
def byteMark (w : Nat) (ms : List Bool) (i : Nat) : Bool :=
  (rangeFrom (8 * i / w) ((8 * i + 7) / w - 8 * i / w + 1)).any fun e => at' false ms e

/-- Write rows of output elements, each row a list of (encoding, poison): the state, whether any output is poisoned or was left
unwritten, and the lines. -/
def writeRows (s : State) (d : Docket) (o : Oper) (w : Nat) (rows : List (List (Nat × Bool))) : State × Bool × Nat :=
  (rows.zip (List.range rows.length)).foldl (fun (a : State × Bool × Nat) q =>
    let ms := q.1.map (·.2)
    let r := dkWrite a.1 d o.pad (o.row q.2) (packBytes w (q.1.map (·.1))) (byteMark w ms)
    (r.1, a.2.1 || ms.any id || r.2.1, a.2.2 + r.2.2)) (s, false, 0)

/-- Code 0x3 where an output is poisoned, else 0x2. -/
def doneCode (p : Bool) : Nat := if p then 3 else 2

/-! ### The engine's arithmetic (02 R63, R66, R67, R69-R75) -/

/-- The Fret's draw of a docket at an output position (02 R71); drawn under stochastic rounding only. -/
def dkDraw (s : State) (d : Docket) (i : Nat) : Nat := if dkRnd d.words = 2 then tileDraw s (tileGet s d.tile) d.base i else 0

/-- The docket's rounding mode. -/
def dkMode (ws : List Word) : Rnd := (rndOfCode (dkRnd ws)).getD .nearest

/-- The docket's anchor. -/
def dkAnchorInt (ws : List Word) : Int := signedOf 9 (dkAnchor ws)

/-- A long sum as an output element of a format. -/
def outSum (s : State) (d : Docket) (f : Fmt) (i : Nat) (x : LongSum) (p : Bool) : Nat × Bool :=
  if f = .longSum then (lsContainer (poisonSum x p), p)
  else
    let c := lsConvert f (dkMode d.words) (dkDraw s d i) (dkSat d.words) x
    (c.1, c.2 || p)

/-- An FP32 value as an output element of a format. -/
def outWide (s : State) (d : Docket) (f : Fmt) (i v : Nat) (p : Bool) : Nat × Bool :=
  let c := encodeNum f (dkMode d.words) (dkDraw s d i) (dkSat d.words) (decodeNum .fp32 v)
  (c.1, c.2 || p)

/-- The exact dot product of two narrow vectors at an anchor. -/
def dotNarrow (anchor : Int) (a b : EVec) : LongSum :=
  (List.range a.els.length).foldl (fun t i =>
    lsPlaceProduct t (decodeNum a.fmt (at' 0 a.els i)) (decodeNum b.fmt (at' 0 b.els i)) (a.scale i) (b.scale i)) (lsZero anchor)

/-- FP32 values added one at a time, from the first on (02 R67, log entry 29). -/
def sumAscending : List Nat → Nat
  | [] => 0
  | x :: xs => xs.foldl fp32Add x

/-- The fixed-order dot product: products rounded to FP32, added in ascending element (02 R67, log entry 29). -/
def dotWide (a b : EVec) : Nat :=
  sumAscending ((List.range a.els.length).map fun i => toFp32 (numMul (a.num i) (b.num i)))

/-! ### The vector buffer (06 R175, R189) -/

/-- First unit of vector v in an engine's buffer. -/
def bufUnit (s : State) (d : Docket) (v : Nat) : Nat :=
  let base := ((engineWindow s d.ctx (dkStack d.words) (dkEngine d.words)).map (·.1)).getD 0
  base + dkBuf d.words + v * (vecFootprint (dkVecFmt d.words) (dkVecBs d.words) (dkElems d.words) / 64)

/-- Units of an engine's buffer as bytes and word marks. -/
def bufRead (x : Engine) (u n : Nat) : List Byte × List Bool :=
  ((rangeFrom u n).flatMap fun i => bytesOf 64 (mapGet 0 x.buf i).toNat,
    (rangeFrom u n).flatMap fun i => List.replicate 8 (x.bufPoison.contains i))

/-- Write bytes into units of an engine's buffer; a unit is poisoned where one of its words is. -/
def bufWriteUnits : Nat → Engine → Nat → List Byte → List Bool → Engine
  | 0, x, _, _, _ => x
  | n + 1, x, u, bs, ms =>
    let p := (ms.take 8).any id
    bufWriteUnits n
      { x with
        buf := mapSet 0 x.buf u (BitVec.ofNat 512 (ofBytes (bs.take 64)))
        bufPoison := if p then setInsert x.bufPoison u else setErase x.bufPoison u } (u + 1) (bs.drop 64) (ms.drop 8)

/-- Vector v of a docket, from its engine's buffer. -/
def bufVec (s : State) (d : Docket) (v : Nat) : EVec :=
  let x := engGet s (dkEng d.words)
  let f := dkVecFmt d.words
  let e := dkElems d.words
  let n := up64 (elemsBytes f e)
  let u := bufUnit s d v
  let data := bufRead x u (n / 64)
  let ks := if dkVecBs d.words then bufRead x (u + n / 64) (up64 (e / 32) / 64) else ([], [])
  mkVec f e data.1 data.2 (ks.1.take (e / 32)) fun k => at' false ks.2 (k / 8)

/-! ### Dockets -/

/-- An absent operand, where the docket's checks have left none. -/
def noOper : Oper := ⟨false, 0, 1, 1, 1⟩

/-- LOADV: row v of A, bytes and scales unchanged, into vector v of the buffer of every engine of the mask. -/
def runLoadv (s : State) (d : Docket) : DkOut :=
  let ws := d.words
  let a := (dkA ws).getD noOper
  let f := dkFmt (dkFmtA ws)
  let bs := dkBsA ws
  let os := [(a, f, bs)]
  let engs := if dkParam ws % 2 ^ 32 = 0 then [dkEngine ws] else setBits 32 (dkParam ws)
  withOpers s d os fun s1 =>
    let rows := operRows s d.tile a 0 a.rows
    let sc := operScales s d.tile a f bs
    let e := a.elems f
    let n := up64 (elemsBytes f e)
    let ks := up64 (e / 32)
    let put := fun (x : Engine) (v : Nat) =>
      let y := bufWriteUnits (n / 64) x (bufUnit s d v) (slice rows.bytes (v * a.rowBytes) n ++ zeros (n - a.rowBytes))
        ((rows.marks.drop (v * a.lines * 8)).take (n / 8))
      if bs then
        bufWriteUnits (ks / 64) y (bufUnit s d v + n / 64) (slice sc.bytes (v * (e / 32)) (e / 32) ++ zeros (ks - e / 32))
          ((List.range (ks / 8)).map fun w => (List.range 8).any fun b =>
            8 * w + b < e / 32 && at' false sc.marks ((v * (e / 32) + 8 * w + b) / 8))
      else y
    let s2 := engs.foldl (fun b g =>
      let k := 32 * dkStack ws + g
      if (engGet b k).inReset then b else engMod b k fun x => (List.range (dkNvec ws)).foldl put x) s1
    let lost := engs.any fun g => (engGet s (32 * dkStack ws + g)).inReset
    let p := rows.marks.any id || sc.marks.any id
    ⟨s2, if lost then 5 else doneCode p, 0, opersLines os, 0⟩

/-- MATV: y[v][j] = Σ A[j][i] × x_v[i] into O row v (06 R180). -/
def runMatv (s : State) (d : Docket) : DkOut :=
  let ws := d.words
  let a := (dkA ws).getD noOper
  let o := (dkO ws).getD noOper
  let fa := dkFmt (dkFmtA ws)
  let fo := dkFmt (dkFmtO ws)
  let os := [(a, fa, dkBsA ws)]
  withOpers s d os fun s1 =>
    let rows := operVecs s d.tile a fa (dkBsA ws)
    let ys := (List.range (dkNvec ws)).map fun v =>
      let x := bufVec s d v
      (rows.zip (List.range rows.length)).map fun (q : EVec × Nat) =>
        let p := q.1.poisoned || x.poisoned
        let i := v * a.rows + q.2
        if fa.isNarrow then outSum s d fo i (dotNarrow (dkAnchorInt ws) q.1 x) p else outWide s d fo i (dotWide q.1 x) p
    let w := writeRows s1 d o fo.width ys
    ⟨w.1, doneCode w.2.1, 0, opersLines os + w.2.2, dkNvec ws * a.rows * dkElems ws⟩

/-- A running softmax state (06 R181). -/
structure AttnSt where
  m : Nat
  l : Nat
  acc : List Nat
  deriving DecidableEq, Repr

/-- exp2 of an FP32 value, correctly rounded. -/
def fp32Exp2 (x : Nat) : Nat := toFp32 (numExp2 (decodeNum .fp32 x))

/-- FP32 difference. -/
def fp32Sub (a b : Nat) : Nat := toFp32 (numSum [decodeNum .fp32 a, numNegate (decodeNum .fp32 b)])

/-- FP32 product. -/
def fp32Mul (a b : Nat) : Nat := toFp32 (numMul (decodeNum .fp32 a) (decodeNum .fp32 b))

/-- One row of keys and values joins the state (06 R181). -/
def attnRow (scale : Nat) (t : AttnSt) (score : Nat) (v : List Nat) : AttnSt :=
  let s := fp32Mul score scale
  let mn := fmtMax .fp32 t.m s
  let c := fp32Exp2 (fp32Sub t.m mn)
  let p := fp32Exp2 (fp32Sub s mn)
  ⟨mn, fp32Fma t.l c p, zipElems (fun a x => fp32Fma a c (fp32Mul p x)) t.acc v⟩

/-- ATTN: one running softmax state for each query (06 R181): m, l and the accumulators of O row q, the row padded to whole lines. -/
def runAttn (s : State) (d : Docket) : DkOut :=
  let ws := d.words
  let a := (dkA ws).getD noOper
  let b := (dkB ws).getD noOper
  let o := (dkO ws).getD noOper
  let fa := dkFmt (dkFmtA ws)
  let fb := dkFmt (dkFmtB ws)
  let os := [(a, fa, dkBsA ws), (b, fb, dkBsB ws)]
  withOpers s d os fun s1 =>
    let keys := operVecs s d.tile a fa (dkBsA ws)
    let vals := operVecs s d.tile b fb (dkBsB ws)
    let n := b.elems fb
    let states := (List.range (dkNvec ws)).map fun q =>
      let x := bufVec s d q
      let st := (keys.zip vals).foldl (fun (t : AttnSt) (kv : EVec × EVec) =>
        let score := if fa.isNarrow then (lsConvert .fp32 .nearest 0 false (dotNarrow (dkAnchorInt ws) x kv.1)).1 else dotWide x kv.1
        attnRow (dkParam ws / 2 ^ 32) t score ((List.range n).map fun j => toFp32 (kv.2.num j))) ⟨0xFF800000, 0, List.replicate n 0⟩
      let p := x.poisoned || keys.any (·.poisoned)
      let row := [(st.m, p), (st.l, p)] ++ (st.acc.zip (List.range n)).map fun (y : Nat × Nat) =>
        (y.1, p || vals.any fun v => at' false v.marks y.2)
      row ++ List.replicate ((16 - (n + 2) % 16) % 16) (0, false)
    let w := writeRows s1 d o 32 states
    ⟨w.1, doneCode w.2.1, 0, opersLines os + w.2.2, dkNvec ws * a.rows * (dkElems ws + n)⟩

/-- Rows of the index operand that n indices of 32 bits fill. -/
def indexRows (o : Oper) (n : Nat) : Nat := (4 * n + o.rowBytes - 1) / o.rowBytes

/-- Index i and whether its word is poisoned. -/
def indexAt (p : Piece) (i : Nat) : Nat × Bool := (numAt p.bytes (4 * i) 4, at' false p.marks (4 * i / 8))

/-- What a docket that walks indices has done so far: the state, whether an output is poisoned, lines, and where it stopped, with the
code. -/
structure Walk where
  state : State
  poison : Bool
  lines : Nat
  stop : Option (Nat × Nat)

/-- Walk indices in ascending order until one stops the docket (06 R182). -/
def walkIndices (idx : Piece) (limit : Nat) (body : State → Nat → Nat → Walk) : List Nat → Walk → Walk
  | [], w => w
  | i :: l, w =>
    let x := indexAt idx i
    if x.2 || x.1 ≥ limit then { w with stop := some (0xC, i) }
    else
      let r := body w.state i x.1
      let r1 := { r with poison := w.poison || r.poison, lines := w.lines + r.lines }
      match r.stop with
      | some _ => r1
      | none => walkIndices idx limit body l r1

/-- Copy a row from one operand to another, with its poison. -/
def moveRow (d : Docket) (a o : Oper) (s : State) (ra ro : Nat) : Walk :=
  let p := pieceRead s d.tile a.pad (a.row ra) a.rowBytes
  let s1 := pieceEffects s d.tile a.pad (a.row ra) a.rowBytes
  match p.bad, dkStrict s d with
  | some x, true => ⟨s1, false, a.lines, some (0xA, x)⟩
  | _, _ =>
    let w := dkWrite s1 d o.pad (o.row ro) p.bytes fun i => at' false p.marks (i / 8)
    ⟨w.1, p.poisoned || w.2.1, a.lines + w.2.2, none⟩

/-- Close a walk. -/
def walkOut (w : Walk) : DkOut :=
  match w.stop with
  | some (code, pos) => ⟨w.state, code, pos, w.lines, 0⟩
  | none => ⟨w.state, doneCode w.poison, 0, w.lines, 0⟩

/-- Read the index rows, then walk. -/
def withIndices (s : State) (d : Docket) (limit : Nat) (body : State → Nat → Nat → Walk) : DkOut :=
  let b := (dkB d.words).getD noOper
  let n := indexRows b (dkCount d.words)
  let idx := operRows s d.tile b 0 n
  let s1 := operRowsEffects d.tile b 0 n s
  match idx.bad, dkStrict s d with
  | some x, true => ⟨s1, 0xA, x, n * b.lines, 0⟩
  | _, _ => walkOut (walkIndices idx limit body (List.range (dkCount d.words)) ⟨s1, false, n * b.lines, none⟩)

/-- GATHER: table row B[i] of A to row i of O. -/
def runGather (s : State) (d : Docket) : DkOut :=
  let a := (dkA d.words).getD noOper
  let o := (dkO d.words).getD noOper
  withIndices s d a.rows fun t i x => moveRow d a o t x i

/-- Add two rows of elements position by position: FP32 with one rounding, or containers (06 R182); whether an anchor differed or a
container's residue field did not fit its bits (02 R62, R77). -/
def addRows (f : Fmt) (x y : Piece) : List Byte × Bool :=
  if f = .longSum then
    let p := (elemsOf 16 x.bytes).zip (elemsOf 16 y.bytes)
    (elemBytes 16 (p.map fun q => lsContainer (lsAdd (lsOfContainer q.1) (lsOfContainer q.2))),
      p.any fun q => decide ((lsOfContainer q.1).anchor ≠ (lsOfContainer q.2).anchor) || !lsResidueOk q.1 || !lsResidueOk q.2)
  else (elemBytes 4 (zipElems fp32Add (elemsOf 4 x.bytes) (elemsOf 4 y.bytes)), false)

/-- SCATTER with op 1 adds a row into a table row; a residue mismatch, or an anchor that differs, leaves the row poisoned and fails the
docket (02 R62, R77, R78). -/
def addRow (d : Docket) (f : Fmt) (a o : Oper) (s : State) (ra ro : Nat) : Walk :=
  let p := pieceRead s d.tile a.pad (a.row ra) a.rowBytes
  let q := pieceRead s d.tile o.pad (o.row ro) o.rowBytes
  let s1 := pieceEffects (pieceEffects s d.tile a.pad (a.row ra) a.rowBytes) d.tile o.pad (o.row ro) o.rowBytes
  match p.bad.or q.bad, dkStrict s d with
  | some x, true => ⟨s1, false, 2 * a.lines, some (0xA, x)⟩
  | _, _ =>
    let r := addRows f q p
    let w := dkWrite s1 d o.pad (o.row ro) r.1 fun i => r.2 || at' false p.marks (i / 8) || at' false q.marks (i / 8)
    let s2 := if r.2 then logResidue w.1 3 (dkEng d.words) d.ctx (d.tk, 0) ((badResidue q.bytes).or (badResidue p.bytes)) else w.1
    ⟨s2, p.poisoned || q.poisoned || w.2.1, 2 * a.lines + w.2.2, if r.2 then some (4, o.row ro) else none⟩

/-- SCATTER: row i of A to, or into, table row B[i] of O. -/
def runScatter (s : State) (d : Docket) : DkOut :=
  let a := (dkA d.words).getD noOper
  let o := (dkO d.words).getD noOper
  withIndices s d o.rows fun t i x =>
    if dkOp d.words = 0 then moveRow d a o t i x else addRow d (dkFmt (dkFmtA d.words)) a o t i x

/-- Combine elements by REDUCE's sub-operation into one output element at a Fret position. -/
def reduceList (s : State) (d : Docket) (i : Nat) (vs : List (EVec × Nat)) : Nat × Bool :=
  let ws := d.words
  let fa := dkFmt (dkFmtA ws)
  let fo := dkFmt (dkFmtO ws)
  let p := vs.any fun v => at' false v.1.marks v.2
  let raw := vs.map fun v => at' 0 v.1.els v.2
  match dkOp ws with
  | 0 =>
    if fa.isNarrow then
      outSum s d fo i (vs.foldl (fun t v =>
        lsPlaceProduct t (decodeNum fa (at' 0 v.1.els v.2)) (.fin false 1 0) (v.1.scale v.2) none) (lsZero (dkAnchorInt ws))) p
    else outWide s d fo i (sumAscending (vs.map fun v => toFp32 (v.1.num v.2))) p
  | 1 => (foldElems (fmtMin fa) raw, p)
  | 2 => (foldElems (fmtMax fa) raw, p)
  | o => (foldElems (bitwiseOp o) raw, p)

/-- REDUCE: the rows of A by op, column by column or whole (06 R183). -/
def runReduce (s : State) (d : Docket) : DkOut :=
  let ws := d.words
  let a := (dkA ws).getD noOper
  let o := (dkO ws).getD noOper
  let fa := dkFmt (dkFmtA ws)
  let os := [(a, fa, dkBsA ws)]
  withOpers s d os fun s1 =>
    let rows := operVecs s d.tile a fa (dkBsA ws)
    let e := a.elems fa
    let out :=
      if dkParam ws % 2 = 0 then (List.range e).map fun c => reduceList s d c (rows.map fun r => (r, c))
      else [reduceList s d 0 (rows.flatMap fun r => (List.range e).map fun c => (r, c))]
    let w := writeRows s1 d o (dkFmt (dkFmtO ws)).width [out]
    ⟨w.1, doneCode w.2.1, 0, opersLines os + w.2.2, 0⟩

/-- A row quantised block by block (02 R59): the elements and the scale bytes, each with its poison. -/
def quantRow (s : State) (d : Docket) (fo : Fmt) (r : Nat) (v : EVec) : List (Nat × Bool) × List (Nat × Bool) :=
  let e := v.els.length
  let blocks := (List.range (e / 32)).map fun b =>
    let is := rangeFrom (32 * b) 32
    let q := quantBlock fo (dkMode d.words) (is.map fun i => dkDraw s d (r * e + i)) (is.map v.num)
    let p := is.any fun i => at' false v.marks i
    (q.2.map fun x => (x, p), (q.1, p))
  (blocks.flatMap (·.1), blocks.map (·.2))

/-- QUANT: A's rows to block-scaled rows of O (06 R184). -/
def runQuant (s : State) (d : Docket) : DkOut :=
  let ws := d.words
  let a := (dkA ws).getD noOper
  let o := (dkO ws).getD noOper
  let fa := dkFmt (dkFmtA ws)
  let fo := dkFmt (dkFmtO ws)
  let os := [(a, fa, false)]
  withOpers s d os fun s1 =>
    let rows := operVecs s d.tile a fa false
    let qs := (rows.zip (List.range rows.length)).map fun q => quantRow s d fo q.2 q.1
    let w := writeRows s1 d o fo.width (qs.map (·.1))
    let ks := qs.flatMap (·.2)
    let w2 := dkWrite w.1 d o.pad o.scaleBase (packBytes 8 (ks.map (·.1))) (byteMark 8 (ks.map (·.2)))
    ⟨w2.1, doneCode (w.2.1 || w2.2.1), 0, opersLines os + w.2.2 + w2.2.2, 0⟩

/-- Write a byte string over an operand's rows. -/
def spread (s : State) (d : Docket) (o : Oper) (bs : List Byte) (mark : Nat → Bool) : State × Bool × Nat :=
  (List.range o.rows).foldl (fun (a : State × Bool × Nat) r =>
    let w := dkWrite a.1 d o.pad (o.row r) (slice bs (r * o.rowBytes) o.rowBytes) fun i => mark (r * o.rowBytes + i)
    (w.1, a.2.1 || w.2.1, a.2.2 + w.2.2)) (s, false, 0)

/-- COPY: A's bytes to O with their poison marks. -/
def runCopy (s : State) (d : Docket) : DkOut :=
  let a := (dkA d.words).getD noOper
  let o := (dkO d.words).getD noOper
  let os := [(a, Fmt.fp32, false)]
  withOpers s d os fun s1 =>
    let p := operRows s d.tile a 0 a.rows
    let w := spread s1 d o p.bytes fun i => at' false p.marks (i / 8)
    ⟨w.1, doneCode (p.poisoned || w.2.1), 0, opersLines os + w.2.2, 0⟩

/-- FILL: the 64-bit pattern of W7 over O; every written word is clean. -/
def runFill (s : State) (d : Docket) : DkOut :=
  let o := (dkO d.words).getD noOper
  let w := spread s d o ((List.range (o.rows * o.lines * 8)).flatMap fun _ => bytesOf 8 (dkParam d.words)) fun _ => false
  ⟨w.1, 2, 0, w.2.2, 0⟩

/-- ZERO: zeros over O. -/
def runZero (s : State) (d : Docket) : DkOut :=
  let o := (dkO d.words).getD noOper
  let w := spread s d o (zeros (o.rows * o.rowBytes)) fun _ => false
  ⟨w.1, 2, 0, w.2.2, 0⟩

/-- A context's queue on an engine is halted after a strict-mode read of bad data: its queued dockets end 0x5 (06 R190). -/
def engHalt (s : State) (e ctx : Nat) : State :=
  let x := engGet s e
  let gone := x.queue.filter fun q => q.ctx == ctx
  gone.foldl (fun a q => engFail (dkPost a q 5) e q 5 0)
    (engSet s e { x with queue := x.queue.filter (fun q => q.ctx != ctx), halted := setInsert x.halted ctx })

/-- Execute the running docket of an engine where it has the command's type. -/
def dkRun (type : Nat) (run : State → Docket → DkOut) (eng : Nat) (s : State) : Host.Outcome State Fault Refusal :=
  let x := engGet s eng
  match x.running, x.result with
  | some d, none =>
    if dkType d.words ≠ type ∨ x.inReset then .next s
    else
      let r := run s d
      let s1 := regAdd (regAdd r.state (regEngLines (eng / 32) (eng % 32)) r.lines) (regEngMac (eng / 32) (eng % 32)) r.macs
      let s2 := engMod s1 eng fun y => { y with result := some r.code, lastMove := s.clock, gated := false }
      let s3 := if r.code > 3 then engFail s2 eng d r.code r.pos else s2
      .next (if r.code = 0xA then engHalt s3 eng d.ctx else s3)
  | _, _ => .next s

/-- LOADV. -/
def execLoadv (eng : Nat) (s : State) : Host.Outcome State Fault Refusal := dkRun 0x01 runLoadv eng s
/-- MATV. -/
def execMatv (eng : Nat) (s : State) : Host.Outcome State Fault Refusal := dkRun 0x02 runMatv eng s
/-- ATTN. -/
def execAttn (eng : Nat) (s : State) : Host.Outcome State Fault Refusal := dkRun 0x03 runAttn eng s
/-- GATHER. -/
def execGather (eng : Nat) (s : State) : Host.Outcome State Fault Refusal := dkRun 0x04 runGather eng s
/-- SCATTER. -/
def execScatter (eng : Nat) (s : State) : Host.Outcome State Fault Refusal := dkRun 0x05 runScatter eng s
/-- REDUCE. -/
def execReduce (eng : Nat) (s : State) : Host.Outcome State Fault Refusal := dkRun 0x06 runReduce eng s
/-- QUANT. -/
def execQuant (eng : Nat) (s : State) : Host.Outcome State Fault Refusal := dkRun 0x07 runQuant eng s
/-- COPY. -/
def execCopy (eng : Nat) (s : State) : Host.Outcome State Fault Refusal := dkRun 0x08 runCopy eng s
/-- FILL, as a docket. -/
def execDocketFill (eng : Nat) (s : State) : Host.Outcome State Fault Refusal := dkRun 0x09 runFill eng s
/-- ZERO. -/
def execZero (eng : Nat) (s : State) : Host.Outcome State Fault Refusal := dkRun 0x0A runZero eng s

/-! ### Clock gating (06 R169) and stalls -/

/-- ENGINE_CLOCK_UNGATE: a gated engine restarts its clock 16 channel cycles before its estimated turn, or once its channel is
granted to it; the engine cycles it stood still are counted in ENG_CNT_GATED (1.2 GHz against the channel's 1.5625 GHz). -/
def execEngineClockUngate (eng : Nat) (s : State) : Host.Outcome State Fault Refusal :=
  let x := engGet s eng
  let c := chanGet s eng
  let granted : Bool := match c.grant with | some g => g.req.isEngine | none => false
  if x.gated ∧ (granted ∨ c.cycle + 16 ≥ x.gatedSince + x.gatedTurn) then
    .next (regAdd (engSet s eng { x with gated := false }) (regEngGated (eng / 32) (eng % 32)) ((c.cycle - x.gatedSince) * 96 / 125))
  else .next s

/-- ENGINE_STALL: an engine has moved no line for 10 ms while it runs a docket; trigger 0x05 asks for the engine reset (17 R425). -/
def execEngineStall (eng : Nat) (s : State) : Host.Outcome State Fault Refusal :=
  let x := engGet s eng
  match x.running with
  | some d =>
    if x.inReset ∨ s.clock < x.lastMove + 10000000 then .next s
    else
      .next (raiseTrigger s ⟨2, true, eng, 0x05, s.clock, 0, 0x10 + eng / 32, eng % 32⟩ (if d.ctx < 16 then some d.ctx else none))
  | none => .next s

end Sys2Proof.Machine
end

