-- ==== Sys2Proof/Machine/Scrubber.lean ====
section
/-! DEFINITION. The scrubber, and the completion of dockets (06 R187, 07 R208, R209). -/

namespace Sys2Proof.Machine

/-- The lines of a channel from line p up to line top, at most n of them, in ascending offset; fuel is the number of lines
looked at. -/
def scanLines (s : State) (ch top : Nat) : Nat → Nat → Nat → List Nat
  | 0, _, _ => []
  | f + 1, n, p =>
    if n = 0 ∨ p ≥ top then []
    else if chanOfLine s p = ch then p :: scanLines s ch top f (n - 1) (p + 1)
    else scanLines s ch top f n (p + 1)

/-- The channels that a range of lines touches: any 256-byte unit of mode 0 to 3 lies in one channel, and a range of 9 GiB or more
touches every channel of its stacks. -/
def scrubChannels (s : State) (first last : Nat) : SMap Nat :=
  (List.range 256).filterMap fun ch =>
    ((scanLines s ch (last / 64) (last / 64 - first / 64) 1 (first / 64)).head?).map fun l => (ch, l)

/-- The words of a SCRUB docket for a channel. -/
def scrubWords (ch : Nat) : List Word :=
  [BitVec.ofNat 64 (0x0B * 2 ^ 56 + ch / 32 * 2 ^ 53 + ch % 32 * 2 ^ 48), 0, 0, 0, 0, 0, 0, 0]

/-- Set SCB_STATUS.state (07 Table 07-17). -/
def scbState (s : State) (x : Nat) : State := regPut s regScbStatus 2 0 x

/-- Why a range is refused: not aligned, empty, or above the offset space (07 R208). -/
def scrubRangeBad (s : State) (first last : Nat) : Bool :=
  first % 64 != 0 || last % 64 != 0 || first ≥ last || last > spaceBytes s

/-- A request to scrub a range: refused while a scrub runs or where the range is bad; else cut into one SCRUB docket for each
channel it touches. -/
def scrubRequest (s : State) (first last : Nat) (from_ : Option (Nat × Nat)) : State :=
  if s.scrub.isSome then scbState s 6
  else if scrubRangeBad s first last then scbState s 5
  else
    let chs := scrubChannels s first last
    let s1 := chs.foldl (fun a c => engMod a c.1 fun x => { x with queue := x.queue ++ [⟨16, 0, 0, scrubWords c.1, 0⟩] }) s
    let s2 := scbState (regPut s1 regScbStatus 15 8 (regField s1 regScbStatus 15 8 + 1)) 1
    { s2 with scrub := some {
        first := first, last := last, plovco := from_, start := s.clock, left := chs, aborting := false, lines := 0, corrected := 0,
        writtenBack := 0, uncorrectable := 0, alreadyPoisoned := 0, firstBad := 2 ^ 64 - 1, lastBad := 2 ^ 64 - 1 } }

/-- Abort the running scrub (07 R209). -/
def scrubAbort (s : State) : State :=
  match s.scrub with
  | some x => { s with scrub := some { x with aborting := true } }
  | none => s

/-- SCRUB_START: SCB_CTRL.start is written; the range is that of SCB_RANGE_LO and SCB_RANGE_HI. -/
def execScrubStart (s : State) : Host.Outcome State Fault Refusal :=
  .next (hostWrite s regScbCtrl 1 fun a => scrubRequest a (regField a regScbLo 47 0) (regField a regScbHi 47 0) none)

/-- SCRUB_ABORT: SCB_CTRL.abort is written. -/
def execScrubAbort (s : State) : Host.Outcome State Fault Refusal := .next (hostWrite s regScbCtrl 2 scrubAbort)

/-- One line enters the summary (07 Table 07-18). -/
def scrubCount (x : Scrub) (l : Nat) (kind : EccKind) (back poisoned : Bool) : Scrub :=
  let bad := kind.bad || (kind == .clean && poisoned)
  { x with
    lines := x.lines + 1
    corrected := x.corrected + bit kind.corrected
    writtenBack := x.writtenBack + bit back
    uncorrectable := x.uncorrectable + bit kind.bad
    alreadyPoisoned := x.alreadyPoisoned + bit (kind == .clean && poisoned)
    firstBad := if bad && (x.firstBad = 2 ^ 64 - 1 ∨ 64 * l < x.firstBad) then 64 * l else x.firstBad
    lastBad := if bad && (x.lastBad = 2 ^ 64 - 1 ∨ 64 * l > x.lastBad) then 64 * l else x.lastBad }

/-- A scrub reads a line: counted and logged; in service it is written back, or marked, before the next line is read, since the
class-0 grant goes first (05 R162). -/
def scrubLine (a : State × Scrub) (l : Nat) : State × Scrub :=
  let (s, x) := a
  let kind := (lineDecode (mapGet 0 s.lineErr l)).kind
  let back := (kind.bad || kind.corrected) && stackInService s (chanOfLine s l / 32)
  let y := scrubCount x l kind back (lineData s l).2.1
  let s1 := lineReadCount s l
  if back then
    let i := chanOfLine s l
    let s2 := writeBackLine s1 l kind.bad
    (chanSet s2 i (dropWriteBack (chanGet s2 i) l), y)
  else (s1, y)

/-- DOCKET_SCRUB: the running SCRUB docket of an engine reads up to n further lines of its channel; it ends at the range's end, or
after its current line where the scrub is aborted. -/
def execDocketScrub (eng n : Nat) (s : State) : Host.Outcome State Fault Refusal :=
  let e := engGet s eng
  match e.running, e.result, s.scrub with
  | some d, none, some x =>
    if dkType d.words ≠ 0x0B ∨ e.inReset then .next s
    else
      let top := x.last / 64
      let p := mapGet top x.left eng
      let ls := if x.aborting then [] else scanLines s eng top (top - p) n p
      let next := (ls.getLast?.map (· + 1)).getD p
      let rest := if x.aborting then [] else scanLines s eng top (top - next) 1 next
      let r := ls.foldl scrubLine (s, x)
      let s1 := { r.1 with scrub := some { r.2 with left := mapPut r.2.left eng next } }
      let s2 := regAdd s1 (regEngLines (eng / 32) (eng % 32)) ls.length
      .next (engMod s2 eng fun y => { y with lastMove := s.clock, result := if rest.isEmpty then some 2 else none })
  | _, _, _ => .next s

/-- DOCKET_COMPLETE: the executed docket's ticket posts its code (06 R187, Table 06-6), and the engine is free. -/
def execDocketComplete (eng : Nat) (s : State) : Host.Outcome State Fault Refusal :=
  let e := engGet s eng
  match e.running, e.result with
  | some d, some code =>
    let s1 := engSet (dkPost s d code) eng { e with running := none, result := none }
    let s2 := regAdd s1 (regEngDockets (eng / 32) (eng % 32)) 1
    .next (match s2.scrub with
      | some x => if dkType d.words = 0x0B then { s2 with scrub := some { x with left := mapDel x.left eng } } else s2
      | none => s2)
  | _, _ => .next s

/-- The eight words of a scrub's summary record. -/
def scrubSummary (s : State) (x : Scrub) : List Word :=
  [x.lines, x.corrected, x.writtenBack, x.uncorrectable, x.alreadyPoisoned, x.firstBad, x.lastBad,
    min (2 ^ 32 - 1) (s.clock - x.start) * 2 ^ 32 + regField s regScbStatus 15 8].map (BitVec.ofNat 64)

/-- The Plovco command number of SCRUB (15 R399). -/
def plovcoScrub : Nat := 0x0022

/-- A scrub ends in a state: summary and status are final, and a Plovco requester is sent them (15 Table 15-14). -/
def scrubEnd (s : State) (x : Scrub) (code : Nat) : State :=
  let sum := scrubSummary s x
  let s1 := (sum.zip (List.range 8)).foldl (fun a w => regSet a (regScbSummary w.2) w.1) (scbState { s with scrub := none } code)
  match x.plovco with
  | some (session, seq) =>
    emit s1 (.plovco session plovcoScrub 0 seq (bytesOf 8 (regGet s1 regScbStatus).toNat ++ sum.flatMap fun w => bytesOf 8 w.toNat))
  | none => s1

/-- SCRUB_DONE: the last SCRUB docket has completed. -/
def execScrubDone (s : State) : Host.Outcome State Fault Refusal :=
  match s.scrub with
  | some x => if x.left.isEmpty then .next (scrubEnd s x (if x.aborting then 3 else 2)) else .next s
  | none => .next s

/-- An engine or partition reset ends a scrub with status interrupted; its other dockets are dropped (07 R209). -/
def scrubInterrupt (s : State) : State :=
  match s.scrub with
  | some x =>
    let s1 := scrubEnd s x 4
    { s1 with engs := s1.engs.map fun e =>
        let y := e.2
        let isScrub := fun (d : Docket) => dkType d.words == 0x0B
        (e.1, { y with
          queue := y.queue.filter fun d => !isScrub d
          running := match y.running with | some d => if isScrub d then none else some d | none => none
          result := match y.running with | some d => if isScrub d then none else y.result | none => none }) }
  | none => s

end Sys2Proof.Machine
end

