-- ==== Sys2Proof/Machine/Purge.lean ====
section
/-! DEFINITION. Clearing what a context holds: its tiles, gangs, channels, engines and collectives, and putting tile images back (04 R139,
06 R189, R190, 12 R320, R322-R324, 17 Table 17-4). -/

namespace Sys2Proof.Machine

/-- Gang numbers of the applied Pattern, ascending. -/
def allGangs (s : State) : List Nat := List.range ((s.plan.pattern.map fun p => p.gangs.length).getD 0)

/-- Gang numbers of a context. -/
def gangsOfCtx (s : State) (c : Nat) : List Nat := (allGangs s).filter fun g => gangCtx s g == c

/-- Logical tiles of a context's gangs. -/
def tilesOfCtx (s : State) (c : Nat) : List Nat := (gangsOfCtx s c).flatMap (gangTiles s)

/-- Logical tiles of every gang. -/
def allTiles (s : State) : List Nat := (allGangs s).flatMap (gangTiles s)

/-- Contexts that the applied Pattern defines. -/
def definedCtxs (s : State) : List Nat := (List.range 16).filter fun c => (ctxRec s c).isSome

/-! ### Tiles -/

/-- A tile's registers, operand stages, accumulators and tickets cleared (12 R320 step 1, 17 Table 17-4). -/
def clearRegs (x : Tile) : Tile :=
  { x with scal := [], pred := 1, vec := [], stage := [], acc := [], tick := [], pipe := [], ops := [], flags := 0, dmaHalt := false }

/-- A scratchpad of zeros without poison, with fresh check bits. -/
def clearPad (x : Tile) : Tile :=
  { x with pad := [], padPoison := [], padErr := [], fix := x.fix.filter fun f => padWords ≤ f }

/-- An instruction buffer of zeros, with no image loaded. -/
def clearIbuf (x : Tile) : Tile :=
  { x with ibuf := [], ibufErr := [], fix := x.fix.filter fun f => f < padWords, blocks := [], loaded := false }

/-- The registers that a context reset restores (03 R114). -/
def restoreTil (x : Tile) : Tile :=
  { x with step := 0, exc := 0, excInfo := 0, flags := 0, tstate := if x.tstate = .mended then .mended else .off }

/-- A tile after an engine, partition or chip reset: all its SRAM zeroed, every register of its block restored but its identity, which
the Steward writes again (03 R114, 17 Table 17-5); the credits of its send channels are kept (04 R139). -/
def resetTile (x : Tile) : Tile := { id := x.id, tx := x.tx, tstate := if x.tstate = .mended then .mended else .off }

/-! ### Channels (04 R139) -/

/-- The channel records that p accepts are emptied, and each sender is sent a restore that carries the depth. -/
def chansEmpty (s : State) (p : ChanRec → Bool) : State :=
  match s.plan.pattern with
  | none => s
  | some pat =>
    (pat.chans.filter p).foldl (fun a r =>
      let b := tileMod a r.tile fun x => { x with rx := mapDel x.rx r.chan }
      inject b portSteward (creditPacket b r.chip r.sender r.tile r.chan r.depth true)) s

/-! ### Engines (06 R189, R190) -/

/-- The units of a context's vector-buffer window on a stack's engines. -/
def windowUnits (s : State) (c stack : Nat) : Nat × Nat :=
  (regField s (regEngShare stack c) 21 11, regField s (regEngShare stack c) 10 0 + 1)

/-- An engine after a context is purged: its dockets dropped, the running one stopped, its window cleared, its halt ended. -/
def enginePurge (c base size : Nat) (x : Engine) : Engine :=
  let mine := (x.running.map fun d => d.ctx == c).getD false
  { x with
    queue := x.queue.filter fun d => d.ctx != c
    running := if mine then none else x.running
    result := if mine then none else x.result
    gated := x.gated && !mine
    halted := setErase x.halted c
    buf := mapDrop (fun i => base ≤ i && i < base + size) x.buf
    bufPoison := x.bufPoison.filter fun i => !(base ≤ i && i < base + size) }

/-- Purge a context from every engine that it has a share on. -/
def enginesPurge (s : State) (c : Nat) : State :=
  (List.range 256).foldl (fun a e =>
    if regField a (regEngShare (e / 32) c) (32 + e % 32) (32 + e % 32) = 1 then
      let w := windowUnits a c (e / 32)
      engMod a e (enginePurge c w.1 w.2)
    else a) s

/-- Clear every engine's windows and halts: no docket of a context stands when a Pattern is applied. -/
def enginesClear (s : State) : State :=
  { s with engs := s.engs.map fun e => (e.1, { e.2 with buf := [], bufPoison := [], halted := [] }) }

/-! ### Collectives -/

/-- A context's collectives end: their runs are dropped; the strum units have declared the members lost (09 R265). -/
def collPurge (s : State) (c : Nat) : State :=
  { s with coll := {
      runs := s.coll.runs.filter fun r => gangCtx s r.gang != c
      waiting := s.coll.waiting.filter fun w => gangCtx s w.2.1 != c } }

/-! ### Tile images (12 R322-R324) -/

/-- The image of a tile's gang. -/
def imageOf (s : State) (t : Nat) : Option (Nat × ImageRec) :=
  match s.plan.pattern, gangOfTile s t with
  | some p, some (g, _) => (p.gangs[g]?).bind fun r => (p.images[r.image]?).map fun m => (r.image, m)
  | _, _ => none

/-- Blocks of an image. -/
def imageBlocks (m : ImageRec) : Nat := m.instr + m.data

/-- Block i of an image written into a tile: instruction blocks from bundle 0, data blocks from scratchpad offset 0. -/
def blockPut (m : ImageRec) (i : Nat) (bs : List Byte) (x : Tile) : Tile :=
  if i < m.instr then
    ((chunksOf 64 64 bs).zip (List.range 64)).foldl (fun y (b, j) => ibufPut y (64 * i + j) (BitVec.ofNat 512 (ofBytes b)) false) x
  else padPutWords x (512 * (i - m.instr)) ((wordsOf 512 bs).map fun v => (v, false))

/-- A block stored, and noted as held. -/
def blockStore (m : ImageRec) (i : Nat) (bs : List Byte) (x : Tile) : Tile :=
  let y := blockPut m i bs x
  { y with blocks := setInsert y.blocks i }

/-- The instruction blocks put back from the home copy (17 Table 17-4). -/
def reloadInstr (s : State) (t : Nat) : State :=
  match imageOf s t with
  | some (_, m) => tileMod s t fun x =>
      (List.range m.instr).foldl (fun y i => blockPut m i (at' [] m.blocks i) y) x
  | none => s

/-- Refresh PLN_IMAGE_STATUS.expected and loaded (12 Table 12-21). -/
def imageCount (s : State) : State :=
  let ts := allTiles s
  let n := (ts.filter fun t => (tileGet s t).loaded).length
  regPut (regPut s regPlnImage 63 48 ts.length) regPlnImage 47 32 n

end Sys2Proof.Machine
end

