-- ==== Sys2Proof/Machine/Gcm.lean ====
section
/-! DEFINITION. AES-256-GCM, which seals packets (10 R291).  The manual names the algorithm; its arithmetic is that of FIPS 197 and
SP 800-38D (PRESUMED, log entry 23). -/

namespace Sys2Proof.Machine

/-- Multiply by x in the AES field. -/
def aesDouble (b : Nat) : Nat := if b < 128 then 2 * b else (2 * b) ^^^ 0x11B

/-- Product in the AES field, over the bits of a. -/
def aesMul (a b : Nat) : Nat :=
  ((List.range 8).foldl (fun (r : Nat × Nat) i => (if bitOf a i then r.1 ^^^ r.2 else r.1, aesDouble r.2)) (0, b)).1

/-- Inverse in the AES field: the 254th power. -/
def aesInv (a : Nat) : Nat :=
  let p2 := aesMul a a
  let p4 := aesMul p2 p2
  let p8 := aesMul p4 p4
  let p16 := aesMul p8 p8
  let p32 := aesMul p16 p16
  let p64 := aesMul p32 p32
  let p128 := aesMul p64 p64
  aesMul (aesMul (aesMul p2 p4) (aesMul p8 p16)) (aesMul (aesMul p32 p64) p128)

/-- The AES substitution of a byte. -/
def aesSub (a : Nat) : Nat :=
  let b := aesInv a
  let r := fun n => (b * 2 ^ n) % 256 ||| (b * 2 ^ n) / 256
  b ^^^ r 1 ^^^ r 2 ^^^ r 3 ^^^ r 4 ^^^ 0x63

/-- Bytewise xor. -/
def xorList (a b : List Nat) : List Nat := List.zipWith (· ^^^ ·) a b

/-- The four-byte words of the key schedule, newest first, n more after the given ones. -/
def aesExpand : Nat → List (List Nat) → List (List Nat)
  | 0, ws => ws
  | n + 1, ws =>
    let i := ws.length
    let prev := ws.headD []
    let t :=
      if i % 8 = 0 then
        match (prev.drop 1 ++ prev.take 1).map aesSub with
        | b :: bs => (b ^^^ 2 ^ (i / 8 - 1)) :: bs
        | [] => []
      else if i % 8 = 4 then prev.map aesSub else prev
    aesExpand n (xorList (at' [] ws 7) t :: ws)

/-- Cut a list into pieces of four. -/
def piecesOf4 : Nat → List Nat → List (List Nat)
  | 0, _ => []
  | n + 1, l => l.take 4 :: piecesOf4 n (l.drop 4)

/-- The fifteen round keys of a 256-bit key, each 16 bytes. -/
def aesKeys (key : Nat) : List (List Nat) :=
  let ws := (aesExpand 52 (piecesOf4 8 ((bytesOfBE 32 key).map BitVec.toNat)).reverse).reverse
  (List.range 15).map fun r => ((ws.drop (4 * r)).take 4).flatten

/-- Mix one column. -/
def aesMix (c : List Nat) : List Nat :=
  (List.range 4).map fun i =>
    aesMul 2 (at' 0 c i) ^^^ aesMul 3 (at' 0 c ((i + 1) % 4)) ^^^ at' 0 c ((i + 2) % 4) ^^^ at' 0 c ((i + 3) % 4)

/-- Rows shifted: byte i is row i mod 4 of column i / 4. -/
def aesShift (b : List Nat) : List Nat := (List.range 16).map fun i => at' 0 b ((i + 4 * (i % 4)) % 16)

/-- One 16-byte block under AES-256 with expanded keys. -/
def aesBlock (keys : List (List Nat)) (b : List Nat) : List Nat :=
  match keys with
  | k0 :: ks =>
    let mid := (ks.take 13).foldl (fun a k => xorList ((piecesOf4 4 (aesShift (a.map aesSub))).flatMap aesMix) k) (xorList b k0)
    xorList (aesShift (mid.map aesSub)) (at' [] ks 13)
  | [] => b

/-- Product in the GCM field, 128-bit blocks with their first bit highest. -/
def gcmMul (x y : Nat) : Nat :=
  ((List.range 128).foldl (fun (r : Nat × Nat) i =>
    (if bitOf x (127 - i) then r.1 ^^^ r.2 else r.1,
      if r.2 % 2 = 1 then (r.2 / 2) ^^^ (0xE1 * 2 ^ 120) else r.2 / 2)) (0, y)).1

/-- Big-endian blocks of 16 bytes, the last filled with zeros. -/
def gcmBlocks (bs : List Byte) : List Nat :=
  (List.range ((bs.length + 15) / 16)).map fun i =>
    let c := slice bs (16 * i) 16
    ofBytesBE c * 256 ^ (16 - c.length)

/-- The GCM hash of additional data and ciphertext. -/
def gcmHash (h : Nat) (aad cipher : List Byte) : Nat :=
  let blocks := gcmBlocks aad ++ gcmBlocks cipher ++ [aad.length * 8 * 2 ^ 64 + cipher.length * 8]
  blocks.foldl (fun y b => gcmMul (y ^^^ b) h) 0

/-- The 16 bytes of keystream block n (0 masks the tag) under a 96-bit IV. -/
def gcmStream (keys : List (List Nat)) (iv n : Nat) : List Nat :=
  aesBlock keys ((bytesOfBE 16 (iv * 2 ^ 32 + n + 1)).map BitVec.toNat)

/-- Encrypt or decrypt bytes that stand at a position of the message. -/
def gcmCrypt (key iv pos : Nat) (bs : List Byte) : List Byte :=
  let keys := aesKeys key
  let first := pos / 16
  let n := if bs.isEmpty then 0 else (pos + bs.length - 1) / 16 + 1 - first
  let stream := ((rangeFrom (first + 1) n).flatMap (gcmStream keys iv)).drop (pos % 16)
  List.zipWith (fun b k => BitVec.ofNat 8 (b.toNat ^^^ k)) bs stream

/-- The 16-byte tag. -/
def gcmTag (key iv : Nat) (aad cipher : List Byte) : List Byte :=
  let keys := aesKeys key
  let num := fun (l : List Nat) => l.foldl (fun a b => a * 256 + b) 0
  let h := num (aesBlock keys (List.replicate 16 0))
  bytesOfBE 16 (gcmHash h aad cipher ^^^ num (gcmStream keys iv 0))

end Sys2Proof.Machine
end

