-- ==== Sys2Proof/Machine/Link.lean ====
section
/-! DEFINITION. The link layer of the optical ports: line coding, the Reed-Solomon frame, credit returns, replay, Quiet and sealing
(10 R272-R277, R288-R293). -/

namespace Sys2Proof.Machine

def lpGet (s : State) (p : Nat) : LinkPort := mapGet {} s.link.ports p
def lpSet (s : State) (p : Nat) (x : LinkPort) : State := { s with link := { s.link with ports := mapSet {} s.link.ports p x } }
def lpMod (s : State) (p : Nat) (f : LinkPort → LinkPort) : State := lpSet s p (f (lpGet s p))

/-- PRT_STATUS.phase. -/
def prtPhase (s : State) (p : Nat) : Nat := regField s (regPrtStatus p) 63 60

/-- FAB_PORT_STATUS.state of a phase (10 Table 10-12). -/
def phaseState (ck : Bool) (phase reason : Nat) : Nat :=
  if phase = 8 then 2 else if phase = 9 then 3
  else if phase = 10 then (if reason = 1 then 4 else if reason = 2 then 5 else 6)
  else if ck then 1 else 0

/-- Put FAB_PORT_STATUS.state at what the phase says. -/
def showState (s : State) (p : Nat) : State :=
  setPortState s p (phaseState (lpGet s p).ck (prtPhase s p) (regField s (regPrtStatus p) 31 28))

/-- Set the phase, and the port state that follows it. -/
def setPhase (s : State) (p phase : Nat) : State := showState (regPut s (regPrtStatus p) 63 60 phase) p

/-- Lanes of a width code (10 Table 10-12). -/
def widthLanes (w : Nat) : Nat := if w = 0 then 8 else 2 ^ w

/-- The lanes frames leave on: those the neighbour's receiver uses; all eight before T7 (log entry 32). -/
def txLanes (s : State) (p : Nat) : List Nat :=
  match setBits 8 (if prtPhase s p ≥ 7 ∧ prtPhase s p ≠ 10 then regField s (regPrtStatus p) 47 40 else 0xFF) with
  | [] => List.range 8
  | l => l

/-- The lanes this receiver uses. -/
def rxLanes (s : State) (p : Nat) : List Nat :=
  match setBits 8 (if prtPhase s p ≥ 7 ∧ prtPhase s p ≠ 10 then regField s (regPrtStatus p) 55 48 else 0xFF) with
  | [] => List.range 8
  | l => l

/-! ### Line coding (10 R272) -/

/-- Gray code of two bits: 00, 01, 11, 10 are 0, 1, 2, 3. -/
def grayOf (b : Nat) : Nat := if b = 0 then 0 else if b = 1 then 1 else if b = 3 then 2 else 3

/-- Levels of bit pairs after Gray coding and precoding, packed with the first highest, and the last level. -/
def lineLevels (last : Nat) (pairs : List Nat) : Nat × Nat :=
  pairs.foldl (fun (a : Nat × Nat) b =>
    let l := (grayOf b + 4 - a.2) % 4
    (a.1 * 4 + l, l)) (0, last)

/-- The bit pairs of an n-bit number, first bit high. -/
def bitPairs (n v : Nat) : List Nat := (List.range (n / 2)).map fun i => v / 4 ^ (n / 2 - 1 - i) % 4

/-- n bits of PRBS-15, x^15 + x^14 + 1, from a seed, first bit highest. -/
def prbs15 (seed : Nat) : Nat → Nat × Nat
  | 0 => (0, seed)
  | n + 1 =>
    let r := prbs15 seed n
    let b := (r.2 / 2 ^ 14 + r.2 / 2 ^ 13) % 2
    (r.1 * 2 + b, r.2 * 2 % 2 ^ 15 + b)

/-- A training burst of 1,024 UI on lane q, from level 0 (10 R280, R289). -/
def burstOf (q : Nat) : Nat × Nat := lineLevels 0 (bitPairs 2048 (prbs15 (q + 1) 2048).1)

/-- Send a training burst on the given lanes; the coder of each continues from it. -/
def sendBurst (s : State) (p : Nat) (lanes : List Nat) : State :=
  let bs := lanes.map fun q => (q, burstOf q)
  let s1 := lpMod s p fun x => { x with levels := (List.range 8).map fun q => ((bs.find? fun b => b.1 == q).map (·.2.2)).getD 0 }
  emit s1 (.frame p 8 (bs.map (·.2.1)))

/-! ### The frame (10 R273) -/

/-- Product in GF(2^10) with x^10 + x^3 + 1. -/
def rsMul (a b : Nat) : Nat :=
  ((List.range 10).foldl (fun (r : Nat × Nat) i =>
    (if bitOf a i then r.1 ^^^ r.2 else r.1, if r.2 < 512 then 2 * r.2 else (2 * r.2) ^^^ 0x409)) (0, b)).1

/-- The generator polynomial without its leading 1, highest coefficient first, packed in 10-bit symbols: roots α^0 to α^11. -/
def rsGenerator : List Nat :=
  ((List.range 12).foldl (fun (g : List Nat × Nat) _ =>
    let times := g.1 ++ [0]
    let scaled := 0 :: g.1.map fun c => rsMul c g.2
    (List.zipWith (· ^^^ ·) times scaled, rsMul g.2 2)) ([1], 1)).1.drop 1

/-- The generator times x^i as 120-bit numbers, i = 0 to 9. -/
def rsTable : List Nat :=
  (List.range 10).map fun i => rsGenerator.foldl (fun a c => a * 1024 + rsMul c (2 ^ i)) 0

/-- The 120 check bits of a message of 5,320 bits. -/
def rsCheck (msg : Nat) : Nat :=
  let table := rsTable
  (List.range 532).foldl (fun r i =>
    let fb := (msg / 1024 ^ (531 - i) % 1024) ^^^ (r / 2 ^ 110)
    (setBits 10 fb).foldl (fun a b => a ^^^ at' 0 table b) (r * 1024 % 2 ^ 120)) 0

/-- An empty slot (10 R275). -/
def emptySlot : Flit := ⟨0xF8000000, 0⟩

/-- The 1,056 bits of a slot: the control word, then the 128 bytes in order. -/
def slotNum (f : Flit) : Nat := f.ctrl * 2 ^ 1024 + ofBytesBE (bytesOf 128 f.data)

/-- The slot that 1,056 bits hold. -/
def slotOf (n : Nat) : Flit := ⟨n / 2 ^ 1024 % 2 ^ 32, ofBytes (bytesOfBE 128 (n % 2 ^ 1024))⟩

/-- The five slots of a message. -/
def slotsOf (msg : Nat) : List Flit := (List.range 5).map fun i => slotOf (msg / 2 ^ (1056 * (4 - i)) % 2 ^ 1056)

/-- A frame header (10 Table 10-3). -/
structure FrameHead where
  ftype : Nat
  fseq : Nat
  aseq : Nat
  nak : Bool
  rets : List (Nat × Nat)
  deriving DecidableEq, Repr

/-- The 40 bits of a header. -/
def headerNum (h : FrameHead) : Nat :=
  let r := fun i => (h.rets[i]?).getD (7, 0)
  h.ftype * 2 ^ 37 + h.fseq % 1024 * 2 ^ 27 + h.aseq % 1024 * 2 ^ 17 + bit h.nak * 2 ^ 16 + (r 0).1 * 2 ^ 13 + (r 0).2 * 2 ^ 8
    + (r 1).1 * 2 ^ 5 + (r 1).2

/-- The header that a message begins with. -/
def headerOf (msg : Nat) : FrameHead :=
  let h := msg / 2 ^ 5280
  ⟨bitsOf h 39 37, bitsOf h 36 27, bitsOf h 26 17, bitOf h 16,
    [(bitsOf h 15 13, bitsOf h 12 8), (bitsOf h 7 5, bitsOf h 4 0)].filter fun r => r.1 != 7⟩

/-- A message of 5,320 bits. -/
def frameMsg (h : FrameHead) (slots : List Flit) : Nat :=
  (List.range 5).foldl (fun a i => a * 2 ^ 1056 + slotNum ((slots[i]?).getD emptySlot)) (headerNum h)

/-- Put a frame on the fibre: the codeword's symbols over the lanes in use, line-coded (10 R272, R273). -/
def sendFrame (s : State) (p : Nat) (f : TxFrame) : State :=
  let x := lpGet s p
  let msg := frameMsg ⟨f.ftype, f.seq, x.rxSeq, x.nak, f.rets⟩ f.slots
  let word := msg * 2 ^ 120 + rsCheck msg
  let lanes := txLanes s p
  let w := lanes.length
  let out := lanes.mapIdx fun k q =>
    let syms := (List.range ((544 - k + w - 1) / w)).map fun j => word / 1024 ^ (543 - (k + j * w)) % 1024
    (q, lineLevels (at' 0 x.levels q) (syms.flatMap fun y => bitPairs 10 y))
  let levels := (List.range 8).map fun q => ((out.find? fun o => o.1 == q).map (·.2.2)).getD (at' 0 x.levels q)
  emit (lpSet s p { x with levels := levels }) (.frame p f.ftype (out.map (·.2.1)))

/-- The credit returns the next frame carries: two pools of those owed, at most 31 each (10 R274). -/
def takeReturns (s : State) (p : Nat) : List (Nat × Nat) × State :=
  let rs := (((List.range 7).map fun v => (v, min 31 (mapGet 0 s.router.owed (pvKey p v)))).filter fun r => r.2 != 0).take 2
  (rs, rs.foldl (fun a r =>
    let k := pvKey p r.1
    { a with router := { a.router with
        owed := mapSet 0 a.router.owed k (mapGet 0 a.router.owed k - r.2)
        returned := poolAdd a.router.returned k r.2 } }) s)

/-- Frames the replay buffer holds (10 R276). -/
def replayDepth : Nat := 128

/-- Can another frame leave: the replay buffer is not full. -/
def canSend (s : State) (p : Nat) : Bool := (lpGet s p).replay.length < replayDepth

/-- Send a new frame and keep it for replay. -/
def newFrame (s : State) (p ftype : Nat) (slots : List Flit) : State :=
  let r := takeReturns s p
  let x := lpGet r.2 p
  let f : TxFrame := ⟨x.txSeq, ftype, r.1, slots⟩
  sendFrame (lpSet r.2 p { x with
    txSeq := (x.txSeq + 1) % 1024, replay := x.replay ++ [f], busy := if ftype = 1 then x.busy else s.clock,
    quietSent := x.quietSent && ftype == 1 }) p f

/-- Leave Quiet: the time is counted and a burst goes out on the lanes in use (10 R289). -/
def wakePort (s : State) (p : Nat) : State :=
  if prtPhase s p = 9 then
    let x := lpGet s p
    let s1 := regAdd s (regPrtQuietNs p) (s.clock - x.quietSince)
    let s2 := setPhase (lpSet s1 p { x with quietSent := false, quietGot := false, busy := s.clock }) p 8
    sendBurst s2 p (txLanes s2 p)
  else s

/-- Send a link frame; a Quiet port wakes first (10 R289, Table 10-8). -/
def linkFrame (s : State) (p ftype : Nat) (slots : List Flit) : State := newFrame (wakePort s p) p ftype slots

/-! ### Replay (10 R276, R277) -/

/-- A replay takes about this long, in ns; the same nak heard meanwhile starts no other (log entry 32). -/
def replayNs : Nat := 200

/-- Start a replay from a sequence number. -/
def replayStart (s : State) (p fseq : Nat) : State :=
  let x := lpGet s p
  let same := x.replays != 0 && x.replayFrom == fseq
  if same ∧ s.clock < x.replayAt + replayNs then s
  else
    let s1 := regAdd (lpSet s p { x with replayFrom := fseq, replays := if same then x.replays + 1 else 1, replayAt := s.clock })
      (regPortReplays p) 1
    let again := x.replay.dropWhile fun f => f.seq != fseq
    lpMod (again.foldl (fun a f => sendFrame a p f) s1) p fun y => { y with timeSpoilt := y.timeSpoilt || again.any fun f => f.ftype == 5 }

/-- Take aseq: earlier frames are acknowledged. -/
def takeAck (s : State) (p aseq : Nat) : State :=
  let x := lpGet s p
  let keep := x.replay.filter fun f => (f.seq + 1024 - aseq) % 1024 < 512
  if keep.length < x.replay.length then lpSet s p { x with replay := keep, replays := 0 } else s

/-- Take credit returns. -/
def takeCredits (s : State) (p : Nat) (rets : List (Nat × Nat)) : State :=
  rets.foldl (fun a r =>
    let k := pvKey p r.1
    { a with router := { a.router with
        spent := mapSet 0 a.router.spent k (mapGet 0 a.router.spent k - r.2)
        credIn := poolAdd a.router.credIn k r.2 } }) s

/-- Does a slot make its frame uncorrectable (10 R275). -/
def badSlot (f : Flit) : Bool := ctrlVc f.ctrl == 6 || (ctrlVc f.ctrl == 7 && f != emptySlot)

/-- A frame is uncorrectable: counted, and nak is set with aseq at the frame that is awaited. -/
def uncorrectable (s : State) (p : Nat) : State :=
  let x := lpGet s p
  let recent := (s.clock :: x.uncorrAt).filter fun t => s.clock < t + 1000000
  regAdd (lpSet s p { x with nak := true, uncorrAt := recent.take 1001 }) (regPrtUncorr p) 1

/-- Corrected symbols are counted, on the port and on the lane each travelled. -/
def countCorrected (s : State) (p : Nat) (errs : List Nat) : State :=
  let lanes := rxLanes s p
  errs.foldl (fun a i => regSatAdd (regAdd a (regPortFecCorr p) 1) (regPrtLane p (at' 0 lanes (i % lanes.length))) 31 0 1) s

/-- A frame comes in: msg as sent and the positions of the symbols received wrong.  The second component is whether its content is
delivered now (10 R276). -/
def frameTake (s : State) (p msg : Nat) (errs : List Nat) : State × Bool :=
  let es := (errs.filter (· < 544)).eraseDups
  let h := headerOf msg
  if es.length > 6 ∨ h.ftype ≥ 6 ∨ (h.ftype = 0 ∧ (slotsOf msg).any badSlot) then (uncorrectable s p, false)
  else
    let s1 := countCorrected s p es
    let x := lpGet s1 p
    let due := h.fseq == x.rxSeq
    let old := !due && (x.rxSeq + 1024 - h.fseq) % 1024 < 512
    if !due && !old then (lpSet s1 p { x with nak := true }, false)
    else
      let s2 := if due then takeCredits (lpSet s1 p { x with rxSeq := (x.rxSeq + 1) % 1024, nak := false }) p h.rets else s1
      let s3 := takeAck s2 p h.aseq
      (if h.nak then replayStart s3 p h.aseq else s3, due)

/-- Does a port exchange link frames: from T3 on, active, Quiet, held or in a link reset. -/
def linkUp (s : State) (p : Nat) : Bool := p < 18 && prtPhase s p ≥ 3 && prtPhase s p ≤ 10 && portState s p != 7

/-! ### Sealing (10 R290-R292) -/

/-- The 96-bit IV. -/
def sealIv (src epoch ctr : Nat) : Nat := src % 2 ^ 16 * 2 ^ 80 + epoch % 256 * 2 ^ 72 + ctr % 2 ^ 64

/-- A flit of a packet that is being sealed leaves: head bytes 40 to 127 and the payload are encrypted; the last flit becomes body,
or head, and its seal flit follows. -/
def sealFlit (s : State) (port vc key : Nat) (head : Packet) (f : Flit) : Flit × State :=
  let kind := ctrlKind f.ctrl
  let bs := bytesOf 128 f.data
  let clear := fun (c : Nat) => if kind ≥ 2 then putBits c 31 30 (kind - if kind = 2 then 1 else 3) else c
  if ctrlCut f.ctrl then (f, lpMod s port fun x => { x with sealTx := mapDel x.sealTx vc })
  else
    let first := kind = 0 ∨ kind = 3
    let old : SealTx := ((mapFind (lpGet s port).sealTx vc)).getD ⟨0, 0, 0, [], [], 0, 0, false⟩
    let t : SealTx := if first then ⟨ctrlTag f.ctrl, s.link.sealCtr + 1, s.link.sealEpoch, bs.take 40, [], head.src, head.flits, false⟩ else old
    let plain := if first then bs.drop 40 else bs
    let c := gcmCrypt key (sealIv t.src t.epoch t.ctr) t.cipher.length plain
    let s1 := if first then { s with link := { s.link with sealCtr := s.link.sealCtr + 1 } } else s
    (⟨clear f.ctrl, ofBytes ((if first then bs.take 40 else []) ++ c)⟩,
      lpMod s1 port fun x => { x with sealTx := mapPut x.sealTx vc { t with cipher := t.cipher ++ c, last := ctrlLast f.ctrl } })

/-- The seal flit of a packet: counter, tag, epoch (10 R291). -/
def sealTail (key vc : Nat) (pool : Bool) (t : SealTx) : Flit :=
  let tag := gcmTag key (sealIv t.src t.epoch t.ctr) t.aad t.cipher
  ⟨ctrlWord 2 vc false false pool t.tag (t.flits + 1), ofBytes (bytesOf 8 t.ctr ++ tag ++ bytesOf 1 t.epoch)⟩

/-- The virtual channel whose seal flit waits and can be paid for. -/
def sealPending (s : State) (port : Nat) : Option (Nat × SealTx) :=
  (lpGet s port).sealTx.find? fun e => e.2.last && (spendPool s port e.1).isSome

/-- Send a waiting seal flit. -/
def sendSeal (s : State) (port vc : Nat) (t : SealTx) : Option (Flit × State) :=
  match spendPool s port vc, s.link.sealKey with
  | some pool, some key =>
    let k := pvKey port pool
    let s1 := { s with router := { s.router with sent := poolAdd s.router.sent k 1, spent := poolAdd s.router.spent k 1 } }
    some (sealTail key vc (pool == 6) t, cntAdd (lpMod s1 port fun x => { x with sealTx := mapDel x.sealTx vc }) port vc cFlitsTx 1)
  | _, _ => none

/-- Does the port expect a packet to be sealed (10 R290). -/
def sealExpected (s : State) (port : Nat) (p : Packet) : Bool :=
  14 ≤ port && port < 18 && regField s (regPrtCtrl port) 38 38 == 1 && s.link.sealList.contains p.src && p.dst == ownChip s

/-- Is a flit a head. -/
def isHead (f : Flit) : Bool := ctrlKind f.ctrl == 0 || ctrlKind f.ctrl == 3

/-- Does a flit continue the packet held last. -/
def continuesHeld (l : List Flit) (f : Flit) : Bool :=
  match l.getLast? with | some g => !ctrlLast g.ctrl && ctrlTag g.ctrl == ctrlTag f.ctrl && !isHead f | none => false

/-- A flit passes from the link to the router; the flits of a packet that should be sealed are held until its check. -/
def flitIn (s : State) (port : Nat) (f : Flit) : State :=
  let vc := ctrlVc f.ctrl
  let held := mapGet [] (lpGet s port).sealRx vc
  if continuesHeld held f ∨ (isHead f ∧ sealExpected s port (headOf f.data)) then
    lpMod s port fun x => { x with sealRx := mapSet [] x.sealRx vc (held ++ [f]) }
  else if isHead f then headArrive s port f.ctrl f.data
  else flitArrive s port f.ctrl f.data

/-- The first packet held, and the flits after it; none while it is incomplete. -/
def firstHeld : List Flit → Option (List Flit × List Flit)
  | [] => none
  | f :: fs =>
    let body := fs.takeWhile fun g => !isHead g
    let rest := fs.dropWhile fun g => !isHead g
    if rest.isEmpty ∧ !((f :: body).getLast?.map fun g => ctrlLast g.ctrl).getD false then none else some (f :: body, rest)

/-- Is a counter one the window accepts. -/
def sealFresh (w : SealWindow) (ctr : Nat) : Bool := w.highest < ctr + 64 && !w.seen.contains ctr

/-- Accept a counter. -/
def sealSee (w : SealWindow) (ctr : Nat) : SealWindow :=
  let h := max w.highest ctr
  ⟨h, (ctr :: w.seen).filter fun c => h < c + 64⟩

/-- The opened flits of a sealed packet; none where the check fails. -/
def sealOpen (s : State) (pkt : List Flit) : Option (List Flit × Nat) :=
  match pkt, pkt.getLast?, s.link.sealKey with
  | f :: _, some l, some key =>
    let head := headOf f.data
    let bs := bytesOf 128 l.data
    let ctr := numAt bs 0 8
    let epoch := numAt bs 24 1
    let body := (pkt.drop 1).dropLast
    let cipher := (bytesOf 128 f.data).drop 40 ++ body.flatMap fun g => bytesOf 128 g.data
    let iv := sealIv head.src epoch ctr
    let w := (mapFind s.link.sealSeen head.src).getD ⟨0, []⟩
    if pkt.length = head.flits + 2 ∧ ctrlIndex l.ctrl = head.flits + 1 ∧ ctrlKind l.ctrl = 2 ∧ !ctrlCut l.ctrl ∧ epoch = s.link.sealEpoch
        ∧ sealFresh w ctr ∧ slice bs 8 16 = gcmTag key iv ((bytesOf 128 f.data).take 40) cipher then
      let plain := gcmCrypt key iv 0 cipher
      let h1 : Flit := ⟨if body.isEmpty then putBits f.ctrl 31 30 3 else f.ctrl, ofBytes ((bytesOf 128 f.data).take 40 ++ plain.take 88)⟩
      let rest := body.mapIdx fun i g =>
        (⟨if i + 1 = body.length then putBits g.ctrl 31 30 2 else g.ctrl, ofBytes (slice plain (88 + 128 * i) 128)⟩ : Flit)
      some (h1 :: rest, ctr)
    else none
  | _, _, _ => none

/-- A flit that the port takes for itself: received and freed. -/
def takeFlit (s : State) (port : Nat) (f : Flit) : State :=
  let vc := ctrlVc f.ctrl
  let k := pvKey port (poolOf vc (ctrlPool f.ctrl))
  freeFlit { s with router := { s.router with rx := poolAdd s.router.rx k 1 } } port vc (ctrlPool f.ctrl)

/-- SEALED_PACKET_CHECK: a whole held packet is verified and handed to the router without its seal flit, or discarded (10 R292). -/
def execSealedPacketCheck (port vc : Nat) (s : State) : Host.Outcome State Fault Refusal :=
  match firstHeld (mapGet [] (lpGet s port).sealRx vc) with
  | none => .next s
  | some (pkt, rest) =>
    let src := (pkt.head?.map fun f => (headOf f.data).src).getD 0
    let s1 := lpMod s port fun x => { x with sealRx := mapSet [] x.sealRx vc rest }
    match sealOpen s pkt with
    | some (flits, ctr) =>
      let w := (mapFind s.link.sealSeen src).getD ⟨0, []⟩
      let s2 := { s1 with link := { s1.link with sealSeen := mapPut s1.link.sealSeen src (sealSee w ctr) } }
      let s3 := flits.foldl (fun a f => if isHead f then headArrive a port f.ctrl f.data else flitArrive a port f.ctrl f.data) s2
      .next (match pkt.getLast? with | some l => takeFlit s3 port l | none => s3)
    | none =>
      let s2 := pkt.foldl (fun a f => takeFlit a port f) s1
      .next (logEvent (regAdd s2 (regPrtSealFail port) 1) (0x40 + port) 0x5002 3 0xFF [port, src])

/-! ### Slots (08 R235) -/

/-- The flit that a slot of an optical port carries, sealed where due. -/
def slotFlit (s : State) (port : Nat) : Option (Flit × State) :=
  match sealPending s port with
  | some (vc, t) => sendSeal (slotPass s port) port vc t
  | none =>
    match pickVc s port with
    | none => none
    | some (vc, s1) =>
      match outHead s1 port vc, sendFlit s1 port vc with
      | some p, some (f, s2) =>
        match s.link.sealKey with
        | some key => if sealDue s port p then some (sealFlit s2 port vc key p f) else some (f, s2)
        | none => some (f, s2)
      | _, _ => none

/-- Put a slot into the frame being assembled; the fifth sends it, as an idle frame where every slot is empty. -/
def addSlot (s : State) (port : Nat) (f : Flit) : State :=
  let x := lpGet s port
  let slots := x.slots ++ [f]
  if slots.length < 5 then lpSet s port { x with slots := slots }
  else newFrame (lpSet s port { x with slots := [] }) port (if slots.all (· == emptySlot) then 1 else 0) slots

/-- FLIT_SLOT_SCHEDULE: an output port sends one flit slot (08 R235).  An internal port hands the flit to its agent; an optical port
adds it to its frame.  After 64 slots the window must end first (R235). -/
def execFlitSlotSchedule (port : Nat) (s : State) : Host.Outcome State Fault Refusal :=
  if port ≥ 30 ∨ (mapGet (0, 0) s.router.strict port).2 ≥ 64 then .next s
  else if isInternal port then
    let s1 := countStalls s port
    match pickVc s1 port with
    | none => .next (slotPass s1 port)
    | some (vc, s2) =>
      match sendFlit s2 port vc with
      | some (f, s3) => .next (emit s3 (.flit port vc f.ctrl f.data))
      | none => .next s1
  else if portState s port ≠ 2 ∨ ((lpGet s port).slots.isEmpty ∧ !canSend s port) then .next s
  else
    let s1 := countStalls s port
    match slotFlit s1 port with
    | some (f, s2) => .next (addSlot (lpMod s2 port fun x => { x with quietSent := false, busy := s.clock }) port f)
    | none => .next (addSlot (slotPass s1 port) port emptySlot)

/-! ### Frames received -/

/-- DATA_FRAME_RECEIVE: a data frame's flits are passed on in order and its returns, aseq and nak are taken; a frame that cannot be
corrected, or of a reserved type, is counted and asked for again (10 R275, R276). -/
def execDataFrameReceive (port msg : Nat) (errs : List Nat) (s : State) : Host.Outcome State Fault Refusal :=
  let t := (headerOf msg).ftype
  if !linkUp s port ∨ (t ≠ 0 ∧ t < 6) then .next s
  else
    match frameTake s port msg errs with
    | (s1, true) =>
      let s2 := lpMod s1 port fun x => { x with quietSent := false, quietGot := false, busy := s.clock }
      .next ((((slotsOf msg).filter (· != emptySlot)).foldl (fun a f => flitIn a port f)) s2)
    | (s1, false) => .next s1

/-- IDLE_FRAME_RECEIVE: credit returns and acknowledgements. -/
def execIdleFrameReceive (port msg : Nat) (errs : List Nat) (s : State) : Host.Outcome State Fault Refusal :=
  if !linkUp s port ∨ (headerOf msg).ftype ≠ 1 then .next s else .next (frameTake s port msg errs).1

/-- REPLAY_BUFFER_FULL: 128 frames are unacknowledged; the transmitter replays from the oldest (10 R276). -/
def execReplayBufferFull (port : Nat) (s : State) : Host.Outcome State Fault Refusal :=
  match (lpGet s port).replay with
  | f :: _ => if linkUp s port ∧ !canSend s port then .next (replayStart s port f.seq) else .next s
  | [] => .next s

/-! ### Quiet (10 R288, R289) -/

/-- Nothing waits to be sent: no ready flit, no frame under assembly, every frame acknowledged (an idle frame asks for nothing, log
entry 32), no credit return owed. -/
def quietFree (s : State) (p : Nat) : Bool :=
  (List.range 6).all (fun v => (readyFlit s p v).isNone) && (lpGet s p).slots.all (· == emptySlot) && (lpGet s p).sealTx.isEmpty
    && (lpGet s p).replay.all (fun f => f.ftype == 1) && (List.range 7).all fun v => mapGet 0 s.router.owed (pvKey p v) == 0

/-- quiet_idle in ns; 0 is stored as 1 unit. -/
def quietIdle (s : State) (p : Nat) : Nat := max 1 (regField s (regPrtCtrl p) 47 40) * 100

/-- Does an end meet the conditions to enter Quiet now. -/
def quietMeets (s : State) (p : Nat) : Bool :=
  prtPhase s p == 8 && portState s p == 2 && regField s (regPrtCtrl p) 39 39 == 1 && quietFree s p && s.clock ≥ (lpGet s p).busy + quietIdle s p

/-- Send this end's Quiet-entry frame. -/
def sendQuiet (s : State) (p : Nat) : State :=
  let b := (lpGet s p).busy
  lpMod (newFrame s p 4 []) p fun x => { x with quietSent := true, busy := b }

/-- QUIET_IDLE_TIMEOUT: a port idle for quiet_idle asks to enter Quiet. -/
def execQuietIdleTimeout (port : Nat) (s : State) : Host.Outcome State Fault Refusal :=
  if port < 18 ∧ quietMeets s port ∧ !(lpGet s port).quietSent then .next (sendQuiet s port) else .next s

/-- QUIET_ENTRY_RECEIVE: the neighbour asks to enter Quiet; this end answers where it meets the conditions itself. -/
def execQuietEntryReceive (port msg : Nat) (errs : List Nat) (s : State) : Host.Outcome State Fault Refusal :=
  if !linkUp s port ∨ (headerOf msg).ftype ≠ 4 then .next s
  else
    match frameTake s port msg errs with
    | (s1, true) =>
      let s2 := lpMod s1 port fun x => { x with quietGot := true }
      .next (if quietMeets s2 port ∧ !(lpGet s2 port).quietSent then sendQuiet s2 port else s2)
    | (s1, false) => .next s1

/-- QUIET_POWER_DOWN: both Quiet-entry frames have passed and this end's is acknowledged; the transmitters power down. -/
def execQuietPowerDown (port : Nat) (s : State) : Host.Outcome State Fault Refusal :=
  let x := lpGet s port
  if port < 18 ∧ prtPhase s port = 8 ∧ portState s port = 2 ∧ x.quietSent ∧ x.quietGot ∧ quietFree s port then
    .next (setPhase (regAdd (lpSet s port { x with quietSince := s.clock }) (regPrtQuiet port) 1) port 9)
  else .next s

/-- QUIET_WAKE: a flit is ready to send on a Quiet port (a link frame wakes it as it is sent). -/
def execQuietWake (port : Nat) (s : State) : Host.Outcome State Fault Refusal :=
  if port < 18 ∧ prtPhase s port = 9 ∧ !quietFree s port then .next (wakePort s port) else .next s

end Sys2Proof.Machine
end

