-- ==== Sys2Proof/Machine/Stocktake.lean ====
section
/-! DEFINITION. The Stocktake, the packet identity and the link reset (08 R223-R226, 01 R39-R41). -/

namespace Sys2Proof.Machine

def mkGet (s : State) (p : Nat) : Marker := mapGet {} s.router.markers p
def mkMod (s : State) (p : Nat) (f : Marker → Marker) : State :=
  { s with router := { s.router with markers := mapSet {} s.router.markers p (f (mkGet s p)) } }

/-- The link state after both ends clear it: sequence numbers from 0, nothing held for replay or under a seal (log entry 32). -/
def linkCleared (x : LinkPort) : LinkPort :=
  { x with
    txSeq := 0, rxSeq := 0, nak := false, replay := [], slots := [], replays := 0, uncorrAt := [], quietSent := false,
    quietGot := false, sealTx := [], sealRx := [] }

/-- A link reset (08 R226, 01 R41); a Quiet port wakes first (10 Table 10-8).  It lasts until LINK_RESET_COMPLETE. -/
def linkReset (s : State) (p : Nat) : State :=
  if !portUp s p ∨ portState s p = 7 then s
  else
    let s1 := if isInternal p then s else wakePort s p
    let s2 := regAdd (setPortState s1 p 7) (regPortImbalance p) 1
    let s3 := lpMod (portPurge s2 p) p linkCleared
    mkMod s3 p fun m => { m with resetAt := m.next, report := none }

/-- LINK_RESET_COMPLETE: forwarding resumes (08 R226 step 6). -/
def execLinkResetComplete (port : Nat) (s : State) : Host.Outcome State Fault Refusal :=
  if portState s port ≠ 7 then .next s
  else if isInternal port then .next (setPortState s port 2)
  else .next (showState s port)

/-- The pools of a port: six virtual channels, and the shared pool of an optical one. -/
def poolsOf (p : Nat) : List Nat := List.range (if isInternal p then 6 else 7)

/-- The bytes of the marker this end sends (08 R225). -/
def markerBytes (s : State) (p : Nat) (requested : Bool) : List Byte :=
  let m := mkGet s p
  let (valid, num, bad) := match m.report with | some (n, b) => (true, n, b) | none => (false, 0, 0)
  let flags := bit valid + 2 * bit (bad != 0) + 4 * bit requested
  let record := fun v =>
    if v = 6 ∧ isInternal p then zeros 16
    else
      let k := pvKey p v
      bytesOf 2 (credits s p v) ++ zeros 2 ++ bytesOf 4 (mapGet 0 s.router.sent k) ++ bytesOf 4 (mapGet 0 s.router.credIn k)
        ++ bytesOf 4 (mapGet 0 s.router.returned k)
  let body := bytesOf 2 1 ++ bytesOf 1 m.next ++ bytesOf 1 flags ++ bytesOf 1 num ++ bytesOf 1 bad ++ zeros 2
    ++ (List.range 7).flatMap record ++ zeros 4
  body ++ bytesOf 4 (crc32c body)

/-- Insert a stocktake marker into the flit stream of a link; where no frame can leave now, it stays due. -/
def sendMarker (s : State) (p : Nat) (requested : Bool) : State :=
  if isInternal p then
    let s1 := emit s (.frame p 2 [ofBytes (markerBytes s p requested)])
    mkMod s1 p fun m => { m with next := (m.next + 1) % 256, due := s.clock + 1000000 }
  else if !canSend s p ∨ (portState s p ≠ 2 ∧ portState s p ≠ 3) then mkMod s p fun m => { m with due := min m.due s.clock }
  else
    let s1 := wakePort s p
    let s2 := newFrame s1 p 2 [⟨0, ofBytes (markerBytes s1 p requested)⟩]
    mkMod s2 p fun m => { m with next := (m.next + 1) % 256, due := s.clock + 1000000 }

/-- STOCKTAKE_TIMER: 1 ms has passed since the port's last marker. -/
def execStocktakeTimer (port : Nat) (s : State) : Host.Outcome State Fault Refusal :=
  if port < 30 ∧ (mkGet s port).due ≤ s.clock then .next (sendMarker s port false) else .next s

/-- Ask for a stocktake on the named ports. -/
def fabStocktake (ports : Nat) (s : State) : State := (setBits 30 ports).foldl (fun a p => sendMarker a p true) s

/-- FAB_STOCKTAKE: a write, by the Steward or by the host, starts a stocktake at once on the named ports. -/
def execFabStocktake (mgmt : Bool) (ports : Nat) (s : State) : Host.Outcome State Fault Refusal :=
  .next (writeBy mgmt s regFabStocktake (BitVec.ofNat 64 ports) (fabStocktake ports))

/-- Flits of a pool that a port holds for the seal check. -/
def heldFlits (s : State) (p pool : Nat) : Nat :=
  ((lpGet s p).sealRx.map fun e => (e.2.filter fun f => poolOf e.1 (ctrlPool f.ctrl) == pool).length).foldl (· + ·) 0

/-- Flits of a pool in a port's input buffers (08 R224: occupied). -/
def occupied (s : State) (p pool : Nat) : Nat :=
  heldFlits s p pool + ((List.range 6).map fun v =>
    ((inGet s p v).worms.map fun w => (w.flits.filter fun f => poolOf v f.2 == pool).length).foldl (· + ·) 0).foldl (· + ·) 0

/-- Cumulative flits received in a pool. -/
def received (s : State) (p pool : Nat) : Nat := (mapGet 0 s.router.rx (pvKey p pool) + heldFlits s p pool) % 2 ^ 32

/-- The two equalities of R224 for one pool, from the sender's record. -/
def poolBalanced (s : State) (p pool held sent credIn : Nat) : Bool :=
  let k := pvKey p pool
  received s p pool == sent
    && held + occupied s p pool + mapGet 0 s.router.owed k + (mapGet 0 s.router.returned k + 2 ^ 32 - credIn) % 2 ^ 32 == poolSize pool

/-- The pools that mismatch against a marker, with held and sent as the sender says. -/
def markerBad (s : State) (p : Nat) (bs : List Byte) : List (Nat × Nat × Nat) :=
  (poolsOf p).filterMap fun v =>
    let b := 8 + 16 * v
    let held := numAt bs b 2
    let sent := numAt bs (b + 4) 4
    if poolBalanced s p v held sent (numAt bs (b + 8) 4) then none else some (v, held, sent)

/-- Is a marker well formed (08 R225). -/
def markerOk (bs : List Byte) : Bool :=
  numAt bs 0 2 == 1 && numAt bs 3 1 < 8 && allZero (slice bs 6 2) && allZero (slice bs 120 4)
    && (List.range 7).all (fun v => allZero (slice bs (10 + 16 * v) 2)) && numAt bs 124 4 == crc32c (bs.take 124)

/-- The result of a stocktake is recorded in FAB_PORT_STOCKTAKE. -/
def recordStocktake (s : State) (p bad : Nat) : State := regPut (regPut s (regPortStocktake p) 7 7 (bit (bad != 0))) (regPortStocktake p) 6 0 bad

/-- A marker that the neighbour sent is checked (08 R224, R225). -/
def takeMarker (s : State) (p : Nat) (bs : List Byte) : State :=
  if !markerOk bs then (if isInternal p then s else regAdd s (regPrtUncorr p) 1)
  else
    let bad := markerBad s p bs
    let mask := bad.foldl (fun a b => a + 2 ^ b.1) 0
    let s1 := regPut (recordStocktake s p mask) (regPortStocktake p) 63 32 (regField s (regPortStocktake p) 63 32 + 1)
    let s2 := latchSteward (mkMod s1 p fun m => { m with report := some (numAt bs 2 1, mask) }) p
    let s3 := bad.foldl (fun a b =>
      logEvent a (0x40 + p) 0x3001 4 0xFF
        [p, b.1, b.2.1 * 2 ^ 32 + b.2.2, (occupied s p b.1 + mapGet 0 s.router.owed (pvKey p b.1)) * 2 ^ 32 + received s p b.1]) s2
    let flags := numAt bs 3 1
    let fresh := (numAt bs 4 1 + 256 - (mkGet s p).resetAt % 256) % 256 < 128
    let reported := bitOf flags 0 && bitOf flags 1 && fresh
    let s4 := if reported then recordStocktake s3 p (mask ||| numAt bs 5 1) else s3
    if !bad.isEmpty ∨ reported then
      let r := (mkGet s4 p).report
      mkMod (linkReset s4 p) p fun m => { m with report := r }
    else s4

/-- STOCKTAKE_MARKER_RECEIVE: a marker frame, or on an internal port the same content on the side wires. -/
def execStocktakeMarkerReceive (port msg : Nat) (errs : List Nat) (s : State) : Host.Outcome State Fault Refusal :=
  let bs := bytesOf 128 (((slotsOf msg)[0]?).getD emptySlot).data
  if port ≥ 30 then .next s
  else if isInternal port then .next (takeMarker s port bs)
  else if !linkUp s port ∨ (headerOf msg).ftype ≠ 2 then .next s
  else
    match frameTake s port msg errs with
    | (s1, true) => .next (takeMarker s1 port bs)
    | (s1, false) => .next s1

/-- The packet identity of a port and virtual channel in the Steward's bank: packets in, and the sum of their outcomes (01 R39). -/
def packetSides (s : State) (p v : Nat) : Nat × Nat :=
  let g := fun off => mapGet 0 s.router.bankS (vcOff p v off)
  (g cPktIn, (g cPktOut + g cPktRefused + g cPktDiscarded + g cPktHeld) % 2 ^ 64)

/-- PACKET_IDENTITY_CHECK: a break is logged, the port is marked suspect and reset (01 R41). -/
def execPacketIdentityCheck (port : Nat) (s : State) : Host.Outcome State Fault Refusal :=
  let bad := (List.range 6).filter fun v => (packetSides s port v).1 != (packetSides s port v).2
  if port ≥ 30 ∨ bad.isEmpty then .next s
  else
    let s1 := bad.foldl (fun a v => logEvent a 0x60 0x3002 4 0xFF [port, v, (packetSides s port v).1, (packetSides s port v).2]) s
    .next (linkReset (regPut s1 (regPortStatus port) 7 7 1) port)

end Sys2Proof.Machine
end

