-- ==== Sys2Proof/Machine/Training.lean ====
section
/-! DEFINITION. Training the optical ports: the ladder, lane alignment, identity records, holds and retraining (10 R279-R287, R294). -/

namespace Sys2Proof.Machine

/-- The rung that a phase trains at. -/
def phaseRung (phase : Nat) : Nat := if phase ≤ 3 then 1 else if phase = 4 then 2 else 3

/-- Lanes aligned at a rung, as a mask. -/
def alignedMask (x : LinkPort) (rung : Nat) : Nat :=
  ((mapGet [] x.align rung).mapIdx fun q a => if a.1 = 0 then 0 else 2 ^ q).foldl (· + ·) 0

/-- A byte of the neighbour's record. -/
def recByte (x : LinkPort) (i : Nat) : Nat := numAt x.record i 1

/-- Lanes the neighbour's receiver passed at a rung (10 Table 10-6). -/
def farPass (x : LinkPort) (rung : Nat) : Nat := recByte x (79 + rung)

/-! ### Choosing rung and width (10 R282) -/

/-- The groups of a width code, lowest-numbered first, as masks. -/
def widthGroups (w : Nat) : List Nat :=
  if w = 3 then [0xFF] else if w = 2 then [0x0F, 0xF0] else [0x03, 0x0C, 0x30, 0xC0]

/-- The lowest-numbered group of a width whose lanes all passed. -/
def passGroup (mask w : Nat) : Option Nat := (widthGroups w).find? fun g => mask &&& g == g

/-- Is a width feasible at a rung, in both directions. -/
def feasible (x : LinkPort) (rung w : Nat) : Bool :=
  (passGroup (mapGet 0 x.pass rung) w).isSome && (passGroup (farPass x rung) w).isSome

/-- The feasible pairs (rung, width), best first: greatest flit rate, then greater width. -/
def feasiblePairs (x : LinkPort) : List (Nat × Nat) :=
  [(3, 3), (2, 3), (3, 2), (1, 3), (2, 2), (3, 1), (1, 2), (2, 1), (1, 1)].filter fun c => feasible x c.1 c.2

/-- The minima of PRT_CTRL; 0 is treated as 1 (two lanes). -/
def minRung (s : State) (p : Nat) : Nat := max 1 (regField s (regPrtCtrl p) 37 36)
def minWidth (s : State) (p : Nat) : Nat := max 1 (regField s (regPrtCtrl p) 35 34)

/-- The pair the port takes. -/
def chosenPair (s : State) (p : Nat) : Option (Nat × Nat) :=
  (feasiblePairs (lpGet s p)).find? fun c => minRung s p ≤ c.1 && minWidth s p ≤ c.2

/-- Why no pair is taken: the minimum that the best feasible pair misses, width first. -/
def missReason (s : State) (p : Nat) : Nat :=
  match feasiblePairs (lpGet s p) with
  | c :: _ => if c.2 < minWidth s p then 6 else 7
  | [] => 6

/-! ### Registers of a port in training -/

/-- PRT_LANE_q of every lane at a rung: slips, skew and state; use is the mask of lanes in use. -/
def showLanes (s : State) (p rung use : Nat) : State :=
  let x := lpGet s p
  (List.range 8).foldl (fun a q =>
    let l := at' (0, 0) (mapGet [] x.align rung) q
    let st := if l.1 = 0 then 2 else if mapHas x.pass rung && !bitOf (mapGet 0 x.pass rung) q then 3 else if bitOf use q then 1 else 0
    regPut (regPut (regPut a (regPrtLane p q) 63 58 (l.1 - 1)) (regPrtLane p q) 57 52 l.2) (regPrtLane p q) 51 50 st) s

/-- Write the fields of PRT_STATUS below the phase. -/
def showStatus (s : State) (p rung width rx tx failed reason bestR bestW : Nat) : State :=
  regSet s (regPrtStatus p) (BitVec.ofNat 64 (prtPhase s p * 2 ^ 60 + rung * 2 ^ 58 + width * 2 ^ 56 + rx * 2 ^ 48 + tx * 2 ^ 40
    + failed * 2 ^ 32 + reason * 2 ^ 28 + bestR * 2 ^ 26 + bestW * 2 ^ 24))

/-- The port leaves service, or starts over, and trains again: steps 1 to 4 of the link reset, the pools restored, from T1, or T0
without CK (10 R283). -/
def retrain (s : State) (p : Nat) : State :=
  let x := lpGet s p
  let s1 := if prtPhase s p = 9 then regAdd s (regPrtQuietNs p) (s.clock - x.quietSince) else s
  let s2 := lpMod (portPurge s1 p) p fun y => { linkCleared y with stage := 0, align := [], pass := [], record := [], levels := [] }
  let s3 := mkMod s2 p fun m => { m with report := none, resetAt := m.next }
  let s4 := setPhase (showStatus (regAdd s3 (regPrtRetrain p) 1) p 0 0 0 0 0 0 0 0) p (if x.ck then 1 else 0)
  let s5 := if x.ck then s4 else regPut s4 (regPrtObserved p) 63 63 0
  (List.range 8).foldl (fun a q => regSet a (regPrtLane p q) 0) s5

/-- RETRAIN_TRIGGER: 16 successive replays from one fseq, or more than 1,000 uncorrectable frames within 1 ms (10 R277). -/
def execRetrainTrigger (port : Nat) (s : State) : Host.Outcome State Fault Refusal :=
  let x := lpGet s port
  if linkUp s port ∧ (x.replays ≥ 16 ∨ x.uncorrAt.length > 1000) then .next (retrain s port) else .next s

/-- CK_LOSS: CK is lost for 1 µs; the port goes to T0 (10 R271, R283). -/
def execCkLoss (port : Nat) (s : State) : Host.Outcome State Fault Refusal :=
  if port < 18 ∧ (lpGet s port).ck then .next (retrain (lpMod s port fun x => { x with ck := false }) port) else .next s

/-- Retrain a port by PRT_CMD.retrain; a dark port stays in T0. -/
def portRetrain (port : Nat) (s : State) : State := if port < 18 ∧ prtPhase s port ≠ 0 then retrain s port else s

/-- PORT_RETRAIN: PRT_CMD.retrain is written, by the Steward or by the host. -/
def execPortRetrain (mgmt : Bool) (port : Nat) (s : State) : Host.Outcome State Fault Refusal :=
  .next (writeBy mgmt s (regPrtCmd (port % 18)) 2 (portRetrain port))

/-- NEIGHBOUR_TRAINING: the neighbour begins training; a port that is past the ladder's measurements trains with it. -/
def execNeighbourTraining (port : Nat) (s : State) : Host.Outcome State Fault Refusal :=
  if port < 18 ∧ prtPhase s port ≥ 7 then .next (retrain s port) else .next s

/-! ### The ladder (10 R279-R281) -/

/-- CK_RECEIVED: CK power is in range; T0 ends.  Ports climb from C3 on, and stay dark in a package that is not serviceable (13 Table 13-1,
R339). -/
def execCkReceived (port : Nat) (s : State) : Host.Outcome State Fault Refusal :=
  let boot := regField s regStwBoot 63 60
  if port < 18 ∧ 3 ≤ boot ∧ boot ≤ 7 ∧ prtPhase s port = 0 ∧ !(lpGet s port).ck then .next (setPhase (lpMod s port fun x => { x with ck := true }) port 1)
  else .next s

/-- CK_LOCK_DONE: the sampling clocks are locked; the training pattern goes out at rung 1 on all eight lanes. -/
def execCkLockDone (port : Nat) (s : State) : Host.Outcome State Fault Refusal :=
  if port < 18 ∧ prtPhase s port = 1 then
    let s1 := regPut (setPhase s port 2) (regPrtStatus port) 59 58 1
    .next (sendBurst (lpMod s1 port fun x => { x with stage := 0 }) port (List.range 8))
  else .next s

/-- Slips (plus one) and skews from where each lane's pattern locked (64 or more: nowhere) and its marker's place after a CK edge
(10 R281). -/
def alignLanes (slips marks : List Nat) : List (Nat × Nat) :=
  let good := (List.range 8).filter fun q => at' 64 slips q < 64
  let ref := good.foldl (fun a q => max a (at' 0 marks q)) 0
  (List.range 8).map fun q =>
    let skew := ref - at' 0 marks q
    if at' 64 slips q < 64 ∧ skew ≤ 63 then (at' 64 slips q + 1, skew) else (0, 0)

/-- LANE_ALIGNMENT_DONE: the bit-slip search and deskew of the rung are done on every lane. -/
def execLaneAlignmentDone (port : Nat) (slips marks : List Nat) (s : State) : Host.Outcome State Fault Refusal :=
  let ph := prtPhase s port
  let x := lpGet s port
  if port < 18 ∧ (ph = 2 ∨ ((ph = 4 ∨ ph = 5) ∧ x.stage = 0)) then
    let rung := phaseRung ph
    let s1 := lpSet s port { x with stage := 1, align := mapPut x.align rung (alignLanes slips marks) }
    .next (showLanes (setPhase s1 port (if ph = 2 then 3 else ph)) port rung 0)
  else .next s

/-- Highest rung this end supports (10 Table 10-6). -/
def ownMaxRung : Nat := 3

/-- The identity record this end sends (10 Table 10-6). -/
def ownRecord (s : State) (p : Nat) : List Byte :=
  let x := lpGet s p
  let holding := prtPhase s p = 10 ∧ regField s (regPrtStatus p) 31 28 ≠ 8
  let caps := bit (regField s (regPrtCtrl p) 39 39 = 1) + 2 * regField s regSecWarrant 56 56
  let body := bytesOf 2 1 ++ bytesOf 1 0 ++ bytesOf 1 p ++ bytesOf 2 (ownChip s) ++ bytesOf 1 s.pins.slotId ++ bytesOf 1 (bit holding)
    ++ bytesOf 1 1 ++ bytesOf 1 0 ++ bytesOf 1 (regField s regContractFw 31 24) ++ bytesOf 1 (regField s regContractFw 23 16)
    ++ bytesOf 2 s.fw.running.peerClass ++ bytesOf 1 ownMaxRung ++ bytesOf 1 caps
    ++ bytesOfBE 48 ((s.plan.pattern.map (·.digest)).getD 0) ++ (sha384 s.flash.idRecord).take 16
    ++ (rangeFrom 1 3).flatMap (fun r => bytesOf 1 (mapGet 0 x.pass r)) ++ zeros 41
  body ++ bytesOf 4 (crc32c body)

/-- Send this end's identity frame (10 R275, R284). -/
def sendIdentity (s : State) (p : Nat) : State :=
  if canSend s p then
    lpMod (newFrame s p 3 [⟨0, ofBytes (ownRecord s p)⟩]) p fun x => { x with idSent := s.clock }
  else s

/-! ### Holds (10 R285-R287) -/

/-- The neighbour that Table 11-1 gives a port, as tray × 8 + slot, and its port (11 R295). -/
def wiredTo (slotId p : Nat) : Nat × Nat :=
  let u := slotId / 8
  let v := slotId % 8
  if p < 7 then (u * 8 + (v + p + 1) % 8, 6 - p) else ((u + (p - 7) + 1) % 8 * 8 + v, 13 - (p - 7))

/-- Does a neighbour's record fit the in-rack wiring (11 R296). -/
def wiringOk (s : State) (p : Nat) (bs : List Byte) : Bool :=
  let w := wiredTo s.pins.slotId p
  if p < 14 then
    numAt bs 2 1 == 0 && numAt bs 3 1 == w.2 && numAt bs 6 1 == w.1
      && (s.plan.pattern.isNone || numAt bs 4 2 / 64 == ownChip s / 64)
  else numAt bs 2 1 == 1

/-- Why a neighbour's record makes the port hold, 0 where it does not: the wiring, the compatibility window, then EXPECT where a
Pattern is applied, then the neighbour's own hold (11 R296, 10 R285, R286). -/
def holdReason (s : State) (p : Nat) (bs : List Byte) : Nat :=
  let b := fun i => numAt bs i 1
  let e := regGet s (regPrtExpect p)
  let cls := numAt bs 12 2
  if !wiringOk s p bs then 1
  else if b 8 ≠ 1 then 3
  else if b 10 ≠ regField s regContractFw 31 24 then 4
  else if cls < s.fw.running.peerLo ∨ cls > s.fw.running.peerHi then 5
  else
    match s.plan.pattern with
    | none => if b 7 = 1 then 8 else 0
    | some pat =>
      if fieldOf e 63 63 = 0 then 2
      else if b 2 ≠ fieldOf e 59 58 ∨ numAt bs 4 2 ≠ fieldOf e 47 32 ∨ b 3 ≠ fieldOf e 55 48 then 1
      else if fieldOf e 61 60 = 1 ∧ ofBytesBE (slice bs 16 48) ≠ pat.digest then 1
      else if b 7 = 1 then 8 else 0

/-- Hold a port: it leaves service if it was in it, keeps CK and its alignment, and sends identity frames only (10 R286, R287). -/
def holdPort (s : State) (p reason : Nat) : State :=
  let ph := prtPhase s p
  if ph = 10 ∧ regField s (regPrtStatus p) 31 28 = reason then s
  else
    let x := lpGet s p
    let rung := if ph = 10 ∨ ph ≥ 6 then max 1 (regField s (regPrtStatus p) 59 58) else phaseRung ph
    let s1 := if ph = 9 then wakePort s p else s
    let s2 := if ph = 8 ∨ ph = 9 then lpMod (portPurge s1 p) p linkCleared else s1
    let s3 := lpMod s2 p fun y => { y with heldIn := if ph = 10 then x.heldIn else ph, idSent := s.clock }
    let best := (feasiblePairs x).headD (0, 0)
    let mine := alignedMask x rung
    let s4 := setPhase (showStatus s3 p rung 0 mine (farPass x rung) (0xFF - (mapGet 0 x.pass rung &&& farPass x rung)) reason best.1 best.2) p 10
    logEvent s4 (0x40 + p) 0x5001 3 0xFF [p, reason, (regGet s4 (regPrtExpect p)).toNat, (regGet s4 (regPrtObserved p)).toNat]

/-- The next phase after a rung's results are exchanged: a higher rung where both ends support it (10 Table 10-5). -/
def nextPhase (s : State) (p ph : Nat) : State :=
  let far := recByte (lpGet s p) 14
  let up := if ph = 3 ∧ far ≥ 2 then 4 else if ph = 4 ∧ far ≥ 3 then 5 else 6
  let s1 := lpMod (setPhase (regPut s (regPrtStatus p) 31 28 0) p up) p fun x => { x with stage := 0 }
  if up = 6 then s1 else sendBurst (regPut s1 (regPrtStatus p) 59 58 (phaseRung up)) p (List.range 8)

/-- The results of a rung are exchanged: the port climbs on, or holds at T3 (10 Table 10-5). -/
def exchanged (s : State) (p : Nat) : State :=
  let ph := prtPhase s p
  if ph = 3 then
    let r := holdReason s p (lpGet s p).record
    if r = 0 then nextPhase s p 3 else holdPort s p r
  else nextPhase s p ph

/-- RUNG_MEASURE_DONE: a lane passes where it aligned and its symbol error ratio is at most 1 in 100,000; the results go out in an
identity frame (10 R280, R284). -/
def execRungMeasureDone (port symbols : Nat) (wrong : List Nat) (s : State) : Host.Outcome State Fault Refusal :=
  let ph := prtPhase s port
  let x := lpGet s port
  if port < 18 ∧ 3 ≤ ph ∧ ph ≤ 5 ∧ x.stage = 1 then
    let rung := phaseRung ph
    let mask := ((setBits 8 (alignedMask x rung)).filter fun q => at' 0 wrong q * 100000 ≤ symbols).foldl (fun a q => a + 2 ^ q) 0
    let s1 := lpSet s port { x with stage := 2, pass := mapPut x.pass rung mask }
    let s2 := sendIdentity (showLanes s1 port rung 0) port
    .next (if farPass x rung ≠ 0 then exchanged s2 port else s2)
  else .next s

/-- Take rung and width, or hold below the minima (10 R282). -/
def decideRung (s : State) (p : Nat) : State :=
  match chosenPair s p with
  | none => holdPort s p (missReason s p)
  | some (r, w) =>
    let x := lpGet s p
    let rx := (passGroup (mapGet 0 x.pass r) w).getD 0
    let tx := (passGroup (farPass x r) w).getD 0
    let failed := 0xFF - (mapGet 0 x.pass r &&& farPass x r)
    let best := (feasiblePairs x).headD (0, 0)
    let s1 := setPhase (showStatus s p r w rx tx failed 0 best.1 best.2) p 7
    sendBurst (showLanes s1 p r rx) p (txLanes s1 p)

/-- RUNG_DECISION: both ends choose the rung and the width. -/
def execRungDecision (port : Nat) (s : State) : Host.Outcome State Fault Refusal :=
  if port < 18 ∧ prtPhase s port = 6 then .next (decideRung s port) else .next s

/-- Look again at a held port with the last record received: it resumes after the phase it was held in, or stays held (10 R287). -/
def reconsider (s : State) (p : Nat) : State :=
  let x := lpGet s p
  if prtPhase s p ≠ 10 ∨ x.record.isEmpty then s
  else
    let r := holdReason s p x.record
    if r ≠ 0 then holdPort s p r
    else if x.heldIn ≤ 5 then nextPhase s p x.heldIn
    else decideRung s p

/-- Compare a port that is active or Quiet, or held, with its last record (10 R286, R287: when a Pattern is applied). -/
def recheck (s : State) (p : Nat) : State :=
  let x := lpGet s p
  if prtPhase s p = 10 then reconsider s p
  else if (prtPhase s p = 8 ∨ prtPhase s p = 9) ∧ !x.record.isEmpty then
    let r := holdReason s p x.record
    if r = 0 then s else holdPort s p r
  else s

/-- PORT_RELEASE: PRT_CMD.release, written by the Steward or by the host, re-evaluates a held port. -/
def execPortRelease (mgmt : Bool) (port : Nat) (s : State) : Host.Outcome State Fault Refusal :=
  if port < 18 then .next (writeBy mgmt s (regPrtCmd port) 1 fun a => reconsider a port) else .next s

/-- Is an identity record to be taken: its CRC right and its reserved bytes zero (10 R284). -/
def recordOk (bs : List Byte) : Bool := allZero (slice bs 83 41) && numAt bs 124 4 == crc32c (bs.take 124)

/-- Store a neighbour's record in PRT_ID_RX and PRT_OBSERVED. -/
def storeRecord (s : State) (p : Nat) (bs : List Byte) : State :=
  let s1 := (List.range 16).foldl (fun a w => regSet a (regPrtIdRx p w) (BitVec.ofNat 64 (numAt bs (8 * w) 8))) s
  let b := fun i => numAt bs i 1
  let v := 2 ^ 63 + b 2 % 4 * 2 ^ 58 + b 3 * 2 ^ 48 + numAt bs 4 2 * 2 ^ 32 + b 8 * 2 ^ 24 + b 9 * 2 ^ 16 + b 10 * 2 ^ 8 + b 11
  regPut (regSet (lpMod s1 p fun x => { x with record := bs }) (regPrtObserved p) (BitVec.ofNat 64 v)) (regPortStatus p) 63 48 (numAt bs 4 2)

/-- IDENTITY_FRAME_RECEIVE: the neighbour's record is stored and checked; the port climbs on, holds, or resumes (10 R284-R287). -/
def execIdentityFrameReceive (port msg : Nat) (errs : List Nat) (s : State) : Host.Outcome State Fault Refusal :=
  if !linkUp s port ∨ (headerOf msg).ftype ≠ 3 then .next s
  else
    match frameTake s port msg errs with
    | (s1, false) => .next s1
    | (s1, true) =>
      let bs := bytesOf 128 (((slotsOf msg)[0]?).getD emptySlot).data
      if !recordOk bs then .next s1
      else
        let s2 := storeRecord s1 port bs
        let ph := prtPhase s2 port
        if 3 ≤ ph ∧ ph ≤ 5 then .next (if (lpGet s2 port).stage = 2 then exchanged s2 port else s2)
        else .next (recheck s2 port)

/-- IDENTITY_RESEND: a held port sends its identity frame every 1 s (10 R287). -/
def execIdentityResend (port : Nat) (s : State) : Host.Outcome State Fault Refusal :=
  if port < 18 ∧ prtPhase s port = 10 ∧ s.clock ≥ (lpGet s port).idSent + 1000000000 then .next (sendIdentity s port) else .next s

/-- PORT_ACTIVE: every pool stands at its configured credits, the first stocktake goes out, and the port is active (10 R279, T7). -/
def execPortActive (port : Nat) (s : State) : Host.Outcome State Fault Refusal :=
  if port < 18 ∧ prtPhase s port = 7 then
    let s1 := setPhase (lpMod (restorePools s port) port fun x => { linkCleared x with busy := s.clock }) port 8
    .next (sendMarker s1 port false)
  else .next s

/-- WAKE_BURST_DETECT: a Quiet port hears the neighbour's burst and wakes its own transmitter; where the stored alignment does not match,
the lanes in use are aligned anew, and the port retrains if that fails (10 R289). -/
def execWakeBurstDetect (port : Nat) (isMatch : Bool) (slips marks : List Nat) (s : State) : Host.Outcome State Fault Refusal :=
  if port < 18 ∧ prtPhase s port = 9 then
    let s1 := wakePort s port
    if isMatch then .next s1
    else
      let rung := regField s1 (regPrtStatus port) 59 58
      let found := alignLanes slips marks
      if (rxLanes s1 port).all fun q => (at' (0, 0) found q).1 != 0 then
        .next (showLanes (lpMod s1 port fun x => { x with align := mapPut x.align rung found }) port rung (regField s1 (regPrtStatus port) 55 48))
      else .next (retrain s1 port)
  else .next s

end Sys2Proof.Machine
end

