-- ==== Sys2Proof/Machine/Drone.lean ====
section
/-! DEFINITION. Drone time: the exchange, the servo, holdover and the root roles (11 R303-R313). -/

namespace Sys2Proof.Machine

/-- FAB_DRONE_STATUS.state: 0 free-running, 1 acquiring, 2 locked, 3 holdover, 4 root. -/
def droneState (s : State) : Nat := regField s regDroneStatus 2 0

/-- FAB_DRONE_CTRL.role: 0 member, 1 root, 2 standby root. -/
def droneRole (s : State) : Nat := regField s regDroneCtrl 31 30

/-- Does the backup edge steer. -/
def droneSwapped (s : State) : Bool := regField s regDroneStatus 3 3 == 1

/-- The port of an edge (true: the backup's); 0xFF none. -/
def edgePort (s : State) (backup : Bool) : Nat := if backup then regField s regDroneCtrl 15 8 else regField s regDroneCtrl 7 0

def edgeGet (s : State) (backup : Bool) : TimeEdge := if backup then s.drone.backup else s.drone.parent
def edgeSet (s : State) (backup : Bool) (e : TimeEdge) : State :=
  if backup then { s with drone := { s.drone with backup := e } } else { s with drone := { s.drone with parent := e } }

/-- The edge that a port carries. -/
def edgeOf (s : State) (port : Nat) : Option Bool :=
  if edgePort s false = port then some false else if edgePort s true = port then some true else none

/-- A stamp in 2^-16 ns: the counter, interpolated by a part of a tick (R303, R306). -/
def droneStamp (s : State) (part : Nat) : Nat := s.drone.count / 2 ^ 8 + min part (8 * 2 ^ 16 - 1)

/-- Bytes of a stamp: whole ns, then 2^-16 ns. -/
def stampNs (t : Nat) : List Byte := bytesOf 8 (t / 2 ^ 16)
def stampFrac (t : Nat) : List Byte := bytesOf 2 (t % 2 ^ 16)

/-- A stamp read from a record. -/
def stampAt (bs : List Byte) (i j : Nat) : Nat := numAt bs i 8 * 2 ^ 16 + numAt bs j 2

/-- A time-transfer record (11 Table 11-4). -/
def timeRecord (s : State) (ttype seq ta tb tc corrB : Nat) : List Byte :=
  let body := bytesOf 2 1 ++ bytesOf 1 ttype ++ bytesOf 1 seq ++ bytesOf 2 (regField s regDroneStatus 63 48)
    ++ bytesOf 1 (regField s regDroneStatus 47 40) ++ bytesOf 1 (droneState s) ++ stampNs ta ++ stampFrac ta ++ zeros 2
    ++ stampNs tb ++ stampFrac tb ++ zeros 2 ++ stampNs tc ++ stampFrac tc ++ zeros 6 ++ zeros 8 ++ bytesOf 8 corrB ++ zeros 60
  body ++ bytesOf 4 (crc32c body)

/-- Is a record whole: its CRC and reserved bytes (11 R307). -/
def timeOk (bs : List Byte) : Bool :=
  numAt bs 0 2 == 1 && allZero (slice bs 18 2) && allZero (slice bs 30 2) && allZero (slice bs 42 6) && allZero (slice bs 64 60)
    && numAt bs 124 4 == crc32c (bs.take 124)

/-- An exchange is skipped (11 R307). -/
def skipExchange (s : State) (backup : Bool) : State :=
  regAdd (edgeSet s backup { edgeGet s backup with waiting := false }) regDroneSkip 1

/-- May a port send a time frame now: active or in Quiet, with room for a frame. -/
def timePortOpen (s : State) (port : Nat) : Bool := port < 18 && (portState s port == 2 || portState s port == 3) && canSend s port

/-- TIME_TRANSFER_TIMER: 1 ms after the last, a member or standby root sends a request on an edge; part is the stamp's part of a tick
(11 R306). -/
def execTimeTransferTimer (port part : Nat) (s : State) : Host.Outcome State Fault Refusal :=
  match edgeOf s port with
  | none => .next s
  | some b =>
    let e := edgeGet s b
    if droneRole s = 1 ∨ droneState s = 0 ∨ droneState s = 4 ∨ !timePortOpen s port ∨ (e.sentAt ≠ 0 ∧ s.clock < e.sentAt + 1000000) then .next s
    else
      let s1 := if e.waiting then skipExchange s b else s
      let t1 := droneStamp s part
      let seq := (e.seq + 1) % 256
      let s2 := edgeSet s1 b { edgeGet s1 b with seq := seq, t1 := t1, sentAt := s.clock, waiting := true }
      let s3 := lpMod (wakePort s2 port) port fun x => { x with timeSpoilt := false }
      .next (newFrame s3 port 5 [⟨0, ofBytes (timeRecord s3 1 seq t1 0 0 0)⟩])

/-- A time-transfer frame comes in: its record, where it is delivered, and whether it came by a replay. -/
def timeFrame (s : State) (port msg : Nat) (errs : List Nat) : State × Option (List Byte × Bool) :=
  let replayed := (lpGet s port).nak
  match frameTake s port msg errs with
  | (s1, true) => (s1, some (bytesOf 128 (((slotsOf msg)[0]?).getD emptySlot).data, replayed))
  | (s1, false) => (s1, none)

/-- A neighbour's record says what state it is in (11 R310). -/
def noteLocked (s : State) (port : Nat) (bs : List Byte) : State :=
  let st := numAt bs 7 1
  if st = 2 ∨ st = 4 then { s with drone := { s.drone with lockedPort := some port } } else s

/-- TIME_REQUEST_RECEIVE: a parent stamps the request and answers at once; part is the stamps' part of a tick (11 R306). -/
def execTimeRequestReceive (port msg : Nat) (errs : List Nat) (part : Nat) (s : State) : Host.Outcome State Fault Refusal :=
  let bs0 := bytesOf 128 (((slotsOf msg)[0]?).getD emptySlot).data
  if !linkUp s port ∨ (headerOf msg).ftype ≠ 5 ∨ numAt bs0 2 1 ≠ 1 then .next s
  else
    match timeFrame s port msg errs with
    | (s1, none) => .next s1
    | (s1, some (bs, _)) =>
      if !timeOk bs ∨ !timePortOpen s1 port then .next s1
      else
        let s2 := wakePort (noteLocked s1 port bs) port
        let t := droneStamp s2 part
        .next (newFrame s2 port 5 [⟨0, ofBytes (timeRecord s2 2 (numAt bs 3 1) t t (stampAt bs 8 16) (numAt bs 48 8))⟩])

/-- Clamp. -/
def clampInt (lo hi x : Int) : Int := max lo (min hi x)

/-- The servo of R309 on one exchange of the steering edge; θ in 2^-17 ns. -/
def droneSteer (s : State) (theta : Int) : State :=
  let d := s.drone
  if droneState s = 1 then
    let s1 := { s with drone := { d with count := ((d.count : Int) - theta * 2 ^ 7).toNat, sum := 0, rate := 0 } }
    regSet (regPut s1 regDroneStatus 2 0 2) regDroneRate 0
  else
    let sum := clampInt (-2000 * 2 ^ 17) (2000 * 2 ^ 17) (d.sum + theta)
    let rate := clampInt (-100 * 2 ^ 21) (100 * 2 ^ 21) (-(8 * theta + sum))
    let perTick := Int.tdiv (rate * 8) 125000
    let s1 := { s with drone := { d with sum := sum, rate := perTick } }
    let s2 := regSet s1 regDroneRate (BitVec.ofNat 64 (patternOf 64 perTick))
    let s3 := regPut s2 regDroneStatus 4 4 (bit (theta.natAbs > 1000 * 2 ^ 17))
    regPut (regPut s3 regDroneStatus 5 5 0) regDroneStatus 2 0 2

/-- The root's name that a reply must carry: the package's own; any while it acquires or holds over (log entry 34). -/
def rootOk (s : State) (root : Nat) : Bool := droneState s != 2 || root == regField s regDroneStatus 63 48

/-- A valid exchange on an edge (11 R307, R309): θ and δ from the four stamps in 2^-16 ns. -/
def validExchange (s : State) (backup : Bool) (bs : List Byte) (t4 : Nat) : State :=
  let t1 : Int := stampAt bs 32 40
  let t2 : Int := stampAt bs 20 28
  let t3 : Int := stampAt bs 8 16
  let back := (t4 : Int) - t3 - signedOf 64 (numAt bs 48 8)
  let out := t2 - t1 - signedOf 64 (numAt bs 56 8)
  let alpha := signedOf 32 (if backup then regField s regDroneAsym 63 32 else regField s regDroneAsym 31 0)
  let theta := back - out - 2 * alpha
  let s1 := regAdd (edgeSet s backup { edgeGet s backup with waiting := false, valid := s.clock }) regDroneExch 1
  let s2 := regSet s1 regDroneOffset (BitVec.ofNat 64
    (patternOf 32 (Int.tdiv theta (2 ^ 9)) * 2 ^ 32 + patternOf 32 (Int.tdiv (back + out) (2 ^ 9))))
  if backup = droneSwapped s then
    let s3 := regPut (regPut s2 regDroneStatus 63 48 (numAt bs 4 2)) regDroneStatus 47 40 (numAt bs 6 1 + 1)
    droneSteer (regPut s3 regDroneStatus 39 32 (edgePort s backup)) theta
  else s2

/-- TIME_REPLY_RECEIVE: the member takes the exchange, or skips it (11 R307). -/
def execTimeReplyReceive (port msg : Nat) (errs : List Nat) (part : Nat) (s : State) : Host.Outcome State Fault Refusal :=
  let bs0 := bytesOf 128 (((slotsOf msg)[0]?).getD emptySlot).data
  if !linkUp s port ∨ (headerOf msg).ftype ≠ 5 ∨ numAt bs0 2 1 ≠ 2 then .next s
  else
    match timeFrame s port msg errs with
    | (s1, none) => .next s1
    | (s1, some (bs, replayed)) =>
      match edgeOf s1 port with
      | none => .next s1
      | some b =>
        let e := edgeGet s1 b
        let st := numAt bs 7 1
        if !e.waiting ∨ droneState s1 = 0 ∨ droneState s1 = 4 then .next s1
        else if !timeOk bs ∨ numAt bs 3 1 ≠ e.seq ∨ stampAt bs 32 40 ≠ e.t1 ∨ replayed ∨ (lpGet s1 port).timeSpoilt
            ∨ !rootOk s1 (numAt bs 4 2) ∨ (st ≠ 2 ∧ st ≠ 4) ∨ s1.clock ≥ e.sentAt + 100000 then .next (skipExchange s1 b)
        else .next (validExchange (noteLocked s1 port bs) b bs (droneStamp s1 part))

/-- EXCHANGE_TIMEOUT: no reply within 100 µs (11 R307). -/
def execExchangeTimeout (port : Nat) (s : State) : Host.Outcome State Fault Refusal :=
  match edgeOf s port with
  | some b => if (edgeGet s b).waiting ∧ s.clock ≥ (edgeGet s b).sentAt + 100000 then .next (skipExchange s b) else .next s
  | none => .next s

/-- HOLDOVER_ENTRY: no valid exchange for 3 ms on the steering edge; the other edge takes over where it had one within 3 ms (11 R309). -/
def execHoldoverEntry (s : State) : Host.Outcome State Fault Refusal :=
  let b := droneSwapped s
  if (droneState s = 2 ∨ droneState s = 3) ∧ s.clock ≥ (edgeGet s b).valid + 3000000 then
    let s1 := if droneState s = 2 then { s with drone := { s.drone with holdSince := s.clock } } else s
    let s2 := regPut s1 regDroneStatus 2 0 3
    if edgePort s (!b) < 18 ∧ (edgeGet s (!b)).valid ≠ 0 ∧ s.clock < (edgeGet s (!b)).valid + 3000000 then
      .next (regPut (regPut s2 regDroneStatus 3 3 (bit !b)) regDroneStatus 39 32 (edgePort s (!b)))
    else .next s2
  else .next s

/-- HOLDOVER_LONG: holdover passes 1 s (11 R311). -/
def execHoldoverLong (s : State) : Host.Outcome State Fault Refusal :=
  if droneState s = 3 ∧ s.clock > s.drone.holdSince + 1000000000 then .next (regPut s regDroneStatus 5 5 1) else .next s

/-- The package is root: it runs at rate zero and names itself (11 R310). -/
def becomeRoot (s : State) : State :=
  let s1 := { s with drone := { s.drone with rate := 0 } }
  let s2 := regSet (regSet s1 regDroneRate 0) regDroneStatus 0
  regPut (regPut (regPut s2 regDroneStatus 63 48 (ownChip s)) regDroneStatus 39 32 0xFF) regDroneStatus 2 0 4

/-- STANDBY_ROOT_TAKEOVER: the standby root has had no valid exchange on either edge for 100 ms (11 R310). -/
def execStandbyRootTakeover (s : State) : Host.Outcome State Fault Refusal :=
  if droneRole s = 2 ∧ droneState s ≠ 0 ∧ droneState s ≠ 4 ∧ s.clock ≥ s.drone.parent.valid + 100000000
      ∧ s.clock ≥ s.drone.backup.valid + 100000000 then .next (becomeRoot s)
  else .next s

/-- The TIME section takes force (11 R309, R310, Table 11-6). -/
def droneApply (s : State) (ctrl asym : Word) : State :=
  let role := if fieldOf ctrl 31 30 = 3 then 0 else fieldOf ctrl 31 30
  let st := droneState s
  let clear := fun (c : Word) => withField (c &&& 0xC000FFFF) 31 30 role
  let s1 := regSet (regSet s regDroneCtrl (clear ctrl)) regDroneAsym asym
  let s2 := { s1 with drone := { s1.drone with parent := { valid := s.clock }, backup := { valid := s.clock } } }
  if role = 1 then
    match s.drone.lockedPort with
    | some p =>
      if st = 0 then
        let s3 := regPut (regPut s2 regDroneCtrl 7 0 p) regDroneCtrl 31 30 0
        regPut (regPut s3 regDroneStatus 39 32 p) regDroneStatus 2 0 1
      else becomeRoot s2
    | none => becomeRoot s2
  else
    let parent := fieldOf ctrl 7 0
    let s3 := regPut (regPut s2 regDroneStatus 3 3 0) regDroneStatus 39 32 parent
    if parent ≥ 18 ∨ st = 2 ∨ st = 3 then s3 else regPut s3 regDroneStatus 2 0 1

end Sys2Proof.Machine
end

