-- ==== Sys2Proof/Machine/Store.lean ====
section
/-! DEFINITION. What a write leaves in a register: the writable bits, and the values that the tables store in place of others (00 R17-R19,
05 Tables 05-12, 05-13 and 05-16, 08 Tables 08-13 and 08-16, 10 Table 10-10, 11 Table 11-9, 15 Table 15-6). -/

namespace Sys2Proof.Machine

/-- Does one key of an array of registers name a register: the first key, the stride and the count. -/
def keyIn (k first stride count : Nat) : Bool := first ≤ k && (k - first) % stride == 0 && (k - first) / stride < count

/-- A field's value, or x where the field holds zero. -/
def nonZero (v : Word) (hi lo x : Nat) : Word := if fieldOf v hi lo = 0 then withField v hi lo x else v

/-- Offset of a stack register within its block; none outside the stack blocks. -/
def stackOff (k : Nat) : Option Nat := if 0x100000 ≤ k ∧ k < 0x180000 then some ((k - 0x100000) % 0x10000) else none

/-- The value that a register stores for a value written. -/
def storedAs (k : Nat) (v : Word) : Word :=
  match stackOff k with
  | some off =>
    if off = 0x0008 then (if fieldOf v 3 0 > 3 then withField v 3 0 0 else v)
    else if off = 0x0010 then (if fieldOf v 63 56 < 7 then withField v 63 56 7 else v)
    else if keyIn off 0x0080 8 16 then (List.range 5).foldl (fun a i => nonZero a (2 * i + 1) (2 * i) 1) v
    else v
  | none =>
    if k = regFabCtrl then nonZero (withField v 41 32 (min 1000 (max 1 (fieldOf v 41 32)))) 21 16 1
    else if keyIn k (regPortWeights 0) 0x1000 30 then (List.range 4).foldl (fun a i => nonZero a (8 * i + 7) (8 * i) 1) v
    else if keyIn k (regPrtCtrl 0) 0x1000 18 then nonZero v 47 40 1
    else if k = regDroneCtrl then (if fieldOf v 31 30 = 3 then withField v 31 30 0 else v)
    else if k = regLeaseCfg then withField v 15 0 (min 10000 (max 100 (fieldOf v 15 0)))
    else v

/-- A register after a write: the bits its row lets a write set take the stored value, the bits a written 1 clears are cleared, the
others keep theirs. -/
def written (r : RegRow) (old v : Word) : Word :=
  let m := BitVec.ofNat 64 r.rw
  let c := BitVec.ofNat 64 r.w1c
  (old &&& ~~~(m ||| (c &&& v))) ||| (v &&& m)

/-- Write a register by its row; a register without a row keeps its value. -/
def regWrite (s : State) (k : Nat) (v : Word) : State :=
  match regRow k with
  | some r => regSet s k (written r (regGet s k) (storedAs k v))
  | none => s

/-- A write to STK_MAP of any stack sets the interleave mode of the package (05 R151). -/
def setMode (s : State) (v : Word) : State := (List.range 8).foldl (fun a n => regWrite a (regStkMap n) v) s

/-- A write by host or management to a register that holds a value: the registers that share one value or whose value is acted on at
once go through the operation that acts on it. -/
def storeReg (s : State) (k : Nat) (v : Word) : State :=
  if keyIn k (regStkMap 0) 0x10000 8 then setMode s v
  else if k = regDroneCtrl then droneApply s v (regGet s regDroneAsym)
  else regWrite s k v

end Sys2Proof.Machine
end

