-- ==== Sys2Proof/Machine/Section.lean ====
section
/-! DEFINITION. The Pattern stream: its frame, its sections and their layouts (12 R314-R317, R322, Tables 12-1 to 12-10). -/

namespace Sys2Proof.Machine

/-- Why a Pattern is refused: code (12 Table 12-9), section type, record index. -/
structure Refused where
  code : Nat
  section_ : Nat
  index : Nat
  deriving DecidableEq, Repr

/-- The first check of a list that does not hold. -/
def firstBad : List (Bool × Refused) → Option Refused
  | [] => none
  | (ok, r) :: l => if ok then firstBad l else some r

/-- Records of n bytes. -/
def recsOf (n : Nat) (bs : List Byte) : List (List Byte) := chunksOf n (bs.length / n) bs

/-- Each record of a list satisfies its rule; else the index of the first that does not, counted from base. -/
def allRecs {α : Type} (section_ base : Nat) (ok : α → Bool) (l : List α) : Bool × Refused :=
  match firstIdx (fun a => !ok a) l with
  | none => (true, ⟨0x08, section_, 0⟩)
  | some i => (false, ⟨0x08, section_, base + i⟩)

/-! ### The frame -/

/-- A directory entry (12 Table 12-2). -/
structure DirEntry where
  type : Nat
  version : Nat
  lpkg : Nat
  length : Nat
  offset : Nat
  digest : List Byte
  deriving DecidableEq, Repr

/-- Read a directory entry. -/
def dirEntry (bs : List Byte) : DirEntry :=
  ⟨numAt bs 0 1, numAt bs 1 1, numAt bs 2 2, numAt bs 4 4, numAt bs 8 8, slice bs 16 48⟩

/-- Entries that the header names. -/
def hdrEntries (h : List Byte) : Nat := numAt h 36 4

/-- The header with the directory: what the signature and the Pattern digest cover (12 R315). -/
def signedPart (bs : List Byte) : List Byte := bs.take (128 + 64 * hdrEntries bs)

/-- The directory. -/
def directory (bs : List Byte) : List DirEntry := (recsOf 64 ((signedPart bs).drop 128)).map dirEntry

/-- Where the sections may begin: after the header, the directory and the signature block. -/
def sectionsFrom (bs : List Byte) : Nat := 256 + 64 * hdrEntries bs

/-- The header of 12 Table 12-1. -/
def headerOk (h : List Byte) : Bool :=
  h.length == 128 && h.take 4 == [0x56, 0x4E, 0x50, 0x54] && numAt h 4 2 == 1 && numAt h 34 2 == 0 && allZero (slice h 96 28)
    && numAt h 124 4 == crc32c (h.take 124) && 1 ≤ numAt h 32 2 && numAt h 32 2 ≤ 8192

/-- Do two entries lie clear of each other, or share one body. -/
def entriesClear (a b : DirEntry) : Bool :=
  (a.offset == b.offset && a.length == b.length) || a.offset + a.length ≤ b.offset || b.offset + b.length ≤ a.offset

/-- Does an entry place its section as 12 R318 asks. -/
def entryPlaced (bs : List Byte) (ds : List DirEntry) (e : DirEntry) : Bool :=
  e.offset % 64 == 0 && 16 ≤ e.length && sectionsFrom bs ≤ e.offset && e.offset + e.length ≤ numAt bs 40 8 && ds.all (entriesClear e)

/-- The entry of a section type for a logical package, where it has exactly one. -/
def sectionEntry (ds : List DirEntry) (lpkg type : Nat) : Option DirEntry :=
  match ds.filter fun e => e.lpkg == lpkg && e.type == type with
  | [e] => some e
  | _ => none

/-- The eleven section types, in order. -/
def sectionTypes : List Nat := rangeFrom 1 11

/-- Does a section's header agree with its entry, and its body with its CRC (12 R316, R318, Table 12-3). -/
def sectionHeaderOk (e : DirEntry) (sec : List Byte) : Bool :=
  numAt sec 0 1 == e.type && numAt sec 1 1 == e.version && e.version == 1
    && (numAt sec 2 2 == e.lpkg || (numAt sec 2 2 == 0xFFFF && e.type != 1))
    && numAt sec 4 4 + 16 == e.length && numAt sec 12 4 == 0 && numAt sec 8 4 == crc32c (sec.drop 16)

/-- The signature block of 12 Table 12-4. -/
def signatureOf (bs : List Byte) : List Byte := slice bs (128 + 64 * hdrEntries bs) 128

/-! ### PARTITION -/

def partGangs (b : List Byte) : Nat := numAt b 6 2
def partChans (b : List Byte) : Nat := numAt b 8 2
def partCtxs (b : List Byte) : List (List Byte) := recsOf 64 (slice b 64 1024)
def partGangRecs (b : List Byte) : List (List Byte) := recsOf 16 (slice b 1088 (16 * partGangs b))
def partChanRecs (b : List Byte) : List (List Byte) := recsOf 16 (slice b (1088 + 16 * partGangs b) (16 * partChans b))

/-- A context record (12 Table 12-7). -/
def ctxOf (r : List Byte) : CtxRec :=
  ⟨numAt r 1 1 == 1, numAt r 2 1, numAt r 3 1, numAt r 4 4, numAt r 8 8, numAt r 16 2⟩

/-- A gang record (12 Table 12-8). -/
def gangOf (r : List Byte) : GangRec := ⟨numAt r 0 1, numAt r 1 1, numAt r 2 1, numAt r 3 1, numAt r 4 2, numAt r 6 2⟩

/-- A channel record (12 Table 12-5). -/
def chanOf (r : List Byte) : ChanRec :=
  ⟨numAt r 0 2, numAt r 2 1, numAt r 3 1, 64 * numAt r 4 2, numAt r 8 4, numAt r 12 2, numAt r 14 2⟩

/-- A MEMMAP region record. -/
def regionOf (r : List Byte) : Region :=
  ⟨numAt r 0 8, numAt r 8 8, numAt r 16 1, bitOf (numAt r 17 1) 0, bitOf (numAt r 17 1) 1, bitOf (numAt r 17 1) 2⟩

/-- The contexts that the mask defines, with their records. -/
def ctxsOf (b : List Byte) : SMap CtxRec :=
  ((List.range 16).zip (partCtxs b)).filterMap fun (c, r) => if bitOf (numAt b 4 2) c then some (c, ctxOf r) else none

/-! ### STRUM -/

/-- A length rounded up to 8 bytes. -/
def up8 (n : Nat) : Nat := (n + 7) / 8 * 8

/-- Read one group record: the group, where its image is valid, and what follows; none where the record is not laid out as 12
Table 12-5 says. -/
def readGroup (bs : List Byte) : Option (Option GroupRec × List Byte) :=
  if bs.length < 16 then none
  else
    let cfg := BitVec.ofNat 64 (numAt bs 0 8)
    if fieldOf cfg 63 63 = 0 then (if allZero (bs.take 16) then some (none, bs.drop 16) else none)
    else
      let lm := fieldOf cfg 46 38
      let ch := fieldOf cfg 37 33
      let n := 16 + 2 * lm + 4 * ch
      if bs.length < up8 n ∨ lm > 256 ∨ ch > 16 ∨ numAt bs 11 1 ≠ lm % 256 ∨ numAt bs 12 1 ≠ ch ∨ numAt bs 13 3 ≠ 0
          ∨ !allZero (slice bs n (up8 n - n)) then none
      else
        some (some ⟨cfg, numAt bs 8 2, numAt bs 10 1, (recsOf 2 (slice bs 16 (2 * lm))).map ofBytes,
            (recsOf 4 (slice bs (16 + 2 * lm) (4 * ch))).map fun r => (numAt r 0 2, numAt r 2 2)⟩, bs.drop (up8 n))

/-- Read n group records in ascending group number; the index of the first that is not laid out right. -/
def readGroups : Nat → Nat → List Byte → SMap GroupRec → Except Nat (SMap GroupRec × List Byte)
  | 0, _, bs, m => .ok (m, bs)
  | n + 1, i, bs, m =>
    match readGroup bs with
    | none => .error i
    | some (none, l) => readGroups n (i + 1) l m
    | some (some g, l) => readGroups n (i + 1) l (m ++ [(i, g)])

/-- Read one set record: its number, the record, its reserved byte, and what follows. -/
def readSet (bs : List Byte) : Option ((Nat × SetRec) × List Byte) :=
  let n := numAt bs 10 2
  let rings := numAt bs 3 1
  let orders := if numAt bs 2 1 = 0 then rings * n else n
  let len := 20 + 4 * n + 2 * orders
  if bs.length < 20 ∨ bs.length < up8 len ∨ numAt bs 5 1 ≠ 0 ∨ !allZero (slice bs len (up8 len - len)) then none
  else
    let idx := (recsOf 2 (slice bs (20 + 4 * n) (2 * orders))).map ofBytes
    let order := if numAt bs 2 1 = 0 then (List.range rings).map fun r => (idx.drop (r * n)).take n else [idx]
    some ((numAt bs 0 1, ⟨numAt bs 1 1, numAt bs 2 1, rings, numAt bs 4 1, numAt bs 6 2, numAt bs 8 2, numAt bs 12 8,
      (recsOf 4 (slice bs 20 (4 * n))).map (fun r => (numAt r 0 2, numAt r 2 2)), order⟩), bs.drop (up8 len))

/-- Read n set records. -/
def readSets : Nat → Nat → List Byte → List (Nat × SetRec) → Except Nat (List (Nat × SetRec) × List Byte)
  | 0, _, bs, m => .ok (m, bs)
  | n + 1, i, bs, m =>
    match readSet bs with
    | none => .error i
    | some (x, l) => readSets n (i + 1) l (m ++ [x])

/-- The groups and sets of a STRUM body; the index of the first record that is not laid out right, groups first. -/
def readStrum (b : List Byte) : Except Nat (SMap GroupRec × List (Nat × SetRec)) :=
  if b.length < 8 ∨ numAt b 4 4 ≠ 0 ∨ numAt b 0 2 > 64 then .error 0
  else
    match readGroups (numAt b 0 2) 0 (b.drop 8) [] with
    | .error i => .error i
    | .ok (g, l) =>
      match readSets (numAt b 2 2) (numAt b 0 2) l [] with
      | .error i => .error i
      | .ok (x, rest) => if rest.isEmpty then .ok (g, x) else .error (numAt b 0 2 + numAt b 2 2)

/-! ### IMAGES -/

/-- An image record with its digests and blocks (12 Table 12-10). -/
def imageAt (b : List Byte) (r : List Byte) : ImageRec :=
  let n := numAt r 4 2 + numAt r 6 2
  let off := numAt r 0 4
  ⟨numAt r 4 2, numAt r 6 2, ofBytes (slice r 16 48), (recsOf 48 (slice b off (48 * n))).map ofBytes,
    recsOf 4096 (slice b (off + 48 * n) (4096 * n))⟩

/-- The image records. -/
def imageRecs (b : List Byte) : List (List Byte) := recsOf 64 (slice b 16 (64 * numAt b 0 2))

/-- The stack-engine image with its digest. -/
def engineImage (b : List Byte) : List Byte := slice b (numAt b 4 4) (numAt b 8 4)

/-! ### The other sections -/

/-- ROUTE: its entries and the image of FAB_CTRL. -/
def routeEntries (b : List Byte) : List Nat := (recsOf 2 (b.take 131072)).map ofBytes
def routeFabCtrl (b : List Byte) : Nat := numAt b 131072 8

/-- MCAST entries. -/
def mcastEntries (b : List Byte) : List Nat := (recsOf 4 b).map ofBytes

/-- EXPECT: images of PRT_EXPECT and PRT_CTRL by port. -/
def expectRecs (b : List Byte) : List (Nat × Nat) := (recsOf 16 b).map fun r => (numAt r 0 8, numAt r 8 8)

/-- ARB: the stack records as words, and the port weights. -/
def arbStacks (b : List Byte) : List (List Nat) := (recsOf 320 (b.take 2560)).map fun r => (recsOf 8 r).map ofBytes
def arbWeights (b : List Byte) : List Nat := (recsOf 8 (b.drop 2560)).map ofBytes

/-- Word i of a stack record: ARB_CTRL, ARB_SEED, TICKETS_LO, TICKETS_HI, the classes from 4, the engine shares from 20. -/
def arbClassWord (r : List Nat) (c : Nat) : Nat := at' 0 r (4 + c)
def arbShareWord (r : List Nat) (c : Nat) : Nat := at' 0 r (20 + c)

/-- The Pattern that a stream's header and section bodies spell. -/
def patternFrom (h : List Byte) (digest lpkg : Nat) (sec : Nat → List Byte) : Pattern :=
  let part := sec 1
  let strum := (readStrum (sec 8)).toOption.getD ([], [])
  { contract := (numAt h 6 1, numAt h 7 1), slice := numAt h 8 8, serial := numAt h 16 8, seed := BitVec.ofNat 64 (numAt h 24 8), packages := numAt h 32 2
    ownerKey := ofBytes (slice h 48 48), digest := digest, lpkg := lpkg, chip := numAt part 0 2
    planLeadUs := numAt part 10 2, readyLeadUs := numAt part 12 2, maxDefer := numAt part 14 1
    ctxs := ctxsOf part, gangs := (partGangRecs part).map gangOf, chans := (partChanRecs part).map chanOf
    mode := numAt (sec 2) 0 8 % 16, regions := (recsOf 32 ((sec 2).drop 8)).map regionOf
    capW := numAt (sec 7) 0 4, priority := numAt (sec 7) 4 1, rampNs := numAt (sec 7) 8 4, loopSettings := slice (sec 7) 16 240
    groups := strum.1, sets := strum.2.foldl (fun m e => mapPut m e.1 e.2) []
    trays := (recsOf 4 (slice (sec 9) 16 32)).map ofBytes
    twinPartner := numAt (sec 10) 0 2, twinRole := numAt (sec 10) 2 1
    images := (imageRecs (sec 11)).map (imageAt (sec 11)), engineDigest := ofBytes ((engineImage (sec 11)).take 48)
    expect := (expectRecs (sec 5)).map fun e => BitVec.ofNat 64 e.1 }

end Sys2Proof.Machine
end

