-- ==== Sys2Proof/Machine/Rules.lean ====
section
/-! DEFINITION. The section rules that a Pattern is checked by (12 R319 and the rules it names). -/

namespace Sys2Proof.Machine

/-- What the section rules are judged with: the bodies by type, the Pattern they spell, and the package. -/
structure Draft where
  sec : Nat → List Byte
  pat : Pattern

/-- The rule of a section with one record. -/
def one (section_ : Nat) (ok : Bool) : Bool × Refused := (ok, ⟨0x08, section_, 0⟩)

/-! ### PARTITION, section 0x01: record 0 the package, 1 to 16 the contexts, then the gangs and the channels -/

/-- Does a contexts mask define a context. -/
def ctxIn (p : Pattern) (c : Nat) : Bool := mapHas p.ctxs c

/-- The package record (12 Table 12-6, 11 R297). -/
def packageOk (slotId lpkg : Nat) (b : List Byte) : Bool :=
  b.length == 1088 + 16 * partGangs b + 16 * partChans b
    && numAt b 0 2 < 8192 && numAt b 0 2 % 64 == slotId % 64 && numAt b 2 2 == lpkg
    && 50 ≤ numAt b 10 2 && numAt b 10 2 ≤ 10000 && 4 ≤ numAt b 12 2 && numAt b 12 2 ≤ 1000 && numAt b 14 1 ≤ 15
    && allZero (slice b 15 49)

/-- Is a plan ring wholly inside a region of its context that has the plan attribute. -/
def ringPlaced (p : Pattern) (c : Nat) (r : CtxRec) : Bool :=
  p.regions.any fun g => g.ctx == c && g.plan && g.base ≤ r.ring && r.ring + 128 * r.records ≤ g.base + g.size

/-- Does a group belong to a context. -/
def groupOwned (p : Pattern) (c g : Nat) : Bool := ((mapFind p.groups g).map fun r => r.owner == c).getD false

/-- A context record (12 Table 12-7). -/
def ctxOk (p : Pattern) (e : Nat × List Byte) : Bool :=
  let (c, r) := e
  if ctxIn p c then
    let x := ctxOf r
    numAt r 0 1 == 1 && numAt r 1 1 ≤ 1 && 1008 ≤ x.slotNs && x.slotNs ≤ 1000000000 && x.slotNs % 16 == 0
      && 1 ≤ x.records && x.records ≤ 4096 && 2 ^ log2Floor x.records == x.records && allZero (slice r 18 46)
      && ringPlaced p c x && groupOwned p c x.readyGroup && groupOwned p c x.doneGroup
  else allZero r

/-- Rows of a gang shape. -/
def gangRows (log2 : Nat) : Nat := 2 ^ log2 / gangCols log2

/-- Does a gang lie wholly inside its die's logical grid of t tiles. -/
def gangPlaced (t : Nat) (g : GangRec) : Bool :=
  let i := g.first - g.die * t
  g.die * t ≤ g.first && i / 32 + gangRows g.log2 ≤ t / 32 && i % 32 + gangCols g.log2 ≤ 32

/-- A gang record (12 Table 12-8). -/
def gangOk (t : Nat) (p : Pattern) (r : List Byte) : Bool :=
  let g := gangOf r
  ctxIn p g.ctx && g.die < 4 && g.log2 ≤ 4 && g.stagger < 8 && g.image < p.images.length && gangPlaced t g && allZero (slice r 8 8)

/-- The first gang with a tile in an earlier gang. -/
def gangOverlap : List Nat → Nat → List GangRec → Option Nat
  | _, _, [] => none
  | seen, i, g :: l => if (gangTilesOf g).any seen.contains then some i else gangOverlap (gangTilesOf g ++ seen) (i + 1) l

/-- A channel record (04 R139, 12 R319): its ring lies inside scratchpad, its sender's chip is one the routing table knows. -/
def chanOk (route : List Nat) (t : Nat) (p : Pattern) (r : List Byte) : Bool :=
  let c := chanOf r
  c.tile < 4 * t && c.chan ≤ 254 && 1 ≤ c.depth && c.depth ≤ 16 && 64 ≤ c.slot && c.slot ≤ 4096 && numAt r 6 2 == 0
    && c.base % 8 == 0 && c.base + c.depth * c.slot ≤ 8 * padWords
    && (c.chip == p.chip || (c.chip < 8192 && bitOf (at' 0 route c.chip) 15))

/-- The first channel record that names an earlier one's receiving tile and channel. -/
def chanRepeat : List (Nat × Nat) → Nat → List ChanRec → Option Nat
  | _, _, [] => none
  | seen, i, c :: l => if seen.contains (c.tile, c.chan) then some i else chanRepeat ((c.tile, c.chan) :: seen) (i + 1) l

/-- The rules of PARTITION. -/
def partitionRules (s : State) (d : Draft) : List (Bool × Refused) :=
  let b := d.sec 1
  let t := tilesPerDie s
  let n := 17 + partGangs b
  [ one 1 (packageOk s.pins.slotId d.pat.lpkg b),
    allRecs 1 1 (ctxOk d.pat) ((List.range 16).zip (partCtxs b)),
    allRecs 1 17 (gangOk t d.pat) (partGangRecs b),
    ((gangOverlap [] 0 d.pat.gangs).isNone, ⟨0x08, 1, 17 + (gangOverlap [] 0 d.pat.gangs).getD 0⟩),
    allRecs 1 n (chanOk (routeEntries (d.sec 3)) t d.pat) (partChanRecs b),
    ((chanRepeat [] 0 d.pat.chans).isNone, ⟨0x08, 1, n + (chanRepeat [] 0 d.pat.chans).getD 0⟩) ]

/-! ### MEMMAP, section 0x02: record 0 the mode and count, then the regions -/

/-- A region record (05 R150). -/
def regionOk (top : Nat) (r : List Byte) : Bool :=
  let g := regionOf r
  g.base % 65536 == 0 && g.size % 65536 == 0 && g.base + g.size ≤ top && g.ctx < 16 && numAt r 17 1 < 8 && allZero (slice r 18 14)

/-- The rules of MEMMAP (05 R150, R151). -/
def memmapRules (s : State) (d : Draft) : List (Bool × Refused) :=
  let b := d.sec 2
  let w := numAt b 0 8
  [ one 2 (b.length == 8 + 32 * bitsOf w 47 32 && 8 ≤ b.length && bitsOf w 3 0 ≤ 3 && bitsOf w 31 4 == 0 && bitsOf w 63 48 == 0),
    allRecs 2 1 (regionOk (reserveBase s)) (recsOf 32 (b.drop 8)) ]

/-! ### ROUTE and MCAST, sections 0x03 and 0x04: a record an entry -/

/-- Does EXPECT list a port as absent. -/
def portAbsent (p : Pattern) (port : Nat) : Bool := fieldOf (at' 0 p.expect port) 63 63 == 0

/-- The port of the single route to another package of the rack (08 Table 08-8, 11 Table 11-1). -/
def rackPort (own dst : Nat) : Option Nat :=
  let target := if dst % 8 = own % 8 then dst % 64 else own % 64 / 8 * 8 + dst % 8
  (List.range 14).find? fun q => (wiredTo (own % 64) q).1 == target

/-- A routing entry of endpoint e (08 Tables 08-6 and 08-8). -/
def routeOk (p : Pattern) (x : Nat × Nat) : Bool :=
  let (e, v) := x
  let port := bitsOf v 8 4
  let valid := bitOf v 15
  bitsOf v 3 0 == 0
    && (if e = p.chip then valid && port == 31 && bitsOf v 14 9 == 0x3F
        else !valid
          || ((if e < 8192 ∧ e / 64 = p.chip / 64 then rackPort p.chip e == some port else 14 ≤ port && port < 18)
              && !portAbsent p port))

/-- A group entry (08 Tables 08-7 and 08-8). -/
def groupOk (p : Pattern) (v : Nat) : Bool :=
  !bitOf v 31
    || (bitsOf v 30 25 &&& 0b101011 == 0 && bitsOf v 24 19 == 0 && bitsOf v 13 0 == 0
        && (List.range 4).all fun i => !(bitOf v (14 + i) && portAbsent p (14 + i)))

/-- The rules of ROUTE and MCAST (08 R221). -/
def routeRules (d : Draft) : List (Bool × Refused) :=
  let b := d.sec 3
  let m := d.sec 4
  [ one 3 (b.length == 131080),
    allRecs 3 0 (routeOk d.pat) ((List.range 65536).zip (routeEntries b)),
    (1 ≤ bitsOf (routeFabCtrl b) 41 32 && bitsOf (routeFabCtrl b) 41 32 ≤ 1000, ⟨0x08, 3, 65536⟩),
    one 4 (m.length == 16384),
    allRecs 4 0 (groupOk d.pat) (mcastEntries m) ]

/-! ### EXPECT and ARB, sections 0x05 and 0x06 -/

/-- An image of PRT_EXPECT (10 Table 10-13): no reserved digest rule, no reserved kind. -/
def expectOk (e : Nat × Nat) : Bool := bitsOf e.1 61 60 ≤ 1 && bitsOf e.1 59 58 ≤ 2

/-- Do two shares of a stack overlap on an engine. -/
def sharesOverlap (a b : Nat) : Bool :=
  bitsOf a 63 32 &&& bitsOf b 63 32 != 0
    && bitsOf a 21 11 ≤ bitsOf b 21 11 + bitsOf b 10 0 && bitsOf b 21 11 ≤ bitsOf a 21 11 + bitsOf a 10 0

/-- The engine shares of a stack (06 R171). -/
def sharesOk (ws : List Nat) : Bool :=
  let used := ws.filter fun w => bitsOf w 63 32 != 0
  used.all (fun w => bitsOf w 31 28 != 0 && bitsOf w 21 11 + bitsOf w 10 0 < 1920)
    && (List.range used.length).all (fun i => (List.range i).all fun j => !sharesOverlap (at' 0 used i) (at' 0 used j))
    && (List.range 32).all fun e => ((used.filter fun w => bitOf w (32 + e)).map fun w => bitsOf w 31 28).foldl (· + ·) 0 ≤ 14

/-- A stack record of ARB (05 R159, 06 R171): no class 0 for a context source. -/
def arbOk (r : List Nat) : Bool :=
  ((List.range 16).all fun c => (List.range 5).all fun i => bitsOf (arbClassWord r c) (2 * i + 1) (2 * i) != 0)
    && sharesOk ((List.range 16).map (arbShareWord r)) && ((r.drop 36).all (· == 0))

/-- Port weights: every one 1 to 255 (08 Table 08-8). -/
def weightsOk (w : Nat) : Bool := (List.range 4).all fun i => bitsOf w (8 * i + 7) (8 * i) != 0

/-- The rules of EXPECT and ARB: the stacks are records 0 to 7, the weights 8 to 25. -/
def portRules (d : Draft) : List (Bool × Refused) :=
  let a := d.sec 6
  [ one 5 ((d.sec 5).length == 288), allRecs 5 0 expectOk (expectRecs (d.sec 5)),
    one 6 (a.length == 2704), allRecs 6 0 arbOk (arbStacks a), allRecs 6 8 weightsOk (arbWeights a) ]

/-! ### POWER, section 0x07 -/

/-- The POWER section (12 Table 12-5, 14 Table 14-4). -/
def powerOk (s : State) (b : List Byte) : Bool :=
  let cap := numAt b 0 4
  b.length == 256 && (cap == 0 || (1200 ≤ cap && cap ≤ warrantMax s)) && numAt b 4 1 ≤ 1 && numAt b 5 3 == 0
    && 1000 ≤ numAt b 8 4 && numAt b 8 4 ≤ 20000 && numAt b 12 4 == 0
    && 80 ≤ numAt b 16 1 && numAt b 16 1 ≤ 100 && numAt b 17 1 ≤ 5 && numAt b 18 1 ≤ 2 && numAt b 19 1 == 0
    && 5 ≤ numAt b 20 4 && numAt b 20 4 ≤ 50 && allZero (slice b 24 232)

/-! ### STRUM, section 0x08: a record a group, then a record a set -/

/-- May strum travel to a chip (09 Table 09-1). -/
def strumEdge (route : List Nat) (chip : Nat) : Bool := bitOf (at' 0 route chip) 15 && bitOf (at' 0 route chip) 12

/-- A group record (09 R239, Table 09-1). -/
def groupRuleOk (route : List Nat) (p : Pattern) (e : Nat × GroupRec) : Bool :=
  let r := e.2
  let edges := (if r.isRoot then [] else [r.parent]) ++ r.children.map (·.1)
  r.members.all (fun g => g < p.gangs.length) && r.members.length ≤ 256 && r.children.length ≤ 16
    && r.children.all (fun c => c.2 != 0) && wholeOf r ≤ 65535
    && edges.all (strumEdge route)
    && 1 ≤ fieldOf r.cfg 31 16 && (r.height + 1) * fieldOf r.cfg 31 16 ≤ fieldOf r.cfg 15 0
    && (r.isRoot == (r.parent == 0xFFFF))
    && !(p.groups.any fun o => o.1 < e.1 && o.2.tree == r.tree)

/-- An order of all n members. -/
def isOrder (n : Nat) (l : List Nat) : Bool := l.length == n && (List.range n).all l.contains

/-- The root that a member reaches by its parents; fuel is the number of members. -/
def climbs (parents : List Nat) : Nat → Nat → Bool
  | 0, _ => false
  | f + 1, i => if at' 0xFFFF parents i = 0xFFFF then true else climbs parents f (at' 0xFFFF parents i)

/-- A tree of n members with one root and no cycle. -/
def isTree (n : Nat) (parents : List Nat) : Bool :=
  parents.length == n && (parents.filter (· == 0xFFFF)).length == 1 && parents.all (fun q => q == 0xFFFF || q < n)
    && (List.range n).all (climbs parents n)

/-- A set record, with the ones before it (09 R252). -/
def setOk (p : Pattern) (x : (Nat × SetRec) × List (Nat × SetRec)) : Bool :=
  let r := x.1.2
  let n := r.members.length
  let here := (r.members.filter fun m => m.1 == p.chip).map (·.2)
  2 ≤ n && n ≤ 8192 && ctxIn p r.owner && r.algorithm ≤ 1
    && (if r.algorithm = 0 then 1 ≤ r.rings && r.rings ≤ 7 && r.orders.all (isOrder n) else r.rings == 0 && isTree n (at' [] r.orders 0))
    && 1 ≤ r.preemptUs && r.preemptUs ≤ 1000 && 1 ≤ r.deadlineUs
    && (match mapFind p.groups r.guardGroup with
        | some g =>
          r.deadlineUs ≤ fieldOf g.cfg 31 16 && here.all g.members.contains && g.members.all here.contains && here.length == g.members.length
            && (!g.isRoot || wholeOf g == n)
        | none => false)
    && !(x.2.any fun o => o.1 == x.1.1 || o.2.guardGroup == r.guardGroup)

/-- Each element of a list with the elements before it. -/
def withPast {α : Type} : List α → List α → List (α × List α)
  | _, [] => []
  | past, a :: l => (a, past) :: withPast (a :: past) l

/-- The rules of STRUM (09 R241, R252). -/
def strumRules (d : Draft) : List (Bool × Refused) :=
  match readStrum (d.sec 8) with
  | .error i => [(false, ⟨0x08, 8, i⟩)]
  | .ok (gs, sets) =>
    let bad := gs.find? fun e => !groupRuleOk (routeEntries (d.sec 3)) d.pat e
    [ (bad.isNone, ⟨0x08, 8, (bad.map (·.1)).getD 0⟩),
      allRecs 8 (numAt (d.sec 8) 0 2) (setOk d.pat) (withPast [] sets) ]

/-! ### TIME, TWIN and IMAGES, sections 0x09 to 0x0B -/

/-- May a time edge lie on a port (11 R305): none, or a port that EXPECT names and does not mark optional. -/
def edgePortOk (p : Pattern) (port : Nat) : Bool :=
  port == 0xFF || (port < 18 && !portAbsent p port && fieldOf (at' 0 p.expect port) 62 62 == 0)

/-- The TIME section (11 R305, 12 Table 12-5). -/
def timeOkSec (p : Pattern) (b : List Byte) : Bool :=
  let c := numAt b 0 8
  b.length == 48 && edgePortOk p (bitsOf c 7 0) && edgePortOk p (bitsOf c 15 8)
    && !(bitsOf c 31 30 == 1 && bitsOf c 7 0 != 0xFF)
    && ((recsOf 4 (b.drop 16)).map ofBytes).all fun o => o % 16 == 0 && o ≤ 16000

/-- Does the Pattern make the package a twin. -/
def Pattern.isTwin (p : Pattern) : Bool := p.twinPartner != 0xFFFF

/-- The TWIN section (17 R438). -/
def twinOk (p : Pattern) (b : List Byte) : Bool :=
  b.length == 16 && numAt b 2 1 ≤ 1 && allZero (slice b 3 13)
    && p.groups.all (fun g => g.2.tree != 4095)
    && (!p.isTwin
        || (p.twinPartner == p.chip ^^^ 1 && p.groups.all (fun g => g.2.children.isEmpty)
            && p.sets.all fun x => x.2.members.all fun m => m.1 != p.chip && m.1 != p.twinPartner))

/-- An image record (12 R322). -/
def imageOk (b : List Byte) (r : List Byte) : Bool :=
  let i := numAt r 4 2
  let n := i + numAt r 6 2
  1 ≤ i && i ≤ 24 && numAt r 6 2 ≤ 192 && allZero (slice r 8 8) && numAt r 0 4 + (48 + 4096) * n ≤ b.length

/-- The rules of TIME, TWIN and IMAGES. -/
def lastRules (d : Draft) : List (Bool × Refused) :=
  let b := d.sec 11
  [ one 9 (timeOkSec d.pat (d.sec 9)), one 10 (twinOk d.pat (d.sec 10)),
    one 11 (1 ≤ numAt b 0 2 && numAt b 0 2 ≤ 2304 && numAt b 2 2 == 0 && numAt b 12 4 == 0
      && 16 + 64 * numAt b 0 2 ≤ b.length && 48 ≤ numAt b 8 4 && numAt b 4 4 + numAt b 8 4 ≤ b.length),
    allRecs 11 0 (imageOk b) (imageRecs b) ]

/-! ### The grid and the Warrant -/

/-- Physical rows of a column that the Mending list does not name, ascending (12 R320 step 3, 13 R340). -/
def workingRows (s : State) (die col : Nat) : List Nat :=
  (List.range 19).filter fun r => !s.bring.mend.entries.any fun e => e.die == die && e.col == col && e.row == r

/-- Can a die restore its warranted tile count (13 R340). -/
def dieRestores (s : State) (die : Nat) : Bool := (List.range 32).all fun c => tilesPerDie s / 32 ≤ (workingRows s die c).length

/-- Is a feature in effect (13 R347): bit 58 double-stop, 57 stack engines, 56 uplink encryption of SEC_WARRANT. -/
def featureOn (s : State) (b : Nat) : Bool := regField s regSecWarrant b b == 1

/-- Is a variant Warrant in effect (00 R9). -/
def variantOn (s : State) : Bool := regField s regSecWarrant 63 60 != 0

/-- Does the Pattern seal an up port. -/
def sealsPort (d : Draft) : Bool := (rangeFrom 14 4).any fun p => bitOf (at' (0, 0) (expectRecs (d.sec 5)) p).2 38

/-- Does the Pattern grant an engine share. -/
def grantsShare (d : Draft) : Bool :=
  (arbStacks (d.sec 6)).any fun r => (List.range 16).any fun c => bitsOf (arbShareWord r c) 63 32 != 0

/-- Is the stack-engine image's digest right (12 R320 step 4). -/
def engineImageOk (b : List Byte) : Bool := sha384 ((engineImage b).drop 48) == (engineImage b).take 48

/-- The rules with codes of their own: the grid, the engine image, the features, the variant Warrant. -/
def warrantRules (s : State) (d : Draft) : List (Bool × Refused) :=
  [ ((List.range 4).all (dieRestores s), ⟨0x0B, 1, 0⟩),
    (engineImageOk (d.sec 11), ⟨0x0C, 11, 0⟩),
    (!grantsShare d || featureOn s 57, ⟨0x0C, 6, 0⟩),
    (!sealsPort d || featureOn s 56, ⟨0x0C, 5, 0⟩),
    (!d.pat.isTwin || featureOn s 58, ⟨0x0C, 10, 0⟩),
    (variantOn s, ⟨0x0C, 0, 0⟩) ]

/-- Every section rule, section by section, then the grid and the Warrant. -/
def sectionRules (s : State) (d : Draft) : List (Bool × Refused) :=
  partitionRules s d ++ memmapRules s d ++ routeRules d ++ portRules d ++ [one 7 (powerOk s (d.sec 7))] ++ strumRules d
    ++ lastRules d ++ warrantRules s d

end Sys2Proof.Machine
end

