-- ==== Sys2Proof/Machine/Pattern.lean ====
section
/-! DEFINITION. Checking a Pattern and applying it (12 R318-R321, R334). -/

namespace Sys2Proof.Machine

/-- STW_BOOT.phase (13 Table 13-11). -/
def bootPhase (s : State) : Nat := regField s regStwBoot 63 60

/-- Is the package serviceable (13 R336): phases 0x5 to 0x7. -/
def isServiceable (s : State) : Bool := 5 ≤ bootPhase s && bootPhase s ≤ 7

/-- Is a step of any context accepted and not terminal. -/
def stepsPending (s : State) : Bool := s.plan.ctxs.any fun e => !e.2.steps.isEmpty

/-- Is a request to apply refused as busy (12 R318, 13 Table 13-9). -/
def applyBusy (s : State) : Bool := !isServiceable s || stepsPending s || s.scrub.isSome

/-- Offset and length of the stream. -/
def streamOff (s : State) : Nat := regField s regPlnOffset 47 0
def streamLen (s : State) : Nat := regField s regPlnLen 47 0

/-- Does the stream lie in memory below the Steward reserve, and, while a Pattern is applied, in a staging region (12 R318). -/
def streamPlaced (s : State) : Bool :=
  let a := streamOff s
  let n := streamLen s
  a % 64 == 0 && a + n ≤ reserveBase s
    && match s.plan.pattern with
       | some p => p.regions.any fun r => r.staging && r.base ≤ a && a + n ≤ r.base + r.size
       | none => true

/-- The enrolled key that a Pattern of this owner and slice must name (15 R401), 97 bytes. -/
def ownerKeyFor (s : State) (owner sliceId : Nat) : Option (List Byte) :=
  let held := s.flash.owners.find? fun k => ofBytes (sha384 k.key) == owner && (s.plan.pattern.isSome || k.slice == sliceId)
  match s.plan.pattern with
  | some p => if p.ownerKey = owner then held.map (·.key) else none
  | none => held.map (·.key)

/-- Verify a signature under a 97-byte uncompressed key. -/
def keySigOk (key : List Byte) (msg sig : List Byte) : Bool := key.length == 97 && key.take 1 == [4] && sigOk (key.drop 1) msg sig

/-- Highest serial applied for an owner key (12 R321). -/
def highestSerial (s : State) (owner : Nat) : Nat := ((s.flash.serials.find? fun e => e.1 == owner).map (·.2)).getD 0

/-- A section's bytes in the stream. -/
def sectionBytes (bs : List Byte) (e : DirEntry) : List Byte := slice bs e.offset e.length

/-- The entries of a logical package's sections, in type order, where each type has exactly one. -/
def sectionEntries (ds : List DirEntry) (lpkg : Nat) : List (Option DirEntry) := sectionTypes.map (sectionEntry ds lpkg)

/-- The header's checks and the length of the stream, before its directory is read. -/
def frameRules (s : State) (bs : List Byte) : List (Bool × Refused) :=
  let h := bs.take 128
  [ (headerOk h, ⟨0x01, 0, 0⟩),
    (numAt h 6 1 == regField s regContractFw 31 24 && numAt h 7 1 ≤ regField s regContractFw 23 16, ⟨0x02, 0, 0⟩),
    (sectionsFrom bs ≤ bs.length, ⟨0x0D, 0, 0⟩) ]

/-- The directory's checks (12 R318): one instance of each type for the logical package, every section placed. -/
def directoryRules (bs : List Byte) (ds : List DirEntry) (lpkg : Nat) : List (Bool × Refused) :=
  let bad := firstIdx (fun e => !entryPlaced bs ds e) ds
  sectionTypes.map (fun k => ((sectionEntry ds lpkg k).isSome, (⟨0x0A, k, 0⟩ : Refused)))
    ++ [ (decide (numAt bs 40 8 ≤ bs.length), ⟨0x0D, 0, 0⟩),
         (bad.isNone, ⟨0x0D, ((bad.bind fun i => ds[i]?).map (·.type)).getD 0, bad.getD 0⟩) ]

/-- The checks of each section of the logical package, in type order. -/
def bodyRules (bs : List Byte) (es : List DirEntry) : List (Bool × Refused) :=
  es.flatMap fun e =>
    let sec := sectionBytes bs e
    [ (sectionHeaderOk e sec, ⟨0x03, e.type, 0⟩), (sha384 sec == e.digest, ⟨0x04, e.type, 0⟩) ]

/-- The owner's key, the signature and the serial (12 R318, R321, 15 R401). -/
def ownerRules (s : State) (bs : List Byte) : List (Bool × Refused) :=
  let owner := numAt bs 48 48
  let key := ownerKeyFor s owner (numAt bs 8 8)
  let sig := signatureOf bs
  [ (key.isSome, ⟨0x06, 0, 0⟩),
    (numAt sig 0 2 == 1 && numAt sig 2 2 == 0 && allZero (slice sig 100 28)
      && keySigOk (key.getD []) (signedPart bs) (slice sig 4 96), ⟨0x05, 0, 0⟩),
    (highestSerial s owner ≤ numAt bs 16 8, ⟨0x07, 0, 0⟩) ]

/-- The body of a section type among the entries of a package. -/
def bodyOf (bs : List Byte) (es : List DirEntry) (type : Nat) : List Byte :=
  ((es.find? fun e => e.type == type).map fun e => (sectionBytes bs e).drop 16).getD []

/-- Check the stream for a logical package: the Pattern and its section bodies, or why it is refused (12 R318). -/
def checkStream (s : State) (bs : List Byte) (lpkg : Nat) : Except Refused (Pattern × SMap (List Byte)) :=
  match firstBad (frameRules s bs) with
  | some r => .error r
  | none =>
    let ds := directory bs
    match firstBad (directoryRules bs ds lpkg) with
    | some r => .error r
    | none =>
      let es := (sectionEntries ds lpkg).filterMap id
      match firstBad (bodyRules bs es ++ ownerRules s bs) with
      | some r => .error r
      | none =>
        let d : Draft := ⟨bodyOf bs es, patternFrom bs (ofBytesBE (sha384 (signedPart bs))) lpkg (bodyOf bs es)⟩
        match firstBad (sectionRules s d) with
        | some r => .error r
        | none => .ok (d.pat, sectionTypes.map fun k => (k, d.sec k))

/-- Check the stream that PLN_PATTERN_OFFSET and PLN_PATTERN_LEN name. -/
def checkPattern (s : State) (lpkg : Nat) : Except Refused (Pattern × SMap (List Byte)) :=
  if applyBusy s then .error ⟨0x09, 0, 0⟩
  else if !streamPlaced s then .error ⟨0x0D, 0, 0⟩
  else checkStream s (memLoad s (streamOff s) (streamLen s)).1 lpkg

/-! ### Applying (12 R320) -/

/-- Step 1: the tiles of the defined contexts are halted and cleared; send credits are gone until the first restores (04 R139). -/
def applyTiles (s : State) : State :=
  let s1 := tilesMod { s with gangs := [] } (allTiles s) fun x =>
    { clearPad (clearRegs x) with blocks := [], loaded := false, rx := [], tx := [], step := 0, tstate := .off }
  { s1 with coll := {}, strum := {} }

/-- Registers of the ARB section, stack by stack (05 R160, R167, 06 R171). -/
def applyArb (s : State) (b : List Byte) : State :=
  let s1 := ((arbStacks b).zip (List.range 8)).foldl (fun a (ws, n) =>
    let put := fun (z : State) k v => regWrite z k (BitVec.ofNat 64 v)
    let a1 := (List.range 4).foldl (fun z i => put z (stkKey n (0x10 + 8 * i)) (at' 0 ws i)) a
    let a2 := (List.range 16).foldl (fun z c => put z (regArbClass n c) (arbClassWord ws c)) a1
    (List.range 16).foldl (fun z c => put z (regEngShare n c) (arbShareWord ws c)) a2) s
  ((arbWeights b).zip (List.range 18)).foldl (fun a (w, p) => regWrite a (regPortWeights p) (BitVec.ofNat 64 w)) s1

/-- Every channel arbiter's LFSR is loaded again (05 R160). -/
def reseedAll (s : State) : State :=
  (List.range 256).foldl (fun a ch => chanSet a ch { chanGet a ch with lfsr := lfsrSeed (regField a (regArbSeed (ch / 32)) 30 0) ch }) s

/-- The routing and group tables, FAB_CTRL, EXPECT and PRT_CTRL. -/
def applyFabric (s : State) (p : Pattern) (sec : Nat → List Byte) : State :=
  let routes := ((List.range 65536).zip (routeEntries (sec 3))).filter fun e => e.2 != 0
  let groups := ((List.range 4096).zip (mcastEntries (sec 4))).filter fun e => e.2 != 0
  let s1 := { s with router := { s.router with routes := routes, groups := groups } }
  let s2 := regWrite s1 regFabCtrl (BitVec.ofNat 64 (routeFabCtrl (sec 3)))
  let s3 := ((expectRecs (sec 5)).zip (List.range 18)).foldl (fun a (e, q) =>
    regWrite (regSet a (regPrtExpect q) (BitVec.ofNat 64 (e.1 &&& (fieldMask 63 58 + fieldMask 55 32)))) (regPrtCtrl q) (BitVec.ofNat 64 e.2)) s2
  let s4 := regPut s3 regFabId 31 16 p.chip
  let chips := p.chip :: (routes.filter fun e => e.1 < 8192 && bitOf e.2 15).map (·.1)
  { s4 with link := { s4.link with sealList := chips ++ s4.link.sealList.filter (8192 ≤ ·) } }

/-- The strum groups' registers (09 R268). -/
def applyGroups (s : State) (p : Pattern) : State :=
  let s1 := regRestore s fun k => keyIn k (regGroupCfg 0) 8 0x820
  p.groups.foldl (fun a e => regSet a (regGroupCfg e.1) e.2.cfg) s1

/-- The twin group (17 R443): tree 4,095, the even chip its root, W 20 µs and D 40 µs; the Steward is its one local member.  Its number
is one above those a Pattern can define. -/
def twinGroup : Nat := 64
def stewardMember : Nat := 0xFFFF
def twinGroupRec (p : Pattern) : GroupRec :=
  let root := p.chip % 2 = 0
  ⟨BitVec.ofNat 64 (2 ^ 63 + 4095 * 2 ^ 47 + 2 ^ 38 + bit root * 2 ^ 33 + bit root * 2 ^ 32 + 20 * 2 ^ 16 + 40),
    if root then 0xFFFF else p.twinPartner, if root then 1 else 0, [stewardMember], if root then [(p.twinPartner, 1)] else []⟩

/-- The Pattern with the Steward's own twin group, where it makes the package a twin. -/
def withTwin (p : Pattern) : Pattern := if p.isTwin then { p with groups := p.groups ++ [(twinGroup, twinGroupRec p)] } else p

/-- RCV_TWIN and the twin's counts under a new Pattern (17 R438, R440, R449): single until the first mirror record agrees. -/
def applyTwin (s : State) (p : Pattern) : State :=
  let v := if p.isTwin then p.twinPartner * 2 ^ 48 + 2 * 2 ^ 45 + p.twinRole * 2 ^ 44 else 0
  { regSet s regRcvTwin (BitVec.ofNat 64 v) with twin := { streams := s.twin.streams, heard := s.clock, sentAt := s.clock } }

/-- Step 3: the physical position of each logical tile (12 R320, 13 R340). -/
def placeTiles (s : State) : SMap Nat :=
  let t := tilesPerDie s
  (List.range 4).flatMap fun d => (List.range t).map fun i =>
    (d * t + i, 32 * at' 0 (workingRows s d (i % 32)) (i / 32) + i % 32)

/-- TIL_ID of a logical tile (03 Table 03-10; 17 R438 gives twins the lower of their two numbers). -/
def tilId (s : State) (p : Pattern) (t : Nat) : Word :=
  let lp := if p.isTwin then p.lpkg / 2 * 2 else p.lpkg
  let base := lp * 2 ^ 32 + t * 2 ^ 16 + dieOfTile s t * 2 ^ 10
  match gangOfTile s t with
  | some (g, i) =>
    let r := at' ⟨0, 0, 0, 0, 0, 0⟩ p.gangs g
    BitVec.ofNat 64 (base + r.ctx * 2 ^ 12 + r.log2 * 2 ^ 7 + i * 2 ^ 3 + 1)
  | none => BitVec.ofNat 64 base

/-- Write TIL_ID in every tile. -/
def writeIds (s : State) (p : Pattern) : State :=
  (List.range (4 * tilesPerDie s)).foldl (fun a t => tileMod a t fun x => { x with id := tilId s p t }) { s with plan := { s.plan with place := placeTiles s } }

/-- POWER in force (14 R359, Table 14-15). -/
def applyPower (s : State) (p : Pattern) : State :=
  let l := fun i => numAt p.loopSettings i 1
  let v := p.priority * 2 ^ 56 + l 1 * 2 ^ 52 + l 2 * 2 ^ 48 + l 0 * 2 ^ 40 + l 4 * 2 ^ 32 + p.rampNs * 2 ^ 16
  setPatternW (regSet s regPwrCfg (BitVec.ofNat 64 v)) (if p.capW = 0 then warrantMax s else p.capW)

/-- Record the serial (12 R321). -/
def recordSerial (s : State) (p : Pattern) : State :=
  let rest := s.flash.serials.filter fun e => e.1 != p.ownerKey
  { s with flash := { s.flash with serials := rest ++ [(p.ownerKey, max p.serial (highestSerial s p.ownerKey))] } }

/-- Bytes of a Pattern digest. -/
def digestBytes (p : Pattern) : List Byte := bytesOfBE 48 p.digest

/-- Step 6: the Pattern registers, the Daybook and the event; the readiness decision is awaited (12 R320, R334, 13 R348). -/
def showApplied (s : State) (p : Pattern) : State :=
  let s1 := regSet s regPlnStatus (BitVec.ofNat 64 (3 * 2 ^ 60 + p.serial % 2 ^ 32))
  let s2 := (List.range 6).foldl (fun a w => regSet a (regPlnDigest w) (BitVec.ofNat 64 (numAt (digestBytes p) (8 * w) 8))) s1
  let s3 := regSet s2 regPlnCfg (BitVec.ofNat 64 (p.planLeadUs * 2 ^ 48 + p.readyLeadUs * 2 ^ 32 + p.maxDefer * 2 ^ 24))
  let s4 := imageCount (regSet s3 regPlnImage (BitVec.ofNat 64 (0xFFFF * 2 ^ 16)))
  let s5 := regPut (regPut s4 regStwBoot 63 60 6) regStwReady 63 63 0
  let s6 := logEvent s5 0x90 0x1005 2 0xFF ([p.serial] ++ (List.range 3).map fun w => numAt (digestBytes p) (8 * w) 8)
  eventAppend s6 3 0xFF 0 0 0 0

/-- Apply a Pattern that passed every check. -/
def applyPattern (s : State) (p0 : Pattern) (secs : SMap (List Byte)) : State :=
  let p := withTwin p0
  let sec := fun k => mapGet [] secs k
  let s1 := applyTiles s
  let s2 := { s1 with plan := { pattern := some p, sections := secs, scanned := s1.plan.scanned }, rcv := { s1.rcv with msgs := 0 } }
  let s3 := applyTiles s2
  let s4 := setMode (applyFabric s3 p sec) (BitVec.ofNat 64 p.mode)
  let s5 := applyGroups (reseedAll (applyArb s4 (sec 6))) p
  let s6 := applyTwin (droneApply s5 (BitVec.ofNat 64 (numAt (sec 9) 0 8)) (BitVec.ofNat 64 (numAt (sec 9) 8 8))) p
  let s7 := applyPower (writeIds s6 p) p
  let s8 := chansEmpty (enginesClear s7) fun _ => true
  let s9 := (List.range 30).foldl (fun a q => regPut a (regPortStatus q) 7 7 0) s8
  let s10 := (List.range 18).foldl recheck s9
  showApplied (recordSerial s10 p) p

/-- Refuse a Pattern: the state in force is unchanged but for the status and the Daybook; a contract refusal names both versions (00 R25,
01 R46, 12 Table 12-19). -/
def refusePattern (s : State) (r : Refused) : State :=
  let v := 4 * 2 ^ 60 + r.code * 2 ^ 52 + r.section_ * 2 ^ 44 + min 4095 r.index * 2 ^ 32 + regField s regPlnStatus 31 0
  let h := (memLoad s (streamOff s) 8).1
  let versions := if r.code = 0x02 then [numAt h 6 1 * 256 + numAt h 7 1, regField s regContractFw 31 24 * 256 + regField s regContractFw 23 16]
    else []
  eventAppend (logEvent (regSet s regPlnStatus (BitVec.ofNat 64 v)) 0x90 0x1006 3 0xFF ([r.code, r.section_, r.index] ++ versions)) 3 0xFF 0 0 0 0

/-- Check and apply the Pattern that the plan registers name (12 R318). -/
def patternApply (lpkg : Nat) (s : State) : State :=
  let read := if applyBusy s || !streamPlaced s then s else linesReadEffects s (linesOf (streamOff s) (streamLen s))
  match checkPattern s lpkg with
  | .error r => refusePattern read r
  | .ok (p, secs) => applyPattern read p secs

/-- PATTERN_APPLY: PLN_PATTERN_CMD.apply is written. -/
def execPatternApply (lpkg : Nat) (s : State) : Host.Outcome State Fault Refusal := .next (hostWrite s regPlnCmd (BitVec.ofNat 64 (lpkg * 2 ^ 16 + 1)) (patternApply lpkg))

end Sys2Proof.Machine
end

