-- ==== Sys2Proof/Machine/PlanCore.lean ====
section
/-! DEFINITION. Plan rings, accepted steps, votes and the end of a step (12 R325-R332, 17 R443-R445). -/

namespace Sys2Proof.Machine

/-! ### Plans -/

/-- A context's plan. -/
def planGet (s : State) (c : Nat) : CtxPlan := mapGet {} s.plan.ctxs c

/-- Set a context's plan. -/
def planSet (s : State) (c : Nat) (x : CtxPlan) : State := { s with plan := { s.plan with ctxs := mapSet {} s.plan.ctxs c x } }

/-- Replace an accepted step of a context. -/
def stepPut (s : State) (c : Nat) (r : StepRun) : State :=
  let x := planGet s c
  planSet s c { x with steps := x.steps.map fun q => if q.step = r.step then r else q }

/-- The first step of a context that p accepts. -/
def stepFind (s : State) (c : Nat) (p : StepRun → Bool) : Option StepRun := (planGet s c).steps.find? p

/-- The context's step in a phase. -/
def stepIn (s : State) (c : Nat) (ph : StepPhase) : Option StepRun := stepFind s c fun r => r.phase == ph

/-- Package offset of a slot of a context's ring. -/
def slotOff (s : State) (c slot : Nat) : Nat := (((ctxRec s c).map (·.ring)).getD 0) + 128 * slot

/-- Slots of a context's ring. -/
def ringRecords (s : State) (c : Nat) : Nat := ((ctxRec s c).map (·.records)).getD 1

/-- Timing of the applied Pattern, in ns. -/
def planLeadNs (s : State) : Nat := 1000 * regField s regPlnCfg 63 48
def readyLeadNs (s : State) : Nat := 1000 * regField s regPlnCfg 47 32
def maxDefer (s : State) : Nat := regField s regPlnCfg 31 24

/-- The offset of the package's tray (12 R327), and a step's effective start E. -/
def trayOffset (s : State) : Nat := ((s.plan.pattern.map fun p => at' 0 p.trays (p.chip % 64 / 8))).getD 0
def effStart (s : State) (r : StepRun) : Nat := r.start + trayOffset s

/-- Gangs of a step that are not left idle (12 R325). -/
def stepGangs (r : StepRun) : List Nat := (r.entries.filter fun e => e.2 != 0xFFFF).map (·.1)

/-- The stagger class of a gang in a step. -/
def gangClass (s : State) (r : StepRun) (g : Nat) : Nat :=
  if r.stagger = 0xFF then ((gangRec s g).map (·.stagger)).getD 0 else r.stagger

/-- Write a step's completion word (12 R332, Table 12-12). -/
def writeWord (s : State) (c : Nat) (r : StepRun) (state fault detail : Nat) : State :=
  memStoreClean s (slotOff s c r.slot + 64) (bytesOf 8 (state * 2 ^ 60 + fault * 2 ^ 48 + detail))

/-- Write a step's report word: deferrals, and when class 0 started. -/
def writeReport (s : State) (c : Nat) (r : StepRun) (started : Nat) : State :=
  memStoreClean s (slotOff s c r.slot + 72) (bytesOf 8 (r.deferrals * 2 ^ 56 + started % 2 ^ 56))

/-! ### Twins (17 R438-R445) -/

/-- RCV_TWIN.state: 1 paired, 2 single, 3 out, 4 joining, 5 copying. -/
def twinState (s : State) : Nat := regField s regRcvTwin 47 45
def twinPaired (s : State) : Bool := twinState s == 1
def twinStandby (s : State) : Bool := isTwin s && regField s regRcvTwin 44 44 == 1
def twinPartner (s : State) : Nat := regField s regRcvTwin 63 48

/-- A mirror record to the partner (17 R446). -/
def mirrorPacket (s : State) (type ctx : Nat) (ext : List Word) (payload : List Byte) : Packet :=
  let w5 := type * 2 ^ 56 + ctx * 2 ^ 52 + regField s regRcvTwin 44 44 * 2 ^ 51 + bit s.twin.fault * 2 ^ 50
  finishPacket {
    dst := twinPartner s, src := ownChip s, srcCtx := 0, kind := 0x0C, payload := payload,
    ext := [BitVec.ofNat 64 w5, BitVec.ofNat 64 s.twin.lastStep, BitVec.ofNat 64 s.twin.lastReported] ++ ext }

/-- Send a mirror record. -/
def mirrorSend (s : State) (type ctx : Nat) (ext : List Word) (payload : List Byte) : State :=
  let s1 := inject s portSteward (mirrorPacket s type ctx ext payload)
  { s1 with twin := { s1.twin with sentAt := s.clock } }

/-- The twin goes out of the pair; a resynchronisation in hand is abandoned (17 R444, R445, R449, Table 17-9). -/
def twinOut (s : State) : State :=
  if isTwin s then regPut { s with twin := { s.twin with resync := none, joined := false, copied := false } } regRcvTwin 47 45 3 else s

/-- The ranges of a resynchronisation, as data records of up to 4,096 bytes that say where they belong in the head's offset, and then the
state record, whose payload the manual does not lay out (17 R447). -/
def resyncCopy (s : State) (c : Nat) (ranges : List (Nat × Nat)) : State :=
  let send := fun (a : State) (off n : Nat) =>
    let d := memLoad a off n
    let pk := mirrorPacket a 3 c [] d.1
    let s1 := inject a portSteward { pk with offset := off, poison := if d.2.1 || d.2.2 then flitPoison n fun _ => true else 0 }
    { s1 with twin := { s1.twin with sentAt := s.clock } }
  let s1 := ranges.foldl (fun a e => (pieces e.2).foldl (fun b q => send b (e.1 + q.1) q.2) a) s
  let (n, s2) := freshFree s1
  mirrorSend { s2 with twin := { s2.twin with copied := true } } 4 c [] (Config.resyncBody n)

/-- The contribution for step N − 1 begins the copy where the join was answered (17 Table 17-8). -/
def resyncAfter (s : State) (c step : Nat) : State :=
  match s.twin.resync with
  | some (n, ranges) => if step + 1 = n ∧ s.twin.joined ∧ !s.twin.copied then resyncCopy s c ranges else s
  | none => s

/-- At step N's readiness vote a resynchronisation that has not ended is abandoned: the serving twin stays single, the repaired one
joining (17 R447). -/
def resyncVote (s : State) (step : Nat) : State :=
  match s.twin.resync with
  | some (n, _) => if step ≥ n ∧ !s.twin.copied then { s with twin := { s.twin with resync := none, joined := false } } else s
  | none => if twinState s = 5 ∧ !s.twin.copied then regPut s regRcvTwin 47 45 4 else s

/-- Step N starts: both twins are paired, the joined one as standby (17 Table 17-8). -/
def resyncStart (s : State) (step : Nat) : State :=
  if !s.twin.copied then s
  else
    let pair := fun (role : Nat) =>
      regSatAdd (regPut (regPut { s with twin := { s.twin with resync := none, joined := false, copied := false, heard := s.clock } } regRcvTwin 47 45 1)
        regRcvTwin 44 44 role) regRcvTwinCnt 15 0 1
    match s.twin.resync with
    | some (n, _) => if step = n then pair 0 else s
    | none => if twinState s = 5 then pair 1 else s

/-- Roles change places where a swap waits for the step boundary (17 R445). -/
def twinBoundary (s : State) : State :=
  if s.twin.swap then
    let s1 := { s with twin := { s.twin with swap := false } }
    regPut s1 regRcvTwin 44 44 (1 - regField s1 regRcvTwin 44 44)
  else s

/-! ### The end of a step -/

/-- The event of a terminal step whose record asks for it; a standby twin discards its own (15 R390, 17 R445). -/
def stepEvent (s : State) (c : Nat) (r : StepRun) (state fault detail : Nat) : State :=
  if !bitOf r.flags 1 || twinStandby s then s
  else
    let s1 := eventAppend s 1 c r.step state fault detail
    if isTwin s1 then { s1 with twin := { s1.twin with lastReported := r.step } } else s1

/-- A step becomes terminal: its completion word, its event, TIL_STEP zero, and the step is gone from the plan (12 R330, R332). -/
def stepEnd (s : State) (c : Nat) (r : StepRun) (state fault detail : Nat) : State :=
  let s1 := writeWord s c r state fault detail
  let x := planGet s1 c
  let s2 := planSet s1 c { x with steps := x.steps.filter fun q => q.step != r.step }
  let s3 := tilesMod s2 ((stepGangs r).flatMap (gangTiles s2)) fun t => { t with step := 0 }
  twinBoundary (stepEvent s3 c r state fault detail)

/-! ### Votes (12 R328-R330) -/

/-- The Steward's contribution of an 8-byte value for each local member of a group: operation "and" (09 Table 09-2).  Answers the
generation. -/
def contribute (s : State) (g v : Nat) : State × Nat :=
  (((groupRec s g).map (·.members)).getD []).foldl (fun (a, _) m => strumContribute a g m (4, 0, 8) (bytesOf 8 v) false true) (s, 0x10000)

/-- The completion contribution of a step: bit 0 no local fault, bit 1 no abort recorded; a twin sends a step record (12 R330, 17
R446). -/
def contributeDone (s : State) (c : Nat) (r : StepRun) : State :=
  let g := ((ctxRec s c).map (·.doneGroup)).getD 0
  let (s1, n) := contribute s g (bit r.fault.isNone + 2 * bit !r.aborted)
  let s2 := stepPut s1 c { r with phase := .voted, gen := n }
  if isTwin s2 then
    let s3 := mirrorSend { s2 with twin := { s2.twin with lastStep := r.step } } 2 c [] []
    resyncAfter { s3 with twin := { s3.twin with digest := mapDel s3.twin.digest c, fault := false } } c r.step
  else s2

/-- A step fails here before its contribution: the fault is noted and the contribution made with bit 0 clear. -/
def stepFail (s : State) (c : Nat) (r : StepRun) (fault detail : Nat) : State :=
  contributeDone s c { r with fault := r.fault.or (some (fault, detail)) }

/-- Have the gangs of a running step all begun and ended. -/
def gangsEnded (s : State) (r : StepRun) : Bool :=
  (stepGangs r).all fun g => gangClass s r g < r.classes && (gangGet s g).phase == .idle

/-- Has a running step nothing left to do but its completion vote; a paired twin exchanges digests first (17 R443). -/
def finishIfDone (s : State) (c : Nat) : State :=
  match stepIn s c .running with
  | some r => if gangsEnded s r ∧ !twinPaired s then contributeDone s c r else s
  | none => s

/-- Is every gang of a step ready: its tiles loaded, none halted, the context not faulted, its earlier steps ended (12 R328). -/
def stepReady (s : State) (c : Nat) (r : StepRun) : Bool :=
  (stepGangs r).all (fun g =>
      (gangGet s g).phase == .idle && (gangTiles s g).all fun t => (tileGet s t).loaded && (tileGet s t).tstate != .halted && (tileGet s t).tstate != .held)
    && !(planGet s c).faulted
    && ((planGet s c).steps.head?.map (·.step)) == some r.step

/-- First lost chip that a result names; 0xFFFF where none. -/
def lostChip (p : Packet) : Nat := ((strumLostChips p).head?).getD 0xFFFF

/-- The value a complete vote carries. -/
def voteValue (payload : List Byte) : Nat := numAt payload 0 8

/-- The readiness result of a step (12 Table 12-14). -/
def readyDecide (s : State) (c : Nat) (r : StepRun) (outcome v lost : Nat) : State :=
  if outcome ≠ 0 then stepEnd s c r 4 0x06 lost
  else if !bitOf v 1 then stepEnd s c r 3 0 0
  else if bitOf v 0 then writeWord (stepPut s c { r with phase := .ready }) c r 1 0 0
  else if r.deferrals ≥ maxDefer s then stepEnd s c r 4 0x03 0
  else
    let p := ((ctxRec s c).map (·.slotNs)).getD 0
    let q := { r with start := r.start + p, deadline := r.deadline + p, deferrals := r.deferrals + 1, phase := .accepted, woken := false, ramp := false }
    let s1 := writeReport (stepPut s c q) c q 0
    let x := planGet s1 c
    logEvent (planSet s1 c { x with deferrals := min 0xFFFF (x.deferrals + 1) }) 0x90 0x1008 2 c [c, r.step, q.deferrals]

/-- The completion result of a step (12 R330). -/
def doneDecide (s : State) (c : Nat) (r : StepRun) (outcome v lost : Nat) : State :=
  if outcome = 0 ∧ bitOf v 0 ∧ bitOf v 1 then stepEnd s c r 2 0 0
  else if outcome = 0 ∧ bitOf v 0 then stepEnd s c r 3 0 0
  else
    match r.fault with
    | some (f, d) => stepEnd s c r 4 f d
    | none => stepEnd s c r 4 0x06 (if outcome = 1 then lost else 0xFFFF)

/-- A vote's result for a group and generation reaches the steps that wait for it. -/
def voteResult (s : State) (g num outcome v lost : Nat) : State :=
  (definedCtxs s).foldl (fun a c =>
    match ctxRec a c with
    | none => a
    | some k =>
      match stepFind a c fun r => r.gen == num && ((r.phase == .voting && k.readyGroup == g) || (r.phase == .voted && k.doneGroup == g)) with
      | some r => if r.phase = .voting then readyDecide a c r outcome v lost else doneDecide a c r outcome v lost
      | none => a) s

/-! ### Twin digests (17 R443-R445) -/

/-- The partner is lost: the survivor is single and reporting; one that was standby appends the events of the steps after the partner's
last reported one, as their records in the rings show (17 R445). -/
def partnerLost (s : State) : State :=
  let was := twinStandby s
  let s1 := regSatAdd (regPut (regPut s regRcvTwin 47 45 2) regRcvTwin 44 44 0) regRcvTwinCnt 47 32 1
  if !was then s1
  else
    (definedCtxs s1).foldl (fun a c =>
      ((List.range (ringRecords a c)).foldl (fun (b : State) i =>
        let bs := (memLoad b (slotOff b c (((planGet a c).head + i) % ringRecords a c)) 128).1
        let step := numAt bs 8 8
        let w := numAt bs 64 8
        if numAt bs 0 1 = 2 ∧ bitsOf w 63 60 ≥ 2 ∧ bitsOf w 63 60 ≤ 4 ∧ step > b.twin.peerReported ∧ step ≤ b.twin.lastStep ∧ bitOf (numAt bs 6 1) 1 then
          let b1 := eventAppend b 1 c step (bitsOf w 63 60) (bitsOf w 55 48) (bitsOf w 31 0)
          { b1 with twin := { b1.twin with lastReported := max b1.twin.lastReported step } }
        else b) a)) s1

/-- The outcome of the digest exchange of a step (17 Table 17-7). -/
def digestDecide (s : State) (c : Nat) (r : StepRun) (outcome v : Nat) : State :=
  let s0 := regPut s regRcvTwin 31 0 r.step
  if outcome = 1 then contributeDone (partnerLost s0) c r
  else if outcome = 0 ∧ v = 0 then contributeDone s0 c r
  else
    let s1 := logEvent (regSatAdd s0 regRcvTwinCnt 63 48 1) 0x90 0x7005 4 c [twinPartner s, r.step, Config.twinCause 2]
    let mine := s.twin.fault
    let peer := s.twin.peerFault
    let s2 :=
      if mine ∧ !peer then twinOut (regPut s1 regRcvTwin 43 43 1)
      else if peer ∧ !mine then regPut (partnerLost s1) regRcvTwin 42 42 1
      else regPut (regPut s1 regRcvTwin 43 43 1) regRcvTwin 42 42 1
    stepFail s2 c r 0x0A 0

/-- The twin group's result for a generation reaches the step that waits for it. -/
def digestResult (s : State) (num outcome v : Nat) : State :=
  (definedCtxs s).foldl (fun a c =>
    match stepFind a c fun r => r.phase == .running && r.digestGen == some num with
    | some r => digestDecide a c r outcome v
    | none => a) s

/-! ### Results (09 R248) -/

/-- A strum result at this package: delivered to members and passed to children, then to the votes, guards and digests that wait. -/
def resultArrive (s : State) (p : Packet) : State :=
  match strumResult s p with
  | none => if strumMalformed s p then strumDiscard s p else resultStray s p
  | some d =>
    if d.steward.isEmpty then d.state
    else if d.group = twinGroup then digestResult d.state d.gen d.outcome (numAt d.payload 0 16)
    else
      let s1 := d.steward.foldl (fun a m => collGuardResult a d.group m d.outcome d.payload) d.state
      voteResult s1 d.group d.gen d.outcome (voteValue d.payload) (lostChip p)

/-- A member's deadline D passes: a vote fails, a guard's collective ends 0x9 (09 R247, Table 09-8, 12 Table 12-14). -/
def deadlinePass (s : State) (g m : Nat) : State :=
  let gen := ((groupGet s g).tickets.find? fun t => t.member == m && !t.expired && t.deadline ≤ s.clock).map (·.gen)
  let (s1, steward) := strumDeadline s g m
  if !steward then s1
  else if g = twinGroup then digestResult s1 (gen.getD 0) 1 0
  else
    let s2 := (setsOfGuard s1 g).foldl (fun a n => if (runGet a n m).isSome then collEnd a n m 9 else a) s1
    voteResult s2 g (gen.getD 0x10000) 3 0 0xFFFF

end Sys2Proof.Machine
end

