-- ==== Sys2Proof/Machine/Records.lean ====
section
/-! DEFINITION. Who asks the package for something and how it answers: Plovco requests, and the key records that host and Plovco carry (15
R396-R398, R408, R409). -/

namespace Sys2Proof.Machine

/-! ### Plovco requests (15 R396-R398, R408) -/

/-- The session of a number. -/
def sessionFind (s : State) (id : Nat) : Option Session := s.mgmt.sessions.find? fun x => x.id == id

/-- Change the management state. -/
def mgmt (s : State) (f : MgmtSt → MgmtSt) : State := { s with mgmt := f s.mgmt }

/-- Traffic on a session: its heartbeat begins anew. -/
def sessionTouch (s : State) (id : Nat) : State :=
  mgmt s fun m => { m with sessions := m.sessions.map fun x => if x.id = id then { x with last := s.clock } else x }

/-- A frame is dropped without answer and counted (15 R396). -/
def dropFrame (s : State) : State := regAdd s regStranger 1

/-- Roles that may send a command (15 Table 15-8). -/
def roleMay (cmd : Nat) (r : Role) : Bool :=
  let tray := [0x10, 0x11, 0x12, 0x13]
  let both := [0x14, 0x20, 0x43]
  let operator := [0x21, 0x22, 0x24, 0x30, 0x31, 0x41, 0x42]
  let any := [0x01, 0x02, 0x03, 0x23, 0x32, 0x40]
  if any.contains cmd then true
  else match r with
    | .tray => (tray ++ both).contains cmd
    | .operator => (operator ++ both).contains cmd
    | .host => false

/-- Commands that a package without a valid variant Warrant still takes (00 R9). -/
def barePermits (cmd : Nat) : Bool := [0x01, 0x02, 0x03, 0x20, 0x30, 0x31].contains cmd

/-- A reply within a request's session. -/
def reply (s : State) (r : Request) (cmd status : Nat) (body : List Byte) : State := emit s (.plovco r.session cmd status r.seq body)

/-- A request within a session: dropped where no such session stands, not permitted where its role may not send it (status 0x03),
malformed where its body is not laid out as Table 15-14 gives (status 0x01); else f answers it.  A stranger may send a custodian record
(15 R399).  While the service core is away it
waits (15 R407; log entry 41). -/
def plovcoRequest (s : State) (r : Request) (cmd : Nat) (formed : List Byte → Bool) (f : State → State) : State :=
  if !stewardRuns s then s
  else
    let who := if r.session = 0 ∧ cmd = 0x40 then some none else (sessionFind s r.session).map some
    match who with
    | none => dropFrame s
    | some x =>
      let s1 := sessionTouch s r.session
      if !((x.map fun y => roleMay cmd y.role).getD true) || (!variantOn s && !barePermits cmd) then reply s1 r cmd 3 []
      else if !formed r.body then reply s1 r cmd 1 []
      else f s1

/-- A body of n bytes with zeros from byte z on. -/
def bodyOf' (n z : Nat) (bs : List Byte) : Bool := bs.length == n && allZero (bs.drop z)

/-- An 8-byte register image. -/
def regBytes (w : Word) : List Byte := bytesOf 8 w.toNat

/-! ### Key records (15 R408, R409) -/

/-- SEC_STATUS with a state and a reason (15 Table 15-9): 2 done, 3 refused. -/
def secStatus (s : State) (state reason : Nat) : State := regSet s regSecStatus (BitVec.ofNat 64 (state * 2 ^ 62 + reason * 2 ^ 56))

/-- Is a piece of a record laid out as 15 Table 15-14 gives. -/
def pieceFormed (bs : List Byte) : Bool :=
  4 ≤ bs.length && bs.length ≤ 1028 && numAt bs 2 2 ≤ 4096 && numAt bs 0 2 + (bs.length - 4) ≤ numAt bs 2 2 && 0 < numAt bs 2 2

/-- The bytes taken so far with a piece's put in. -/
def pieceTake (m : SMap Byte) (off : Nat) : List Byte → SMap Byte
  | [] => m
  | b :: bs => pieceTake (mapPut m off b) (off + 1) bs

/-- A piece arrives: the record where the piece completes it, and the pieces held. -/
def pieceArrive (s : State) (r : Request) (cmd : Nat) : Option (List Byte) × State :=
  let key := 65536 * r.session + cmd
  let total := numAt r.body 2 2
  let held := (mapFind s.mgmt.parts key).bind fun q => if q.1 = total then some q.2 else none
  let m := pieceTake (held.getD []) (numAt r.body 0 2) (r.body.drop 4)
  if m.length = total then (some (m.map (·.2)), mgmt s fun x => { x with parts := mapDel x.parts key })
  else (none, mgmt s fun x => { x with parts := mapPut x.parts key (total, m) })

/-- The record that SEC_RECORD names. -/
def stagedRecord (s : State) : List Byte := (memLoad s (regField s regSecRecord 47 0) (regField s regSecRecord 63 48)).1

/-- Is what SEC_RECORD names a record in memory: at most 4,096 bytes, 64-byte aligned, below the Steward reserve, clean. -/
def stagedOk (s : State) : Bool :=
  let a := regField s regSecRecord 47 0
  let n := regField s regSecRecord 63 48
  n ≤ 4096 && a % 64 == 0 && a + n ≤ reserveBase s && !(memLoad s a n).2.1 && !(memLoad s a n).2.2

/-- Judge a record: take answers the state it leaves, or the SEC_STATUS reason it is refused with (15 R409). -/
def recordTake (s : State) (bs : List Byte) (take : State → List Byte → Except Nat State) : State :=
  match take s bs with
  | .ok t => secStatus t 2 0
  | .error e => secStatus s 3 e

/-- SEC_CMD is written for an operation: the record that SEC_RECORD names is judged. -/
def recordJudge (op : Nat) (take : State → List Byte → Except Nat State) (a : State) : State :=
  if !variantOn a && op != 5 then secStatus a 3 4
  else
    let b := linesReadEffects a (linesOf (regField a regSecRecord 47 0) (regField a regSecRecord 63 48))
    if stagedOk a then recordTake b (stagedRecord a) take else secStatus a 3 5

/-- A record from the host or in pieces over Plovco, for a SEC_CMD operation and a Plovco command: taken when complete, and answered
with SEC_STATUS.  A package without a variant Warrant takes Warrants only (00 R9; log entry 42). -/
def recordRequest (o : Origin) (op cmd : Nat) (take : State → List Byte → Except Nat State) (s : State) : State :=
  match o with
  | .host => hostWrite s regSecCmd (BitVec.ofNat 64 op) (recordJudge op take)
  | .plovco r =>
    plovcoRequest s r cmd pieceFormed fun a =>
      let p := pieceArrive a r cmd
      match p.1 with
      | none => reply p.2 r cmd 0 (regBytes (regGet p.2 regSecStatus))
      | some bs =>
        let b := recordTake p.2 bs take
        reply b r cmd (if regField b regSecStatus 63 62 = 3 then 4 else 0) (regBytes (regGet b regSecStatus))

/-- The digest of the package's Identity Record, which records name (13 R343). -/
def idDigest (s : State) : List Byte := sha384 s.flash.idRecord

end Sys2Proof.Machine
end

