-- ==== Sys2Proof/Machine/Plan.lean ====
section
/-! DEFINITION. The plan scan, the launch of steps, their results and ends, and the delivery of tile images (12 R323-R333, 03 R111, 17 R427). -/

namespace Sys2Proof.Machine

/-! ### Tile images (12 R323, R324) -/

/-- Dies whose gangs use an image. -/
def imageDies (s : State) (image : Nat) : List Nat :=
  (List.range 4).filter fun d => (allGangs s).any fun g => ((gangRec s g).map fun r => r.die == d && r.image == image).getD false

/-- An image-block packet from the Steward to the tile side of a die (12 R323). -/
def imagePacket (s : State) (die image i : Nat) (m : ImageRec) : Packet :=
  let digest := bytesOf 48 (at' 0 m.digests i)
  finishPacket {
    dst := ownChip s, src := ownChip s, kind := 0x0A, dstTile := die * tilesPerDie s, payload := at' [] m.blocks i
    ext := BitVec.ofNat 64 (image * 2 ^ 48 + i * 2 ^ 32 + imageBlocks m * 2 ^ 16)
      :: (List.range 6).map fun w => BitVec.ofNat 64 (numAt digest (8 * w) 8) }

/-- IMAGE_DELIVERY: every block of every image is sent once to each die whose gangs use it. -/
def execImageDelivery (s : State) : Host.Outcome State Fault Refusal :=
  match s.plan.pattern with
  | none => .next s
  | some p =>
    if s.plan.imagesSent then .next s
    else
      let s1 := (p.images.zip (List.range p.images.length)).foldl (fun a (m, n) =>
        (imageDies a n).foldl (fun b d => (List.range (imageBlocks m)).foldl (fun z i => inject z portSteward (imagePacket z d n i m)) b) a) s
      .next (imageCount { s1 with plan := { s1.plan with imagesSent := true } })

/-- Does a tile belong to a gang with an image, on a die. -/
def tileUses (s : State) (die image t : Nat) : Bool :=
  dieOfTile s t == die && ((imageOf s t).map fun q => q.1 == image).getD false

/-- IMAGE_BLOCK_ARRIVAL: every tile of the die with the image stores a whole, clean block whose digest is the one in the head. -/
def execImageBlockArrival (p : Packet) (s : State) : Host.Outcome State Fault Refusal :=
  let image := bitsOf (extWord p 0) 63 48
  let i := bitsOf (extWord p 0) 47 32
  let digest := (List.range 6).flatMap fun w => bytesOf 8 (extWord p (1 + w))
  if p.kind ≠ 0x0A ∨ p.cut ∨ payloadPoisoned p ∨ sha384 p.payload ≠ digest then .next s
  else
    .next (((allTiles s).filter (tileUses s (dieOfTile s p.dstTile) image)).foldl (fun a t =>
      match imageOf a t with
      | some (_, m) => if i < imageBlocks m then tileMod a t (blockStore m i p.payload) else a
      | none => a) s)

/-- Blocks of an image that a tile lacks. -/
def missingBlocks (m : ImageRec) (x : Tile) : List Nat := (List.range (imageBlocks m)).filter fun i => !x.blocks.contains i

/-- Is a block of the home copy what its digest says. -/
def blockSound (m : ImageRec) (i : Nat) : Bool := ofBytes (sha384 (at' [] m.blocks i)) == at' 0 m.digests i

/-- IMAGE_BLOCK_PULL: the multicast pass over, a tile fetches its missing blocks from the home copy, all but those that failed three
attempts, and reports its image digest; lost: those blocks. -/
def execImageBlockPull (tile : Nat) (lost : List Nat) (s : State) : Host.Outcome State Fault Refusal :=
  match imageOf s tile with
  | none => .next s
  | some (image, m) =>
    if !s.plan.imagesSent ∨ (tileGet s tile).loaded then .next s
    else
      let got := (missingBlocks m (tileGet s tile)).filter fun i => !lost.contains i && blockSound m i
      let s1 := tileMod s tile fun x => got.foldl (fun y i => blockStore m i (at' [] m.blocks i) y) x
      let s2 := regSatAdd s1 regPlnImage 15 0 got.length
      let left := missingBlocks m (tileGet s2 tile)
      if left.isEmpty ∧ ofBytes (sha384 (m.blocks.flatMap id)) = m.digest then
        .next (imageCount (tileMod s2 tile fun x => { x with loaded := true }))
      else
        let s3 := regPut s2 regPlnImage 31 16 (min tile (regField s2 regPlnImage 31 16))
        .next (logEvent s3 (0x20 + dieOfTile s tile) 0x1007 3 (ctxOfTile s tile) [tile, image, left.length])

/-! ### The scan (12 R325, R326) -/

/-- Byte offset of the first field of a record that breaks 12 Table 12-11. -/
def badField (ctx : Nat) (bs : List Byte) : Option Nat :=
  let checks : List (Bool × Nat) :=
    [ (numAt bs 1 1 == 1, 1), (numAt bs 2 1 == ctx, 2), (numAt bs 3 1 == 0xFF || numAt bs 3 1 < 8, 3), (numAt bs 6 1 < 4, 6), (numAt bs 7 1 == 0, 7),
      (numAt bs 16 8 % 16 == 0, 16), (numAt bs 16 8 < numAt bs 24 8, 24),
      (numAt bs 32 8 != 0 || numAt bs 40 2 == 0xFFFF || numAt bs 40 2 < 1536, 40), (numAt bs 42 6 == 0, 42), (numAt bs 64 8 == 0, 64),
      (allZero (slice bs 80 48), 80) ]
  (checks.find? fun c => !c.1).map (·.2)

/-- The entry of each gang of a context, in gang-number order; none where the entry table is unreadable or out of range. -/
def recordEntries (s : State) (c : Nat) (bs : List Byte) : Option (List (Nat × Nat)) :=
  let gs := gangsOfCtx s c
  let table := numAt bs 32 8
  if table = 0 then some (gs.map fun g => (g, numAt bs 40 2))
  else
    let n := 2 * gs.length
    let d := memLoad s table n
    let es := (recsOf 2 d.1).map ofBytes
    if table + n > spaceBytes s ∨ d.2.1 ∨ d.2.2 ∨ !es.all (fun e => e == 0xFFFF || e < 1536) then none else some (gs.zip es)

/-- Why a record is refused: reason and detail (12 Table 12-12). -/
def recordRefusal (s : State) (c : Nat) (poisoned : Bool) (bs : List Byte) : Option (Nat × Nat) :=
  if poisoned then some (0x23, 0)
  else if numAt bs 2 1 < 16 ∧ (ctxRec s (numAt bs 2 1)).isNone then some (0x24, 0)
  else
    match badField c bs with
    | some i => some (0x22, i)
    | none =>
      if numAt bs 4 2 < 40 ∨ 1000 * numAt bs 4 2 > planLeadNs s then some (0x25, 0)
      else if ((planGet s c).last.map fun n => decide (numAt bs 8 8 ≤ n)).getD false then some (0x21, 0)
      else if (recordEntries s c bs).isNone then some (0x26, 0)
      else if numAt bs 16 8 < droneNs s + planLeadNs s then some (0x20, 0)
      else none

/-- Accept a record: a step pending start. -/
def acceptRecord (s : State) (c slot : Nat) (bs : List Byte) : State :=
  let x := planGet s c
  let r : StepRun :=
    { slot := slot, step := numAt bs 8 8, start := numAt bs 16 8, deadline := numAt bs 24 8, stagger := numAt bs 3 1, wakeUs := numAt bs 4 2
      flags := numAt bs 6 1, entries := (recordEntries s c bs).getD [], arg0 := numAt bs 48 8, arg1 := numAt bs 56 8, phase := .accepted
      deferrals := 0, gen := 0x10000, aborted := false, fault := none, woken := false, ramp := false, classes := 0, digestGen := none }
  memStoreClean (planSet s c { x with last := some r.step, steps := x.steps ++ [r] }) (slotOff s c slot) [2]

/-- Refuse a record: its valid byte and completion word say so. -/
def refuseRecord (s : State) (c slot reason detail : Nat) : State :=
  let x := planGet s c
  let s1 := planSet s c { x with refused := (x.refused + 1) % 2 ^ 32 }
  memStoreClean (memStoreClean s1 (slotOff s c slot + 64) (bytesOf 8 (5 * 2 ^ 60 + reason * 2 ^ 48 + detail))) (slotOff s c slot) [3]

/-- Is a record left alone because its start lies beyond the orphan horizon (15 R392). -/
def beyondHorizon (s : State) (c start : Nat) : Bool :=
  let h := (regGet s regOrphanHorizon).toNat
  (s.host.lease == .orphan || isOrphaned s c) && h != 0 && start > h

/-- The scan of one context's head slot. -/
def scanCtx (s : State) (c : Nat) : State :=
  if ctxInReset s c then s
  else
    let slot := (planGet s c).head
    let off := slotOff s c slot
    let d := memLoad s off 128
    let s1 := linesReadEffects s (linesOf off 128)
    if numAt d.1 0 1 ≠ 1 ∨ beyondHorizon s c (numAt d.1 16 8) then s1
    else
      let s2 := match recordRefusal s1 c (d.2.1 || d.2.2) d.1 with
        | some (reason, detail) => refuseRecord s1 c slot reason detail
        | none => acceptRecord s1 c slot d.1
      planSet s2 c { planGet s2 c with head := (slot + 1) % ringRecords s c }

/-- The scan of every ring. -/
def planScan (s : State) : State :=
  let s1 := (definedCtxs s).foldl scanCtx s
  { s1 with plan := { s1.plan with scanned := s.clock } }

/-- PLAN_SCAN: every 2 µs, once the package is ready, the Steward reads the slot at each context's head. -/
def execPlanScan (s : State) : Host.Outcome State Fault Refusal :=
  if isReady s ∧ stewardRuns s ∧ s.clock ≥ s.plan.scanned + 2000 then .next (planScan s) else .next s

/-! ### Launch (12 R327-R329) -/

/-- STEP_WAKE: at E less the wake lead the tiles of the step that are off begin to wake. -/
def execStepWake (ctx : Nat) (s : State) : Host.Outcome State Fault Refusal :=
  match stepFind s ctx fun r => !r.woken && effStart s r ≤ droneNs s + 1000 * r.wakeUs with
  | some r =>
    let s1 := stepPut s ctx { r with woken := true }
    .next (tilesMod s1 ((stepGangs r).flatMap (gangTiles s1)) fun x => if x.tstate = .off then { x with tstate := .waking } else x)
  | none => .next s

/-- TILE_PLL_LOCK: a waking tile's PLL locks. -/
def execTilePllLock (tile : Nat) (s : State) : Host.Outcome State Fault Refusal :=
  .next (tileMod s tile fun x => if x.tstate = .waking then { x with tstate := .ready } else x)

/-- READINESS_VOTE: at S less the readiness lead the package contributes for the context's next step. -/
def execReadinessVote (ctx : Nat) (s : State) : Host.Outcome State Fault Refusal :=
  match stepIn s ctx .accepted with
  | some r =>
    if r.start > droneNs s + readyLeadNs s then .next s
    else
      let g := ((ctxRec s ctx).map (·.readyGroup)).getD 0
      let (s1, n) := contribute (resyncVote s r.step) g (bit (stepReady s ctx r) + 2 * bit !r.aborted)
      .next (stepPut s1 ctx { r with phase := .voting, gen := n })
  | none => .next s

/-- READINESS_RESULT_TIMEOUT: no result by S less 1 µs counts as member-lost. -/
def execReadinessResultTimeout (ctx : Nat) (s : State) : Host.Outcome State Fault Refusal :=
  match stepIn s ctx .voting with
  | some r => if droneNs s + 1000 ≥ r.start then .next (readyDecide s ctx r 1 0 0xFFFF) else .next s
  | none => .next s

/-- RAMP_FILL_START: a flagged step's matrix units run on zero operands from E less the ramp-fill length; nothing but power changes. -/
def execRampFillStart (ctx : Nat) (s : State) : Host.Outcome State Fault Refusal :=
  match stepIn s ctx .ready with
  | some r =>
    let ramp := (s.plan.pattern.map (·.rampNs)).getD 0
    if bitOf r.flags 0 ∧ !r.ramp ∧ droneNs s + ramp ≥ effStart s r then .next (stepPut s ctx { r with ramp := true }) else .next s
  | none => .next s

/-- A gang begins a step: at its entry, with s1 and s2 loaded and TIL_STEP written; every other register keeps its value (12 R325). -/
def gangBegin (s : State) (r : StepRun) (g entry : Nat) : State :=
  let s1 := tilesMod s (gangTiles s g) fun x =>
    { x with
      scal := mapSet (0, false) (mapSet (0, false) x.scal 1 (BitVec.ofNat 64 r.arg0, false)) 2 (BitVec.ofNat 64 r.arg1, false)
      step := BitVec.ofNat 64 r.step, tstate := .running }
  gangSet s1 g { phase := .running, pc := entry }

/-- The gangs of a stagger class begin. -/
def classBegin (s : State) (c : Nat) (r : StepRun) (k : Nat) : State :=
  let s1 := (r.entries.filter fun e => e.2 != 0xFFFF && gangClass s r e.1 == k).foldl (fun a e => gangBegin a r e.1 e.2) s
  finishIfDone (stepPut s1 c { r with classes := k + 1 }) c

/-- The first tile of a step, in gang-number order, whose PLL has not locked. -/
def unlockedTile (s : State) (r : StepRun) : Option Nat := ((stepGangs r).flatMap (gangTiles s)).find? fun t => (tileGet s t).tstate != .ready

/-- At the start of a step every tile of its context has idle ticket slots and clear flags (03 R98, Table 03-15); what an aborted step left
outstanding reports no more (log entry 40). -/
def stepClear (s : State) (c : Nat) : State := tilesMod s (tilesOfCtx s c) fun x => { x with tick := [], ops := [], flags := 0 }

/-- STEP_START: at E class 0 begins; a tile whose PLL has not locked fails the step before any gang issues and asks for its reset (17
Table 17-1, 0x06); a step with an abort recorded is stopped as it starts. -/
def execStepStart (ctx : Nat) (s : State) : Host.Outcome State Fault Refusal :=
  match stepIn s ctx .ready with
  | some r =>
    if droneNs s < effStart s r then .next s
    else
      match unlockedTile s r with
      | some t =>
        let s1 := stepFail s ctx r 0x09 (t * 2 ^ 16)
        .next (raiseTrigger s1 ⟨2, false, t, 0x06, s.clock, 0, 0x20 + dieOfTile s t, t * 2 ^ 16⟩ (some ctx))
      | none =>
        if r.aborted then .next (contributeDone s ctx r)
        else
          let q := { r with phase := .running }
          .next (classBegin (resyncStart (writeReport (stepClear (stepPut s ctx q) ctx) ctx q (droneNs s)) q.step) ctx q 0)
  | none => .next s

/-- STAGGER_CLASS_START: at each 250 ns step after E the next class begins. -/
def execStaggerClassStart (ctx : Nat) (s : State) : Host.Outcome State Fault Refusal :=
  match stepIn s ctx .running with
  | some r => if r.classes < 8 ∧ droneNs s ≥ effStart s r + 250 * r.classes then .next (classBegin s ctx r r.classes) else .next s
  | none => .next s

/-! ### The end of a step -/

/-- Does any ticket of a gang's members still stand pending. -/
def gangPending (s : State) (g : Nat) : Bool := (gangTiles s g).any fun t => (tileGet s t).tick.any fun e => e.2 == 1

/-- GANG_END_REPORT: a gang that took END, with no ticket pending, is ready and reports; after the last one the package contributes. -/
def execGangEndReport (g : Nat) (s : State) : Host.Outcome State Fault Refusal :=
  if (gangGet s g).phase = .draining ∧ !gangPending s g then
    let s1 := tilesMod s (gangTiles s g) fun x => { flushTile (gangGet s g).cycle x with tstate := .ready }
    .next (finishIfDone (gangSet s1 g {}) (gangCtx s g))
  else .next s

/-- Stop a context's gangs where they stand, held for its reset (03 R111, 17 R427). -/
def freezeGangs (s : State) (c : Nat) : State :=
  (gangsOfCtx s c).foldl (fun a g =>
    let x := gangGet a g
    if x.phase = .running ∨ x.phase = .draining then
      gangSet (tilesMod a (gangTiles a g) fun t => { t with tstate := .held }) g { x with phase := .halted }
    else a) s

/-- The tile and code of the exception that halted a gang (03 Table 03-13): the member of the recorded gang index. -/
def gangExc (s : State) (g : Nat) : Nat × Nat :=
  let e := (tileGet s (((gangTiles s g).head?).getD 0)).exc
  (at' 0 (gangTiles s g) (fieldOf e 47 44), fieldOf e 57 52)

/-- EXCEPTION_NOTIFICATION: the Steward halts the context's other gangs, the step fails with the exception in its word, and the context
reset is asked for. -/
def execExceptionNotification (g : Nat) (s : State) : Host.Outcome State Fault Refusal :=
  let c := gangCtx s g
  let (t, code) := gangExc s g
  let detail := t * 2 ^ 16 + code
  match stepIn s c .running with
  | some r =>
    if (gangGet s g).phase = .halted ∧ code ≠ 0 then
      let s1 := stepFail (freezeGangs s c) c r 0x01 detail
      .next (raiseTrigger s1 ⟨1, false, c, 0x02, s.clock, 0x01, 0x20 + dieOfTile s t, detail⟩ (some c))
    else .next s
  | none => .next s

/-- STEP_DEADLINE: the Drone passes the deadline of a running step with no completion contribution made: the gangs freeze, bit 0 is
contributed clear, and trigger 0x01 is raised. -/
def execStepDeadline (ctx : Nat) (s : State) : Host.Outcome State Fault Refusal :=
  match stepIn s ctx .running with
  | some r =>
    if droneNs s ≥ r.deadline then
      let s1 := stepFail (freezeGangs s ctx) ctx r 0x02 0
      .next (raiseTrigger s1 ⟨1, false, ctx, 0x01, s.clock, 0x02, 1, 0⟩ (some ctx))
    else .next s
  | none => .next s

/-! ### Aborts (12 R331, 09 R264) -/

/-- Has a member's collective no packet of its context in the router: it stands at a chunk boundary. -/
def atBoundary (s : State) (c : Nat) : Bool :=
  (rangeFrom 18 8).all fun port => (List.range 6).all fun v => (inGet s port v).worms.all fun w =>
    !(w.head.kind == 0x09 && w.head.src == ownChip s && w.head.srcCtx == c)

/-- A gang's collectives end where they stand; its COLL tickets are idle again (09 R265; log entry 40). -/
def collDrop (s : State) (g : Nat) : State :=
  let s1 := tilesMod s (gangTiles s g) fun x =>
    x.ops.foldl (fun y e => match e.2 with
      | .coll _ _ => endTicket y e.1 0
      | _ => y) x
  { s1 with coll := {
      runs := s1.coll.runs.filter fun q => q.gang != g
      waiting := s1.coll.waiting.filter fun w => w.2.1 != g } }

/-- The strum units declare gangs lost in every open generation but those of the context's votes, which the Steward makes (09 Table
09-5; log entry 40). -/
def abortLose (s : State) (c : Nat) (gs : List Nat) : State :=
  match s.plan.pattern, ctxRec s c with
  | some p, some k =>
    p.groups.foldl (fun a e => if e.1 = k.readyGroup ∨ e.1 = k.doneGroup then a else groupLose a e.1 e.2 gs.contains) s
  | _, _ => s

/-- A gang of an aborted step stops and is ready for the next. -/
def gangStop (s : State) (g : Nat) : State :=
  let x := gangGet s g
  let s1 := tilesMod s (gangTiles s g) fun t => { flushTile x.cycle t with tstate := if t.tstate = .running then .ready else t.tstate }
  gangSet (collDrop s1 g) g {}

/-- The stop of an aborted step takes hold: its gangs stop, their members are lost, and the package contributes. -/
def abortStop (s : State) (c : Nat) (r : StepRun) : State :=
  let s1 := (stepGangs r).foldl gangStop s
  let s2 := abortLose s1 c (stepGangs r)
  contributeDone s2 c { r with aborted := true }

/-- A running gang of a step that is stopping issues no further bundle. -/
def drainGang (s : State) (g : Nat) : State :=
  let x := gangGet s g
  if x.phase = .running then gangSet s g { x with phase := .draining } else s

/-- Stop a running step: at once where its collectives stand at a chunk boundary, else within their sets' bounds (09 R264). -/
def abortRunning (s : State) (c : Nat) (r : StepRun) : State :=
  let mine := fun (q : CollRun) => (stepGangs r).contains q.gang
  if atBoundary s c ∨ !s.coll.runs.any mine then abortStop s c r
  else
    let gs := (stepGangs r).foldl drainGang s
    let stop := fun (q : CollRun) =>
      if mine q then { q with stopBy := some (s.clock + 1000 * ((setRec s q.set).map (·.preemptUs)).getD 100) } else q
    { gs with coll := { gs.coll with runs := gs.coll.runs.map stop } }

/-- Was a step of the context accepted whose slot still holds it (12 R331). -/
def stepKnown (s : State) (c step : Nat) : Bool :=
  (List.range (ringRecords s c)).any fun i =>
    let bs := (memLoad s (slotOff s c i) 16).1
    numAt bs 0 1 == 2 && numAt bs 8 8 == step

/-- Write PLN_ABORT_STATUS: 1 recorded, 2 already done, 3 not found. -/
def abortStatus (s : State) (c result : Nat) : State := regSet s regPlnAbortStatus (BitVec.ofNat 64 (result * 2 ^ 62 + c))

/-- Record an abort of a step of a context. -/
def stepAbort (c step : Nat) (s : State) : State :=
  match stepFind s c fun r => r.step == step with
  | some r =>
    if r.phase = .voted then abortStatus s c 2
    else
      let q := { r with aborted := true }
      let s1 := abortStatus (stepPut s c q) c 1
      if r.phase = .running then abortRunning s1 c q else s1
  | none => abortStatus s c (if (ctxRec s c).isSome && stepKnown s c step then 2 else 3)

/-- STEP_ABORT: PLN_ABORT_CMD.go is written for a context; the step is PLN_ABORT_STEP's. -/
def execStepAbort (ctx : Nat) (s : State) : Host.Outcome State Fault Refusal :=
  .next (hostWrite s regPlnAbortCmd (BitVec.ofNat 64 (16 + ctx % 16)) fun a => stepAbort (ctx % 16) (regGet a regPlnAbortStep).toNat a)

/-- PREEMPTION_BOUND_EXPIRY: a stop that waited for a chunk boundary proceeds; at the bound the packet in progress is cut (09 R264). -/
def execPreemptionBoundExpiry (set gang : Nat) (s : State) : Host.Outcome State Fault Refusal :=
  match (runGet s set gang).bind (·.stopBy) with
  | some t =>
    let c := gangCtx s gang
    let due := s.clock ≥ t
    if !due ∧ !atBoundary s c then .next s
    else
      let s1 := if atBoundary s c then s else routerCtxReset (regAdd s regColPreemptCut 1) c
      match stepFind s1 c fun r => r.phase == .running && r.aborted with
      | some r => .next (abortStop s1 c r)
      | none => .next (collDrop s1 gang)
  | none => .next s

/-! ### Results -/

/-- STRUM_RESULT_ARRIVAL: passed to the children and delivered to the members whose tickets wait for it. -/
def execStrumResultArrival (p : Packet) (s : State) : Host.Outcome State Fault Refusal :=
  if p.kind ≠ 0x08 ∨ p.cut ∨ strumType p ≠ 2 then .next s else .next (resultArrive s p)

/-- STRUM_DEADLINE: a member's deadline D passes with no result. -/
def execStrumDeadline (group member : Nat) (s : State) : Host.Outcome State Fault Refusal := .next (deadlinePass s group member)

end Sys2Proof.Machine
end

