-- ==== Sys2Proof/Machine/Thermal.lean ====
section
/-! DEFINITION. Temperature and coolant: sensors, hot-spot duties, the critical floor and trip, R_th and coolant loss
(14 R374-R380).  Site 16 × d + s is site s of compute die d, site 64 + n the base die of stack n; temperatures are in 1/16 °C. -/

namespace Sys2Proof.Machine

def siteGet (s : State) (i : Nat) : Site := mapGet {} s.power.sites i
def siteMod (s : State) (i : Nat) (f : Site → Site) : State := pwr s fun p => { p with sites := mapSet {} p.sites i (f (mapGet {} p.sites i)) }

/-- Every site. -/
def allSites : List Nat := List.range 72

/-- A sensor takes a reading; out of range, or still for 10 s while its partner moved by more than 2 K, it is dropped (14 R374). -/
def sensorTake (now : Nat) (v partner : Int) (x : Sensor) : Sensor :=
  if x.dropped then x
  else if v < -20 * 16 ∨ v > 150 * 16 then { x with dropped := true }
  else if v ≠ x.value then ⟨v, now, partner, false⟩
  else if now ≥ x.since + 10000000000 ∧ (partner - x.partner).natAbs > 32 then { x with dropped := true }
  else x

/-- Neighbouring sites: the four around a site of a die; for a base die the sites of its compute die (log entry 37). -/
def siteNeighbours (i : Nat) : List Nat :=
  if i < 64 then
    let d := i / 16 * 16
    let b := i % 16 / 4
    let q := i % 4
    (if b > 0 then [d + 4 * (b - 1) + q] else []) ++ (if b < 3 then [d + 4 * (b + 1) + q] else [])
      ++ (if q > 0 then [d + 4 * b + q - 1] else []) ++ (if q < 3 then [d + 4 * b + q + 1] else [])
  else (List.range 16).map fun k => (i - 64) / 2 * 16 + k

/-- The protective reading of a site (14 R374). -/
def protectOf (s : State) (i : Nat) (x : Site) : Int :=
  if !x.a.dropped && !x.b.dropped then max x.a.value x.b.value
  else if !x.a.dropped then x.a.value + 80
  else if !x.b.dropped then x.b.value + 80
  else (siteNeighbours i).foldl (fun (m : Int) j => max m (siteGet s j).protect) (-20 * 16) + 160

/-- One site takes its two readings. -/
def siteTake (s : State) (i : Nat) (r : Int × Int) : State :=
  let x := siteGet s i
  let a := sensorTake s.clock r.1 r.2 x.a
  let b := sensorTake s.clock r.2 r.1 x.b
  let far := !a.dropped && !b.dropped && (a.value - b.value).natAbs > 96
  let apart := if far then some (x.apart.getD s.clock) else none
  let flag : Bool := !x.flagged && match apart with | some t => decide (s.clock > t + 1000000000) | none => false
  let s1 := siteMod s i fun y => { y with a := a, b := b, apart := apart, flagged := y.flagged || flag, protect := protectOf s i { y with a := a, b := b } }
  if flag then logEvent s1 (if i < 64 then 0x20 + i / 16 else 0x10 + (i - 64)) 0x6002 3 0xFF [if i < 64 then i / 16 else i - 64, i % 16] else s1

/-- Hottest protective reading of the compute dies. -/
def hottest (s : State) : Int := ((List.range 64).map fun i => (siteGet s i).protect).foldl max (-20 * 16)

/-- SENSOR_SAMPLE: every 50 µs the sites' two sensors are read and the protective readings formed; dram: the hottest DRAM die of each
stack in whole °C, which sets its refresh rate (05 R156). -/
def execSensorSample (readings : List (Int × Int)) (dram : List Nat) (s : State) : Host.Outcome State Fault Refusal :=
  if s.clock < s.power.lastSample + 50000 then .next s
  else
    let s1 := allSites.foldl (fun a i => siteTake a i (at' (0, 0) readings i)) s
    let s2 := allStacks.foldl (fun a n =>
      let t := min 255 (at' 0 dram n)
      regPut (regPut a (regRefresh n) 15 8 t) (regRefresh n) 0 0 (bit (t > 85))) s1
    let s3 := pwr s2 fun p => { p with lastSample := s.clock }
    if s.clock < s.power.lastPast + 10000000 then .next s3
    else
      .next ((List.range 64).foldl (fun a i => siteMod a i fun x => { x with past := (x.protect :: x.past).take 21 })
        (pwr s3 fun p => { p with lastPast := s.clock, pastInput := (p.inputW :: p.pastInput).take 21 }))

/-! ### Hot spots (14 R375) -/

/-- A compute die's region follows its site. -/
def regionAdjust (s : State) (i : Nat) : State :=
  let x := siteGet s i
  let low := x.duty ≤ 4
  let duty := if x.protect ≥ 95 * 16 then max 4 (x.duty - 1) else if x.protect ≤ 93 * 16 then min 16 (x.duty + 1) else x.duty
  let hot := if low && x.protect ≥ 100 * 16 then some (x.hot.getD s.clock) else none
  let fall : Bool := match hot with | some t => decide (s.clock ≥ t + 10000000) | none => false
  let s1 := siteMod s i fun y => { y with duty := duty, hot := if fall then none else hot }
  if fall then lowerPoint s1 (i / 16) else s1

/-- A base die's site steps its stack's engine clock, then its channel duty, down or back up. -/
def baseAdjust (s : State) (n : Nat) : State :=
  let t := (siteGet s (64 + n)).protect
  if t ≥ 95 * 16 then
    stackMod s n fun x => if x.engine < floorEngine then { x with engine := x.engine + 1 } else { x with heat := max 4 (x.heat - 1) }
  else if t ≤ 93 * 16 ∧ !s.power.forced then
    stackMod s n fun x =>
      if x.heat < 16 then { x with heat := x.heat + 1 }
      else { x with engine := if x.engine > maxEngine s ∧ !x.floor then x.engine - 1 else x.engine }
  else s

/-- The hottest DRAM die acts on its stack's channel duty, and at 100 °C puts it at its floor until it has read 90 °C for 1 s. -/
def dramAdjust (s : State) (n : Nat) : State :=
  let t := regField s (regRefresh n) 15 8
  let s1 := stackMod s n fun x =>
    let h := if t ≥ 92 then max 4 (x.heat - 1) else if t ≤ 90 then min 16 (x.heat + 1) else x.heat
    { x with heat := h, cool := if t ≤ 90 then some (x.cool.getD s.clock) else none }
  stackMod s1 n fun x =>
    if t ≥ 100 then { x with floor := true, engine := floorEngine, heat := 4 }
    else if x.floor then
      match x.cool with
      | some c => if s.clock ≥ c + 1000000000 then { x with floor := false } else { x with heat := 4 }
      | none => { x with heat := 4 }
    else x

/-- HOTSPOT_ADJUST: every 1 ms the loop core adjusts regions, engines and channels. -/
def execHotspotAdjust (s : State) : Host.Outcome State Fault Refusal :=
  if s.clock < s.power.lastAdjust + 1000000 ∨ muted s then .next s
  else
    let s1 := (List.range 64).foldl regionAdjust (pwr s fun p => { p with lastAdjust := s.clock })
    .next (allStacks.foldl dramAdjust (allStacks.foldl baseAdjust s1))

/-! ### Critical temperatures (14 R376) -/

/-- CRITICAL_TEMPERATURE: a protective reading of 115 °C forces the floor.  It ends once every reading has stood at or below 100 °C for
1 s (14 Table 14-6). -/
def execCriticalTemperature (s : State) : Host.Outcome State Fault Refusal :=
  let rs := s.power.sites.map (·.2.protect)
  if rs.any (· ≥ 115 * 16) then .next (forceFloor (pwr s fun p => { p with critical := true, criticalCool := none }))
  else if s.power.critical then
    if rs.all (· ≤ 100 * 16) then
      let t := s.power.criticalCool.getD s.clock
      .next (pwr s fun p => { p with criticalCool := some t, critical := decide (s.clock < t + 1000000000) })
    else .next (pwr s fun p => { p with criticalCool := none })
  else .next s

/-- THERMAL_TRIP: 120 °C asserts THERM_TRIP_N, which latches, and the floor is kept. -/
def execThermalTrip (s : State) : Host.Outcome State Fault Refusal :=
  if s.power.sites.any (fun e => e.2.protect ≥ 120 * 16) ∧ !s.power.trip then
    .next (emit (forceFloor (pwr s fun p => { p with trip := true, critical := true, tripAt := s.clock })) (.pin "THERM_TRIP_N" true))
  else .next s

/-! ### Coolant (14 R377-R380) -/

/-- Is the reported flow good: 1.0 L/min or more. -/
def flowGood (mlMin : Nat) : Bool := mlMin ≥ 1000

/-- A coolant report; zero flow forces the floor, which ends once the flow has been good for 10 s. -/
def coolantReport (s : State) (inlet outlet : Int) (mlMin : Nat) : State :=
  let s1 := pwr s fun p => { p with inlet := inlet, outlet := outlet, flow := mlMin, reportAt := some s.clock, noReport := false }
  if mlMin = 0 then forceFloor (pwr s1 fun p => { p with coolant := true, coolantGood := none })
  else if s1.power.coolant then
    if flowGood mlMin then
      let t := s1.power.coolantGood.getD s.clock
      pwr s1 fun p => { p with coolantGood := some t, coolant := decide (s.clock < t + 10000000000) }
    else pwr s1 fun p => { p with coolantGood := none }
  else s1

/-- COOLANT_REPORT_TIMEOUT: no report for 1 s; the inlet counts as 45 °C until reports resume. -/
def execCoolantReportTimeout (s : State) : Host.Outcome State Fault Refusal :=
  match s.power.reportAt with
  | some t =>
    if s.clock ≥ t + 1000000000 ∧ !s.power.noReport then
      .next (logEvent (pwr s fun p => { p with noReport := true }) 0x70 0x6003 3 0xFF [Config.reportAge (s.clock - t)])
    else .next s
  | none =>
    if s.clock ≥ 1000000000 ∧ !s.power.noReport then
      .next (logEvent (pwr s fun p => { p with noReport := true }) 0x70 0x6003 3 0xFF [Config.reportAge s.clock])
    else .next s

/-- The inlet temperature that counts, in 1/16 °C. -/
def inletNow (s : State) : Int := if s.power.noReport || s.power.reportAt.isNone then 45 * 16 else s.power.inlet

/-- The thermal slot before its clamp: (target - inlet) / R_th in whole W. -/
def thermalSlot (s : State) (rth : Nat) : Nat :=
  let k := (regField s regPwrCfg 47 40 * 16 : Nat) - inletNow s
  if k ≤ 0 then 0 else k.toNat * 2 ^ 32 / (16 * rth)

/-- RTH_UPDATE: every 10 ms, at 600 W or more, R_th is filtered and the thermal slot set (14 R378).  Measured power in mW. -/
def execRthUpdate (inputMw : Nat) (s : State) : Host.Outcome State Fault Refusal :=
  if s.clock < s.power.lastRth + 10000000 ∨ muted s then .next s
  else if inputMw < 600000 then .next (pwr s fun p => { p with lastRth := s.clock })
  else
    let r : Int := (hottest s - inletNow s) * (1000 * 2 ^ 32) / (16 * (inputMw : Int))
    let next := (s.power.rth : Int) + (r - s.power.rth) / 1000
    let rth := (max 21474837 (min 858993459 next)).toNat
    let raw := thermalSlot s rth
    .next (setThermal (pwr s fun p => { p with rth := rth, thermalRaw := min 65535 raw, lastRth := s.clock }) (min (warrantMax s) raw))

/-- Does a list, newest first, fall by more than n between every two neighbours. -/
def risesBy (n : Int) : List Int → Bool
  | a :: b :: l => a - b > n && risesBy n (b :: l)
  | _ => true

/-- COOLANT_SLOPE_TRIGGER: a compute reading has risen faster than 5 K/s throughout 200 ms while the input power stayed within 10 % of
its average; in hardware, under the Mute as well. -/
def execCoolantSlopeTrigger (s : State) : Host.Outcome State Fault Refusal :=
  let ps := s.power.pastInput
  let sum := ps.foldl (· + ·) 0
  let steady := ps.all fun w => 10 * w * ps.length ≤ 11 * sum && 9 * sum ≤ 10 * w * ps.length
  -- 5 K/s over 10 ms is 0.8 sixteenths of a degree, so a rise of one sixteenth or more exceeds it
  let rising := (List.range 64).any fun i => (siteGet s i).past.length == 21 && risesBy 0 (siteGet s i).past
  if steady ∧ rising then .next (forceFloor (pwr s fun p => { p with coolant := true, coolantGood := none })) else .next s

/-! ### Register images -/

/-- THM_COOLANT. -/
def thmCoolant (s : State) : Nat :=
  let p := s.power
  let age := match p.reportAt with | some t => min 65535 ((s.clock - t) / 1000000) | none => 65535
  patternOf 16 p.inlet * 2 ^ 48 + patternOf 16 p.outlet * 2 ^ 32 + min 65535 p.flow * 2 ^ 16 + age
/-- THM_RTH. -/
def thmRth (s : State) : Nat :=
  let h := if s.power.sites.isEmpty then 0 else patternOf 16 (hottest s)
  s.power.rth * 2 ^ 32 + s.power.thermalRaw * 2 ^ 16 + h
/-- THM_STATUS. -/
def thmStatus (p : PowerSt) : Nat :=
  let flagged := (p.sites.filter fun e => e.2.flagged).length
  let dropped := (p.sites.map fun e => bit e.2.a.dropped + bit e.2.b.dropped).foldl (· + ·) 0
  bit p.critical * 2 ^ 63 + bit p.trip * 2 ^ 62 + bit p.coolant * 2 ^ 61 + bit p.noReport * 2 ^ 60 + flagged * 2 ^ 32 + dropped * 2 ^ 16
/-- THM_SITE_d_s. -/
def thmSite (s : State) (i : Nat) : Nat :=
  let x := siteGet s i
  patternOf 16 x.a.value * 2 ^ 48 + patternOf 16 x.b.value * 2 ^ 32 + patternOf 16 x.protect * 2 ^ 16 + bit x.flagged * 2 ^ 15
    + bit x.a.dropped * 2 ^ 14 + bit x.b.dropped * 2 ^ 13 + x.duty
/-- THM_STACK_n. -/
def thmStack (s : State) (n : Nat) : Nat :=
  let x := siteGet s (64 + n)
  let k := stackGet s n
  patternOf 16 x.protect * 2 ^ 48 + regField s (regRefresh n) 15 8 * 16 * 2 ^ 32 + bit x.flagged * 2 ^ 15 + bit x.a.dropped * 2 ^ 14
    + bit x.b.dropped * 2 ^ 13 + k.engine * 2 ^ 11 + min k.duty k.heat

end Sys2Proof.Machine
end

