-- ==== Sys2Proof/Machine/Bringup.lean ====
section
/-! DEFINITION. Bring-up: the supplies, the records, the Assay, Warrants and readiness (13 R335-R351, 16 R412-R415, R421, 18 R454, R460). -/

namespace Sys2Proof.Machine

/-- Set STW_BOOT.phase, with the time since the path began (13 Table 13-11). -/
def setBoot (s : State) (phase : Nat) : State :=
  regPut (regPut s regStwBoot 63 60 phase) regStwBoot 55 32 (min 0xFFFFFF ((s.clock - s.bring.pathStart) / 1000000))

/-- Change the bring-up state, the firmware state, or the flash. -/
def bring (s : State) (f : BringSt → BringSt) : State := { s with bring := f s.bring }
def fwMod (s : State) (f : FwSt → FwSt) : State := { s with fw := f s.fw }
def flashMod (s : State) (f : Flash → Flash) : State := { s with flash := f s.flash }

/-! ### Supplies (18 R454, R460) -/

/-- Latch SLOT_ID. -/
def latchSlot (s : State) (slot : Nat) : State :=
  regPut { s with pins := { s.pins with slotId := slot % 64 } } regHstId 31 26 (slot % 64)

/-- AUX_POWER_GOOD: the always-on supply is good; SLOT_ID is latched, and C1 begins on a package at its power-on state. -/
def execAuxPowerGood (slot : Nat) (s : State) : Host.Outcome State Fault Refusal :=
  if s.pins.aux then .next s
  else
    let s1 := latchSlot { s with pins := { s.pins with aux := true } } slot
    .next (flashMod (bring s1 fun b => { b with pathStart := s.clock }) fun f => { f with powerOns := f.powerOns + 1 })

/-- INPUT_POWER_GOOD: the 40 V input has been in range for 10 ms; a package held in reset for its loss starts the cold path
at C1; one whose power stage has stopped behind THERM_TRIP_N stays as it is. -/
def execInputPowerGood (s : State) : Host.Outcome State Fault Refusal :=
  let s1 := { s with pins := { s.pins with input := true, held := s.pins.held && s.pins.stopped } }
  if s.pins.held ∧ !s.pins.stopped then .next (bring s1 fun b => { b with pathStart := s.clock }) else .next s1

/-! ### C1: the ROM (16 R415) -/

/-- A firmware slot. -/
def slotGet (s : State) (i : Nat) : FwSlot := mapGet {} s.fw.slots i
def slotSet (s : State) (i : Nat) (x : FwSlot) : State := fwMod s fun f => { f with slots := mapSet {} f.slots i x }
def slotState (s : State) (i st : Nat) : State := slotSet s i { slotGet s i with state := st }

/-- The slot in a state. -/
def slotIn (s : State) (st : Nat) : Option Nat := [0, 1].find? fun i => (slotGet s i).state == st

/-- A sub-image of a manifest. -/
def subOf (m : Manifest) (kind : Nat) : Option SubImage := m.subs.find? fun x => x.kind == kind

/-- Is a sub-image's digest that of its bytes in the bundle. -/
def subSound (data : List Byte) (x : SubImage) : Bool := ofBytes (sha384 (slice data (65536 * x.first) x.length)) == x.digest

/-- Does a slot pass the ROM's check: the manifest's signature, and the digests of service core and loop core; decayed: slots whose flash
no longer reads as written. -/
def romOk (s : State) (decayed i : Nat) : Bool :=
  let x := slotGet s i
  !bitOf decayed i && keySigOk s.bring.vendorKey (x.data.take 4000) (slice x.data 4000 96)
    && [1, 2].all fun k => ((subOf x.man k).map (subSound x.data)).getD false

/-- The ROM boots a slot; HST_CONTRACT_FW shows the contract version that its firmware implements (01 R43). -/
def bootFrom (s : State) (i : Nat) : State :=
  let m := (slotGet s i).man
  regPut (regPut (fwMod s fun f => { f with booted := some i, running := m }) regContractFw 31 24 m.contractMajor) regContractFw 23 16 m.contractMinor

/-- A slot fails: it is bad; the other is booted where it is fallback, pinned or valid and passes, and becomes active. -/
def bootOther (s : State) (decayed i : Nat) : State :=
  let s1 := slotState s i 7
  let j := 1 - i
  let st := (slotGet s1 j).state
  if !([2, 5, 6]).contains st then fwMod s1 fun f => { f with booted := none }
  else if romOk s1 decayed j then bootFrom (slotState s1 j 4) j
  else fwMod (logEvent (slotState s1 j 7) 1 0x9003 5 0xFF [j]) fun f => { f with booted := none }

/-- UPD_STATUS.state and reason; a change is an event of kind 0x08. -/
def updState (s : State) (st reason : Nat) : State :=
  let s1 := regPut (regPut s regUpdStatus 63 60 st) regUpdStatus 59 52 reason
  if regField s regUpdStatus 63 52 = st * 256 + reason then s1 else eventAppend s1 8 0xFF 0 0 0 0

/-- The slot that the ROM boots is chosen and checked; cold: a trial slot begins a new trial, or on a second cold path is bad. -/
def romBoot (s : State) (decayed : Nat) (cold : Bool) : State :=
  match (slotIn s 3).or (slotIn s 4) with
  | none => fwMod s fun f => { f with booted := none }
  | some i =>
    let x := slotGet s i
    if cold ∧ x.state = 3 ∧ x.boots ≥ 1 then
      updState (logEvent (bootOther s decayed i) 1 0x9002 4 0xFF [x.man.version, 0x0E]) 7 0x0E
    else if romOk s decayed i then
      if cold ∧ x.state = 3 then
        let s1 := bootFrom (slotSet s i { x with boots := x.boots + 1 }) i
        updState (fwMod s1 fun f => { f with trialAt := s.clock, healthy := some s.clock }) 5 0
      else bootFrom s i
    else bootOther (logEvent s 1 0x9003 5 0xFF [i]) decayed i

/-- A pinned slot whose sub-images have left force is valid (16 Table 16-5). -/
def unpin (s : State) : State :=
  match slotIn s 6 with
  | some i => if s.fw.stackFrom = i ∨ s.fw.portFrom = i ∨ s.fw.powerFrom = i then s else slotState s i 2
  | none => s

/-- A start path brings the confirmed bundle's stack controller and port sequencer into force, a cold path its power-stage controller
too; during a trial the previous ones stay (16 Table 16-4, Table 16-10). -/
def takeForce (s : State) (cold : Bool) : State :=
  match slotIn s 4 with
  | some i => unpin (fwMod s fun f => { f with stackFrom := i, portFrom := i, powerFrom := if cold then i else f.powerFrom })
  | none => s

/-- Every optical port goes dark: its training is given up and CK is not taken. -/
def portsDark (s : State) : State :=
  (List.range 18).foldl (fun a p => if (lpGet a p).ck then retrain (lpMod a p fun x => { x with ck := false }) p else a) s

/-- ROM_BOOT: C1; the ROM chooses a slot, checks it and boots it.  Where none boots the package holds every port dark and never becomes
serviceable. -/
def execRomBoot (decayed : Nat) (s : State) : Host.Outcome State Fault Refusal :=
  if !s.pins.aux ∨ s.pins.held ∨ bootPhase s ≠ 0 ∨ s.fw.booted.isSome then .next s
  else
    let s1 := romBoot s decayed true
    if s1.fw.booted.isNone then .next (portsDark (setBoot s1 8)) else .next (setBoot (takeForce s1 true) 1)

/-! ### C2: the records (13 R341-R345, 16 R421) -/

/-- Kinds and indexes of the die records, in order. -/
def dieRecords : List (Nat × Nat) :=
  (List.range 4).map (fun i => (1, i)) ++ [(2, 0)] ++ (List.range 8).map (fun i => (3, i)) ++ (List.range 6).map fun i => (4, i)

/-- Does the Identity Record verify (13 Table 13-5). -/
def idRecordOk (s : State) : Bool :=
  let b := s.flash.idRecord
  b.length == 1504 && b.take 4 == [0x49, 0x44, 0x52, 0x43] && numAt b 4 2 == 1 && numAt b 6 2 == 1 && numAt b 8 1 == 0xB0
    && allZero (slice b 9 7) && allZero (slice b 129 63)
    && (dieRecords.zip (List.range 19)).all (fun e =>
        let r := slice b (192 + 64 * e.2) 64
        numAt r 0 1 == e.1.1 && numAt r 1 1 == e.1.2 && allZero (slice r 2 2) && allZero (slice r 15 1))
    && keySigOk s.bring.vendorKey (b.take 1408) (slice b 1408 96)

/-- What identity fails on: the die record and the check (1 the record, 2 a fingerprint, 3 the device key); puf: the dies' responses. -/
def identityFault (s : State) (puf : List (List Byte)) : Option (Nat × Nat) :=
  let b := s.flash.idRecord
  let bad := firstIdx (fun i => sha384 (at' [] puf i) != slice b (208 + 64 * i) 48) (List.range 19)
  if !idRecordOk s then some (0, 1)
  else match bad with
    | some i => some (i, 2)
    | none => if slice b 32 97 ≠ s.bring.deviceKey then some (4, 3) else none

/-- The index of the newest Mending list copy that still verifies; lost: bits 0 and 1, copies whose flash no longer reads as written. -/
def mendPick (s : State) (lost : Nat) : Option Nat :=
  let good := (List.range s.flash.mends.length).filter fun i => !bitOf lost i
  good.foldl (fun b i =>
    match b with
    | none => some i
    | some j => if (at' ⟨0, []⟩ s.flash.mends j).gen < (at' ⟨0, []⟩ s.flash.mends i).gen then some i else b) none

/-- STW_MEND from the list in use and the proposals: entries, generation, proposals, and the fewest spare rows of any column. -/
def showMend (s : State) : State :=
  let spare := (allDies.flatMap fun d => (List.range 32).map fun c => (workingRows s d c).length - tilesPerDie s / 32).foldl min 19
  regSet s regStwMend (BitVec.ofNat 64 (s.bring.mend.entries.length * 2 ^ 48 + s.bring.mend.gen % 2 ^ 32 * 2 ^ 16
    + min 255 s.bring.proposals.length * 2 ^ 8 + spare))

/-- Take the Mending list from flash; on the cold path an empty one where no copy verifies. -/
def mendLoad (s : State) (lost : Nat) : State :=
  match mendPick s lost with
  | some i => bring s fun b => { b with mend := at' ⟨0, []⟩ s.flash.mends i }
  | none =>
    logEvent (bring s fun b => { b with mend := ⟨0, []⟩ }) 1 0x0003 4 0xFF
      [(at' ⟨0, []⟩ s.flash.mends 0).gen, (at' ⟨0, []⟩ s.flash.mends 1).gen]

/-- The settings copies that verify, newest generation first; lost: bits 2 and 3, copies that no longer read as written. -/
def settingsGood (s : State) (lost : Nat) : List (Nat × SettingsCopy) :=
  let l := s.fw.settings.filter fun e => !bitOf lost (2 + e.1)
  match l with
  | [a, b] => if a.2.gen < b.2.gen then [b, a] else [a, b]
  | l => l

/-- Choose the settings copy that the image uses (16 R421): its own version as it stands, a lower one migrated into the other area with
the old copy held, a higher one passed over for a held copy or the built-in defaults. -/
def settingsChoose (s : State) (lost : Nat) : State :=
  let v := s.fw.running.settings
  let use := fun (a : State) (i : Option Nat) => fwMod a fun f => { f with settingsUse := i }
  let defaults := use (logEvent s 1 0x9004 4 0xFF [v]) none
  match settingsGood s lost with
  | [] => defaults
  | (i, x) :: more =>
    if x.version = v then use s (some i)
    else if x.version < v then
      if more.any fun e => e.2.held then use s (some i)
      else
        let m := mapPut (mapPut s.fw.settings i { x with held := true }) (1 - i) { x with version := v, gen := x.gen + 1, held := false }
        use (fwMod s fun f => { f with settings := m }) (some (1 - i))
    else
      match (((i, x) :: more).find? fun e => e.2.held && e.2.version ≤ v) with
      | some e => use s (some e.1)
      | none => defaults

/-- The settings in use set the default orphan cap and trace masks at a cold start (16 R421). -/
def settingsApply (s : State) : State :=
  match s.fw.settingsUse.bind fun i => mapFind s.fw.settings i with
  | none => s
  | some x =>
    let s1 := pwr s fun p => { p with orphan := x.orphan }
    (List.range 4).foldl (fun a w => regSet a (regTraceMask w) (BitVec.ofNat 64 (at' 0 x.masks w))) s1

/-! ### Warrants (13 R345-R347) -/

/-- The held variant Warrant. -/
def variantHeld (s : State) : Option Warrant := s.flash.warrants.find? fun w => w.kind == 1

/-- Is a feature held: by its own Warrant, or with the Full variant. -/
def featureHeld (s : State) (code : Nat) : Bool := s.flash.warrants.any fun w => w.kind == 2 && w.code == code

/-- SEC_WARRANT's fields for a variant and the features held (13 Table 13-13). -/
def warrantWord (s : State) (v : Option Warrant) : Nat :=
  let f := fun code b => bit (featureHeld s code || (v.map fun w => w.code == 1).getD false) * 2 ^ b
  f 1 58 + f 2 57 + f 3 56
    + match v with
      | some w => w.code * 2 ^ 60 + w.mask * 2 ^ 48 + w.power * 2 ^ 32 + w.tiles * 2 ^ 16
      | none => 0

/-- The variant in effect as SEC_WARRANT shows it. -/
def variantShown (s : State) : Option Warrant :=
  if variantOn s then
    some ⟨1, regField s regSecWarrant 63 60, 0, regField s regSecWarrant 31 16, regField s regSecWarrant 55 48, regField s regSecWarrant 47 32, []⟩
  else none

/-- Refresh SEC_WARRANT.pending and installed. -/
def warrantPending (s : State) : State :=
  let w := regField s regSecWarrant 63 16
  regPut (regPut s regSecWarrant 15 15 (bit (warrantWord s (variantHeld s) / 2 ^ 16 != w))) regSecWarrant 7 0 s.flash.warrants.length

/-- STK_MAP's enabled stacks and size, and each stack's STK_ID.state: ready, or disabled (05 Tables 05-11 and 05-12). -/
def showStacks (s : State) (mask : Nat) : State :=
  let m := if mask = 0 then 0xFF else mask
  allStacks.foldl (fun a n =>
    let b := regPut (regPut a (regStkMap n) 55 48 mask) (regStkMap n) 35 24 (72 * popCount 8 m)
    regPut b (regStkId n) 4 3 (if bitOf m n then 2 else 3)) s

/-- The Warrants held take effect; one that changes T or the stack mask only where no Pattern is applied (13 R346).  A package that fails
identity has none in effect (13 R344). -/
def warrantsEffect (s : State) : State :=
  let held := if s.bring.identityOk then variantHeld s else none
  let shown := variantShown s
  let grid := match held, shown with
    | some a, some b => a.tiles == b.tiles && a.mask == b.mask
    | none, none => true
    | _, _ => false
  let v := if grid || s.plan.pattern.isNone then held else shown
  let w := if s.bring.identityOk then warrantWord s v else 0
  let s1 := warrantPending (regSet s regSecWarrant (BitVec.ofNat 64 w))
  showStacks s1 (regField s1 regSecWarrant 55 48)

/-- The Warrant slot takes the Warrant's power maximum (14 R359). -/
def warrantPower (s : State) : State := setWarrantW s (warrantMax s)

/-- RECORD_VERIFY: C2; settings, Identity Record, fingerprints, Warrants and Mending list are verified, and the service core runs.  puf: the
dies' PUF responses; lost: the flash copies that no longer read as written (bits 0 and 1 Mending list, 2 and 3 settings). -/
def execRecordVerify (puf : List (List Byte)) (lost : Nat) (s : State) : Host.Outcome State Fault Refusal :=
  if bootPhase s ≠ 1 then .next s
  else
    let s1 := [0, 1].foldl (fun a i => if (slotGet a i).state = 1 then slotState a i 7 else a) s
    let s2 := settingsApply (settingsChoose s1 lost)
    let s3 := match identityFault s2 puf with
      | some (i, c) => logEvent (bring s2 fun b => { b with identityOk := false }) 1 0x0002 4 0xFF [i, c]
      | none => bring s2 fun b => { b with identityOk := true }
    let s4 := warrantsEffect (mendLoad s3 lost)
    .next (setBoot (regPut (showMend s4) regHstSteward 63 62 1) 2)

/-! ### C3 to C8 -/

/-- Every die at the floor state with its full issue duty, every stack at the floor clock, allowances at the floor (14 R353). -/
def powerFloor (s : State) : State :=
  let s1 := allDies.foldl (fun a d => dieMod a d fun x => { x with point := floorPoint, target := floorPoint, change := none, duty := 16 }) s
  floorAllow (allStacks.foldl (fun a n => stackMod a n fun x => { x with engine := floorEngine }) s1)

/-- RAIL_BRINGUP: C3; with the 40 V input good the 6 V rail comes up, the dies stand at the floor, and the network and die links are up. -/
def execRailBringup (s : State) : Host.Outcome State Fault Refusal :=
  if bootPhase s ≠ 2 ∨ !s.pins.input then .next s
  else
    let s1 := powerFloor s
    .next (setBoot (if s1.power.hold then forceFloor s1 else s1) 3)

/-- STACK_TRAINING: C4; every stack is trained, enabled or not; failed: a mask of those that did not. -/
def execStackTraining (failed : Nat) (s : State) : Host.Outcome State Fault Refusal :=
  if bootPhase s ≠ 3 then .next s
  else
    let s1 := allStacks.foldl (fun a n => regPut a (regStkId n) 4 3 1) s
    .next (setBoot (bring s1 fun b => { b with stacksTrained := true, stackFail := b.stackFail ||| failed % 256 }) 4)

/-- Memory after the Assay's closing pass: every line zero, clean, with fresh side bits. -/
def memClear (s : State) : State := { s with mem := [], memPoison := [], lineErr := [] }

/-- Count and log a line that the march found faulty, in the logging phase. -/
def assayLine (s : State) (l : Nat × Nat) : State :=
  let s1 := lineReadCount (upsetLine s l.1 l.2) l.1
  { s1 with lineErr := mapDel s1.lineErr l.1 }

/-- STACK_ASSAY: C6; the march counts and logs what it finds and the closing pass leaves zeros.  lines: faulty lines with the bits that
fail; base: stacks whose base die failed a test.  A stack fails on more than 16 distinct uncorrectable lines. -/
def execStackAssay (lines : List (Nat × Nat)) (base : Nat) (s : State) : Host.Outcome State Fault Refusal :=
  if bootPhase s ≠ 4 ∨ !s.bring.stacksTrained ∨ s.bring.stackAssay then .next s
  else
    let s1 := allStacks.foldl (fun a n => stackLogClear (regPut a (regEccCtrl n) 0 0 1) n) s
    let s2 := memClear (lines.foldl assayLine s1)
    let bad := (lines.filter fun l => (lineDecode l.2).kind.bad).map (·.1)
    let count := fun n => ((bad.filter fun l => chanOfLine s l / 32 == n).eraseDups).length
    let dram := (allStacks.filter fun n => count n > 16).foldl (fun a n => a + 2 ^ n) 0
    .next (bring s2 fun b => { b with stackAssay := true, stackFail := b.stackFail ||| base % 256 ||| dram })

/-- Order of Mending entries: die, column, row (13 R342). -/
def mendBefore (a b : MendEntry) : Bool := a.die * 1024 + a.col * 32 + a.row < b.die * 1024 + b.col * 32 + b.row

/-- Put an entry in its place. -/
def mendInsert (e : MendEntry) : List MendEntry → List MendEntry
  | [] => [e]
  | x :: l => if mendBefore e x then e :: x :: l else x :: mendInsert e l

/-- A changed list is written, as the next generation, over the older copy (13 R342). -/
def mendWrite (s : State) (es : List MendEntry) : State :=
  let c : MendCopy := ⟨s.bring.mend.gen + 1, es⟩
  let older := match s.flash.mends with
    | [a, b] => if a.gen ≤ b.gen then [c, b] else [a, c]
    | [a] => [a, c]
    | _ => [c]
  flashMod (bring s fun b => { b with mend := c }) fun f => { f with mends := older }

/-- The Mending list after the removals ordered, and the growth of the failing cores: die, row, column and test; an entry for a proposed
tile has source 2. -/
def mendGrown (s : State) (cores : List (Nat × Nat × Nat × Nat)) : List MendEntry :=
  let kept := s.bring.mend.entries.filter fun e => !s.flash.removals.contains (e.die, e.row, e.col)
  cores.foldl (fun l c =>
    let (d, r, col, test) := c
    if d ≥ 4 ∨ r ≥ 19 ∨ col ≥ 32 ∨ l.length ≥ 1024 ∨ l.any (fun e => e.die == d && e.row == r && e.col == col) then l
    else
      let proposed := s.bring.proposals.any fun q => q.1 == d && q.2.1 == r && q.2.2.1 == col
      mendInsert ⟨d, r, col, if proposed then 2 else 1, test, s.flash.powerOns⟩ l) kept

/-- TILE_ASSAY: C7; removals ordered take effect, then each failing core that is not listed gets an entry.  cores: die, physical row and
column, failing test; dies: dies that failed; unsound: the I/O die or the power stage failed. -/
def execTileAssay (cores : List (Nat × Nat × Nat × Nat)) (dies : Nat) (unsound : Bool) (s : State) : Host.Outcome State Fault Refusal :=
  if bootPhase s ≠ 4 ∨ !s.bring.stacksTrained ∨ s.bring.tileAssay then .next s
  else
    let s1 := allDies.foldl (fun a d => dieLogClear (regPut a (regDieEccCtrl d) 0 0 1) d) s
    let es := mendGrown s1 cores
    let s2 := if es = s1.bring.mend.entries then s1 else mendWrite s1 es
    let s3 := flashMod s2 fun f => { f with removals := [] }
    .next (showMend (bring s3 fun b => { b with
      proposals := [], tileAssay := true, dieFail := b.dieFail ||| dies % 16, unserviceable := b.unserviceable || unsound }))

/-- Corrections of every stack and die in service (0) or logging (1) (07 R199). -/
def setCorrections (s : State) (mode : Nat) : State :=
  let s1 := allStacks.foldl (fun a n => regPut a (regEccCtrl n) 0 0 mode) s
  allDies.foldl (fun a d => regPut a (regDieEccCtrl d) 0 0 mode) s1

/-- SERVICEABLE: C8; the Assay report stands, corrections are in service, and the caps of the cold path end (13 R336, R337).  A package
whose I/O die or power stage failed is not serviceable and holds every port dark. -/
def execServiceable (s : State) : Host.Outcome State Fault Refusal :=
  if bootPhase s ≠ 4 ∨ !s.bring.stackAssay ∨ !s.bring.tileAssay then .next s
  else if s.bring.unserviceable then .next (portsDark (setBoot s 8))
  else
    let s1 := showStacks (setBoot (setCorrections s 0) 5) (regField s regSecWarrant 55 48)
    let s2 := setPatternW (warrantPower s1) (warrantMax s1)
    .next (if s.bring.resetAfter then bring s2 fun b => { b with resetAfter := false, warm := true } else s2)

/-! ### Readiness (13 R348, Table 13-7) -/

/-- Does a port fail the port check: EXPECT lists a neighbour that is not optional, and the port is neither active nor Quiet. -/
def portFails (s : State) (p : Nat) : Bool :=
  let e := regGet s (regPrtExpect p)
  fieldOf e 63 63 == 1 && fieldOf e 62 62 == 0 && !(portState s p == 2 || portState s p == 3)

/-- Mask of the ports that fail. -/
def portFailMask (s : State) : Nat := ((List.range 18).filter (portFails s)).foldl (fun a p => a + 2 ^ p) 0

/-- Mask of the dies that failed or cannot restore their count. -/
def dieFailMask (s : State) : Nat := (allDies.filter fun d => bitOf s.bring.dieFail d || !dieRestores s d).foldl (fun a d => a + 2 ^ d) 0

/-- STW_READY below its ready bit: a bit set for each check that fails (13 Table 13-12). -/
def readyFaults (s : State) : Nat :=
  let stk := (enabledStacks s).any (bitOf s.bring.stackFail)
  let images := regField s regPlnImage 47 32 != regField s regPlnImage 63 48
  let dieMask := dieFailMask s
  s.bring.stackFail % 256 * 2 ^ 48 + dieMask * 2 ^ 44 + portFailMask s * 2 ^ 26
    + bit (!variantOn s) * 2 ^ 15 + bit (!s.bring.identityOk) * 2 ^ 14 + bit (dieMask != 0) * 2 ^ 13 + bit stk * 2 ^ 12
    + bit s.plan.pattern.isNone * 2 ^ 11 + bit (portFailMask s != 0) * 2 ^ 10
    + bit (!([2, 3, 4]).contains (droneState s)) * 2 ^ 9 + bit images * 2 ^ 8

/-- Does every check of Table 13-7 pass. -/
def checksPass (s : State) : Bool := readyFaults s / 2 ^ 8 % 2 ^ 8 == 0

/-- A twin that was out and is ready again is joining (17 R447). -/
def twinReturns (s : State) : State := if twinState s = 3 then regPut s regRcvTwin 47 45 4 else s

/-- READINESS_DECISION: the checks are evaluated; a package that is ready stays so until the next start path or Pattern. -/
def execReadinessDecision (s : State) : Host.Outcome State Fault Refusal :=
  if !isServiceable s ∨ isReady s ∨ s.bring.warm then .next s
  else
    let ok := checksPass s
    let s1 := regSet s regStwReady (BitVec.ofNat 64 (bit ok * 2 ^ 63 + readyFaults s))
    if ok then .next (eventAppend (twinReturns (setCorrections (setBoot s1 7) 0)) 4 0xFF 0 0 0 0)
    else .next (setBoot s1 (if s.plan.pattern.isSome then 6 else 5))

end Sys2Proof.Machine
end

