-- ==== Sys2Proof/Machine/Dm.lean ====
section
/-! DEFINITION. The DM slot: the issue checks and what each operation starts (04 R137-R139, 06 R176, 09 R253, R254). -/

namespace Sys2Proof.Machine

/-- Checks 1 and 2 of 04 R137: a pending ticket slot, then a poisoned operand register. -/
def dmHead (x : Tile) (tk : Nat) (regs : List Nat) : Option (Nat × Nat) :=
  if mapGet 0 x.tick tk = 1 then some (0x08, tk)
  else (regs.find? fun r => (sReg x r).2).map fun r => (0x0A, (sReg x r).1.toNat)

/-- Continue where no check has failed, else raise. -/
def orRaise (c : Option (Nat × Nat)) (k : SlotOut) : SlotOut :=
  match c with
  | some (code, info) => .raise code info
  | none => k

/-- Checks 4 and 5 for a scratchpad range: range 0x04, then alignment to 64 bytes 0x03. -/
def dmPadRange (off len : Nat) : Option (Nat × Nat) :=
  if off + len > padTop then some (0x04, off) else if off % 64 != 0 then some (0x03, off) else none

/-- A scalar register's value as a number. -/
def sNat (x : Tile) (r : BitVec 5) : Nat := (sReg x r.toNat).1.toNat

/-- Run a DM slot whose members act under a true guard. -/
def dmExec (op : Nat) (ok : Bool) (g : Nat) (f : DmFields) (out : State → Nat → Nat → Tile → SlotOut) (s : State) :
    Host.Outcome State Fault Refusal :=
  slotExec s g .dm op (fun w => decide (decodeDm w = f)) fun s =>
    slotRun s g .dm (illegalUnless ok) f.gp f.gn (out s)

/-- The checks of GLD and GST, in order, then the operation. -/
def moveOut (s : State) (g : Nat) (f : DmFields) (mk : Nat → Nat → Nat → DmOp) (x : Tile) : SlotOut :=
  let a := sNat x f.ra
  let off := sNat x f.rb
  let len := sNat x f.rc
  orRaise (dmHead x f.tk.toNat [f.ra.toNat, f.rb.toNat, f.rc.toNat]) <|
    if len % 64 != 0 || len < 64 || len > 786432 then .raise 0x01 0
    else orRaise (dmPadRange off len) <|
      if a % 64 != 0 then .raise 0x03 a
      else if isLocal s a && !inRegions s (ctxOfGang s g) (gOff a) len then .raise 0x0E a
      else .done [.dm f.tk.toNat (mk a off len)]

/-- GLD: copies memory into scratchpad. -/
def execGld (g : Nat) (f : DmFields) (s : State) : Host.Outcome State Fault Refusal :=
  dmExec 0x01 (f.aux == 0) g f (fun s _ _ x => moveOut s g f (fun a off len => .gld a off len len 0) x) s

/-- GST: copies scratchpad to memory. -/
def execGst (g : Nat) (f : DmFields) (s : State) : Host.Outcome State Fault Refusal :=
  dmExec 0x02 (f.aux == 0) g f (fun s _ _ x => moveOut s g f (fun a off len => .gst a off len (pieces len).length 0) x) s

/-- SEND: a channel message of 64 to 4,096 bytes. -/
def execSend (g : Nat) (f : DmFields) (s : State) : Host.Outcome State Fault Refusal :=
  dmExec 0x03 (f.aux == 0) g f (fun s _ _ x =>
    let a := sNat x f.ra
    let off := sNat x f.rb
    let len := sNat x f.rc
    orRaise (dmHead x f.tk.toNat [f.ra.toNat, f.rb.toNat, f.rc.toNat]) <|
      if len % 64 != 0 || len < 64 || len > 4096 || bitsOf a 31 8 != 0 then .raise 0x01 0
      else orRaise (dmPadRange off len)
        (.done [.dm f.tk.toNat (.send (gChip a) (bitsOf a 47 32) (bitsOf a 7 0) off len (gangGet s g).cycle false)])) s

/-- RECV: claims the next message on a channel; a channel that PARTITION does not define for the tile is an illegal opcode,
which the slot's own aux field names, so it is raised whatever the guard (log entry 26). -/
def execRecv (g : Nat) (f : DmFields) (s : State) : Host.Outcome State Fault Refusal :=
  slotExec s g .dm 0x04 (fun w => decide (decodeDm w = f)) fun s =>
    let ch := f.aux.toNat % 256
    let dec := illegalUnless (f.ra == 0 && f.rb == 0 && f.rc == 0 && f.aux.toNat < 256)
    commitIfDone (slotPut s g .dm (slotOuts s g dec f.gp f.gn fun _ t x b =>
      if (chanRec s t ch).isNone then .raise 0x01 0
      else if !b then .done []
      else orRaise (dmHead x f.tk.toNat []) (.done [.dm f.tk.toNat (.recv ch (rxGet x ch).claimed)]))) g

/-- A 64-byte descriptor in scratchpad: its eight words and whether any is poisoned. -/
def padWords8 (x : Tile) (off : Nat) : List Word × Bool :=
  let r := padReadWords x (off / 8) 8
  (r.1.map fun w => BitVec.ofNat 64 w.1, r.1.any (·.2))

/-- What reading descriptors does in the stores of the members whose guard is true. -/
def descEffects (s0 : State) (g : Nat) (f : DmFields) (s : State) : State :=
  (gangMembers s0 g).foldl (fun a m =>
    let x := tileGet s0 m.2
    let off := sNat x f.ra
    if guardTrue x f.gp f.gn && (dmHead x f.tk.toNat [f.ra.toNat]).isNone && (dmPadRange off 64).isNone
    then padReadEffects a m.2 (off / 8) 8 else a) s

/-- A DM slot that reads a 64-byte descriptor in its issue cycle. -/
def descExec (op : Nat) (ok : Bool) (g : Nat) (f : DmFields) (out : State → Nat → Nat → Tile → SlotOut) (s : State) :
    Host.Outcome State Fault Refusal :=
  slotExec s g .dm op (fun w => decide (decodeDm w = f)) fun s =>
    let outs := slotOuts s g (illegalUnless ok) f.gp f.gn fun i t x b => if b then out s i t x else .done []
    commitIfDone ((if ok then descEffects s g f else id) (slotPut s g .dm outs)) g

/-- DOCK: reads and checks a docket, then hands it to its engine (06 R176); the read uses a bank (03 R90). -/
def execDock (g : Nat) (f : DmFields) (s : State) : Host.Outcome State Fault Refusal :=
  descExec 0x05 (f.rc == 0 && f.aux == 0) g f (fun s _ _ x =>
    let off := sNat x f.ra
    let base := (sReg x f.rb.toNat).1.toNat % 2 ^ 32
    let ctx := ctxOfGang s g
    orRaise (dmHead x f.tk.toNat [f.ra.toNat, f.rb.toNat]) <|
      if off % 64 != 0 then .raise 0x03 off
      else if off + 64 > padTop then .raise 0x04 off
      else
        let d := padWords8 x off
        if d.2 then .raise 0x0A off
        else if !dkLegal s ctx d.1 then .raise 0x01 0
        else
          match dkPadFault d.1 with
          | some o => .raise 0x04 o
          | none =>
            match dkRegionFault s ctx d.1 with
            | some o => .raise 0x0E o
            | none => .done [.dm f.tk.toNat (.dock d.1 base (gangGet s g).cycle false), .bank 8 (padBank off)]) s

/-- FILL: loads bundles into the instruction buffer; a range that reaches beyond bundle 1,536 raises 0x05 whatever the guard
(04 R116). -/
def execFill (g : Nat) (f : DmFields) (s : State) : Host.Outcome State Fault Refusal :=
  slotExec s g .dm 0x06 (fun w => decide (decodeDm w = f)) fun s =>
    commitIfDone (slotPut s g .dm (slotOuts s g (illegalUnless (f.aux == 0)) f.gp f.gn fun _ _ x b =>
      let a := sNat x f.ra
      let first := sNat x f.rb
      let count := sNat x f.rc
      if first + count > 1536 then .raise 0x05 0
      else if !b then .done []
      else orRaise (dmHead x f.tk.toNat [f.ra.toNat, f.rb.toNat, f.rc.toNat]) <|
        if isLocal s a && !inRegions s (ctxOfGang s g) (gOff a) (64 * count) then .raise 0x0E a
        else .done [.dm f.tk.toNat (.fill a first count (64 * count) 0)])) g

/-! ### COLL (09 R253, R254) -/

/-- Reserved fields of a collective descriptor (09 Table 09-6). -/
def collReservedZero (d : List Word) : Bool :=
  bitsOf (cWord d 0) 16 13 == 0 && bitsOf (cWord d 1) 62 48 == 0 && bitsOf (cWord d 2) 62 48 == 0
    && bitsOf (cWord d 3) 31 20 == 0 && bitsOf (cWord d 5) 63 32 == 0 && cWord d 6 == 0 && cWord d 7 == 0
    && bitsOf (cWord d 0) 23 20 ≤ 4

/-- Is the set given to the gang's context, with the gang a member of it. -/
def collMember (s : State) (g : Nat) (r : SetRec) : Bool := r.owner == ctxOfGang s g && r.members.contains (ownChip s, g)

/-- Sum of an all-to-all's send counts at a member (its table lies in gang index 0's scratchpad). -/
def sendTotal (s : State) (g : Nat) (r : SetRec) (d : List Word) : Nat :=
  let x := tileGet s (at' 0 (gangTiles s g) 0)
  ((List.range r.members.length).map fun j => ofBytes (mapGetList 0 x.pad (cSendCounts d + 4 * j) 4)).foldl (· + ·) 0

/-- Bytes of the source and destination operands at a member (09 R253, R255-R258). -/
def collBytes (s : State) (g : Nat) (r : SetRec) (d : List Word) : Nat × Nat :=
  let n := r.members.length
  let f := cFormat d
  let fo := cFormatO d
  let e := cCount d
  let one := packedBytes f e
  let scaled := if cBs d then (one + 63) / 64 * 64 + e / 32 else one
  match cOp d with
  | 1 => (scaled, packedBytes fo e)
  | 2 => (scaled, packedBytes fo ((e + 64 * n - 1) / (64 * n) * 64))
  | 3 => (scaled, n * one)
  | 4 => (packedBytes f (sendTotal s g r d), n * packedBytes f (cSlot d))
  | _ => (scaled, one)

/-- Staging bytes per tile, rounded up to 4 KiB (09 R254). -/
def stagingBytes (r : SetRec) (d : List Word) (tiles : Nat) : Nat :=
  let k := if r.algorithm = 0 then r.rings else 1
  (ceilDiv (2 * k * cDepth d * cChunkBytes d) (max 1 tiles) + 4095) / 4096 * 4096

/-- The scratchpad range of the collective that leaves scratchpad, by its offset (09 R254). -/
def collPadFault (s : State) (g : Nat) (r : SetRec) (d : List Word) : Option Nat :=
  let tiles := (gangTiles s g).length
  let per := fun n => ceilDiv n (max 1 tiles)
  let b := collBytes s g r d
  let beyond := fun (p : Bool × Nat) n => p.1 && p.2 + per n > padTop
  if cStaging d + stagingBytes r d tiles > padTop then some (cStaging d)
  else if cOp d = 4 ∧ cRecvCounts d + 4 * r.members.length > padTop then some (cRecvCounts d)
  else if cOp d = 4 ∧ cSendCounts d + 4 * r.members.length > padTop then some (cSendCounts d)
  else if beyond (cPlace d 1) b.1 then some (cPlace d 1).2
  else if beyond (cPlace d 2) b.2 then some (cPlace d 2).2
  else none

/-- The memory operand that leaves the context's regions, by its offset. -/
def collRegionFault (s : State) (g : Nat) (r : SetRec) (d : List Word) : Option Nat :=
  let b := collBytes s g r d
  let out := fun (p : Bool × Nat) n => !p.1 && !inRegions s (ctxOfGang s g) p.2 n
  if out (cPlace d 1) b.1 then some (cPlace d 1).2 else if out (cPlace d 2) b.2 then some (cPlace d 2).2 else none

/-- COLL: reads and checks a descriptor, then starts a bulk collective. -/
def execColl (g : Nat) (f : DmFields) (s : State) : Host.Outcome State Fault Refusal :=
  descExec 0x07 (f.rb == 0 && f.rc == 0 && f.aux == 0) g f (fun s _ _ x =>
    let off := sNat x f.ra
    orRaise (dmHead x f.tk.toNat [f.ra.toNat]) <|
      orRaise (dmPadRange off 64) <|
        let d := padWords8 x off
        if d.2 then .raise 0x0A off
        else
          match setRec s (cSet d.1) with
          | none => .raise 0x01 0
          | some r =>
            if !collMember s g r || !collReservedZero d.1 || cOp d.1 == 0 || cOp d.1 > 5 || cRop d.1 > 5
                || cCount d.1 % 64 != 0 || cRoot d.1 ≥ r.members.length then .raise 0x01 0
            else
              match collPadFault s g r d.1 with
              | some o => .raise 0x04 o
              | none =>
                if cStaging d.1 % 4096 != 0 then .raise 0x03 (cStaging d.1)
                else
                  match collRegionFault s g r d.1 with
                  | some o => .raise 0x0E o
                  | none => .done [.dm f.tk.toNat (.coll (cSet d.1) d.1)]) s

end Sys2Proof.Machine
end

