-- ==== Sys2Proof/Machine/GangOps.lean ====
section
/-! DEFINITION. Gang broadcast and gang reduction (03 R103, 04 R131). -/

namespace Sys2Proof.Machine

/-- GBC: va of the member with gang index imm[3:0] into vd of every member. -/
def execGbc (g : Nat) (slot : Slot) (f : VecFields) (s : State) : Host.Outcome State Fault Refusal :=
  slotExec s g slot 0x30 (fun w => isVecSlot slot && decide (decodeVec w = f)) fun s =>
    let dec := illegalUnless (f.vb == 0 && f.vc == 0 && f.fmt == 0 && f.rnd == 0 && !f.sat && f.fmt2 == 0
      && f.imm.toNat < (gangTiles s g).length && f.imm.toNat < 16)
    let src := vReg (tileGet s (at' 0 (gangTiles s g) f.imm.toNat)) f.va.toNat
    slotRun s g slot dec f.gp f.gn fun _ _ _ => .done [.result 6 (.vec f.vd.toNat src.1 src.2)]

/-- Which pairings of operation and format GRED accepts (04 R131, 02 R51). -/
def gredFormat (o : Nat) (fm : Option Fmt) : Bool :=
  match fm with
  | none => false
  | some fm => if o ≥ 3 then true else if o = 0 then fm.isWide || fm == .longSum else fm.isWide || fm == .int8

/-- One element position combined across the members, in gang-index order (03 R103). -/
def gredElem (o : Nat) (fm : Fmt) (mode : Rnd) (es : List Nat) : Nat :=
  if o ≥ 3 then foldElems (bitwiseOp o) es
  else if o = 1 then foldElems (fmtMin fm) es
  else if o = 2 then foldElems (fmtMax fm) es
  else roundTo fm mode (decodeNum .fp32 (fp32PairSum 5 (es.map fun e => toFp32 (decodeNum fm e))))

/-- GRED over the members' registers: the value and the lane marks, and whether an anchor differed; a gang of 1 gives va
unchanged. -/
def gredValue (o : Nat) (fm : Fmt) (mode : Rnd) (vs : List (BitVec 2048 × BitVec 64)) : BitVec 2048 × BitVec 64 × Bool :=
  match vs with
  | [v] => (v.1, v.2, false)
  | _ =>
    let marks := laneOr (vs.map (·.2))
    if o = 0 ∧ fm = .longSum then
      let ts := (List.range 16).map fun j =>
        let t := foldSums (vs.map fun v => v.1.toNat / 2 ^ (128 * j) % 2 ^ 128)
        (lsContainer (poisonSum t.1 (elemPoisoned marks 128 j)), t.2 || elemPoisoned marks 128 j, t.2)
      (BitVec.ofNat 2048 (packElems 128 (ts.map (·.1))), laneMarks 128 (ts.map fun t => t.2.1), ts.any fun t => t.2.2)
    else if o ≥ 3 then
      (BitVec.ofNat 2048 (foldElems (bitwiseOp o) (vs.map fun v => v.1.toNat)), marks, false)
    else
      let w := fm.width
      let out := (List.range (2048 / w)).map fun i => gredElem o fm mode (vs.map fun v => v.1.toNat / 2 ^ (w * i) % 2 ^ w)
      (BitVec.ofNat 2048 (packElems w out), marks, false)

/-- GRED: va combined across the members into vd of every member, with latency 8 + 2 × log2 of the gang size. -/
def execGred (g : Nat) (slot : Slot) (f : VecFields) (s : State) : Host.Outcome State Fault Refusal :=
  slotExec s g slot 0x31 (fun w => isVecSlot slot && decide (decodeVec w = f)) fun s =>
    let o := f.imm.toNat
    let dec := decodeFault (f.vb == 0 && f.vc == 0 && !f.sat && f.fmt2 == 0 && o ≤ 5)
      (gredFormat o (fmtOfCode f.fmt.toNat) && laneRnd f.rnd)
    let vs := (gangTiles s g).map fun t => vReg (tileGet s t) f.va.toNat
    let r := gredValue o (fmtOf f.fmt) (laneMode f.rnd) vs
    let lat := 8 + 2 * Nat.log2 vs.length
    slotRun s g slot dec f.gp f.gn fun _ _ _ =>
      .done ([.result lat (.vec f.vd.toNat r.1 r.2.1)] ++ (if r.2.2 then [.mismatch f.vd.toNat] else []))

end Sys2Proof.Machine
end

