-- ==== Sys2Proof/Machine/Warm.lean ====
section
/-! DEFINITION. The warm path, the installation of Warrants, and the request for a power cycle (13 R335-R338, R346, 17 R435). -/

namespace Sys2Proof.Machine

/-! ### CYCLE_REQUEST (17 R435, 15 Table 15-14) -/

/-- Send CYCLE_REQUEST to the tray, where it holds a session. -/
def cycleSend (s : State) (reason : Nat) : State :=
  let s1 := mgmt s fun m => { m with cycle := some (reason, s.clock), answered := false }
  match s1.mgmt.sessions.find? fun x => x.role == .tray with
  | none => s1
  | some x =>
    let body := bytesOf 1 reason ++ zeros 3 ++ bytesOf 4 s.rcv.dossiers ++ bytesOf 8 (droneNs s)
    emit (mgmt s1 fun m => { m with seq := m.seq + 1 }) (.plovco x.id 0x0015 0 s.mgmt.seq body)

/-- CYCLE_REQUEST: a request that the tray has not answered is sent again every second; a thermal trip asks too (14 R376). -/
def execCycleRequest (s : State) : Host.Outcome State Fault Refusal :=
  match s.mgmt.cycle with
  | some (reason, t) => if s.clock ≥ t + 1000000000 then .next (cycleSend s reason) else .next s
  | none => if s.power.trip ∧ !s.mgmt.answered then .next (cycleSend s 2) else .next s

/-- CYCLE_REQUEST_ANSWER: the tray's reply with status 0x00 stops the repetition. -/
def execCycleRequestAnswer (s : State) : Host.Outcome State Fault Refusal := .next (mgmt s fun m => { m with cycle := none, answered := true })

/-! ### Reset notices (08 R216) -/

/-- A reset notice to every neighbour package that EXPECT lists as present. -/
def resetNotices (s : State) (level : Nat) : State :=
  (List.range 18).foldl (fun a p =>
    let e := regGet a (regPrtExpect p)
    if fieldOf e 63 63 = 1 ∧ fieldOf e 59 58 = 0 then
      let n := a.rcv.msgs + 1
      let pk : Packet := finishPacket {
        dst := fieldOf e 47 32, src := ownChip a, srcCtx := 0, kind := 0x0B
        ext := [BitVec.ofNat 64 (3 * 2 ^ 48 + n % 2 ^ 32)]
        payload := bytesOf 1 level ++ zeros 1 ++ bytesOf 2 (ownChip a) ++ bytesOf 8 a.rcv.dossiers }
      inject { a with rcv := { a.rcv with msgs := n } } portSteward pk
    else a) s

/-! ### RCV_STATUS (17 Table 17-11) -/

/-- A level ends: it leaves the requests, and RCV_STATUS shows what runs, the result and the time it took. -/
def levelEnd (s : State) (q : RcvReq) (result : Nat) : State :=
  let s1 := { s with rcv := { s.rcv with reqs := s.rcv.reqs.filter (· != q) } }
  let v := widestLevel s1 * 2 ^ 60 + result * 2 ^ 56 + min 0xFFFF ((s.clock - q.start) / 1000000) * 2 ^ 32
  let s2 := regSet s1 regRcvStatus (BitVec.ofNat 64 v)
  if result = 1 then regAdd s2 (regRcvCnt (q.level - 1)) 1 else s2

/-- Ask for a power cycle: the floor is held until the tray answers (17 R431, R435). -/
def askCycle (s : State) (trigger : Nat) : State :=
  let s1 := raiseTrigger (resetNotices s 5) ⟨5, false, 0, trigger, s.clock, 0, 1, 0⟩ none
  cycleSend (forceFloor s1) (if trigger = 4 then 3 else 1)

/-! ### The warm path (13 Table 13-2) -/

/-- W4: every tile cleared, its number resolved through the Mending list and TIL_ID written; the dies' registers restored. -/
def warmTiles (s : State) : State :=
  let s1 := regRestore { s with gangs := [], tiles := s.tiles.map fun e => (e.1, resetTile e.2) } fun k => 0x200000 ≤ k && k < 0x240000
  match s1.plan.pattern with
  | some p => writeIds s1 p
  | none => { s1 with plan := { s1.plan with place := placeTiles s1 } }

/-- W3 and W5 at the stacks: registers restored, arbiters and engines started anew, LK registers written again from the Pattern (05
R167). -/
def warmStacks (s : State) : State :=
  let mask := regField s (regStkMap 0) 55 48
  let s1 := showStacks (regRestore { s with engs := [] } fun k => 0x100000 ≤ k && k < 0x180000) mask
  let s2 := match s1.plan.pattern with
    | some p => applyArb (setMode s1 (BitVec.ofNat 64 p.mode)) (mapGet [] s1.plan.sections 6)
    | none => s1
  (List.range 256).foldl chanRestart s2

/-- The warm path succeeds: pending Warrants and the confirmed firmware take effect, tiles and stacks start anew, images are to be
delivered again, and memory and the Pattern are kept. -/
def warmDone (s : State) (lost : Nat) : State :=
  let s1 := warrantPower (warrantsEffect (takeForce (mendLoad s lost) false))
  let s2 := warmStacks (warmTiles s1)
  let s3 := imageCount { s2 with plan := { s2.plan with imagesSent := false }, strum := { s2.strum with absent := [] } }
  let s4 := regSatAdd (regPut s3 regStwBoot 59 59 1) regStwBoot 31 16 1
  let s5 := showMend (setBoot (bring s4 fun b => { b with warm := false }) (if s.plan.pattern.isSome then 6 else 5))
  match s5.rcv.reqs.find? fun q => q.level == 4 with
  | some q => levelEnd s5 q 1
  | none => s5

/-- The warm path fails: the chip reset has failed, and a power cycle is asked for (13 R338, 17 trigger 0x0B). -/
def warmFailed (s : State) : State :=
  let s1 := bring s fun b => { b with warm := false }
  let s2 := match s1.rcv.reqs.find? fun q => q.level == 4 with
    | some q => levelEnd s1 q 2
    | none => s1
  askCycle s2 0x0B

/-- WARM_PATH: W1 to W5.  failed: stacks that failed retraining; lost: Mending list copies that no longer read as written. -/
def execWarmPath (failed lost : Nat) (s : State) : Host.Outcome State Fault Refusal :=
  if !s.bring.warm then .next s
  else if failed % 256 ≠ 0 ∨ (mendPick s lost).isNone ∨ s.clock > s.bring.pathStart + 3000000000 then .next (warmFailed s)
  else .next (warmDone s lost)

/-! ### WARRANT_INSTALL (13 R345, R346) -/

/-- The Warrant that 224 bytes spell (13 Table 13-6). -/
def warrantOf (bs : List Byte) : Warrant :=
  ⟨numAt bs 6 1, numAt bs 7 1, numAt bs 8 8, numAt bs 64 2, numAt bs 66 1, numAt bs 68 2, bs⟩

/-- Is a record a Warrant in form: length, magic, format and reserved bytes. -/
def warrantFormed (bs : List Byte) : Bool :=
  bs.length == 224 && bs.take 4 == [0x57, 0x52, 0x4E, 0x54] && numAt bs 4 2 == 1 && allZero (slice bs 67 1) && allZero (slice bs 70 58)

/-- Does a Lean mask enable six stacks and leave every die one (05 R146). -/
def leanMaskOk (m : Nat) : Bool := popCount 8 m == 6 && (List.range 4).all fun d => bitOf m (2 * d) || bitOf m (2 * d + 1)

/-- Do a Warrant's fields match its code (00 Table 00-3). -/
def warrantMatches (w : Warrant) : Bool :=
  if w.kind = 1 then
    (w.code == 1 && w.tiles == 576 && w.mask == 0xFF && w.power == 3600) || (w.code == 2 && w.tiles == 512 && w.mask == 0xFF && w.power == 3200)
      || (w.code == 3 && w.tiles == 512 && leanMaskOk w.mask && w.power == 2800)
  else w.kind == 2 && 1 ≤ w.code && w.code ≤ 3 && w.tiles == 0 && w.mask == 0 && w.power == 0

/-- Does a Warrant replace another: the same kind and, for features, the same code. -/
def warrantReplaces (w x : Warrant) : Bool := w.kind == x.kind && (w.kind == 1 || w.code == x.code)

/-- Is a start path running: the package is not yet serviceable, or a warm path is due. -/
def onStartPath (s : State) : Bool := s.bring.warm || !isServiceable s

/-- Put a Warrant into flash; the first variant Warrant has the Steward run the warm path itself. -/
def warrantPut (s : State) (w : Warrant) : State :=
  let s1 := flashMod s fun f => { f with warrants := f.warrants.filter (fun x => !warrantReplaces w x) ++ [w] }
  let s2 := warrantPending s1
  if w.kind = 1 ∧ (variantHeld s).isNone ∧ !onStartPath s then bring s2 fun b => { b with warm := true, pathStart := s.clock } else s2

/-- Judge a Warrant (13 R346). -/
def warrantTake (s : State) (bs : List Byte) : Except Nat State :=
  let w := warrantOf bs
  if !warrantFormed bs then .error 5
  else if !keySigOk s.bring.vendorKey (bs.take 128) (slice bs 128 96) then .error 1
  else if slice bs 16 48 ≠ idDigest s then .error 2
  else if s.flash.warrants.any fun x => warrantReplaces w x && decide (w.serial ≤ x.serial) then .error 3
  else if !warrantMatches w then .error 5
  else .ok (warrantPut s w)

/-- WARRANT_INSTALL: a Warrant arrives through SEC_CMD or Plovco; it is checked and installed, to take effect at a start path. -/
def execWarrantInstall (o : Origin) (s : State) : Host.Outcome State Fault Refusal := .next (recordRequest o 5 0x31 warrantTake s)

end Sys2Proof.Machine
end

