-- ==== Sys2Proof/Machine/Mgmt.lean ====
section
/-! DEFINITION. The management port: strangers, sessions, attestation and the Plovco commands that ask for state or change the power
slots (15 R395-R398, R403-R408). -/

namespace Sys2Proof.Machine

/-! ### Strangers (15 R396) -/

/-- STRANGER_FRAME: a frame that R396 or R408 drops. -/
def execStrangerFrame (s : State) : Host.Outcome State Fault Refusal := if stewardRuns s then .next (dropFrame s) else .next s

/-- A request of a stranger, within the limit of 16 a second for each source address. -/
def strangerAsk (s : State) (src : Nat) (f : State → State) : State :=
  let recent := s.mgmt.asked.filter fun e => s.clock < e.2 + 1000000000
  if (recent.filter fun e => e.1 == src).length ≥ 16 then dropFrame (mgmt s fun m => { m with asked := recent })
  else f (mgmt s fun m => { m with asked := recent ++ [(src, s.clock)] })

/-- A request that a stranger may send too: in clear under session number 0, where a malformed one is dropped, else within its session. -/
def openRequest (s : State) (src : Nat) (r : Request) (cmd : Nat) (formed : List Byte → Bool) (f : State → State) : State :=
  if !stewardRuns s then s
  else if r.session ≠ 0 then plovcoRequest s r cmd formed f
  else if formed r.body then strangerAsk s src f
  else dropFrame s

/-- DISCOVER. -/
def execDiscover (src : Nat) (r : Request) (s : State) : Host.Outcome State Fault Refusal :=
  .next (openRequest s src r 0x01 List.isEmpty fun a =>
    reply a r 0x01 0 (bytesOf 1 a.pins.slotId ++ bytesOf 1 (bootPhase a) ++ bytesOf 2 (ownChip a) ++ bytesOf 2 (regField a regHstId 63 48)
      ++ bytesOf 1 (regField a regHstId 47 40) ++ zeros 1 ++ slice a.flash.idRecord 16 16 ++ (idDigest a).take 16))

/-- IDENTITY: a piece of the Identity Record. -/
def execIdentity (src : Nat) (r : Request) (s : State) : Host.Outcome State Fault Refusal :=
  .next (openRequest s src r 0x02 (fun b => b.length == 4 && 1 ≤ numAt b 2 2 && numAt b 2 2 ≤ 1024) fun a =>
    reply a r 0x02 0 (r.body.take 2 ++ bytesOf 2 1504 ++ slice a.flash.idRecord (numAt r.body 0 2) (numAt r.body 2 2)))

/-! ### SPDM (15 R397; DSP0274 is outside the manual, log entry 8) -/

/-- The responder's message: DSP0274 and the part's secrets give it, so that it is a free value here. -/
def spdmReply (s : State) (session : Nat) : State :=
  let (n, s1) := freshFree s
  emit s1 (.spdm session (Config.spdmBody n))

/-- Every session and handshake that p accepts ends. -/
def sessionsEnd (s : State) (p : Session → Bool) : State := mgmt s fun m => { m with sessions := m.sessions.filter fun x => !p x }

/-- Begin a handshake: at most 4 in progress and 8 sessions in all. -/
def shakeBegin (s : State) (src : Nat) (doe : Bool) (id : Nat) : State :=
  if s.mgmt.shakes.length ≥ 4 ∨ s.mgmt.sessions.length ≥ 8 then dropFrame s
  else spdmReply (mgmt s fun m => { m with shakes := m.shakes ++ [⟨id, doe, src⟩] }) 0

/-- End a handshake: a session stands where the requester authenticated under the custodian key, or comes over DOE. -/
def shakeEnd (s : State) (src : Nat) (doe : Bool) (id : Nat) (root : List Byte) (role : Role) (ok : Bool) : State :=
  match s.mgmt.shakes.find? fun x => x.id == id && x.doe == doe && x.src == src with
  | none => dropFrame s
  | some _ =>
    let s1 := mgmt s fun m => { m with shakes := m.shakes.filter fun x => x.id != id }
    let good := ok && (doe || (s.flash.custodian == some root && role != .host))
    let s2 := if good && s.mgmt.sessions.length < 8 then
        mgmt s1 fun m => { m with sessions := m.sessions.filter (fun x => x.id != id) ++ [⟨id, if doe then .host else role, doe, s.clock⟩] }
      else s1
    spdmReply s2 id

/-- Take an SPDM request. -/
def spdmTake (s : State) (src : Nat) (doe : Bool) (session : Nat) (ask : SpdmAsk) : State :=
  match ask with
  | .exchange id => if session = 0 then shakeBegin s src doe id else spdmReply s session
  | .finish id root role ok => if session = 0 then shakeEnd s src doe id root role ok else spdmReply s session
  | .plain => spdmReply s session
  | .endSession => if session = 0 then dropFrame s else sessionsEnd (spdmReply s session) fun x => x.id == session

/-- SPDM: a message over Plovco or DOE, in clear (session 0) or within a session. -/
def execSpdm (src : Nat) (doe : Bool) (session : Nat) (ask : SpdmAsk) (s : State) : Host.Outcome State Fault Refusal :=
  if !stewardRuns s ∨ (doe ∧ s.pins.perst) then .next s
  else if session = 0 then .next (if doe then spdmTake s src doe 0 ask else strangerAsk s src fun a => spdmTake a src doe 0 ask)
  else
    match sessionFind s session with
    | some x => if x.doe = doe then .next (spdmTake (sessionTouch s session) src doe session ask) else .next (dropFrame s)
    | none => .next (dropFrame s)

/-- SESSION_TIMEOUT: two heartbeat periods of 10 s without traffic end a session. -/
def execSessionTimeout (session : Nat) (s : State) : Host.Outcome State Fault Refusal :=
  .next (sessionsEnd s fun x => x.id == session && decide (s.clock ≥ x.last + 20000000000))

/-! ### Attestation (15 R403) -/

/-- A measurement block in DMTF form: index, specification, size, value type, value size, digest. -/
def measureBlock (index type : Nat) (digest : List Byte) : List Byte :=
  bytesOf 1 index ++ bytesOf 1 1 ++ bytesOf 2 51 ++ bytesOf 1 type ++ bytesOf 2 48 ++ digest

/-- Digest of a sub-image of a slot's bundle; zeros where there is none. -/
def subDigest (s : State) (slot kind : Nat) : List Byte := ((subOf (slotGet s slot).man kind).map fun x => bytesOf 48 x.digest).getD (zeros 48)

/-- The slot that supplies the running sub-image of a kind. -/
def subSlot (s : State) (kind : Nat) : Nat :=
  if kind ≤ 2 then s.fw.booted.getD 0 else if kind = 3 then s.fw.stackFrom else if kind = 4 then s.fw.portFrom else s.fw.powerFrom

/-- Digests of the sub-images that wait for the next start path: those of the confirmed running slot that are not in force. -/
def stagedDigests (s : State) : List Byte :=
  match s.fw.booted with
  | some b => if (slotGet s b).state = 3 ∨ (slotGet s b).state = 4 then ([3, 4, 5].filter fun k => subSlot s k != b).flatMap (subDigest s b) else []
  | none => []

/-- The Mending list in use as Table 13-4 lays it out, without its signature. -/
def mendBytes (s : State) : List Byte :=
  let m := s.bring.mend
  let h := [0x4D, 0x45, 0x4E, 0x44] ++ bytesOf 2 1 ++ bytesOf 2 m.entries.length ++ bytesOf 8 m.gen ++ (idDigest s).take 16 ++ zeros 28
  h ++ bytesOf 4 (crc32c h) ++ m.entries.flatMap fun e =>
    [1] ++ bytesOf 1 e.die ++ bytesOf 1 e.row ++ bytesOf 1 e.col ++ bytesOf 1 e.source ++ bytesOf 1 e.test ++ zeros 2 ++ bytesOf 4 e.powerOn ++ zeros 4

/-- The Warrants installed, in kind and code order. -/
def warrantBytes (s : State) : List Byte :=
  ([1, 2].flatMap fun k => [1, 2, 3].flatMap fun c => s.flash.warrants.filter fun w => w.kind == k && w.code == c).flatMap (·.raw)

/-- The 14 blocks of Table 15-11; the settings' digest is a free value, since the manual does not lay their body out. -/
def measurements (s : State) (free : Nat) : List Byte :=
  let staged := stagedDigests s
  let booted := s.fw.booted.getD 0
  measureBlock 1 0 Config.romDigest
    ++ measureBlock 2 1 (sha384 ((slotGet s booted).data.take 4096))
    ++ ([1, 2, 3, 4, 5].flatMap fun k => measureBlock (k + 2) 1 (subDigest s (subSlot s k) k))
    ++ measureBlock 8 1 (if staged.isEmpty then zeros 48 else sha384 staged)
    ++ measureBlock 9 3 (bytesOf 48 (Config.free free))
    ++ measureBlock 10 2 (idDigest s)
    ++ measureBlock 11 2 (sha384 (warrantBytes s))
    ++ measureBlock 12 2 (sha384 (mendBytes s))
    ++ measureBlock 13 3 ((s.plan.pattern.map digestBytes).getD (zeros 48))
    ++ measureBlock 14 3 (sha384 (s.flash.custodian.getD [] ++ s.flash.owners.flatMap (·.key)))

/-- GET_MEASUREMENTS: within a session, or over DOE; signed by the device key over the requester's nonce. -/
def execGetMeasurements (doe : Bool) (session : Nat) (nonce : List Byte) (s : State) : Host.Outcome State Fault Refusal :=
  if !stewardRuns s ∨ (doe ∧ s.pins.perst) then .next s
  else if (session = 0 ∧ doe) ∨ (sessionFind s session).any fun x => x.doe == doe then
    let (n, s1) := freshFree (sessionTouch s session)
    let m := measurements s1 n
    .next (emit s1 (.spdm session (m ++ nonce ++ Config.deviceSign (m ++ nonce))))
  else .next (dropFrame s)

/-! ### The port (15 R395) -/

/-- BEACON_LOSS: no PLCA beacon for 4 ms. -/
def execBeaconLoss (s : State) : Host.Outcome State Fault Refusal :=
  .next (mgmt s fun m => { m with csma := true, beaconLosses := m.beaconLosses + 1 })

/-! ### The tray's orders (14 R361, R377, 15 R404) -/

/-- Lease time remaining, in ms. -/
def leaseMs (s : State) : Nat := if s.power.leaseState = 1 then (s.power.leaseEnd - s.clock) / 1000000 else 0

/-- TRAY_CAP. -/
def execTrayCap (r : Request) (s : State) : Host.Outcome State Fault Refusal :=
  .next (plovcoRequest s r 0x10 (bodyOf' 8 2) fun a =>
    let b := leaseTray (setTray a (slotClamp a (numAt r.body 0 2)))
    reply b r 0x10 0 (bytesOf 2 b.power.effective ++ bytesOf 2 b.power.tray ++ bytesOf 4 (leaseMs b)))

/-- LEASE_RENEW. -/
def execLeaseRenew (r : Request) (s : State) : Host.Outcome State Fault Refusal :=
  .next (plovcoRequest s r 0x11 List.isEmpty fun a =>
    let b := leaseTray a
    reply b r 0x11 0 (bytesOf 2 b.power.tray ++ zeros 2 ++ bytesOf 4 (leaseMs b)))

/-- ORPHAN_CAP. -/
def execOrphanCap (r : Request) (s : State) : Host.Outcome State Fault Refusal :=
  .next (plovcoRequest s r 0x12 (bodyOf' 8 2) fun a =>
    let b := pwr a fun p => { p with orphan := slotClamp a (numAt r.body 0 2) }
    reply b r 0x12 0 (bytesOf 2 b.power.orphan ++ zeros 6))

/-- A coolant report whose flags say which of its values are valid. -/
def coolantTake (s : State) (b : List Byte) : State :=
  let temp := fun (i : Nat) (old : Int) => if bitOf (numAt b 6 2) 1 then signedOf 16 (numAt b i 2) else old
  let inlet := temp 0 s.power.inlet
  let outlet := temp 2 s.power.outlet
  if bitOf (numAt b 6 2) 0 then coolantReport s inlet outlet (numAt b 4 2)
  else pwr s fun p => { p with inlet := inlet, outlet := outlet, reportAt := some s.clock, noReport := false }

/-- COOLANT. -/
def execCoolant (r : Request) (s : State) : Host.Outcome State Fault Refusal :=
  .next (plovcoRequest s r 0x13 (fun b => b.length == 8 && numAt b 6 2 ≤ 3) fun a => reply (coolantTake a r.body) r 0x13 0 [])

/-! ### What a session may ask for -/

/-- POWER_STATUS. -/
def execPowerStatus (r : Request) (s : State) : Host.Outcome State Fault Refusal :=
  .next (plovcoRequest s r 0x14 List.isEmpty fun a =>
    reply a r 0x14 0 (bytesOf 8 (pwrCapStatus a.power) ++ bytesOf 8 (pwrSlots a.power) ++ bytesOf 8 a.power.active ++ bytesOf 8 (thmStatus a.power)))

/-- STATUS. -/
def execStatus (r : Request) (s : State) : Host.Outcome State Fault Refusal :=
  .next (plovcoRequest s r 0x23 List.isEmpty fun a =>
    reply a r 0x23 0 ([regStwBoot, regStwReady, regSecWarrant, regStwMend].flatMap fun k => regBytes (regGet a k)))

/-- Is a DAYBOOK request laid out as Table 15-14 gives. -/
def daybookFormed (b : List Byte) : Bool := b.length == 16 && numAt b 8 1 ≤ 1 && 1 ≤ numAt b 9 1 && numAt b 9 1 ≤ 16 && allZero (b.drop 11)

/-- The entries a DAYBOOK request asks for, oldest first. -/
def daybookPick (s : State) (b : List Byte) : List DbEntry :=
  let all := (if numAt b 8 1 = 0 then s.book.ring else s.book.mirror).reverse
  (all.filter fun e => e.seq ≥ numAt b 0 8 && e.severity ≥ numAt b 10 1).take (numAt b 9 1)

/-- DAYBOOK: where no entry is returned the manual gives `next` no value. -/
def execDaybook (r : Request) (s : State) : Host.Outcome State Fault Refusal :=
  .next (plovcoRequest s r 0x20 daybookFormed fun a =>
    let es := daybookPick a r.body
    let (n, b) := freshFree a
    let next := (es.getLast?.map (·.seq + 1)).getD (Config.free n)
    reply b r 0x20 0 (bytesOf 8 next ++ bytesOf 1 es.length ++ zeros 7 ++ es.flatMap dbBytes))

/-- TRACE. -/
def execTrace (r : Request) (s : State) : Host.Outcome State Fault Refusal :=
  .next (plovcoRequest s r 0x21 (fun b => b.length == 32) fun a =>
    let b := (List.range 4).foldl (fun z w => regSet z (regTraceMask w) (BitVec.ofNat 64 (numAt r.body (8 * w) 8))) a
    reply b r 0x21 0 ((List.range 4).flatMap fun w => regBytes (regGet b (regTraceMask w))))

/-- Is a SCRUB request laid out as Table 15-14 gives. -/
def scrubFormed (b : List Byte) : Bool := b.length == 24 && (numAt b 16 1 == 1 || numAt b 16 1 == 2) && allZero (b.drop 17)

/-- SCRUB: the reply that ends a scrub is sent by its end (07 R208). -/
def execScrub (r : Request) (s : State) : Host.Outcome State Fault Refusal :=
  .next (plovcoRequest s r 0x22 scrubFormed fun a =>
    let b := if numAt r.body 16 1 = 1 then scrubRequest a (numAt r.body 0 8) (numAt r.body 8 8) (some (r.session, r.seq)) else scrubAbort a
    let st := regField b regScbStatus 2 0
    let status := if numAt r.body 16 1 = 1 ∧ st = 6 then 2 else if numAt r.body 16 1 = 1 ∧ st = 5 then 4 else 0
    reply b r 0x22 status (regBytes (regGet b regScbStatus)))

/-- RECEIPT: a piece of the last erasure receipt. -/
def execReceipt (r : Request) (s : State) : Host.Outcome State Fault Refusal :=
  .next (plovcoRequest s r 0x43 (fun b => b.length == 4) fun a =>
    reply a r 0x43 0 (r.body.take 2 ++ bytesOf 2 352 ++ slice a.flash.receipt (numAt r.body 0 2) (numAt r.body 2 2)))

/-- Command codes of Table 15-8 that a request may carry. -/
def plovcoKnown : List Nat :=
  [0x01, 0x02, 0x03, 0x10, 0x11, 0x12, 0x13, 0x14, 0x20, 0x21, 0x22, 0x23, 0x24, 0x30, 0x31, 0x32, 0x40, 0x41, 0x42, 0x43]

/-- UNKNOWN_COMMAND: answered with status 0x05 within a session. -/
def execUnknownCommand (cmd : Nat) (r : Request) (s : State) : Host.Outcome State Fault Refusal :=
  if plovcoKnown.contains cmd ∨ !stewardRuns s then .next s
  else
    match sessionFind s r.session with
    | some _ => .next (reply (sessionTouch s r.session) r cmd 5 [])
    | none => .next (dropFrame s)

/-! ### The Daybook's seconds (15 R405) -/

/-- DAYBOOK_MIRROR_SECOND: a Drone second in which entries went unmirrored has ended. -/
def execDaybookMirrorSecond (s : State) : Host.Outcome State Fault Refusal :=
  let now := droneNs s / secondNs
  if s.book.unmirrored = 0 ∨ s.book.second ≥ now then .next s
  else
    let e : DbEntry := ⟨droneNs s, s.book.next, 1, 0xF100, 3, 0xFF, [s.book.unmirrored, s.book.firstUnmirrored, 0, 0, 0]⟩
    let s1 := mirrorWrite (bookWrite s e) e
    .next { s1 with book := { s1.book with second := now, mirrored := 0, unmirrored := 0, firstUnmirrored := 0, traced := 0 } }

end Sys2Proof.Machine
end

