-- ==== Sys2Proof/Machine/Update.lean ====
section
/-! DEFINITION. Firmware bundles: writing, activation's checks, deferral, and the update registers (16 R410-R416, R420, R423, R424). -/

namespace Sys2Proof.Machine

/-! ### Bundles (16 R411) -/

/-- A sub-image entry of 128 bytes. -/
def subImageOf (b : List Byte) : SubImage :=
  ⟨numAt b 0 1, numAt b 2 2, numAt b 4 4, numAt b 8 2, numAt b 10 2, numAt b 12 4,
    (List.range 5).map fun k => (numAt b (16 + 4 * k) 2, numAt b (18 + 4 * k) 2), numAt b 80 48⟩

/-- The manifest that block 0 of a bundle holds. -/
def manifestOf (b : List Byte) : Manifest :=
  { contractMajor := numAt b 9 1, contractMinor := numAt b 10 1, version := numAt b 12 4, security := numAt b 16 8
    peerClass := numAt b 24 2, peerLo := numAt b 26 2, peerHi := numAt b 28 2, recFormat := numAt b 30 1, recLo := numAt b 31 1
    blocks := numAt b 34 2, length := numAt b 36 4, settings := numAt b 40 2
    subs := (List.range 5).map fun i => subImageOf (slice b (64 + 128 * i) 128) }

/-- Is a sub-image entry well formed in a bundle of n blocks. -/
def subFormed (n : Nat) (b : List Byte) : Bool :=
  let x := subImageOf b
  allZero (slice b 1 1) && allZero (slice b 36 44) && 1 ≤ x.kind && x.kind ≤ 5 && at' (0, 0) x.req (x.kind - 1) == (0, 0)
    && 1 ≤ x.first && x.first + x.blocks ≤ n && x.length ≤ 65536 * x.blocks

/-- Is block 0 of a bundle of n blocks a manifest in structure and reserved fields. -/
def manifestFormed (b : List Byte) (n : Nat) : Bool :=
  b.take 4 == [0x56, 0x46, 0x57, 0x42] && numAt b 4 2 == 1 && allZero (slice b 11 1) && numAt b 32 2 == 5 && numAt b 34 2 == n
    && numAt b 36 4 ≤ 65536 * n && allZero (slice b 42 22)
    && (List.range 5).all (fun i => subFormed n (slice b (64 + 128 * i) 128)) && allZero (slice b 704 384)
    && [1, 2, 3, 4, 5].all (fun k => (manifestOf b).subs.any fun x => x.kind == k)
    && allZero (slice b 1088 4) && allZero (slice b (1088 + 4 * n) (4 * (512 - n))) && allZero (slice b 3136 864) && allZero (slice b 4096 61440)

/-- The first block whose CRC-32C is not the one the manifest gives. -/
def badBlock (b : List Byte) (n : Nat) : Option Nat :=
  (rangeFrom 1 (n - 1)).find? fun j => crc32c (slice b (65536 * j) 65536) != numAt b (1088 + 4 * j) 4

/-- Is a set of sub-images compatible: the class of each lies in the range that every other requires of its kind (16 R416). -/
def subsCompatible (l : List SubImage) : Bool :=
  l.all fun x => l.all fun y => x.kind == y.kind || (let r := at' (0, 0) x.req (y.kind - 1); r.1 ≤ y.cls && y.cls ≤ r.2)

/-- The reason a bundle of n blocks is refused with, in the order of R413; none where it is sound. -/
def bundleReason (s : State) (placed : Bool) (b : List Byte) (n : Nat) : Option Nat :=
  let m := manifestOf b
  if !placed then some 0x10
  else if numAt b 6 2 ≠ 1 ∨ numAt b 8 1 ≠ 0xB0 then some 0x05
  else if !manifestFormed b n then some 0x02
  else if !keySigOk s.bring.vendorKey (b.take 4000) (slice b 4000 96) then some 0x01
  else if (badBlock b n).isSome then some 0x03
  else if !m.subs.all (subSound b) then some 0x04
  else if m.security < s.fw.minSecurity then some 0x06
  else if !subsCompatible m.subs then some 0x07
  else none

/-! ### The update block's registers (16 R424) -/

/-- UPD_STATUS with its live counts. -/
def updStatus (s : State) : Nat :=
  let base := (regGet s regUpdStatus).toNat
  let secs := fun (t : Nat) => min 255 ((s.clock - t) / secondNs)
  let deferred := match s.fw.deferred with | some (t, _) => if base / 2 ^ 60 = 3 then secs t else 0 | none => 0
  let trial := if (slotIn s 3).isSome then secs s.fw.trialAt else 0
  base + deferred * 2 ^ 40 + trial * 2 ^ 32

/-- UPD_SLOT_A and UPD_SLOT_B. -/
def updSlot (s : State) (i : Nat) : Nat :=
  let x := slotGet s i
  x.state * 2 ^ 60 + x.man.version * 2 ^ 24 + x.man.security % 65536 * 256 + min 255 x.boots

/-- The class of the sub-image of a kind in a slot's bundle. -/
def slotClass (s : State) (slot kind : Nat) : Nat := ((subOf (slotGet s slot).man kind).map (·.cls)).getD 0

/-- UPD_CLASS_RUN: the classes running. -/
def updClassRun (s : State) : Nat :=
  let c := fun k => slotClass s (subSlot s k) k
  c 1 * 2 ^ 48 + c 2 * 2 ^ 32 + c 3 * 2 ^ 16 + c 4

/-- UPD_CLASS_NEXT: the classes in force after the next warm path, and for the power stage after the next cold path. -/
def updClassNext (s : State) : Nat :=
  let next := fun k => slotClass s ((slotIn s 4).getD (subSlot s k)) k
  next 3 * 2 ^ 48 + next 4 * 2 ^ 32 + next 5 * 2 ^ 16 + slotClass s s.fw.powerFrom 5

/-- UPD_SETTINGS. -/
def updSettings (s : State) : Nat :=
  let held := bit (s.fw.settings.any fun e => e.2.held) * 2
  match s.fw.settingsUse.bind fun i => mapFind s.fw.settings i with
  | some x => x.version * 2 ^ 48 + x.gen % 2 ^ 32 * 2 ^ 16 + held
  | none => held + 1

/-- The body of every UPDATE reply. -/
def updBody (s : State) : List Byte := bytesOf 8 (updStatus s) ++ bytesOf 8 (updSlot s 0) ++ bytesOf 8 (updSlot s 1)

/-- Plovco status of an update request by what UPD_STATUS shows: busy, refused, or done. -/
def updReplyStatus (s : State) : Nat :=
  if regField s regUpdStatus 63 60 ≠ 8 then 0 else if regField s regUpdStatus 59 52 = 0x0C then 2 else 4

/-- Is an UPDATE request of an operation laid out as 15 Table 15-14 gives. -/
def updateFormed (op : Nat) (b : List Byte) : Bool :=
  numAt b 0 1 == op && allZero (slice b 1 3) && (if op = 1 then 8 ≤ b.length && b.length ≤ 1032 else b.length == 8)

/-- An update operation from the host by UPD_CMD.op, or over Plovco. -/
def updateAsk (o : Origin) (hostOp plovcoOp : Nat) (f : State → State) (s : State) : State :=
  match o with
  | .host => hostWrite s regUpdCmd (BitVec.ofNat 64 hostOp) f
  | .plovco r => plovcoRequest s r 0x30 (updateFormed plovcoOp) fun a => let b := f a; reply b r 0x30 (updReplyStatus b) (updBody b)

/-! ### Writing (16 R413) -/

/-- A write, activation or trial is running (16 Table 16-10). -/
def updBusy (s : State) : Bool := s.fw.phase != .idle || s.fw.deferred.isSome || (slotIn s 3).isSome

/-- The slot that a write goes to: neither the running one nor fallback nor pinned. -/
def freeSlot (s : State) : Option Nat := [0, 1].find? fun i => s.fw.booted != some i && !([5, 6].contains (slotGet s i).state)

/-- UPD_STATUS with the emergency bits, and the first bad block. -/
def updEmergency (s : State) (e : Nat) : State := regPut s regUpdStatus 51 48 e
def updBlock (s : State) (n : Nat) : State := regPut s regUpdStatus 31 16 n

/-- Write a bundle into the free slot and check it there. -/
def bundleWrite (s : State) (placed : Bool) (b : List Byte) (n : Nat) : State :=
  match (if updBusy s then none else freeSlot s) with
  | none => updState s 8 0x0C
  | some i =>
    let s1 := updState (updBlock (slotSet s i { state := 1 }) 0) 1 0
    match bundleReason s1 placed b n with
    | some r => updState (updBlock (slotState s1 i 7) (if r = 0x03 then (badBlock b n).getD 0 else 0)) 8 r
    | none => updState (slotSet s1 i { state := 2, man := manifestOf b, data := b }) 2 0

/-- The largest bundle. -/
def bundleMax : Nat := 512 * 65536

/-- The range that UPD_STAGE names: in memory below the Steward reserve, and while a Pattern is applied in a staging region. -/
def stagePlaced (s : State) : Bool :=
  let a := regField s regUpdStage 47 0
  let n := 65536 * regField s regUpdStage 63 48
  2 * 65536 ≤ n && n ≤ bundleMax && a % 65536 == 0 && a + n ≤ reserveBase s
    && match s.plan.pattern with
       | some p => p.regions.any fun r => r.staging && r.base ≤ a && a + n ≤ r.base + r.size
       | none => true

/-- A write from the staged range. -/
def hostBundle (s : State) : State :=
  let a := regField s regUpdStage 47 0
  let n := regField s regUpdStage 63 48
  if stagePlaced s then bundleWrite (linesReadEffects s (linesOf a (65536 * n))) true (memLoad s a (65536 * n)).1 n else bundleWrite s false [] 0

/-- A write of n blocks from the chunks in the Steward reserve. -/
def chunkBundle (n : Nat) (s : State) : State :=
  if 2 ≤ n ∧ n ≤ 512 then bundleWrite s true (memLoad s (reserveBase s) (65536 * n)).1 n else bundleWrite s false [] 0

/-- BUNDLE_WRITE. -/
def execBundleWrite (o : Origin) (s : State) : Host.Outcome State Fault Refusal :=
  .next (match o with
    | .host => updateAsk o 1 2 hostBundle s
    | .plovco r => updateAsk o 1 2 (chunkBundle (numAt r.body 4 4)) s)

/-- UPDATE_CHUNK: a chunk goes to its place in the Steward reserve. -/
def execUpdateChunk (r : Request) (s : State) : Host.Outcome State Fault Refusal :=
  .next (plovcoRequest s r 0x30 (updateFormed 1) fun a =>
    let off := numAt r.body 4 4
    let data := r.body.drop 8
    if off + data.length ≤ bundleMax then
      let b := memStoreClean a (reserveBase a + off) data
      reply b r 0x30 0 (updBody b)
    else reply a r 0x30 4 (updBody a))

/-- UPDATE_STATUS. -/
def execUpdateStatus (r : Request) (s : State) : Host.Outcome State Fault Refusal :=
  .next (plovcoRequest s r 0x30 (updateFormed 6) fun a => reply a r 0x30 0 (updBody a))

/-! ### Activation's checks and deferral (16 R416, R420) -/

/-- The emergencies that stand: bit 3 regulator alert, bit 2 critical or trip, bit 1 coolant floor, bit 0 droop storm. -/
def emergencies (s : State) : Nat :=
  let p := s.power
  let alert := p.alert || (p.alertClear != 0 && decide (s.clock < p.alertClear + 1000000))
  bit alert * 8 + bit (p.critical || p.trip) * 4 + bit p.coolant * 2 + bit (allDies.any fun d => (dieGet s d).storm.isSome)

/-- Does a neighbour of an active port lie outside a manifest's window. -/
def neighbourOutside (s : State) (m : Manifest) : Bool :=
  (List.range 18).any fun p =>
    let c := numAt (lpGet s p).record 12 2
    prtPhase s p == 8 && !(lpGet s p).record.isEmpty && !(m.peerLo ≤ c && c ≤ m.peerHi)

/-- Why a slot may not be activated (16 R416). -/
def activateReason (s : State) (i : Nat) : Option Nat :=
  let m := (slotGet s i).man
  let force := [3, 4, 5].filterMap fun k => subOf (slotGet s (subSlot s k)).man k
  if !subsCompatible (([1, 2].filterMap fun k => subOf m k) ++ force) then some 0x08
  else
    match s.plan.pattern with
    | none => none
    | some p =>
      if m.contractMajor ≠ p.contract.1 ∨ m.contractMinor < p.contract.2 then some 0x0A
      else if neighbourOutside s m then some 0x09
      else if s.fw.running.recFormat < m.recLo then some 0x0B
      else none

/-- A1: the checks; asked is when the activation was asked for. -/
def activateTry (s : State) (asked i : Nat) : State :=
  match activateReason s i with
  | some r => updState (updEmergency (fwMod s fun f => { f with deferred := none }) 0) 8 r
  | none =>
    let e := emergencies s
    let s1 := updEmergency (fwMod s fun f => { f with deferred := some (asked, s.clock), target := i }) e
    if e ≠ 0 then updState s1 3 0 else updState (fwMod s1 fun f => { f with phase := .drain }) 4 0

/-- UPD_CMD.op = activate: the valid slot; where none is valid there is nothing to activate. -/
def activate (s : State) : State :=
  if updBusy s then updState s 8 0x0C
  else
    match slotIn s 2 with
    | some i => activateTry s s.clock i
    | none => s

/-- ACTIVATE. -/
def execActivate (o : Origin) (s : State) : Host.Outcome State Fault Refusal := .next (updateAsk o 2 3 activate s)

/-- Is an activation deferred. -/
def isDeferred (s : State) : Option (Nat × Nat) := if s.fw.phase = .idle then s.fw.deferred else none

/-- ACTIVATION_RETRY: A1 again, every 1 s. -/
def execActivationRetry (s : State) : Host.Outcome State Fault Refusal :=
  match isDeferred s with
  | some (asked, tried) => if s.clock ≥ tried + secondNs ∧ stewardRuns s then .next (activateTry s asked s.fw.target) else .next s
  | none => .next s

/-- ACTIVATION_ABANDON: an emergency still holds 60 s after the request. -/
def execActivationAbandon (s : State) : Host.Outcome State Fault Refusal :=
  match isDeferred s with
  | some (asked, _) =>
    if s.clock ≥ asked + 60 * secondNs ∧ emergencies s ≠ 0 ∧ stewardRuns s then
      .next (updState (fwMod s fun f => { f with deferred := none }) 9 0x0D)
    else .next s
  | none => .next s

/-- UPD_CMD.op = cancel: a deferred activation is stopped. -/
def cancelActivation (s : State) : State :=
  match isDeferred s with
  | some _ => updState (updEmergency (fwMod s fun f => { f with deferred := none }) 0) 0 0
  | none => s

/-- CANCEL_ACTIVATION. -/
def execCancelActivation (o : Origin) (s : State) : Host.Outcome State Fault Refusal := .next (updateAsk o 4 5 cancelActivation s)

end Sys2Proof.Machine
end

