-- ==== Sys2Proof/Machine/Handover.lean ====
section
/-! DEFINITION. Live handover, trial, fallback and the restart of the Steward (16 R417-R419, R423, 17 R437, 14 R381). -/

namespace Sys2Proof.Machine

/-! ### The handover record (16 R418) -/

/-- The format an image writes: during a trial that of the image it replaced, else its own. -/
def recordFormat (s : State) : Nat :=
  match slotIn s 3, slotIn s 5 with
  | some _, some j => (slotGet s j).man.recFormat
  | _, _ => s.fw.running.recFormat

/-- The record rewritten; what else it carries stands in State and is not lost. -/
def recordWrite (s : State) : State :=
  let p := s.power
  fwMod s fun f => { f with record := {
    format := recordFormat s, writer := f.running.version, gen := f.record.gen + 1, at_ := s.clock
    rth := p.rth, thermalRaw := p.thermalRaw, factor := p.factor, inlet := p.inlet, outlet := p.outlet, flow := p.flow
    reportAt := p.reportAt, noReport := p.noReport } }

/-- HANDOVER_RECORD_WRITE: every 100 ms. -/
def execHandoverRecordWrite (s : State) : Host.Outcome State Fault Refusal :=
  if stewardRuns s ∧ s.clock ≥ s.fw.record.at_ + 100000000 then .next (recordWrite s) else .next s

/-- The working values are read from the record. -/
def recordRead (s : State) : State :=
  let r := s.fw.record
  if r.gen = 0 then s
  else pwr s fun p => { p with
    rth := r.rth, thermalRaw := r.thermalRaw, factor := r.factor, inlet := r.inlet, outlet := r.outlet, flow := r.flow
    reportAt := r.reportAt, noReport := r.noReport }

/-! ### The phases (16 Table 16-7) -/

/-- The service core is away with an HST_STEWARD.state: 2 restarting, 3 handover; the Mute is armed and the ROM loads next. -/
def stewardAway (s : State) (st : Nat) : State := fwMod (muteArm (regPut s regHstSteward 63 62 st)) fun f => { f with phase := .quiesced }

/-- Has every valid record of every ring been accepted or refused (A2). -/
def drained (s : State) : Bool :=
  !isReady s || (definedCtxs s).all fun c =>
    let bs := (memLoad s (slotOff s c (planGet s c).head) 24).1
    ctxInReset s c || numAt bs 0 1 != 1 || beyondHorizon s c (numAt bs 16 8)

/-- A3: the record is written, the target slot enters trial and the other is its fallback. -/
def quiesce (s : State) : State :=
  let i := s.fw.target
  let s1 := slotState (slotSet s i { slotGet s i with state := 3, boots := 0 }) (1 - i) 5
  let s2 := recordWrite (fwMod s1 fun f => { f with deferred := none, trialAt := s.clock, healthy := none })
  stewardAway s2 3

/-- HANDOVER_DRAIN_DONE: A2 ends; an emergency that began during it returns the activation to deferred. -/
def execHandoverDrainDone (s : State) : Host.Outcome State Fault Refusal :=
  if s.fw.phase ≠ .drain ∨ !stewardRuns s ∨ !drained s then .next s
  else
    let e := emergencies s
    if e ≠ 0 then .next (updState (updEmergency (fwMod s fun f => { f with phase := .idle }) e) 3 0) else .next (quiesce s)

/-- HANDOVER_LOAD: A4; the ROM checks and boots the slot in trial, or the active one.  A trial slot that fails its check is bad, and the
package has fallen back. -/
def execHandoverLoad (decayed : Nat) (s : State) : Host.Outcome State Fault Refusal :=
  if s.fw.phase ≠ .quiesced then .next s
  else
    let s1 := romBoot s decayed false
    let s2 := match slotIn s 3 with
      | some i =>
        if (slotGet s1 i).state = 7 then
          updState (logEvent s1 1 0x9002 4 0xFF [(slotGet s1 i).man.version, 0x0E]) 7 0x0E
        else s1
      | none => s1
    if s2.fw.booted.isNone then .next (portsDark (setBoot s2 8)) else .next (fwMod s2 fun f => { f with phase := .loaded })

/-- HANDOVER_RESTORE: A5; the state is read from the record and the settings are chosen.  lost: settings copies that no longer read as written
(bits 2 and 3). -/
def execHandoverRestore (lost : Nat) (s : State) : Host.Outcome State Fault Refusal :=
  if s.fw.phase ≠ .loaded then .next s
  else .next (fwMod (settingsChoose (recordRead s) lost) fun f => { f with phase := .restored })

/-- HANDOVER_RECLAIM: A6; HST_STEWARD reads running, the loop core reclaims from the Mute, the missed scan is made up, resets that fell due
begin with new timers, and a trial image's health is watched. -/
def execHandoverReclaim (s : State) : Host.Outcome State Fault Refusal :=
  if s.fw.phase ≠ .restored then .next s
  else
    let s1 := muteReclaim (regPut (fwMod s fun f => { f with phase := .idle }) regHstSteward 63 62 1)
    let s2 := { s1 with rcv := { s1.rcv with reqs := s1.rcv.reqs.map fun q => { q with start := s.clock } } }
    let s3 := if isReady s2 then planScan s2 else s2
    .next (if (slotIn s3 3).isSome && slotIn s3 3 == s3.fw.booted then updState (fwMod s3 fun f => { f with healthy := some s.clock }) 5 0 else s3)

/-! ### Trial (16 R419) -/

/-- Does a slot supply a sub-image in force. -/
def inForce (s : State) (i : Nat) : Bool := s.fw.stackFrom == i || s.fw.portFrom == i || s.fw.powerFrom == i

/-- The trial image is confirmed. -/
def confirm (s : State) (i : Nat) : State :=
  let s1 := slotSet s i { slotGet s i with state := 4, boots := 0 }
  let j := 1 - i
  let s2 := if (slotGet s1 j).state = 5 then slotState s1 j (if inForce s1 j then 6 else 2) else s1
  let m := (slotGet s2 i).man
  let s3 := fwMod s2 fun f => { f with
    minSecurity := max f.minSecurity m.security, healthy := none
    settings := f.settings.map fun e => (e.1, { e.2 with held := false }) }
  updState (logEvent s3 1 0x9001 2 0xFF [m.version]) 6 0

/-- TRIAL_CONFIRM: the image has been healthy for 10 s together. -/
def execTrialConfirm (s : State) : Host.Outcome State Fault Refusal :=
  match slotIn s 3, s.fw.healthy with
  | some i, some t =>
    if stewardRuns s ∧ s.fw.phase = .idle ∧ s.fw.booted = some i ∧ s.fw.settingsUse.isSome ∧ s.clock ≥ t + 10 * secondNs then .next (confirm s i)
    else .next s
  | _, _ => .next s

/-- The ROM watchdog restarts the Steward from the fallback slot: the trial slot is bad, the other active, and A3 to A6 follow. -/
def fallBack (s : State) (reason : Nat) : State :=
  match slotIn s 3 with
  | none => s
  | some i =>
    let s1 := slotState s i 7
    let s2 := if (slotGet s1 (1 - i)).state = 5 then slotState s1 (1 - i) 4 else s1
    let s3 := updState (logEvent s2 1 0x9002 4 0xFF [(slotGet s i).man.version, reason]) 7 reason
    let s4 := if stewardRuns s3 then recordWrite s3 else s3
    stewardAway (fwMod s4 fun f => { f with healthy := none }) 3

/-- TRIAL_TIMEOUT: no confirmation 60 s after A3 began. -/
def execTrialTimeout (s : State) : Host.Outcome State Fault Refusal :=
  if (slotIn s 3).isSome ∧ s.fw.booted.isSome ∧ s.clock ≥ s.fw.trialAt + 60 * secondNs then .next (fallBack s 0x0E) else .next s

/-- REJECT: UPD_CMD.op = reject during the trial. -/
def execReject (o : Origin) (s : State) : Host.Outcome State Fault Refusal := .next (updateAsk o 3 4 (fun a => fallBack a 0x0F) s)

/-! ### Restart (17 R437) -/

/-- STEWARD_RESTART: a core misses its watchdog; the Steward restarts from its retained record.  A drain that it interrupts is deferred
again. -/
def execStewardRestart (s : State) : Host.Outcome State Fault Refusal :=
  if !stewardRuns s then .next s
  else
    let s1 := if s.fw.phase = .drain then updState s 3 0 else s
    .next (stewardAway (fwMod (regSatAdd s1 regHstSteward 47 32 1) fun f => { f with healthy := none }) 2)

end Sys2Proof.Machine
end

