-- ==== Sys2Proof/Machine/Host.lean ====
section
/-! DEFINITION. The host: the contract check, the driver lease and the orphan state, PERST_N, and BAR2 (01 R43-R49, 15 R386-R394, 07
R204). -/

namespace Sys2Proof.Machine

/-- Change the host's state. -/
def hostMod (s : State) (f : HostSt → HostSt) : State := { s with host := f s.host }

/-! ### The contract check (01 R44, R49) -/

/-- A lease of HST_LEASE_CFG.lease_ms from now (15 R391). -/
def leaseStart (s : State) : State := hostMod s fun h => { h with lease := .leased, leaseEnd := s.clock + 1000000 * regField s regLeaseCfg 15 0 }

/-- The result of a check: 1 accepted, 2 major differs, 3 firmware minor too low. -/
def contractResult (s : State) : Nat :=
  if regField s regContractDrv 31 24 ≠ regField s regContractFw 31 24 then 2
  else if regField s regContractFw 23 16 < regField s regContractDrv 15 8 then 3
  else 1

/-- HST_CONTRACT_CHECK.check is written with 1: a refusal revokes nothing, an acceptance starts a new lease. -/
def contractCheck (s : State) : State :=
  let r := contractResult s
  let s1 := regPut (regPut s regContractStatus 31 30 r) regContractStatus 23 16 (regField s regContractDrv 31 24)
  if r = 1 then leaseStart { s1 with host := { s1.host with accepted := true }, book := { s1.book with warned := [] } }
  else regSatAdd s1 regContractStatus 15 0 1

/-- CONTRACT_CHECK. -/
def execContractCheck (s : State) : Host.Outcome State Fault Refusal := .next (hostWrite s regContractCheck 1 contractCheck)

/-- HOST_CAP_WRITE: PWR_CAP_HOST is written; the value is clamped (14 R360). -/
def execHostCapWrite (watts : Nat) (s : State) : Host.Outcome State Fault Refusal :=
  .next (hostWrite s regPwrCapHost (BitVec.ofNat 64 watts) fun a => setHostCap a (watts % 2 ^ 16))

/-! ### The lease (15 R391-R393) -/

/-- HEARTBEAT: held in hardware, so that it takes effect while the service core is away; only the accepted driver's renews. -/
def execHeartbeat (v : Word) (s : State) : Host.Outcome State Fault Refusal :=
  if windowClosed s then .next s
  else if s.host.accepted then .next (leaseStart s)
  else .next (hostWrite s regHeartbeat v id)

/-- The lease ends: the package is in the orphan state, and every context is orphaned. -/
def leaseEnds (s : State) : State :=
  if s.host.lease = .leased then hostMod s fun h => { h with accepted := false, lease := .orphan, orphaned := definedCtxs s } else s

/-- LEASE_RELEASE: HST_LEASE_CFG.release is written. -/
def execLeaseRelease (s : State) : Host.Outcome State Fault Refusal :=
  .next (hostWrite s regLeaseCfg (BitVec.ofNat 64 (2 ^ 16 + regField s regLeaseCfg 15 0)) leaseEnds)

/-- DRIVER_LEASE_EXPIRY. -/
def execDriverLeaseExpiry (s : State) : Host.Outcome State Fault Refusal :=
  if s.clock ≥ s.host.leaseEnd then .next (leaseEnds s) else .next s

/-- What becomes of held events at a write of HST_ADOPT, oldest first. -/
def adoptEvents (adopt reset : Nat → Bool) : List HostEvent → State → State
  | [], s => s
  | e :: es, s =>
    let mine := e.kind == 1 || e.kind == 2
    adoptEvents adopt reset es
      (if mine ∧ reset e.context then s
      else if !mine ∨ adopt e.context then ringAppend s e
      else hostMod s fun h => { h with held := h.held ++ [e] })

/-- A write of HST_ADOPT: the first word a context's reset bits, the second its adopt bits; both set is a reset. -/
def adoptWrite (s : State) (resets adopts : Nat) : State :=
  let cs := definedCtxs s
  let reset := fun c => bitOf resets c && cs.contains c
  let adopt := fun c => bitOf adopts c && !reset c
  let s1 := adoptEvents adopt reset s.host.held (hostMod s fun h => { h with held := [] })
  let s2 := hostMod s1 fun h => { h with orphaned := h.orphaned.filter fun c => !(reset c || adopt c) }
  (cs.filter reset).foldl (fun a c => raiseTrigger a ⟨1, false, c, 4, a.clock, 0x07, 1, 0⟩ none) s2

/-- ADOPT_CONTEXT: a context's adopt bit is written. -/
def execAdoptContext (ctx : Nat) (s : State) : Host.Outcome State Fault Refusal :=
  .next (hostWrite s regAdopt (BitVec.ofNat 64 (2 ^ (ctx % 16))) fun a => adoptWrite a 0 (2 ^ (ctx % 16)))

/-- ADOPT_RESET: a context's reset bit is written. -/
def execAdoptReset (ctx : Nat) (s : State) : Host.Outcome State Fault Refusal :=
  .next (hostWrite s regAdopt (BitVec.ofNat 64 (2 ^ (ctx % 16 + 16))) fun a => adoptWrite a (2 ^ (ctx % 16)) 0)

/-! ### PERST_N and power states (15 R387, R391, R394, 18 R460) -/

/-- Registers that PERST_N restores: the host block but HST_STEWARD (HST_ID and HST_CONTRACT_FW keep
what they show of the package), the MSI-X table and PBA, the
abort registers, the scrubber, PWR_CAP_HOST, SEC_RECORD, UPD_STAGE and the resynchronisation's (01 R48, 07 Table 07-16, 12 R334, 14 R384, 15
R394, 16 R424, 17 R449). -/
def perstRestores (k : Nat) : Bool :=
  (0x0010 ≤ k && k < 0x1000 && k != regContractFw) || keyMsix k || keyIn k regPlnAbortStep 8 3 || (0x3000 ≤ k && k < 0x4000)
    || [regPwrCapHost, regSecRecord, regUpdStage, regRcvResyncStep, regRcvResyncDesc].contains k

/-- PERST_ASSERT. -/
def execPerstAssert (s : State) : Host.Outcome State Fault Refusal :=
  let s1 := leaseEnds s
  let s2 := hostMod (regRestore s1 perstRestores) fun h => { h with accepted := false, vectors := [], d3hot := false, linkTraining := false }
  .next (capChanged { s2 with pins := { s2.pins with perst := true } })

/-- PERST_DEASSERT: link training begins. -/
def execPerstDeassert (s : State) : Host.Outcome State Fault Refusal :=
  if s.pins.aux then .next (hostMod { s with pins := { s.pins with perst := false } } fun h => { h with linkTraining := true }) else .next s

/-- D3HOT: the host moves the function to D3hot, or back to D0: the window is suspended, the package is not. -/
def execD3hot (on : Bool) (s : State) : Host.Outcome State Fault Refusal :=
  if s.pins.perst then .next s else .next (hostMod s fun h => { h with d3hot := on })

/-! ### BAR2 (15 R389, 07 R203, R204) -/

/-- The package offset of a BAR2 address. -/
def bar2Target (s : State) (seg off : Nat) : Nat := regField s (regHstBar2Map (seg % 4)) 47 30 * 2 ^ 30 + off % 2 ^ 30

/-- Why an access of n bytes is not served: 1 disabled, 2 Steward reserve, 3 no driver. -/
def bar2Cause (s : State) (seg off n : Nat) : Option Nat :=
  if regField s (regHstBar2Map (seg % 4)) 63 63 = 0 then some 1
  else if bar2Target s seg off + n > reserveBase s then some 2
  else if !s.host.accepted then some 3
  else none

/-- The Daybook warning of a refused access, once for each segment and cause. -/
def bar2Warn (s : State) (seg off cause : Nat) : State :=
  let key := 4 * (seg % 4) + cause
  if s.book.bar2Warned.contains key then s
  else logEvent { s with book := { s.book with bar2Warned := key :: s.book.bar2Warned } } 1 0x1003 3 0xFF [seg % 4, cause, bar2Target s seg off]

/-- BAR2_WRITE. -/
def execBar2Write (seg off : Nat) (bytes : List Byte) (s : State) : Host.Outcome State Fault Refusal :=
  if windowClosed s then .next s
  else
    match bar2Cause s seg off bytes.length with
    | some c => .next (bar2Warn (regSatAdd s regHstBar2Status 63 32 1) seg off c)
    | none => .next (memStoreClean s (bar2Target s seg off) bytes)

/-- A host read takes a poisoned line: the context whose region holds it is faulted, and its running step ends failed (07 Table 07-6). -/
def hostPoison (s : State) (l : Nat) : State :=
  let c := lineOwner s l
  if c ≥ 16 then s
  else
    let s1 := logEvent s 1 0x2002 4 c [64 * l, c]
    if (planGet s1 c).faulted then s1
    else
      let s2 := planSet s1 c { planGet s1 c with faulted := true }
      match stepIn s2 c .running with
      | some r => eventAppend (stepFail s2 c r 0x05 0) 2 c r.step 0 0x05 0
      | none => eventAppend s2 2 c 0 0 0x05 0

/-- BAR2_READ: the data as stored, with EP set where a line is poisoned; a refused read completes with Completer Abort. -/
def execBar2Read (seg off n : Nat) (s : State) : Host.Outcome State Fault Refusal :=
  if windowClosed s then .next s
  else
    match bar2Cause s seg off n with
    | some c => .next (emit (bar2Warn (regSatAdd s regHstBar2Status 31 0 1) seg off c) (.completion [] false true))
    | none =>
      let a := bar2Target s seg off
      let d := memLoad s a n
      let ls := linesOf a n
      let bad := ls.filter fun l => (lineData s l).2.1
      .next (emit (bad.foldl hostPoison (linesReadEffects s ls)) (.completion d.1 d.2.1 false))

end Sys2Proof.Machine
end

