-- ==== Sys2Proof/Machine/Views.lean ====
section
/-! DEFINITION. Registers that show live state, as a reader sees them (03 Tables 03-12 and 03-13, 06 Table 06-10, 12 Table 12-23, 15 Table
15-6, 17 R429). -/

namespace Sys2Proof.Machine

/-- TIL_STATUS.state (03 Table 03-12). -/
def tileCode : TileState → Nat
  | .off => 0 | .waking => 1 | .ready => 2 | .running => 3 | .halted => 4 | .held => 5 | .mended => 6

/-- TIL_STATUS of a logical tile. -/
def tilStatus (s : State) (t : Nat) : Nat :=
  let x := tileGet s t
  let pend := (x.tick.filter fun e => e.2 == 1).foldl (fun a e => a + 2 ^ e.1) 0
  match gangOfTile s t with
  | some (g, i) =>
    let k := gangGet s g
    pend * 2 ^ 32 + k.pc % 2048 * 2 ^ 11 + bit (k.waits.any fun w => w.1 == i) * 2 ^ 3 + tileCode x.tstate
  | none => pend * 2 ^ 32 + tileCode x.tstate

/-- PLN_RING_c. -/
def plnRing (s : State) (c : Nat) : Nat :=
  let x := mapGet {} s.plan.ctxs c
  let st :=
    if (ctxRec s c).isNone then 0
    else if ctxInReset s c then 5
    else if x.faulted then 4
    else if x.steps.any fun r => r.phase == .running || r.phase == .voted then 3
    else if x.steps.isEmpty then 1
    else 2
  x.head * 2 ^ 52 + st * 2 ^ 48 + min 0xFFFF x.deferrals * 2 ^ 32 + x.refused % 2 ^ 32

/-- ENG_STATUS of engine e (32 × stack + engine); engines of a disabled or untrained stack are off, and without the feature Warrant they
serve no context (06 R172). -/
def engStatus (s : State) (e : Nat) : Nat :=
  let x := engGet s e
  let st :=
    if regField s (regStkId (e / 32)) 4 3 ≠ 2 then 0
    else if x.inReset then 4
    else if x.gated then 3
    else if x.running.isSome then 2
    else if featureOn s 57 then 1 else 5
  let run := match x.running with
    | some d => d.ctx % 16 * 2 ^ 36 + dkType d.words * 2 ^ 28
    | none => 0
  run + min 16 x.queue.length * 2 ^ 20 + x.halted.foldl (fun a c => a ||| 2 ^ (3 + c)) 0 + st

/-- RCV_STATUS: elapsed_ms counts while a level runs. -/
def rcvStatus (s : State) : Nat :=
  let v := (regGet s regRcvStatus).toNat
  match s.rcv.reqs.find? fun q => q.level == widestLevel s with
  | some q => v - bitsOf v 47 32 * 2 ^ 32 + min 0xFFFF ((s.clock - q.start) / 1000000) * 2 ^ 32
  | none => v

/-- HST_LEASE_STATUS. -/
def hstLeaseStatus (s : State) : Nat :=
  let st := match s.host.lease with | .none => 0 | .leased => 1 | .orphan => 2
  let left := if s.host.lease = .leased then min 0xFFFF ((s.host.leaseEnd - s.clock) / 1000000) else 0
  st * 2 ^ 62 + s.host.orphaned.foldl (fun a c => a ||| 2 ^ (32 + c)) 0 + regField s regLeaseStatus 31 16 * 2 ^ 16 + left

end Sys2Proof.Machine
end

