-- ==== Sys2Proof/Machine/Recovery.lean ====
section
/-! DEFINITION. Triggers, dossiers, resets and their escalation (17 R425-R437, 07 R209, 06 Table 06-7). -/

namespace Sys2Proof.Machine

/-! ### Dossiers (17 R428, R429) -/

/-- Ticket codes of a tile, four bits each. -/
def ticketBytes (x : Tile) : List Byte :=
  (List.range 16).flatMap fun i => bytesOf 1 (mapGet 0 x.tick (2 * i) % 16 + mapGet 0 x.tick (2 * i + 1) % 16 * 16)

/-- DM opcode, length and global address of an outstanding operation. -/
def dmImage : DmOp → Nat × Nat × Nat
  | .gld a _ n _ _ => (1, n, a)
  | .gst a _ n _ _ => (2, n, a)
  | .send _ _ _ _ n _ _ => (3, n, 0)
  | .recv _ _ => (4, 0, 0)
  | .dock _ _ _ _ => (5, 64, 0)
  | .fill a _ n _ _ => (6, n, a)
  | .coll _ _ => (7, 0, 0)
  | .strum _ _ _ n => (0, n, 0)

/-- Section 0x01: the accepted steps of the contexts. -/
def dossierPlan (s : State) (cs : List Nat) : List (List Byte) :=
  cs.flatMap fun c => (planGet s c).steps.map fun r => bytesOf 8 (plnRing s c) ++ (memLoad s (slotOff s c r.slot) 128).1

/-- Section 0x02: the tiles. -/
def dossierTiles (s : State) (ts : List Nat) : List (List Byte) :=
  ts.map fun t =>
    let x := tileGet s t
    regBytes x.id ++ regBytes x.step ++ bytesOf 8 (tilStatus s t) ++ regBytes x.exc ++ regBytes x.excInfo ++ regBytes x.flags ++ ticketBytes x

/-- Section 0x03: outstanding DM operations. -/
def dossierDma (s : State) (ts : List Nat) : List (List Byte) :=
  ts.flatMap fun t => (tileGet s t).ops.map fun e =>
    let d := dmImage e.2
    bytesOf 2 t ++ bytesOf 1 e.1 ++ bytesOf 1 d.1 ++ bytesOf 4 d.2.1 ++ bytesOf 8 d.2.2

/-- Section 0x04: engines that hold a docket of the contexts, or of the unit itself. -/
def dossierEngines (s : State) (cs es : List Nat) : List (List Byte) :=
  ((List.range 256).filter fun e =>
      let x := engGet s e
      let l := x.running.toList ++ x.queue
      l.any (fun d => cs.contains d.ctx) || (es.contains e && !l.isEmpty)).map fun e =>
    let x := engGet s e
    bytesOf 8 (engStatus s e) ++ regBytes (regGet s (regEngLastFail (e / 32) (e % 32)))
      ++ (x.running.toList ++ x.queue).flatMap fun d => d.words.flatMap regBytes

/-- Section 0x05: strum groups of the contexts. -/
def dossierStrum (s : State) (cs : List Nat) : List (List Byte) :=
  match s.plan.pattern with
  | none => []
  | some p => (p.groups.filter fun e => e.1 < 64 && cs.contains e.2.owner).map fun e =>
      regBytes (regGet s (regGroupCfg e.1)) ++ regBytes (regGet s (regGroupStatus e.1))
        ++ (List.range 8).flatMap fun k => regBytes (regGet s (regGroupLost e.1 k))

/-- Credits that the sender of a channel holds: known here where it is a tile of this package; a free value per dossier and channel
where the sender is elsewhere (log entry 43). -/
def senderCredits (s : State) (r : ChanRec) : Nat :=
  if r.chip = ownChip s then
    (((tileGet s r.sender).tx.find? fun x => x.chip == ownChip s && x.tile == r.tile && x.chan == r.chan).map (·.credits)).getD 0
  else Config.remoteCredits (s.rcv.dossiers + 1) (256 * r.tile + r.chan)

/-- Section 0x06: receive channels of the tiles. -/
def dossierChans (s : State) (ts : List Nat) : List (List Byte) :=
  match s.plan.pattern with
  | none => []
  | some p => (p.chans.filter fun r => ts.contains r.tile).map fun r =>
      let x := mapGet {} (tileGet s r.tile).rx r.chan
      bytesOf 2 r.tile ++ bytesOf 1 r.chan ++ zeros 1 ++ bytesOf 4 x.landed ++ bytesOf 4 x.claimed ++ bytesOf 4 (senderCredits s r)

/-- Section 0x07: the ports. -/
def dossierPorts (s : State) : List (List Byte) :=
  (List.range 30).map fun p =>
    regBytes (regGet s (regPortStatus p)) ++ ((List.range 6).flatMap fun v => bytesOf 8 (inGet s p v).worms.length) ++ zeros 8

/-- Section table entries from their bytes: type, records, offset from the header. -/
def sectionTable : Nat → Nat → List (List (List Byte)) → List Byte
  | _, _, [] => []
  | type, off, recs :: more =>
    bytesOf 1 type ++ zeros 1 ++ bytesOf 2 recs.length ++ bytesOf 4 off ++ sectionTable (type + 1) (off + (recs.map (·.length)).foldl (· + ·) 0) more

/-- What a dossier covers: contexts, tiles, and engines of the unit itself. -/
structure Scope where
  ctxs : List Nat
  tiles : List Nat
  engines : List Nat

/-- The header of a dossier (17 Table 17-2). -/
def dossierHeader (s : State) (q : RcvReq) (seq : Nat) (sc : Scope) (secs : List (List (List Byte))) : List Byte :=
  let len := 256 + (secs.map fun r => (r.map (·.length)).foldl (· + ·) 0).foldl (· + ·) 0
  let step := ((sc.ctxs.head?.bind fun c => stepIn s c .running).map (·.step)).getD 0
  let low := [0x44, 0x53, 0x53, 0x52] ++ bytesOf 2 1 ++ bytesOf 1 q.level ++ bytesOf 1 q.trigger ++ bytesOf 8 seq ++ bytesOf 8 (droneNs s - (s.clock - q.start))
    ++ bytesOf 2 (sc.ctxs.foldl (fun a c => a ||| 2 ^ c) 0) ++ bytesOf 2 q.src ++ bytesOf 8 step ++ bytesOf 4 len ++ zeros 24
  let table := sectionTable 1 256 secs
  let h := low ++ table ++ zeros (252 - 64 - table.length)
  h ++ bytesOf 4 (crc32c h)

/-- Capture a dossier of a reset into its slot of the Steward reserve (17 R428): 16 slots of 4 MiB at the top, in turn. -/
def capture (s : State) (q : RcvReq) (sc : Scope) : State :=
  let seq := s.rcv.dossiers + 1
  let slot := (seq - 1) % 16
  let plan := dossierPlan s sc.ctxs
  let secs := [plan, dossierTiles s sc.tiles, dossierDma s sc.tiles, dossierEngines s sc.ctxs sc.engines, dossierStrum s sc.ctxs,
    dossierChans s sc.tiles, dossierPorts s]
  let h := dossierHeader s q seq sc secs
  let bytes := h ++ secs.flatMap fun r => r.flatMap id
  let s1 := memStoreClean s (spaceBytes s - 0x4000000 + slot * 0x400000) (bytes.take 0x400000)
  let s2 := { s1 with rcv := { s1.rcv with dossiers := seq, latest := h ++ plan.flatMap id } }
  logEvent (regSet s2 regRcvDossier (BitVec.ofNat 64 (slot * 2 ^ 60 + q.level * 2 ^ 56 + seq % 2 ^ 32))) q.src 0x7002 4
    (sc.ctxs.head?.getD 0xFF) [slot, seq, q.level]

/-- Before a power-cycle request the latest dossier's header and plan section go into Daybook entries, so that the mirror keeps them. -/
def copyDossier (s : State) : State :=
  let words := (recsOf 8 s.rcv.latest).map ofBytes
  (List.range ((words.length + 4) / 5)).foldl (fun a i => logEvent a 1 0x7003 4 0xFF ((words.drop (5 * i)).take 5)) s

/-! ### Context reset (17 R430, Table 17-4) -/

/-- Freeze: a running step that has not contributed contributes with bit 0 clear, then the context's members are lost in every open
generation (09 Table 09-5); a twin leaves the pair (17 R445). -/
def ctxFreeze (s : State) (c fault detail : Nat) : State :=
  let s1 := freezeGangs s c
  let s2 := match stepIn s1 c .running with
    | some r => stepFail s1 c r fault detail
    | none => s1
  let s3 := strumLose s2 fun m => gangCtx s m == c
  twinOut s3

/-- The fault and detail that an accepted record ends with: its own where it has failed here, 0x07 where it has not started; none for
a step whose completion contribution stands and is good (17 Table 17-9). -/
def purgeFault (r : StepRun) (fault : Nat) : Option (Nat × Nat) :=
  match r.phase, r.fault with
  | .voted, none => none
  | _, some f => some f
  | .running, none => some (fault, 0)
  | _, none => some (0x07, 0)

/-- Every accepted record of the context ends failed. -/
def recordsEnd (s : State) (c fault : Nat) : State :=
  (planGet s c).steps.foldl (fun a r =>
    match purgeFault r fault with
    | some (f, d) => stepEnd a c r 4 f d
    | none => a) s

/-- Purge and clear: the context leaves the router, channels, engines, collectives and tiles; scratchpads and memory are kept. -/
def ctxClear (s : State) (c : Nat) : State :=
  let ts := tilesOfCtx s c
  let s1 := collPurge (enginesPurge (chansPurge (routerCtxReset s c) c) c) c
  let s2 := tilesMod s1 ts fun x => restoreTil (clearRegs x)
  let s3 := ts.foldl reloadInstr s2
  let s4 := { s3 with gangs := (gangsOfCtx s c).foldl (fun m g => mapDel m g) s3.gangs }
  chansEmpty s4 fun r => ts.contains r.tile

/-- Step number, fault and detail of a reset's event (15 Table 15-4): those of the step that has started, else the reset's fault. -/
def resetEvent (s : State) (c fault : Nat) : Nat × Nat × Nat :=
  match stepFind s c fun r => r.phase == .running || r.phase == .voted with
  | some r => (r.step, r.fault.getD (fault, 0))
  | none => (0, fault, 0)

/-- A context reset but for its dossier: purge, clear, and the context is there again; the scan goes on at the head. -/
def ctxResetBody (s : State) (c fault : Nat) : State :=
  let s1 := ctxClear (recordsEnd s c fault) c
  let s2 := planSet s1 c { planGet s1 c with faulted := false }
  eventAppend s2 2 c (resetEvent s c fault).1 0 (resetEvent s c fault).2.1 (resetEvent s c fault).2.2

/-- The request for a context's reset. -/
def ctxReq (s : State) (c : Nat) : Option RcvReq := s.rcv.reqs.find? fun q => q.level == 1 && q.index == c

/-- May a reset proceed: dossiers and resets wait while the Steward is away (17 R437). -/
def mayReset (s : State) : Bool := stewardRuns s && isServiceable s

/-- A context level: freeze, dossier, purge and clear. -/
def ctxReset (s : State) (q : RcvReq) (c : Nat) : State :=
  ctxResetBody (capture (ctxFreeze s c q.fault q.detail) q ⟨[c], tilesOfCtx s c, []⟩) c q.fault

/-- CONTEXT_RESET: the reset asked for is carried out. -/
def execContextReset (ctx : Nat) (s : State) : Host.Outcome State Fault Refusal :=
  match ctxReq s ctx with
  | some q => if mayReset s then .next (levelEnd (ctxReset s q ctx) q 1) else .next s
  | none => .next s

/-- Contexts reset as part of a wider level, under its fault. -/
def ctxsReset (s : State) (cs : List Nat) (fault : Nat) : State :=
  let s1 := cs.foldl (fun a c => ctxResetBody a c fault) s
  { s1 with rcv := { s1.rcv with reqs := s1.rcv.reqs.filter fun q => !(q.level == 1 && cs.contains q.index) } }

/-- Engine levels of units inside a wider level's unit: the wider level governs (17 R432). -/
def engineReqsDrop (s : State) (inside : Bool → Nat → Bool) : State :=
  { s with rcv := { s.rcv with reqs := s.rcv.reqs.filter fun q => !(q.level == 2 && inside q.stack q.index) } }

/-! ### Engine reset (17 Table 17-5, 06 Table 06-7) -/

/-- A stack engine is reset: its dockets end 0x5, a scrub is interrupted, its buffer is cleared; poison marks it so that a stale read
delivers poison. -/
def engineReset (s : State) (e : Nat) (poison : Bool) : State :=
  let s0 := if (engGet s e).running.any (fun d => dkType d.words == 0x0B) || (engGet s e).queue.any (fun d => dkType d.words == 0x0B) then scrubInterrupt s else s
  let x := engGet s0 e
  let s1 := (x.running.toList ++ x.queue).foldl (fun a d => engFail (dkPost a d 5) e d 5 0) s0
  let units := (definedCtxs s1).flatMap fun c =>
    if regField s1 (regEngShare (e / 32) c) (32 + e % 32) (32 + e % 32) = 1 then
      let w := windowUnits s1 c (e / 32)
      rangeFrom w.1 w.2
    else []
  engSet s1 e { bufPoison := if poison then units.foldl setInsert [] else [], lastMove := s1.clock }

/-- The request for a level of a unit. -/
def unitReq (s : State) (level : Nat) (stack : Bool) (index : Nat) : Option RcvReq :=
  s.rcv.reqs.find? fun q => q.level == level && q.stack == stack && q.index == index

/-- Contexts with a gang on a tile, or on a die. -/
def ctxsOfTile (s : State) (t : Nat) : List Nat := let c := ctxOfTile s t; if c < 16 then [c] else []
def ctxsOfDie (s : State) (d : Nat) : List Nat := (definedCtxs s).filter fun c => (gangsOfCtx s c).any fun g => ((gangRec s g).map fun r => r.die == d).getD false

/-- A tile and its DMA and fabric engine are reset, with every context that has a gang on it. -/
def tileReset (s : State) (q : RcvReq) (t : Nat) : State :=
  let cs := ctxsOfTile s t
  let s1 := cs.foldl (fun a c => ctxFreeze a c 0x07 0) s
  let s2 := capture s1 q ⟨cs, cs.flatMap (tilesOfCtx s1), []⟩
  let s3 := tileMod (ctxsReset s2 cs 0x07) t resetTile
  match s3.plan.pattern, imageOf s3 t with
  | some p, some (_, m) =>
    imageCount (tileMod s3 t fun x =>
      let y := (List.range (imageBlocks m)).foldl (fun z i => blockStore m i (at' [] m.blocks i) z) x
      { y with loaded := true, id := tilId s3 p t })
  | _, _ => s3

/-- ENGINE_RESET: the reset asked for of a tile or of a stack engine is carried out. -/
def execEngineReset (stack : Bool) (index : Nat) (s : State) : Host.Outcome State Fault Refusal :=
  match unitReq s 2 stack index with
  | some q =>
    if !mayReset s then .next s
    else if stack then
      let cs := (definedCtxs s).filter fun c => ((engGet s index).running.toList ++ (engGet s index).queue).any fun d => d.ctx == c
      .next (levelEnd (engineReset (capture s q ⟨cs, [], [index]⟩) index true) q 1)
    else .next (levelEnd (tileReset s q index) q 1)
  | none => .next s

/-! ### Partition resets (17 R433, R434) -/

/-- Corrections of a unit that was reset: in service once the package is ready (07 R199; log entry 44). -/
def unitMode (s : State) (k : Nat) : State := if isReady s then regPut s k 0 0 0 else s

/-- A compute die is reset: its contexts first, then its tiles, mesh, links and registers; images are delivered again. -/
def dieReset (s : State) (q : RcvReq) (d : Nat) : State :=
  let cs := ctxsOfDie s d
  let ts := (List.range (tilesPerDie s)).map fun i => d * tilesPerDie s + i
  let s1 := cs.foldl (fun a c => ctxFreeze a c 0x07 0) (resetNotices s 3)
  let s2 := capture s1 q ⟨cs, cs.flatMap (tilesOfCtx s1), []⟩
  let s3 := tilesMod (engineReqsDrop (ctxsReset s2 cs 0x07) fun stack i => !stack && ts.contains i) ts resetTile
  let s4 := regRestore s3 fun k => 0x200000 + d * 0x10000 ≤ k && k < 0x200000 + (d + 1) * 0x10000
  let s5 := { s4 with plan := { s4.plan with place := placeTiles s4, imagesSent := false } }
  let s6 := match s5.plan.pattern with
    | some p => ts.foldl (fun b t => tileMod b t fun x => { x with id := tilId b p t }) s5
    | none => s5
  twinOut (unitMode (imageCount s6) (regDieEccCtrl d))

/-- DIE_PARTITION_RESET: the reset asked for of a compute die is carried out. -/
def execDiePartitionReset (die : Nat) (s : State) : Host.Outcome State Fault Refusal :=
  match unitReq s 3 false die with
  | some q => if die < 4 ∧ mayReset s then .next (levelEnd (dieReset s q die) q 1) else .next s
  | none => .next s

/-- LK registers and seeds of one stack written again from the applied Pattern (05 R167). -/
def stackRewrite (s : State) (n : Nat) : State :=
  let s1 := match s.plan.pattern with
    | some p => applyArb (setMode s (BitVec.ofNat 64 p.mode)) (mapGet [] s.plan.sections 6)
    | none => s
  (rangeFrom (32 * n) 32).foldl chanRestart s1

/-- A stack is reset: its registers restored and written again, its arbiters and engines started anew; its contents are kept. -/
def stackReset (s : State) (q : RcvReq) (n : Nat) : State :=
  let held := (rangeFrom (32 * n) 32).flatMap fun e => (engGet s e).running.toList ++ (engGet s e).queue
  let cs := (definedCtxs s).filter fun c => held.any fun d => d.ctx == c
  let s1 := capture (resetNotices s 3) q ⟨cs, [], rangeFrom (32 * n) 32⟩
  let s2 := engineReqsDrop ((rangeFrom (32 * n) 32).foldl (fun a e => engineReset a e false) s1) fun stack i => stack && i / 32 == n
  let mask := regField s2 (regStkMap 0) 55 48
  let s3 := showStacks (regRestore s2 fun k => 0x100000 + n * 0x10000 ≤ k && k < 0x100000 + (n + 1) * 0x10000) mask
  unitMode (stackRewrite s3 n) (regEccCtrl n)

/-- STACK_PARTITION_RESET: the reset asked for of a stack is carried out; failed: it did not enter self-refresh within 10 ms, or its stored
training failed, so that the level fails and the chip level takes over. -/
def execStackPartitionReset (stack : Nat) (failed : Bool) (s : State) : Host.Outcome State Fault Refusal :=
  match unitReq s 3 true stack with
  | some q =>
    if stack ≥ 8 ∨ !mayReset s then .next s
    else if failed then
      .next (raiseTrigger (levelEnd s q 2) ⟨4, false, 0, 0x0A, s.clock, 0x08, q.src, q.detail⟩ none)
    else
      let s1 := levelEnd (stackReset s q stack) q 1
      .next (twinOut s1)
  | none => .next s

/-! ### Chip reset (17 R435) -/

/-- Freeze everything, capture the dossier, end every accepted record with fault 0x08, and begin the warm path. -/
def chipReset (s : State) (q : RcvReq) : State :=
  let cs := definedCtxs s
  let s1 := cs.foldl (fun a c => ctxFreeze a c 0x08 0) (resetNotices s 4)
  let s2 := { s1 with strum := { s1.strum with absent := cs } }
  let s3 := capture s2 q ⟨cs, allTiles s2, []⟩
  let r0 := scrubInterrupt (routerChipReset s3)
  let r1 := regRestore r0 fun k => 0x3000 ≤ k && k < 0x4000
  let s4 := if s3.scrub.isSome then scbState r1 4 else r1
  let s5 := (List.range 256).foldl (fun a e => engineReset a e false) s4
  let s6 := cs.foldl (fun a c =>
    let b := (planGet a c).steps.foldl (fun z r =>
      if r.phase = .voted ∧ r.fault.isNone then z   -- the contribution stands (17 Table 17-9)
      else stepEnd z c r 4 ((r.fault.map (·.1)).getD 0x08) ((r.fault.map (·.2)).getD 0)) a
    eventAppend (planSet (ctxClear b c) c { planGet b c with faulted := false }) 2 c (resetEvent a c 0x08).1 0 (resetEvent a c 0x08).2.1 (resetEvent a c 0x08).2.2) s5
  let was := isReady s6
  let s7 := regPut s6 regStwReady 63 63 0
  let s8 := bring s7 fun b => { b with warm := true, pathStart := q.start }
  let s9 := { s8 with rcv := { s8.rcv with reqs := s8.rcv.reqs.filter fun x => x.level ≥ 4 } }
  let s10 := if was then eventAppend s9 4 0xFF 0 0 0 0 else s9
  twinOut s10

/-- The request for a chip reset. -/
def chipReq (s : State) : Option RcvReq := s.rcv.reqs.find? fun q => q.level == 4

/-- CHIP_RESET: the chip reset asked for begins; the warm path follows.  During A2 to A6 of an activation it waits (16 Table 16-10). -/
def execChipReset (s : State) : Host.Outcome State Fault Refusal :=
  match chipReq s with
  | some q => if mayReset s ∧ !s.bring.warm ∧ s.fw.phase = .idle then .next (chipReset s q) else .next s
  | none => .next s

/-! ### Requests and triggers (17 R425, R431, R432, R449) -/

/-- Put the outcome of a request into RCV_STATUS.result: 3 busy, 4 invalid. -/
def rcvResult (s : State) (r : Nat) : State := regPut s regRcvStatus 59 56 r

/-- Does a request name a unit that is there. -/
def rcvValid (s : State) (level : Nat) (stack : Bool) (index : Nat) : Bool :=
  if level = 1 then (ctxRec s index).isSome
  else if level = 2 then (if stack then index < 256 && (enabledStacks s).contains (index / 32) else index < 4 * tilesPerDie s)
  else if level = 3 then (if stack then (enabledStacks s).contains index else index < 4)
  else level == 4 || level == 5

/-- Completion fault of the running steps of a requested level (17 Table 17-1, trigger 0x04). -/
def requestFault (level : Nat) : Nat := if level = 4 then 0x08 else 0x07

/-- Every context is frozen and reset, as a power-cycle level leaves them (17 R435). -/
def allReset (s : State) (fault : Nat) : State :=
  let cs := definedCtxs s
  ctxsReset (cs.foldl (fun a c => ctxFreeze a c fault 0) s) cs fault

/-- Take a request for a reset: refused while a level as wide runs, or where it names nothing; during the cold path a chip reset waits
for C8 (13 Table 13-9). -/
def rcvRequest (s : State) (level : Nat) (stack : Bool) (index : Nat) : State :=
  if level = 4 ∧ !isServiceable s then bring s fun b => { b with resetAfter := true }
  else if !rcvValid s level stack index ∨ (!isServiceable s ∧ level ≠ 5) then rcvResult s 4
  else if widestLevel s ≥ level then rcvResult s 3
  else if level = 5 then askCycle (allReset (copyDossier (rcvResult s 0)) 0x07) 4
  else raiseTrigger (rcvResult s 0) ⟨level, stack, index, 4, s.clock, requestFault level, 1, 0⟩ none

/-- The index of a level in an RCV_CMD value. -/
def rcvIndex (level v : Nat) (stack : Bool) : Nat :=
  if level = 1 then bitsOf v 35 32 else if level = 2 then (if stack then bitsOf v 39 32 else bitsOf v 43 32) else bitsOf v 34 32

/-- A write to RCV_CMD with go set (17 Table 17-11); other levels are ignored. -/
def rcvCmd (s : State) (v : Nat) : State :=
  let level := bitsOf v 63 60
  let stack := bitOf v 47
  if bitOf v 0 ∧ 1 ≤ level ∧ level ≤ 5 then rcvRequest s level stack (rcvIndex level v stack) else s

/-- The RCV_CMD value of a request. -/
def rcvValue (level : Nat) (stack : Bool) (index : Nat) : Nat := level * 2 ^ 60 + bit stack * 2 ^ 47 + index % 2 ^ 15 * 2 ^ 32 + 1

/-- A request from the host by RCV_CMD, or over Plovco by RESET, whose body is that image; Plovco asks for context and chip levels only
(15 Table 15-8). -/
def resetAsk (o : Origin) (level : Nat) (stack : Bool) (index : Nat) (s : State) : State :=
  let v := rcvValue level stack index
  match o with
  | .host => hostWrite s regRcvCmd (BitVec.ofNat 64 v) fun a => rcvCmd a v
  | .plovco r =>
    plovcoRequest s r 0x24 (fun b => b.length == 8 && ofBytes b == v) fun a =>
      let b := if level = 1 ∨ level = 4 then rcvCmd a v else rcvResult a 4
      reply b r 0x24 (if regField b regRcvStatus 59 56 = 3 then 2 else if regField b regRcvStatus 59 56 = 4 then 4 else 0)
        (bytesOf 8 (rcvStatus b))

/-- RESET_CONTEXT. -/
def execResetContext (o : Origin) (ctx : Nat) (s : State) : Host.Outcome State Fault Refusal := .next (resetAsk o 1 false ctx s)
/-- RESET_ENGINE: of a tile, or of a stack engine. -/
def execResetEngine (o : Origin) (stack : Bool) (index : Nat) (s : State) : Host.Outcome State Fault Refusal := .next (resetAsk o 2 stack index s)
/-- RESET_PARTITION: of a die, or of a stack. -/
def execResetPartition (o : Origin) (stack : Bool) (index : Nat) (s : State) : Host.Outcome State Fault Refusal := .next (resetAsk o 3 stack index s)
/-- RESET_CHIP. -/
def execResetChip (o : Origin) (s : State) : Host.Outcome State Fault Refusal := .next (resetAsk o 4 false 0 s)
/-- RESET_POWER_CYCLE. -/
def execResetPowerCycle (o : Origin) (s : State) : Host.Outcome State Fault Refusal := .next (resetAsk o 5 false 0 s)

/-- A level's timer in ns (17 Table 17-5). -/
def levelTimer (level : Nat) : Nat :=
  if level = 1 then 5000000 else if level = 2 then 20000000 else if level = 3 then 300000000 else if level = 4 then 3000000000 else 25000000000

/-- The next wider level over the smallest unit that contains what did not complete (17 R432): for a context level one for each of units,
the tiles (false) and stack engines (true) that did not acknowledge its purge or clear. -/
def nextLevels (s : State) (q : RcvReq) (units : List (Bool × Nat)) : List RcvReq :=
  let up := fun level stack index fault => (⟨level, stack, index, 0x0A, s.clock, fault, q.src, q.detail⟩ : RcvReq)
  if q.level = 1 then units.map fun u => up 2 u.1 u.2 (if u.1 then 0 else 0x07)
  else if q.level = 2 then [if q.stack then up 3 true (q.index / 32) 0 else up 3 false (dieOfTile s q.index) 0x07]
  else [up 4 false 0 0x08]

/-- What stands when a level gives way to the next: a context level that all its tiles acknowledged has reset them, while one that lacks a
tile is done again with that tile's reset. -/
def levelPart (s : State) (q : RcvReq) (units : List (Bool × Nat)) : State :=
  if q.level = 1 ∧ units.all (·.1) then ctxReset s q q.index else s

/-- RESET_TIMER_EXPIRY: a level has passed its timer and no wider one runs; the next takes over.  level, stack, index name it; units the
tiles and stack engines that did not acknowledge a context level.  While the service core is away no level runs (17 R437). -/
def execResetTimerExpiry (level : Nat) (stack : Bool) (index : Nat) (units : List (Bool × Nat)) (s : State) : Host.Outcome State Fault Refusal :=
  match unitReq s level stack index with
  | some q =>
    if !stewardRuns s ∨ s.clock < q.start + levelTimer level ∨ widestLevel s > level ∨ level ≥ 5 ∨ (level = 1 ∧ units.isEmpty) then .next s
    else if level = 4 then
      let s1 := copyDossier (levelEnd s q 2)
      .next (askCycle (if s.bring.warm then bring s1 fun b => { b with warm := false } else allReset s1 0x08) 0x0A)
    else .next ((nextLevels s q units).foldl (fun a r => raiseTrigger a r none) (levelEnd (levelPart s q units) q 2))
  | none => .next s

/-- STACK_CONTROLLER_WATCHDOG: a stack controller misses its watchdog, or a channel loses training. -/
def execStackControllerWatchdog (stack : Nat) (s : State) : Host.Outcome State Fault Refusal :=
  if stack < 8 ∧ isServiceable s ∧ (unitReq s 3 true stack).isNone then
    .next (raiseTrigger s ⟨3, true, stack, 0x07, s.clock, 0, 0x10 + stack, 0⟩ none)
  else .next s

/-- MESH_LIVENESS_FAIL: a die's mesh fails its liveness probe. -/
def execMeshLivenessFail (die : Nat) (s : State) : Host.Outcome State Fault Refusal :=
  if die < 4 ∧ isServiceable s ∧ (unitReq s 3 false die).isNone then
    .next (raiseTrigger s ⟨3, false, die, 0x08, s.clock, 0x07, 0x20 + die, 0⟩ none)
  else .next s

/-- DIE_LINK_DOWN: a die-to-die link has been down for 1 ms. -/
def execDieLinkDown (die : Nat) (s : State) : Host.Outcome State Fault Refusal :=
  if die < 4 ∧ isServiceable s ∧ (chipReq s).isNone then
    .next (raiseTrigger s ⟨4, false, 0, 0x09, s.clock, 0x08, 0x20 + die, 0⟩ none)
  else .next s

end Sys2Proof.Machine
end

