-- ==== Sys2Proof/Machine/Keys.lean ====
section
/-! DEFINITION. Key records: the custodian, the owners, service commands, and teardown with its erasure receipt (15 R399-R402, R408,
R409). -/

namespace Sys2Proof.Machine

/-! ### Records (15 R409, Table 15-15) -/

/-- Fields of a record's header. -/
def recKind (b : List Byte) : Nat := numAt b 6 1
def recSerial (b : List Byte) : Nat := numAt b 8 8

/-- The first check: a record of a kind, with a body of n bytes of which p accepts the reserved ones, and k signatures. -/
def recFormed (b : List Byte) (kind n k : Nat) (p : List Byte → Bool) : Bool :=
  b.take 4 == [0x4B, 0x52, 0x45, 0x43] && numAt b 4 2 == 1 && recKind b == kind && allZero (slice b 7 1) && allZero (slice b 68 12)
    && b.length == 80 + n + 96 * k && numAt b 64 4 == b.length && p (slice b 80 n)

/-- Signature i of a record whose body ends at byte e: over everything before it, under a 97-byte key. -/
def recSig (b : List Byte) (e i : Nat) (key : List Byte) : Bool := keySigOk key (b.take (e + 96 * i)) (slice b (e + 96 * i) 96)

/-- The current custodian's signature; none stands where no custodian is held. -/
def custodianSig (s : State) (b : List Byte) (e i : Nat) : Bool :=
  match s.flash.custodian with
  | some k => recSig b e i k
  | none => false

/-- The checks common to every kind, in their order: form, package, signatures, serial; none where all pass. -/
def recRefusal (s : State) (b : List Byte) (formed signed : Bool) : Option Nat :=
  if !formed then some 5
  else if slice b 16 48 ≠ idDigest s then some 2
  else if !signed then some 1
  else if recSerial b ≤ mapGet 0 s.flash.recSerials (recKind b) then some 3
  else none

/-- An accepted record's serial is remembered. -/
def recAccept (s : State) (b : List Byte) (f : Flash → Flash) : State :=
  flashMod s fun x => f { x with recSerials := mapSet 0 x.recSerials (recKind b) (recSerial b) }

/-! ### The custodian (15 R399) -/

/-- The custodian key changes: every session ends (15 R397). -/
def setCustodian (s : State) (b : List Byte) (key : Option (List Byte)) : State :=
  sessionsEnd (recAccept s b fun f => { f with custodian := key }) fun _ => true

/-- Judge a custodian record. -/
def custodianTake (s : State) (b : List Byte) : Except Nat State :=
  let key := slice b 80 97
  let second := match s.flash.custodian with
    | some k => recSig b 184 1 k
    | none => allZero (slice b 280 96)
  match recRefusal s b (recFormed b 1 104 2 fun x => allZero (x.drop 97)) (recSig b 184 0 key && second) with
  | some e => .error e
  | none => .ok (setCustodian s b (some key))

/-- CUSTODIAN_RECORD. -/
def execCustodianRecord (o : Origin) (s : State) : Host.Outcome State Fault Refusal := .next (recordRequest o 1 0x40 custodianTake s)

/-! ### Owners (15 R400) -/

/-- Judge an owner enrolment record. -/
def enrolTake (s : State) (b : List Byte) : Except Nat State :=
  let key := slice b 80 97
  match recRefusal s b (recFormed b 2 112 2 fun x => allZero (slice x 97 7)) (recSig b 192 0 key && custodianSig s b 192 1) with
  | some e => .error e
  | none =>
    if s.flash.owners.length ≥ 8 then .error 6
    else .ok (recAccept s b fun f => { f with owners := f.owners.filter (fun x => x.key != key) ++ [⟨key, numAt b 184 8⟩] })

/-- Judge an owner removal record. -/
def removeTake (s : State) (b : List Byte) : Except Nat State :=
  let digest := slice b 80 48
  match recRefusal s b (recFormed b 3 48 1 fun _ => true) (custodianSig s b 128 0) with
  | some e => .error e
  | none =>
    if (s.plan.pattern.map fun p => p.ownerKey == ofBytes digest).getD false then .error 4
    else .ok (recAccept s b fun f => { f with owners := f.owners.filter fun x => sha384 x.key != digest })

/-- The Plovco OWNER command carries either kind. -/
def ownerTake (s : State) (b : List Byte) : Except Nat State := if recKind b = 3 then removeTake s b else enrolTake s b

/-- OWNER_ENROL. -/
def execOwnerEnrol (o : Origin) (s : State) : Host.Outcome State Fault Refusal :=
  .next (match o with
    | .host => recordRequest o 2 0x41 enrolTake s
    | .plovco _ => recordRequest o 2 0x41 ownerTake s)

/-- OWNER_REMOVE. -/
def execOwnerRemove (o : Origin) (s : State) : Host.Outcome State Fault Refusal :=
  .next (match o with
    | .host => recordRequest o 3 0x41 removeTake s
    | .plovco _ => recordRequest o 3 0x41 ownerTake s)

/-! ### Service commands (15 R399, R409, 13 R342) -/

/-- Is a service command's body laid out as Table 15-16 gives. -/
def serviceFormed (x : List Byte) : Bool :=
  let n := numAt x 12 2
  n ≤ 64 && allZero (slice x 2 2) && allZero (slice x 14 2) && (List.range n).all (fun i => allZero (slice x (16 + 4 * i + 3) 1))
    && ((numAt x 0 2 == 1 && numAt x 4 8 == 0 && n == 0) || numAt x 0 2 == 2)

/-- Judge a service command: it clears the custodian, or names Mending entries of the current generation that the next cold path removes. -/
def serviceTake (s : State) (b : List Byte) : Except Nat State :=
  let n := numAt b 92 2
  match recRefusal s b (recFormed b 5 (16 + 4 * n) 1 serviceFormed) (recSig b (96 + 4 * n) 0 s.bring.serviceKey) with
  | some e => .error e
  | none =>
    if numAt b 80 2 = 1 then .ok (setCustodian s b none)
    else if numAt b 84 8 ≠ s.bring.mend.gen then .error 4
    else .ok (recAccept s b fun f => { f with
      removals := (List.range n).map fun i => (numAt b (96 + 4 * i) 1, numAt b (97 + 4 * i) 1, numAt b (98 + 4 * i) 1) })

/-- SERVICE_COMMAND. -/
def execServiceCommand (o : Origin) (s : State) : Host.Outcome State Fault Refusal := .next (recordRequest o 6 0x32 serviceTake s)

/-! ### Teardown (15 R402) -/

/-- Step 1: every context is reset with fault 0x07, and a scrub ends aborted. -/
def tearContexts (s : State) : State :=
  let cs := definedCtxs s
  let s1 := ctxsReset (cs.foldl (fun a c => ctxFreeze a c 0x07 0) s) cs 0x07
  match s1.scrub with
  | some x =>
    let s2 := scrubEnd s1 x 3
    { s2 with engs := s2.engs.map fun e => (e.1, { e.2 with
        queue := e.2.queue.filter fun d => dkType d.words != 0x0B
        running := if (e.2.running.map fun d => dkType d.words == 0x0B).getD false then none else e.2.running }) }
  | none => s1

/-- Steps 2 and 3: memory, the Steward reserve with its dossiers and held events, and SRAM are zero. -/
def tearErase (s : State) : State :=
  let s1 := memClear s
  { s1 with
    tiles := s1.tiles.map fun e => (e.1, { resetTile e.2 with id := 0, tx := [] })
    gangs := [], engs := [], strum := {}, coll := {}
    host := { s1.host with held := [], orphaned := [] } }

/-- Registers that teardown restores: every LK register, the Pattern registers and PLN_CFG, and what a Pattern wrote (12 R334). -/
def tearRestores (k : Nat) : Bool :=
  ((regRow k).map (·.lk)).getD false || keyIn k regPlnOffset 8 2 || k == regPlnStatus || keyIn k (regPlnDigest 0) 8 6 || k == regPlnCfg
    || k == regPlnImage || keyIn k (regGroupCfg 0) 8 0x820 || keyIn k (regPrtExpect 0) 0x1000 18 || k == regRcvTwin

/-- Step 5: routing and group entries are invalid but for the package's own, LK registers are restored, and no Pattern is applied. -/
def tearTables (s : State) : State :=
  let own := ownChip s
  let mask := regField s (regStkMap 0) 55 48
  let s1 := { s with
    router := { s.router with routes := s.router.routes.filter (fun e => e.1 == own), groups := [] }
    link := { s.link with sealKey := none, sealList := [], sealSeen := [] }
    plan := { scanned := s.plan.scanned }, twin := {} }
  let s2 := reseedAll (showStacks (regRestore s1 tearRestores) mask)
  let was := isReady s2
  let s3 := setPatternW (regPut (regPut s2 regStwBoot 63 60 5) regStwReady 63 63 0) (warrantMax s2)
  let s4 := eventAppend s3 3 0xFF 0 0 0 0
  if was then eventAppend s4 4 0xFF 0 0 0 0 else s4

/-- The erasure receipt (15 Table 15-10).  words: the SRAM words cleared, whose number the manual does not give; residue: what the read-back
found not zero or not clean. -/
def receiptOf (s : State) (nonce : List Byte) (words residue : Nat) : List Byte :=
  let p := s.plan.pattern
  let now := droneNs s
  let b := [0x45, 0x52, 0x43, 0x54] ++ bytesOf 2 1 ++ bytesOf 1 (bit (residue != 0)) ++ zeros 1 ++ bytesOf 8 ((p.map (·.slice)).getD 0) ++ idDigest s
    ++ ((p.map fun x => bytesOf 48 x.ownerKey).getD (zeros 48)) ++ ((p.map digestBytes).getD (zeros 48)) ++ nonce
    ++ bytesOf 8 now ++ bytesOf 8 now ++ bytesOf 8 (spaceBytes s / 64) ++ bytesOf 8 words ++ bytesOf 8 residue ++ zeros 24
  b ++ Config.deviceSign b

/-- Carry a teardown out; at: where the host's receipt goes. -/
def tearDown (s : State) (nonce : List Byte) (residue : Nat) (at_ : Option Nat) : State :=
  let (n, s0) := freshFree s
  let r := receiptOf s0 nonce (Config.free n) residue
  let s1 := flashMod (tearTables (tearErase (tearContexts s0))) fun f => { f with receipt := r }
  match at_ with
  | some off => memStoreClean s1 off r
  | none => s1

/-- Judge a teardown request: it names the slice in force and is signed by that Pattern's owner or by the custodian. -/
def teardownTake (residue : Nat) (at_ : Option Nat) (s : State) (b : List Byte) : Except Nat State :=
  let signer := numAt b 120 1
  let owner := (s.plan.pattern.bind fun p => s.flash.owners.find? fun x => ofBytes (sha384 x.key) == p.ownerKey).map (·.key)
  let signed := if signer = 1 then (match owner with | some k => recSig b 128 0 k | none => false) else custodianSig s b 128 0
  match recRefusal s b (recFormed b 4 48 1 fun x => 1 ≤ numAt x 40 1 && numAt x 40 1 ≤ 2 && allZero (x.drop 41)) signed with
  | some e => .error e
  | none =>
    if (s.plan.pattern.map fun p => p.slice == numAt b 80 8).getD false then
      .ok (tearDown (recAccept s b id) (slice b 88 32) residue at_)
    else .error 4

/-- TEARDOWN; residue: lines and SRAM words that read back not zero or not clean. -/
def execTeardown (o : Origin) (residue : Nat) (s : State) : Host.Outcome State Fault Refusal :=
  .next (recordRequest o 4 0x42 (teardownTake residue (match o with | .host => some (regField s regSecRecord 47 0) | .plovco _ => none)) s)

end Sys2Proof.Machine
end

