-- ==== Sys2Proof/Machine/LoadStore.lean ====
section
/-! DEFINITION. Loads of L0 and L1 and stores of ST (03 R89-R93, 04 R123, R124, 07 R198). -/

namespace Sys2Proof.Machine

/-- Strict mode of a gang's context. -/
def gangStrict (s : State) (g : Nat) : Bool := isStrict s (ctxOfGang s g)

/-- A load in one member: the address checks, bad data in strict mode, then the result and the bank. -/
def loadOut (strict : Bool) (slot size : Nat) (f : MemFields) (mk : List (Nat × Bool) → Res) (x : Tile) : SlotOut :=
  let a := padAddress x f
  match padCheck a size with
  | some code => .raise code a.1
  | none =>
    let r := padReadWords x (a.1 / 8) (size / 8)
    if strict && r.2 then .raise 0x0D a.1
    else .done [.result 6 (mk r.1), .bank slot (padBank a.1)]

/-- What the loads of a slot do in the stores of the members that access them: words corrected, counted, logged and marked. -/
def loadEffects (s0 : State) (g size : Nat) (f : MemFields) (s : State) : State :=
  (gangMembers s0 g).foldl (fun a m =>
    let x := tileGet s0 m.2
    let p := padAddress x f
    if guardTrue x f.gp f.gn && (padCheck p size).isNone then padReadEffects a m.2 (p.1 / 8) (size / 8) else a) s

/-- A load slot: upsets that the environment put into the cells first, then the loads of the members. -/
def loadExec (op size : Nat) (ok : Bool) (mk : List (Nat × Bool) → Res) (g : Nat) (sl : Slot) (f : MemFields) (us : Upsets)
    (s : State) : Host.Outcome State Fault Refusal :=
  slotExec s g sl op (fun w => isLoadSlot sl && decide (decodeMem w = f)) fun s =>
    let s0 := upsetTiles s us
    let dec := illegalUnless ok
    let outs := slotOuts s0 g dec f.gp f.gn fun _ _ x b =>
      if b then loadOut (gangStrict s g) (slotCode sl) size f mk x else .done []
    commitIfDone ((if ok then loadEffects s0 g size f else id) (slotPut s0 g sl outs)) g

/-- A vector of 32 words with their poison: each word fills two lanes (03 Table 03-6). -/
def vecOfWords (ws : List (Nat × Bool)) : BitVec 2048 × BitVec 64 :=
  (BitVec.ofNat 2048 (packElems 64 (ws.map (·.1))), BitVec.ofNat 64 (packElems 2 (ws.map fun w => 3 * bit w.2)))

/-- LDS: s(reg) = the word. -/
def execLds (g : Nat) (slot : Slot) (f : MemFields) (us : Upsets) (s : State) : Host.Outcome State Fault Refusal :=
  loadExec 0x01 8 (f.reg.toNat < 32 && f.aux == 0)
    (fun ws => .scalar f.reg.toNat (BitVec.ofNat 64 (ws.headD (0, false)).1) (ws.headD (0, false)).2) g slot f us s

/-- LDV: v(reg) = the line. -/
def execLdv (g : Nat) (slot : Slot) (f : MemFields) (us : Upsets) (s : State) : Host.Outcome State Fault Refusal :=
  loadExec 0x02 256 (f.aux == 0) (fun ws => .vec f.reg.toNat (vecOfWords ws).1 (vecOfWords ws).2) g slot f us s

/-- LDBC: the word in all 32 eight-byte positions of v(reg). -/
def execLdbc (g : Nat) (slot : Slot) (f : MemFields) (us : Upsets) (s : State) : Host.Outcome State Fault Refusal :=
  loadExec 0x03 8 (f.aux == 0)
    (fun ws =>
      let v := vecOfWords (List.replicate 32 (ws.headD (0, false)))
      .vec f.reg.toNat v.1 v.2) g slot f us s

/-- LDT: bytes 256 × aux[2:0] and on of stage t(reg[2:0]), the words' poison with them. -/
def execLdt (g : Nat) (slot : Slot) (f : MemFields) (us : Upsets) (s : State) : Host.Outcome State Fault Refusal :=
  loadExec 0x04 256 (f.reg.toNat < 8 && f.aux.toNat < 8)
    (fun ws => .stage (8 * f.reg.toNat + f.aux.toNat) (vecOfWords ws).1 (BitVec.ofNat 32 (packElems 1 (ws.map fun w => bit w.2))))
    g slot f us s

/-- A store in one member: the address checks, then the bytes with the poison of their words. -/
def storeOut (size : Nat) (f : MemFields) (bs : List Byte) (poison : Nat) (x : Tile) : SlotOut :=
  let a := padAddress x f
  match padCheck a size with
  | some code => .raise code a.1
  | none => .done [.store a.1 bs poison]

/-- STS: stores s(reg). -/
def execSts (g : Nat) (f : MemFields) (s : State) : Host.Outcome State Fault Refusal :=
  slotExec s g .st 0x01 (fun w => decide (decodeMem w = f)) fun s =>
    slotRun s g .st (illegalUnless (f.reg.toNat < 32 && f.aux == 0)) f.gp f.gn fun _ _ x =>
      let v := sReg x f.reg.toNat
      storeOut 8 f (bytesOf 8 v.1.toNat) (bit v.2) x

/-- STV: stores the low 2^(3 + aux[2:0]) bytes of v(reg). -/
def execStv (g : Nat) (f : MemFields) (s : State) : Host.Outcome State Fault Refusal :=
  slotExec s g .st 0x02 (fun w => decide (decodeMem w = f)) fun s =>
    slotRun s g .st (illegalUnless (f.aux.toNat < 6)) f.gp f.gn fun _ _ x =>
      let v := vReg x f.reg.toNat
      let size := 2 ^ (3 + f.aux.toNat)
      let marks := maskOf ((List.range (size / 8)).filter fun w => v.2.getLsbD (2 * w) || v.2.getLsbD (2 * w + 1))
      storeOut size f (bytesOf size v.1.toNat) marks x

end Sys2Proof.Machine
end

