-- ==== Sys2Proof/Machine/Matrix.lean ====
section
/-! DEFINITION. The matrix slot (03 R80, 04 R132-R136, 02 R63, R66, R67). -/

namespace Sys2Proof.Machine

/-- Which pairings MX accepts, with its k (04 R133, Table 04-10, 02 R52). -/
def mxShape (fa fb : Option Fmt) : Option Nat :=
  match fa, fb with
  | some a, some b =>
    if a.isNarrowFloat && b.isNarrowFloat then some (if a.width = 8 ∨ b.width = 8 then 32 else 64)
    else if a == .int8 && b == .int8 then some 32
    else if a == .bf16 && b == .bf16 then some 16
    else if a == .fp32 && b == .fp32 then some 4
    else none
  | _, _ => none

/-- The row as the MX instructions in flight will leave it: the entry of the pipe issued last, else the file (04 R136). -/
def rowAhead (x : Tile) (i : Nat) : AccRow :=
  let newer := fun (b : Option Pipe) (q : Pipe) =>
    match b with
    | some p => if p.issued ≤ q.issued then some q else some p
    | none => some q
  let best := (x.pipe.filter fun q => resKey q.res == some (4, i)).foldl newer none
  match best with
  | some q => (match q.res with | .row _ r => r | _ => accRow x i)
  | none => accRow x i

/-- Bytes of an operand slice in Table 04-10. -/
def mxBytes (f : Fmt) (k : Nat) : Nat := (f.width * k + 7) / 8

/-- Operand A: its k elements and whether any of its words is poisoned (04 R134). -/
def mxA (x : Tile) (f : MxFields) (fm : Fmt) (k : Nat) : List Nat × Bool :=
  let st := stageBits x f.ta.toNat
  let lo := 32 * f.asel.toNat
  (elemsAt fm.width k (st.1 / 2 ^ (8 * lo)), wordsMarked st.2 lo (mxBytes fm k))

/-- The bits and word marks of B: stage tb, or tb and tb + 1 for FP6 with k = 64 (04 R134). -/
def mxB (x : Tile) (f : MxFields) : Nat × Nat :=
  let lo := stageBits x f.tb.toNat
  if f.tb.toNat = 7 then lo
  else
    let hi := stageBits x (f.tb.toNat + 1)
    (lo.1 + hi.1 * 2 ^ 16384, lo.2 + hi.2 * 2 ^ 256)

/-- Column j of B: its k elements. -/
def mxColumn (b fmWidth k c j : Nat) : List Nat := elemsAt fmWidth k (b / 2 ^ (8 * c * j))

/-- Scale bytes nb × i and on of a vector register, with their poison (04 R134). -/
def mxScales (x : Tile) (v nb i : Nat) : List Nat × Bool :=
  let r := vReg x v
  let bytes := rangeFrom (nb * i) nb
  (bytes.map fun q => r.1.toNat / 2 ^ (8 * q) % 256, bytes.any fun q => r.2.getLsbD (q / 4))

/-- Contribute one column's products to a long-sum entry (02 R63). -/
def mxNarrow (fa fb : Fmt) (as bs : List Nat) (ka kb : List Nat) (bsOn : Bool) (acc : LongSum) : LongSum :=
  ((as.zip bs).zip (List.range as.length)).foldl (fun t q =>
    let sc := fun (l : List Nat) => if bsOn then some (at' 0 l (q.2 / 32)) else none
    lsPlaceProduct t (decodeNum fa q.1.1) (decodeNum fb q.1.2) (sc ka) (sc kb)) acc

/-- Contribute one column's products to an FP32 entry in fixed order (02 R67): BF16 in groups of eight, FP32 one by one. -/
def mxWide (fa : Fmt) (as bs : List Nat) (acc : Nat) : Nat :=
  if fa = .bf16 then
    let ps := (as.zip bs).map fun q => numMul (decodeNum .bf16 q.1) (decodeNum .bf16 q.2)
    let step := fun (a : Nat) (l : List Num) => toFp32 (numSum (l ++ [decodeNum .fp32 a]))
    step (step acc (ps.take 8)) (ps.drop 8)
  else (as.zip bs).foldl (fun a q => fp32Fma q.1 q.2 a) acc

/-- The row after one MMA on a row (04 R135, R136): its mode and anchor set where it is empty, the 64 entries updated, its flags
the OR of its entries', its poison set by a poisoned operand or scale. -/
def mxRow (x : Tile) (f : MxFields) (fa fb : Fmt) (k : Nat) (r : AccRow) : AccRow :=
  let a := mxA x f fa k
  let b := mxB x f
  let c := mxBytes fb k
  let nb := k / 32
  let bPoison := wordsMarked b.2 0 (64 * c)
  if fa.isWide then
    let old := fun j => if r.mode = .empty then 0 else at' 0 r.entries j
    { r with
      mode := .fp32, anchor := 0, poison := r.poison || a.2 || bPoison
      entries := (List.range 64).map fun j => mxWide fa a.1 (mxColumn b.1 fb.width k c j) (old j) }
  else
    let ka := mxScales x f.vsa.toNat nb f.asel.toNat
    let kbs := (List.range 64).map fun j => mxScales x f.vsb.toNat nb j
    let sPoison := f.bs && (ka.2 || kbs.any (·.2))
    let anchor := if r.mode = .empty then signedOf 9 f.anchor.toNat else r.anchor
    let ts := (List.range 64).map fun j =>
      let g := if r.mode = .empty then 0 else at' 0 r.entries j
      mxNarrow fa fb a.1 (mxColumn b.1 fb.width k c j) ka.1 (at' ([], false) kbs j).1 f.bs ⟨g, anchor, false, false, false, false⟩
    { mode := .longSum, anchor := anchor, poison := r.poison || a.2 || bPoison || sPoison
      inexact := r.inexact || ts.any (·.inexact), range := r.range || ts.any (·.range), nf := r.nf || ts.any (·.nf)
      entries := ts.map (·.g) }

/-- Decode faults of MMA and MMAZ (04 R132-R134). -/
def mxDecode (f : MxFields) : Option Nat :=
  let fa := fmtOfCode f.fmta.toNat
  let fb := fmtOfCode f.fmtb.toNat
  match mxShape fa fb with
  | none => decodeFault (f.rsv == 0 && (f.bs || (f.vsa == 0 && f.vsb == 0))) false
  | some k =>
    let aw := fa.getD .fp32
    let bw := fb.getD .fp32
    let wide := bw.width = 6 ∧ k = 64
    decodeFault
      (f.rsv == 0 && (f.bs || (f.vsa == 0 && f.vsb == 0)) && 32 * f.asel.toNat + mxBytes aw k ≤ 2048
        && (!wide || f.tb.toNat % 2 == 0))
      (!f.bs || aw.isNarrowFloat)

/-- Index of the accumulator row a slot names. -/
def mxIndex (f : MxFields) : Nat := 32 * bit f.bank + f.row.toNat

/-- An MX instruction on a row; clear says that the row is made empty first (MMAZ). -/
def mxExec (op : Nat) (clear : Bool) (g : Nat) (f : MxFields) (s : State) : Host.Outcome State Fault Refusal :=
  slotExec s g .mx op (fun w => decide (decodeMx w = f)) fun s =>
    slotRun s g .mx (mxDecode f) f.gp f.gn fun _ _ x =>
      let fa := (fmtOfCode f.fmta.toNat).getD .fp32
      let fb := (fmtOfCode f.fmtb.toNat).getD .fp32
      let k := (mxShape (some fa) (some fb)).getD 0
      let r := if clear then {} else rowAhead x (mxIndex f)
      let differs := if fa.isWide then r.mode == .longSum
        else r.mode == .fp32 || (r.mode == .longSum && r.anchor != signedOf 9 f.anchor.toNat)
      if differs then .raise 0x0F 0
      else .done [.result 12 (.row (mxIndex f) (mxRow x f fa fb k r))]

/-- MMA: row[j] ⊕= Σ A[i] × B[i][j]. -/
def execMma (g : Nat) (f : MxFields) (s : State) : Host.Outcome State Fault Refusal := mxExec 0x01 false g f s

/-- MMAZ: the row is made empty, then MMA. -/
def execMmaz (g : Nat) (f : MxFields) (s : State) : Host.Outcome State Fault Refusal := mxExec 0x02 true g f s

/-- MCLR: rows row to row + asel of the bank are made empty. -/
def execMclr (g : Nat) (f : MxFields) (s : State) : Host.Outcome State Fault Refusal :=
  slotExec s g .mx 0x03 (fun w => decide (decodeMx w = f)) fun s =>
    slotRun s g .mx
      (illegalUnless (f.ta == 0 && f.tb == 0 && f.fmta == 0 && f.fmtb == 0 && !f.bs && f.vsb == 0 && f.vsa == 0
        && f.anchor == 0 && f.rsv == 0 && f.row.toNat + f.asel.toNat ≤ 31)) f.gp f.gn fun _ _ _ =>
      .done ((rangeFrom (mxIndex f) (f.asel.toNat + 1)).map fun i => .result 12 (.row i {}))

end Sys2Proof.Machine
end

