-- ==== Sys2Proof/Machine/Pins.lean ====
section
/-! DEFINITION. The supplies and the straps: what the power stage does as its inputs move, and what a loss of power leaves (18 R454,
R459-R462). -/

namespace Sys2Proof.Machine

/-- What flash keeps of the firmware state (16 Table 16-1). -/
def fwFlash (f : FwSt) : FwSt :=
  { slots := f.slots, minSecurity := f.minSecurity, settings := f.settings, stackFrom := f.stackFrom, portFrom := f.portFrom, powerFrom := f.powerFrom }

/-- The package after a loss of power: everything as before its supply came up but flash, the Daybook mirror, and the model's own fields
(queue, outbox, free values). -/
def powerLost (s : State) : State :=
  { State.reset with
    pending := s.pending, outbox := s.outbox, freeCtr := s.freeCtr
    flash := s.flash, fw := fwFlash s.fw, book := { mirror := s.book.mirror } }

/-- The always-on domain goes on from AUX_3V3, the rest is held in reset: time, the latched SLOT_ID, THERM_TRIP_N and the regulator alert
stand. -/
def heldReset (s : State) (p : PinSt) : State :=
  latchSlot { powerLost s with
    clock := s.clock, pins := p
    power := { trip := s.power.trip, tripAt := s.power.tripAt, alert := s.power.alert, alertPin := s.power.alertPin } } s.pins.slotId

/-- INPUT_ALERT: the 40 V input is outside 35 V to 46 V. -/
def execInputAlert (s : State) : Host.Outcome State Fault Refusal := .next (alertAssert s)

/-- INPUT_LOSS: the 40 V input is outside 33 V to 47 V; the critical entry in the mirror has no code in 15 Table 15-17, so that its event
number is a free value. -/
def execInputLoss (s : State) : Host.Outcome State Fault Refusal :=
  if !s.pins.aux then .next { s with pins := { s.pins with input := false } }
  else
    let (n, s0) := freshFree s
    let e : DbEntry := ⟨droneNs s, s.book.next, 0x70, 0x6000 + Config.free n % 4096, 5, 0xFF, [0, 0, 0, 0, 0]⟩
    .next (heldReset (mirrorWrite (bookWrite s0 e) e) { s.pins with input := false, held := true })

/-- AUX_LOSS: the whole package resets and THERM_TRIP_N unlatches. -/
def execAuxLoss (s : State) : Host.Outcome State Fault Refusal :=
  let s1 := { powerLost s with pins := { input := s.pins.input, perst := s.pins.perst } }
  let s2 := if s.power.trip then emit s1 (.pin "THERM_TRIP_N" false) else s1
  .next (if s.power.alertPin then emit s2 (.pin "PWR_ALERT_N" false) else s2)

/-- TRIP_BACKSTOP: 100 ms after THERM_TRIP_N the 40 V input is still there; the power stage stops converting. -/
def execTripBackstop (s : State) : Host.Outcome State Fault Refusal :=
  if s.power.trip ∧ s.pins.input ∧ !s.pins.stopped ∧ s.clock ≥ s.power.tripAt + 100000000 then
    .next (heldReset s { s.pins with stopped := true, held := true })
  else .next s

/-- SLOT_ID_CHANGE: a change after the latch is ignored and logged. -/
def execSlotIdChange (observed : Nat) (s : State) : Host.Outcome State Fault Refusal :=
  if s.pins.aux ∧ observed % 64 ≠ s.pins.slotId then .next (logEvent s 1 0x0001 3 0xFF [s.pins.slotId, observed % 64]) else .next s

end Sys2Proof.Machine
end

