-- ==== Sys2Proof/Machine/Twin.lean ====
section
/-! DEFINITION. The double-stop: digest exchange, mirror records, roles, loss and resynchronisation (17 R438-R447). -/

namespace Sys2Proof.Machine

/-! ### Step digests (17 R443, R444) -/

/-- DIGEST_EXCHANGE: every local gang of a paired twin's step has ended; the fault flag goes out in a mirror record and the digest to the
twin group.  A twin that is no longer paired contributes its completion alone. -/
def execDigestExchange (ctx : Nat) (s : State) : Host.Outcome State Fault Refusal :=
  match stepIn s ctx .running with
  | some r =>
    if !gangsEnded s r ∨ r.digestGen.isSome ∨ !isTwin s then .next s
    else if !twinPaired s then .next (contributeDone s ctx r)
    else
      let s1 := mirrorSend s 1 ctx [] []
      let (s2, n) := strumContribute s1 twinGroup stewardMember (6, 0, 16) (bytesOf 16 (mapGet 0 s.twin.digest ctx)) false true
      .next (stepPut s2 ctx { r with digestGen := some n })
  | none => .next s

/-- DIGEST_RESULT: the result of tree 4,095 reaches the twin. -/
def execDigestResult (p : Packet) (s : State) : Host.Outcome State Fault Refusal :=
  if p.kind ≠ 0x08 ∨ p.cut ∨ strumType p ≠ 2 ∨ strumTree p ≠ 4095 then .next s else .next (resultArrive s p)

/-! ### The twin filter (17 R441) -/

/-- TWIN_STREAM_EXPIRY: streams with no arrival for 100 ms are freed. -/
def execTwinStreamExpiry (s : State) : Host.Outcome State Fault Refusal :=
  .next { s with twin := { s.twin with streams := s.twin.streams.filter fun t => s.clock < t.last + 100000000 } }

/-! ### Mirror records (17 R438, R446) -/

/-- Fields of a mirror record. -/
def mirrorType (p : Packet) : Nat := bitsOf (extWord p 0) 63 56
def mirrorRole (p : Packet) : Nat := bitsOf (extWord p 0) 51 51

/-- Is a packet a whole mirror record of a type from the partner. -/
def isMirror (s : State) (p : Packet) (type : Nat) : Bool :=
  p.kind == 0x0C && !p.cut && isTwin s && p.src == twinPartner s && mirrorType p == type

/-- The first mirror record: the partner names this package, holds the other role and has the same Pattern digest; else both stay single
(17 R438). -/
def mirrorFirst (s : State) (p : Packet) (digest : Nat) : State :=
  if s.twin.checked then s
  else
    let s1 := { s with twin := { s.twin with checked := true } }
    let same := (s.plan.pattern.map fun q => q.digest == digest).getD false
    if p.dst = ownChip s ∧ mirrorRole p ≠ regField s regRcvTwin 44 44 ∧ same then regPut s1 regRcvTwin 47 45 1
    else logEvent s1 0x90 0x7005 4 0xFF [twinPartner s, extWord p 1, Config.twinCause 1]

/-- What a heartbeat or step record tells. -/
def mirrorTake (s : State) (p : Packet) (digest : Nat) : State :=
  let s1 := mirrorFirst s p digest
  { s1 with twin := { s1.twin with peerFault := bitOf (extWord p 0) 50, peerStep := extWord p 1, peerReported := extWord p 2, heard := s.clock } }

/-- MIRROR_HEARTBEAT_TIMER: a twin that is not out sends a record at least every 1 ms. -/
def execMirrorHeartbeatTimer (s : State) : Host.Outcome State Fault Refusal :=
  if isTwin s ∧ twinState s ≠ 3 ∧ s.clock ≥ s.twin.sentAt + 1000000 then .next (mirrorSend s 1 0 [] []) else .next s

/-- MIRROR_HEARTBEAT; digest is the partner's Pattern digest, which R438 has a record tell. -/
def execMirrorHeartbeat (p : Packet) (digest : Nat) (s : State) : Host.Outcome State Fault Refusal :=
  if isMirror s p 1 then .next (mirrorTake s p digest) else .next s

/-- MIRROR_STEP. -/
def execMirrorStep (p : Packet) (digest : Nat) (s : State) : Host.Outcome State Fault Refusal :=
  if isMirror s p 2 then .next (mirrorTake s p digest) else .next s

/-! ### Loss and roles (17 R445, R449) -/

/-- PARTNER_LOSS: no mirror record for 1 ms.  A resynchronisation with a partner that has gone is abandoned (Table 17-9). -/
def execPartnerLoss (s : State) : Host.Outcome State Fault Refusal :=
  if s.clock < s.twin.heard + 1000000 then .next s
  else if twinPaired s then .next (partnerLost s)
  else if s.twin.resync.isSome ∧ s.twin.joined then .next { s with twin := { s.twin with resync := none, joined := false, copied := false } }
  else .next s

/-- Take a paired twin's request to change roles at the next step boundary. -/
def twinSwap (s : State) : State := if twinPaired s then { s with twin := { s.twin with swap := true } } else s

/-- TWIN_SWAP: RCV_TWIN_CMD.swap is written. -/
def execTwinSwap (s : State) : Host.Outcome State Fault Refusal := .next (hostWrite s regRcvTwinCmd 4 twinSwap)

/-- TWIN_LEAVE: RCV_TWIN_CMD.leave is written. -/
def execTwinLeave (s : State) : Host.Outcome State Fault Refusal := .next (hostWrite s regRcvTwinCmd 2 twinOut)

/-! ### Resynchronisation (17 R447) -/

/-- The ranges that RCV_TWIN_RESYNC_DESC names: 16 bytes each, offset and length. -/
def resyncRanges (s : State) : List (Nat × Nat) :=
  let n := regField s regRcvResyncDesc 63 60 + 1
  let d := memLoad s (regField s regRcvResyncDesc 47 0) (16 * n)
  (List.range n).map fun i => (numAt d.1 (16 * i) 8, numAt d.1 (16 * i + 8) 8)

/-- The serving twin asks the repaired one to join. -/
def twinResync (s : State) : State :=
  if twinState s ≠ 2 then s
  else
    let n := (regGet s regRcvResyncStep).toNat
    mirrorSend { s with twin := { s.twin with resync := some (n, resyncRanges s), joined := false, copied := false, heard := s.clock } } 5 0 [] []

/-- TWIN_RESYNC: RCV_TWIN_CMD.resync is written. -/
def execTwinResync (s : State) : Host.Outcome State Fault Refusal := .next (hostWrite s regRcvTwinCmd 1 twinResync)

/-- RCV_TWIN_CMD as a whole. -/
def twinCmd (s : State) (v : Nat) : State :=
  let s1 := if bitOf v 1 then twinOut s else s
  let s2 := if bitOf v 2 then twinSwap s1 else s1
  if bitOf v 0 then twinResync s2 else s2

/-- JOIN_RECORD: answered by a twin that is joining; at the serving twin it is the answer. -/
def execJoinRecord (p : Packet) (s : State) : Host.Outcome State Fault Refusal :=
  if !isMirror s p 5 then .next s
  else if twinState s = 4 then .next (mirrorSend { s with twin := { s.twin with heard := s.clock, copied := false } } 5 0 [] [])
  else if s.twin.resync.isSome then .next { s with twin := { s.twin with joined := true, heard := s.clock } }
  else .next s

/-- Is a twin taking a copy. -/
def isJoining (s : State) : Bool := twinState s == 4 || twinState s == 5

/-- RESYNC_DATA: state lands at its offset. -/
def execResyncData (p : Packet) (s : State) : Host.Outcome State Fault Refusal :=
  if !isMirror s p 3 ∨ !isJoining s then .next s
  else
    let s1 := memStore s p.offset p.payload fun l => bytePoisoned p (64 * l - p.offset)
    .next (regPut { s1 with twin := { s1.twin with heard := s.clock } } regRcvTwin 47 45 5)

/-- RESYNC_STATE: agent counts, the filter's streams and plan positions (context, head slot, last step) are copied. -/
def execResyncState (p : Packet) (counts : List (Nat × Nat)) (streams : List StreamCopy) (positions : List (Nat × Nat × Nat))
    (s : State) : Host.Outcome State Fault Refusal :=
  if !isMirror s p 4 ∨ !isJoining s then .next s
  else
    let cs := counts.foldl (fun m e => mapSet 0 m e.1 e.2) []
    let fs := streams.map fun x => (⟨x.src, x.ctx, x.vc, x.agent, x.high, x.marks, s.clock⟩ : TwinStream)
    let s1 := { s with twin := { s.twin with counts := cs, streams := fs, heard := s.clock, copied := true } }
    let s2 := positions.foldl (fun a (c, head, last) => planSet a c { planGet a c with head := head, last := some last }) s1
    .next (regPut s2 regRcvTwin 47 45 5)

end Sys2Proof.Machine
end

