-- ==== Sys2Proof/Machine/RegWrite.lean ====
section
/-! DEFINITION. A write to a register of the map, by the host at a BAR0 offset or by management (00 R18, R19, 03 R113, 15 R386, R388). -/

namespace Sys2Proof.Machine

/-! ### Where a write goes (15 R388) -/

/-- The key that a BAR0 offset names: the paged windows show the stack and die that HST_WINDOW selects; none in the Daybook window, which
shows entries and takes no write. -/
def bar0Key (s : State) (off : Nat) : Option Nat :=
  if 0x10000 ≤ off ∧ off < 0x20000 then some (stkKey (regField s regHstWindow 2 0) (off - 0x10000))
  else if 0x30000 ≤ off ∧ off < 0x40000 then none
  else if 0x40000 ≤ off ∧ off < 0x80000 then
    if regField s regHstWindow 6 6 = 0 then some (blockKey (regField s regHstWindow 5 4) (off - 0x40000))
    else if off < 0x50000 then some (dieKey (regField s regHstWindow 5 4) (off - 0x40000))
    else none
  else some off

/-! ### Registers that act when written -/

/-- What the record of a SEC_CMD operation is taken as.  How much a teardown finds not erased is nothing a register write tells: a free
value. -/
def secTake (s : State) (op : Nat) : Option (State → List Byte → Except Nat State) :=
  if op = 1 then some custodianTake
  else if op = 2 then some enrolTake
  else if op = 3 then some removeTake
  else if op = 4 then some (teardownTake (Config.free s.freeCtr) (some (regField s regSecRecord 47 0)))
  else if op = 5 then some warrantTake
  else if op = 6 then some serviceTake
  else none

/-- SEC_CMD is written: other operations are ignored (15 Table 15-9). -/
def secCmd (s : State) (op : Nat) : State :=
  match secTake s op with
  | some take => recordJudge op take (if op = 4 then (freshFree s).2 else s)
  | none => s

/-- UPD_CMD is written: other operations are ignored (16 Table 16-13). -/
def updCmd (s : State) (op : Nat) : State :=
  if op = 1 then hostBundle s
  else if op = 2 then activate s
  else if op = 3 then fallBack s 0x0F
  else if op = 4 then cancelActivation s
  else s

/-- SCB_CTRL is written (07 Table 07-16). -/
def scbCmd (s : State) (v : Nat) : State :=
  let s1 := if bitOf v 1 then scrubAbort s else s
  if bitOf v 0 then scrubRequest s1 (regField s1 regScbLo 47 0) (regField s1 regScbHi 47 0) none else s1

/-- PRT_CMD of port p is written (10 Table 10-10). -/
def prtCmd (s : State) (p v : Nat) : State :=
  let s1 := if bitOf v 1 then portRetrain p s else s
  if bitOf v 0 then reconsider s1 p else s1

/-- HST_LEASE_CFG is written: the lease's length is stored, and release ends the lease (15 R391). -/
def leaseCfg (s : State) (v : Word) : State :=
  let s1 := storeReg s regLeaseCfg v
  if bitOf v.toNat 16 then leaseEnds s1 else s1

/-- An MSI-X table entry is written: a vector pending in the PBA is sent when it is unmasked (log entry 12). -/
def msixWrite (s : State) (k : Nat) (v : Word) : State :=
  let s1 := storeReg s k v
  let n := (k - 0xF000) / 16
  if k = regMsix n ∧ regField s1 k 32 32 = 0 ∧ regField s1 regPba n n = 1 then emit (regPut s1 regPba n n 0) (.vector n) else s1

/-- The registers of the commands: what a write of v to key k does, none where the register only holds what is written. -/
def regAction (s : State) (k : Nat) (v : Word) : Option State :=
  let n := v.toNat
  if k = regContractCheck then some (if bitOf n 0 then contractCheck s else s)
  else if k = regLeaseCfg then some (leaseCfg s v)
  else if k = regAdopt then some (adoptWrite s (bitsOf n 31 16) (bitsOf n 15 0))
  else if k = regPlnCmd then some (if bitOf n 0 then patternApply (bitsOf n 28 16) s else s)
  else if k = regPlnAbortCmd then some (if bitOf n 4 then stepAbort (bitsOf n 3 0) (regGet s regPlnAbortStep).toNat s else s)
  else if k = regScbCtrl then some (scbCmd s n)
  else if k = regPwrCapHost then some (setHostCap s (bitsOf n 15 0))
  else if k = regSecCmd then some (secCmd s (bitsOf n 3 0))
  else if k = regUpdCmd then some (updCmd s (bitsOf n 3 0))
  else if k = regRcvCmd then some (rcvCmd s n)
  else if k = regRcvTwinCmd then some (twinCmd s n)
  else if k = regFabStocktake then some (fabStocktake n s)
  else if k = regFabSnapshot then some (fabSnapshot n s)
  else if keyIn k (regPrtCmd 0) 0x1000 18 then some (prtCmd s ((k - regPrtCmd 0) / 0x1000) n)
  else if keyIn k (regEccCtrl 0) 0x10000 8 then some (if bitOf n 1 then stackLogClear s ((k - regEccCtrl 0) / 0x10000) else s)
  else if keyIn k (regDieEccCtrl 0) 0x10000 4 then some (if bitOf n 1 then dieLogClear s ((k - regDieEccCtrl 0) / 0x10000) else s)
  else if keyMsix k then some (msixWrite s k v)
  else none

/-! ### Tile blocks (03 R113, Table 03-15) -/

/-- Does the step of a tile's context run on the tile. -/
def tileStepRuns (s : State) (t : Nat) : Bool :=
  let c := ctxOfTile s t
  (stepIn s c .running).isSome && !ctxInReset s c && (tileGet s t).tstate != .halted

/-- A management write to a byte offset of a die's tile blocks: only TIL_FLAGS takes it, and only while the tile's step does not run. -/
def tileWrite (s : State) (x : Nat) (v : Word) : State :=
  let i := x % 0x40000 / 256
  let t := x / 0x40000 * tilesPerDie s + i
  if x % 256 ≠ 0x28 ∨ tilesPerDie s ≤ i ∨ 4 ≤ x / 0x40000 then s
  else if tileStepRuns s t then logEvent s 1 0x1004 3 0xFF [t, v.toNat]
  else tileMod s t fun y => { y with flags := y.flags &&& ~~~(v &&& 0x3F) }

/-! ### The command -/

/-- Is a register locked: LK, and a Pattern is applied (00 Table 00-4). -/
def isLocked (s : State) (k : Nat) : Bool := s.plan.pattern.isSome && ((regRow k).map (·.lk)).getD false

/-- A write of v to key k takes effect. -/
def regTake (mgmt : Bool) (s : State) (k : Nat) (v : Word) : State :=
  if 0x300000 ≤ k then (if mgmt then tileWrite s (k - 0x300000) v else s)
  else if isLocked s k then logEvent s 1 0x1001 3 0xFF [bar0Offset k, v.toNat, if mgmt then 2 else 1]
  else (regAction s k v).getD (storeReg s k v)

/-- The key that a write names: management names registers by their keys. -/
def writeKey (mgmt : Bool) (s : State) (off : Nat) : Option Nat := if mgmt then some off else bar0Key s off

/-- REGISTER_WRITE: a write of v by the host at a BAR0 offset, or by management to a register's key.  The accepted driver's write of
HST_HEARTBEAT renews its lease even while the service core is away. -/
def execRegisterWrite (mgmt : Bool) (off : Nat) (v : Word) (s : State) : Host.Outcome State Fault Refusal :=
  if !mgmt && off == regHeartbeat && s.host.accepted && !windowClosed s then .next (leaseStart s)
  else
    match writeKey mgmt s off with
    | some k => .next (writeBy mgmt s k v fun a => regTake mgmt a k v)
    | none => .next s

end Sys2Proof.Machine
end

