-- ==== Sys2Proof/Machine/Scalar.lean ====
section
/-! DEFINITION. Scalar and predicate operations of S0 and S1 (04 R118-R120). -/

namespace Sys2Proof.Machine

/-- A scalar result of latency 1. -/
def scalarResult (rd : Nat) (v : Word) (p : Bool) : SlotOut := .done [.result 1 (.scalar rd v p)]

/-- A predicate result of latency 1. -/
def predResult (pd : Nat) (v : Bool) : SlotOut := .done [.result 1 (.pred pd v)]

/-- The R-form: rd = fn rs1 rs2; imm is zero; poisoned where a source is (04 R119, R120). -/
def scalarRR (op : Nat) (fn : Word → Word → Word) (g : Nat) (sl : Slot) (f : ScalarFields) (s : State) :
    Host.Outcome State Fault Refusal :=
  slotExec s g sl op (fun w => isScalarSlot sl && decide (decodeScalar sl w = f)) fun s =>
    slotRun s g sl (illegalUnless (f.imm == 0)) f.gp f.gn fun _ _ x =>
      let a := sReg x f.rs1.toNat
      let b := sReg x f.rs2.toNat
      scalarResult f.rd.toNat (fn a.1 b.1) (a.2 || b.2)

/-- The I-form: rd = fn rs1 imm; rs2 is zero. -/
def scalarRI (op : Nat) (fn : Word → Word → Word) (g : Nat) (sl : Slot) (f : ScalarFields) (s : State) :
    Host.Outcome State Fault Refusal :=
  slotExec s g sl op (fun w => isScalarSlot sl && decide (decodeScalar sl w = f)) fun s =>
    slotRun s g sl (illegalUnless (f.rs2 == 0)) f.gp f.gn fun _ _ x =>
      let a := sReg x f.rs1.toNat
      scalarResult f.rd.toNat (fn a.1 (scalarImm sl f.imm)) a.2

/-- A shift by an immediate: imm[5:0], the rest of imm zero. -/
def scalarShI (op : Nat) (fn : Word → Nat → Word) (g : Nat) (sl : Slot) (f : ScalarFields) (s : State) :
    Host.Outcome State Fault Refusal :=
  slotExec s g sl op (fun w => isScalarSlot sl && decide (decodeScalar sl w = f)) fun s =>
    slotRun s g sl (illegalUnless (f.rs2 == 0 && f.imm.toNat < 64)) f.gp f.gn fun _ _ x =>
      let a := sReg x f.rs1.toNat
      scalarResult f.rd.toNat (fn a.1 f.imm.toNat) a.2

/-- A compare of rs1 with rs2 into a predicate; a poisoned source raises 0x0B. -/
def scalarCmp (op : Nat) (fn : Word → Word → Bool) (g : Nat) (sl : Slot) (f : ScalarFields) (s : State) :
    Host.Outcome State Fault Refusal :=
  slotExec s g sl op (fun w => isScalarSlot sl && decide (decodeScalar sl w = f)) fun s =>
    slotRun s g sl (illegalUnless (f.imm == 0 && f.rd.toNat < 16)) f.gp f.gn fun _ _ x =>
      let a := sReg x f.rs1.toNat
      let b := sReg x f.rs2.toNat
      if a.2 || b.2 then .raise 0x0B 0 else predResult f.rd.toNat (fn a.1 b.1)

/-- A compare of rs1 with imm into a predicate. -/
def scalarCmpI (op : Nat) (fn : Word → Word → Bool) (g : Nat) (sl : Slot) (f : ScalarFields) (s : State) :
    Host.Outcome State Fault Refusal :=
  slotExec s g sl op (fun w => isScalarSlot sl && decide (decodeScalar sl w = f)) fun s =>
    slotRun s g sl (illegalUnless (f.rs2 == 0 && f.rd.toNat < 16)) f.gp f.gn fun _ _ x =>
      let a := sReg x f.rs1.toNat
      if a.2 then .raise 0x0B 0 else predResult f.rd.toNat (fn a.1 (scalarImm sl f.imm))

/-- A predicate operation: rs1[3:0] and rs2[3:0] name the sources. -/
def predOp (op : Nat) (fn : Bool → Bool → Bool) (g : Nat) (sl : Slot) (f : ScalarFields) (s : State) :
    Host.Outcome State Fault Refusal :=
  slotExec s g sl op (fun w => isScalarSlot sl && decide (decodeScalar sl w = f)) fun s =>
    slotRun s g sl (illegalUnless (f.imm == 0 && f.rd.toNat < 16 && f.rs1.toNat < 16 && f.rs2.toNat < 16)) f.gp f.gn
      fun _ _ x => predResult f.rd.toNat (fn (pReg x f.rs1.toNat) (pReg x f.rs2.toNat))

/-- Signed less-than of two words. -/
def sLess (a b : Word) : Bool := a.toInt < b.toInt

/-- ADD: rd = rs1 + rs2 (04 R119). -/
def execAdd (g : Nat) (slot : Slot) (f : ScalarFields) (s : State) : Host.Outcome State Fault Refusal :=
  scalarRR 0x01 (· + ·) g slot f s

/-- SUB: rd = rs1 − rs2 (04 R119). -/
def execSub (g : Nat) (slot : Slot) (f : ScalarFields) (s : State) : Host.Outcome State Fault Refusal :=
  scalarRR 0x02 (· - ·) g slot f s

/-- AND (04 R119). -/
def execAnd (g : Nat) (slot : Slot) (f : ScalarFields) (s : State) : Host.Outcome State Fault Refusal :=
  scalarRR 0x03 (· &&& ·) g slot f s

/-- OR (04 R119). -/
def execOr (g : Nat) (slot : Slot) (f : ScalarFields) (s : State) : Host.Outcome State Fault Refusal :=
  scalarRR 0x04 (· ||| ·) g slot f s

/-- XOR (04 R119). -/
def execXor (g : Nat) (slot : Slot) (f : ScalarFields) (s : State) : Host.Outcome State Fault Refusal :=
  scalarRR 0x05 (· ^^^ ·) g slot f s

/-- SHL: by the low 6 bits of rs2 (04 R119). -/
def execShl (g : Nat) (slot : Slot) (f : ScalarFields) (s : State) : Host.Outcome State Fault Refusal :=
  scalarRR 0x06 (fun a b => a <<< (b.toNat % 64)) g slot f s

/-- SHR: logical (04 R119). -/
def execShr (g : Nat) (slot : Slot) (f : ScalarFields) (s : State) : Host.Outcome State Fault Refusal :=
  scalarRR 0x07 (fun a b => a >>> (b.toNat % 64)) g slot f s

/-- SRA: arithmetic (04 R119). -/
def execSra (g : Nat) (slot : Slot) (f : ScalarFields) (s : State) : Host.Outcome State Fault Refusal :=
  scalarRR 0x08 (fun a b => a.sshiftRight (b.toNat % 64)) g slot f s

/-- MUL: the low 64 bits of the product (04 R119). -/
def execMul (g : Nat) (slot : Slot) (f : ScalarFields) (s : State) : Host.Outcome State Fault Refusal :=
  scalarRR 0x09 (· * ·) g slot f s

/-- MIN: signed (04 R119). -/
def execMin (g : Nat) (slot : Slot) (f : ScalarFields) (s : State) : Host.Outcome State Fault Refusal :=
  scalarRR 0x0A (fun a b => if sLess b a then b else a) g slot f s

/-- MAX: signed (04 R119). -/
def execMax (g : Nat) (slot : Slot) (f : ScalarFields) (s : State) : Host.Outcome State Fault Refusal :=
  scalarRR 0x0B (fun a b => if sLess a b then b else a) g slot f s

/-- MINU: unsigned (04 R119). -/
def execMinu (g : Nat) (slot : Slot) (f : ScalarFields) (s : State) : Host.Outcome State Fault Refusal :=
  scalarRR 0x0C (fun a b => if b < a then b else a) g slot f s

/-- MAXU: unsigned (04 R119). -/
def execMaxu (g : Nat) (slot : Slot) (f : ScalarFields) (s : State) : Host.Outcome State Fault Refusal :=
  scalarRR 0x0D (fun a b => if a < b then b else a) g slot f s

/-- ADDI: rd = rs1 + imm (04 R119). -/
def execAddi (g : Nat) (slot : Slot) (f : ScalarFields) (s : State) : Host.Outcome State Fault Refusal :=
  scalarRI 0x10 (· + ·) g slot f s

/-- ANDI (04 R119). -/
def execAndi (g : Nat) (slot : Slot) (f : ScalarFields) (s : State) : Host.Outcome State Fault Refusal :=
  scalarRI 0x11 (· &&& ·) g slot f s

/-- ORI (04 R119). -/
def execOri (g : Nat) (slot : Slot) (f : ScalarFields) (s : State) : Host.Outcome State Fault Refusal :=
  scalarRI 0x12 (· ||| ·) g slot f s

/-- XORI (04 R119). -/
def execXori (g : Nat) (slot : Slot) (f : ScalarFields) (s : State) : Host.Outcome State Fault Refusal :=
  scalarRI 0x13 (· ^^^ ·) g slot f s

/-- SHLI (04 R119). -/
def execShli (g : Nat) (slot : Slot) (f : ScalarFields) (s : State) : Host.Outcome State Fault Refusal :=
  scalarShI 0x14 (fun a n => a <<< n) g slot f s

/-- SHRI (04 R119). -/
def execShri (g : Nat) (slot : Slot) (f : ScalarFields) (s : State) : Host.Outcome State Fault Refusal :=
  scalarShI 0x15 (fun a n => a >>> n) g slot f s

/-- SRAI (04 R119). -/
def execSrai (g : Nat) (slot : Slot) (f : ScalarFields) (s : State) : Host.Outcome State Fault Refusal :=
  scalarShI 0x16 (fun a n => a.sshiftRight n) g slot f s

/-- MOVLO: rd = imm[31:0], zero-extended; S0 only (04 R119). -/
def execMovlo (g : Nat) (slot : Slot) (f : ScalarFields) (s : State) : Host.Outcome State Fault Refusal :=
  slotExec s g slot 0x18 (fun w => isScalarSlot slot && decide (decodeScalar slot w = f)) fun s =>
    slotRun s g slot (illegalUnless (f.rs1 == 0 && f.rs2 == 0 && f.imm.toNat < 2 ^ 32)) f.gp f.gn fun _ _ _ =>
      scalarResult f.rd.toNat (f.imm.setWidth 64) false

/-- ORHI: rd = rs1 or (imm[31:0] << 32); S0 only (04 R119). -/
def execOrhi (g : Nat) (slot : Slot) (f : ScalarFields) (s : State) : Host.Outcome State Fault Refusal :=
  slotExec s g slot 0x19 (fun w => isScalarSlot slot && decide (decodeScalar slot w = f)) fun s =>
    slotRun s g slot (illegalUnless (f.rs2 == 0 && f.imm.toNat < 2 ^ 32)) f.gp f.gn fun _ _ x =>
      let a := sReg x f.rs1.toNat
      scalarResult f.rd.toNat (a.1 ||| (f.imm.setWidth 64 <<< 32)) a.2

/-- CMPEQ (04 R119). -/
def execCmpeq (g : Nat) (slot : Slot) (f : ScalarFields) (s : State) : Host.Outcome State Fault Refusal :=
  scalarCmp 0x20 (fun a b => a == b) g slot f s

/-- CMPNE (04 R119). -/
def execCmpne (g : Nat) (slot : Slot) (f : ScalarFields) (s : State) : Host.Outcome State Fault Refusal :=
  scalarCmp 0x21 (fun a b => a != b) g slot f s

/-- CMPLT: signed (04 R119). -/
def execCmplt (g : Nat) (slot : Slot) (f : ScalarFields) (s : State) : Host.Outcome State Fault Refusal :=
  scalarCmp 0x22 sLess g slot f s

/-- CMPLTU: unsigned (04 R119). -/
def execCmpltu (g : Nat) (slot : Slot) (f : ScalarFields) (s : State) : Host.Outcome State Fault Refusal :=
  scalarCmp 0x23 (fun a b => a < b) g slot f s

/-- CMPGE: signed (04 R119). -/
def execCmpge (g : Nat) (slot : Slot) (f : ScalarFields) (s : State) : Host.Outcome State Fault Refusal :=
  scalarCmp 0x24 (fun a b => !sLess a b) g slot f s

/-- CMPGEU: unsigned (04 R119). -/
def execCmpgeu (g : Nat) (slot : Slot) (f : ScalarFields) (s : State) : Host.Outcome State Fault Refusal :=
  scalarCmp 0x25 (fun a b => b ≤ a) g slot f s

/-- CMPEQI (04 R119). -/
def execCmpeqi (g : Nat) (slot : Slot) (f : ScalarFields) (s : State) : Host.Outcome State Fault Refusal :=
  scalarCmpI 0x26 (fun a b => a == b) g slot f s

/-- CMPLTI: signed (04 R119). -/
def execCmplti (g : Nat) (slot : Slot) (f : ScalarFields) (s : State) : Host.Outcome State Fault Refusal :=
  scalarCmpI 0x27 sLess g slot f s

/-- PAND (04 R119). -/
def execPand (g : Nat) (slot : Slot) (f : ScalarFields) (s : State) : Host.Outcome State Fault Refusal :=
  predOp 0x28 (fun a b => a && b) g slot f s

/-- POR (04 R119). -/
def execPor (g : Nat) (slot : Slot) (f : ScalarFields) (s : State) : Host.Outcome State Fault Refusal :=
  predOp 0x29 (fun a b => a || b) g slot f s

/-- PXOR (04 R119). -/
def execPxor (g : Nat) (slot : Slot) (f : ScalarFields) (s : State) : Host.Outcome State Fault Refusal :=
  predOp 0x2A (fun a b => a != b) g slot f s

/-- PANDN: pa and not pb (04 R119). -/
def execPandn (g : Nat) (slot : Slot) (f : ScalarFields) (s : State) : Host.Outcome State Fault Refusal :=
  predOp 0x2B (fun a b => a && !b) g slot f s

/-- TKST: the code of ticket slot imm[4:0], once it has left pending; the gang waits for it as for WAIT1 (03 R97, 04 R119,
R120, R141). -/
def execTkst (g : Nat) (f : ScalarFields) (s : State) : Host.Outcome State Fault Refusal :=
  slotExec s g .s1 0x30 (fun w => decide (decodeScalar .s1 w = f)) fun s =>
    slotRun s g .s1 (illegalUnless (f.rs1 == 0 && f.rs2 == 0 && f.imm.toNat < 32)) f.gp f.gn fun _ _ _ =>
      .done [.wait (2 ^ f.imm.toNat), .result 1 (.ticket f.rd.toNat f.imm.toNat)]

/-- RDTIL: TIL_ID, TIL_STEP or TIL_FLAGS of the tile's own block (03 R113, 04 R119). -/
def execRdtil (g : Nat) (f : ScalarFields) (s : State) : Host.Outcome State Fault Refusal :=
  slotExec s g .s1 0x31 (fun w => decide (decodeScalar .s1 w = f)) fun s =>
    slotRun s g .s1 (illegalUnless (f.rs1 == 0 && f.rs2 == 0 && f.imm.toNat < 3)) f.gp f.gn fun _ _ x =>
      scalarResult f.rd.toNat (if f.imm = 0 then x.id else if f.imm = 1 then x.step else x.flags) false

end Sys2Proof.Machine
end

