-- ==== Sys2Proof/Machine/Sync.lean ====
section
/-! DEFINITION. The SY slot, the no-op slots, and the events of a gang's issue: fetch, write-back, the end of a wait
(03 R86, R94, R96, R101, 04 R122, R140-R143). -/

namespace Sys2Proof.Machine

/-- Run an SY slot; it has no guard (04 R140). -/
def syExec (op : Nat) (ok : Bool) (g : Nat) (operand : BitVec 11) (out : State → Tile → SlotOut) (s : State) :
    Host.Outcome State Fault Refusal :=
  slotExec s g .sy op (fun w => w % 2 ^ 11 == operand.toNat) fun s =>
    slotRun s g .sy (illegalUnless ok) 0 false fun _ _ x => out s x

/-- The register or ticket field [10:6] of an SY operand. -/
def syField (o : BitVec 11) : Nat := o.toNat / 64

/-- Are bits [5:0] of an SY operand zero. -/
def syLowZero (o : BitVec 11) : Bool := o.toNat % 64 == 0

/-- WAIT: for the slots of a mask held in a scalar (03 R96). -/
def execWait (g : Nat) (operand : BitVec 11) (s : State) : Host.Outcome State Fault Refusal :=
  syExec 0x01 (syLowZero operand) g operand (fun _ x =>
    let m := sReg x (syField operand)
    if m.2 then .raise 0x0A m.1.toNat else .done [.wait (m.1.toNat % 2 ^ 32)]) s

/-- WAIT1: for one slot. -/
def execWait1 (g : Nat) (operand : BitVec 11) (s : State) : Host.Outcome State Fault Refusal :=
  syExec 0x02 (syLowZero operand) g operand (fun _ _ => .done [.wait (2 ^ syField operand)]) s

/-- WAITALL: for every slot. -/
def execWaitall (g : Nat) (operand : BitVec 11) (s : State) : Host.Outcome State Fault Refusal :=
  syExec 0x04 (operand == 0) g operand (fun _ _ => .done [.wait (2 ^ 32 - 1)]) s

/-- Formats a strum accepts for an operation (04 R142, 02 R51). -/
def strumFormatOk (op fmt : Nat) : Bool :=
  match fmtOfCode fmt with
  | none => false
  | some f =>
    if op = 1 then f.isWide || f == .longSum
    else if op = 2 ∨ op = 3 then f.isWide || f == .int8
    else true

/-- The checks of a strum descriptor (04 R142), in the order listed: the code and information that it raises.  A reserved operation is
one of the combinations that raise 0x02. -/
def strumCheck (s : State) (g : Nat) (x : Tile) (d : Word) : Option (Nat × Nat) :=
  let len := sdLen d
  let member := match groupRec s (sdGroup d) with | some r => r.members.contains g | none => false
  if sdOp d = 0 ∧ fieldOf d 48 0 ≠ 0 then some (0x01, 0)
  else if sdOp d > 6 ∨ (sdOp d ≠ 0 ∧ !strumFormatOk (sdOp d) (sdFmt d)) then some (0x02, 0)
  else if sdOp d ≠ 0 ∧ sdFmt d = 8 ∧ len % 16 ≠ 0 then some (0x01, 0)
  else if !member then some (0x01, 0)
  else if mapGet 0 x.tick (sdTicket d) = 1 then some (0x08, sdTicket d)
  else if sdOp d = 0 then none
  else if sdSrc d + len > padTop then some (0x04, sdSrc d)
  else if sdDst d + len > padTop then some (0x04, sdDst d)
  else if sdSrc d % 8 ≠ 0 then some (0x03, sdSrc d)
  else if sdDst d % 8 ≠ 0 then some (0x03, sdDst d)
  else none

/-- STRUM: checks the descriptor and contributes the gang's payload when the bundle commits. -/
def execStrum (g : Nat) (operand : BitVec 11) (s : State) : Host.Outcome State Fault Refusal :=
  syExec 0x03 (syLowZero operand) g operand (fun s x =>
    let d := sReg x (syField operand)
    if d.2 then .raise 0x0A d.1.toNat
    else
      match strumCheck s g x d.1 with
      | some (code, info) => .raise code info
      | none => .done [.strum d.1]) s

/-- NOP: a no-op slot, or the SY NOP, has no effect (04 R115, R140). -/
def execNop (_g : Nat) (_slot : Slot) (s : State) : Host.Outcome State Fault Refusal := .next s

/-! ### Fetch (03 R94, 04 R115, R116) -/

/-- The ticket of a fill in progress that covers a bundle. -/
def fillCovers (x : Tile) (pc : Nat) : Option Nat :=
  (x.ops.find? fun e => match e.2 with | .fill _ first count _ _ => first ≤ pc && pc < first + count | _ => false).map (·.1)

/-- Does any word of a bundle decode as uncorrectable. -/
def bundleBad (x : Tile) (pc : Nat) : Bool :=
  (List.range 8).any fun w => (sramDecode (mapGet 0 x.ibufErr (8 * pc + w))).1.bad

/-- A bundle as the fetch delivers it: corrected words. -/
def bundleRead (x : Tile) (pc : Nat) : BitVec 512 :=
  let raw := (mapGet 0 x.ibuf pc).toNat
  BitVec.ofNat 512 (packElems 64 ((List.range 8).map fun w =>
    raw / 2 ^ (64 * w) % 2 ^ 64 ^^^ (sramDecode (mapGet 0 x.ibufErr (8 * pc + w))).2))

/-- What a fetch does in a member's instruction buffer: corrections and uncorrectable reads counted and logged, and in service a
corrected word waits for its write-back. -/
def fetchEffects (s : State) (t pc : Nat) : State :=
  (List.range 8).foldl (fun a w =>
    let i := 8 * pc + w
    let e := mapGet 0 (tileGet a t).ibufErr i
    if e = 0 then a
    else
      let b := sramCount a t 1 i e
      if dieInService a (dieOfTile a t) && (sramDecode e).1.corrected then
        tileMod b t fun x => { x with fix := setInsert x.fix (padWords + i) }
      else b) s

/-- The fetch exception of a gang, if any: range, unready, uncorrectable, in the members' order. -/
def fetchFault (s : State) (g pc : Nat) : Option TileExc :=
  if pc ≥ 1536 then some ⟨0xF, 0, 0x05, 0⟩
  else
    (gangMembers s g).findSome? fun m =>
      match fillCovers (tileGet s m.2) pc with
      | some tk => some ⟨0xF, m.1, 0x06, tk⟩
      | none => if bundleBad (tileGet s m.2) pc then some ⟨0xF, m.1, 0x07, 0⟩ else none

/-- Slots of a bundle that hold an operation, and the illegal-opcode faults of those the catalogue does not list. -/
def bundleSlots (b : BitVec 512) : List Nat × List TileExc :=
  let used := allSlots.filter fun sl => slotBits b sl != 0
  ((used.filter fun sl => slotDefined sl (slotBits b sl)).map slotCode,
    (used.filter fun sl => !slotDefined sl (slotBits b sl)).map fun sl => ⟨slotCode sl, 0, 0x01, 0⟩)

/-- BUNDLE_FETCH: a running gang that neither holds a bundle nor waits fetches its next bundle and begins an issue cycle; a bundle
that holds no operation issues at once.  us: what the environment upset in the buffer's cells before the read. -/
def execBundleFetch (g : Nat) (us : Upsets) (s : State) : Host.Outcome State Fault Refusal :=
  let G0 := gangGet s g
  if G0.phase = .running ∧ !G0.opened ∧ G0.waits.isEmpty ∧ !(gangTiles s g).isEmpty then
    let s1 := settle (upsetTiles s us) g
    let pc := G0.pc
    let s2 := if pc < 1536 then (gangTiles s g).foldl (fun a t => fetchEffects a t pc) s1 else s1
    match fetchFault s1 g pc with
    | some e => .next (raiseExc s2 g e)
    | none =>
      let b := bundleRead (tileGet s1 (at' 0 (gangTiles s g) 0)) pc
      let sl := bundleSlots b
      .next (commitIfDone (gangMod s2 g fun G =>
        { G with cycle := G.cycle + 1, bundle := b, opened := true, left := sl.1, buf := [], exc := sl.2, taken := none }) g)
  else .next s

/-- RESULT_WRITEBACK: the results due in the gang's issue cycle are written (03 R86). -/
def execResultWriteback (g : Nat) (s : State) : Host.Outcome State Fault Refusal := .next (settle s g)

/-- TICKET_WAIT_END: once every named slot has left pending in every member, the gang issues again; cycles: how long it held
(03 R96, R101, Table 03-16). -/
def execTicketWaitEnd (g cycles : Nat) (s : State) : Host.Outcome State Fault Refusal :=
  let G := gangGet s g
  if !G.waits.isEmpty ∧ !waitHolds s g G.waits then
    .next (gangSet (tilesMod s (gangTiles s g) fun x => { x with cntWait := x.cntWait + BitVec.ofNat 64 cycles }) g
      { G with waits := [] })
  else .next s

/-- Write a corrected instruction-buffer word back as it was delivered. -/
def ibufWriteBack (x : Tile) (i : Nat) : Tile :=
  let raw := (mapGet 0 x.ibuf (i / 8)).toNat
  let v := raw ^^^ ((sramDecode (mapGet 0 x.ibufErr i)).2 * 2 ^ (64 * (i % 8)))
  { x with ibuf := mapSet 0 x.ibuf (i / 8) (BitVec.ofNat 512 v), ibufErr := mapDel x.ibufErr i }

/-- SRAM_WORD_WRITEBACK: a corrected word that waits is written back, as it was delivered, with fresh check bits (07 R200):
scratchpad word w, or 98,304 plus an instruction-buffer word. -/
def execSramWordWriteback (tile word : Nat) (s : State) : Host.Outcome State Fault Refusal :=
  if (tileGet s tile).fix.contains word then
    .next (tileMod s tile fun x =>
      if word < padWords then padPut x word (padWord x word).1 (x.padPoison.contains word)
      else { (ibufWriteBack x (word - padWords)) with fix := setErase x.fix word })
  else .next s

end Sys2Proof.Machine
end

