-- ==== Sys2Proof/Machine/Dispatch.lean ====
section
/-! DEFINITION. The dispatch: one arm per command, each a direct call of its meaning. -/

namespace Sys2Proof.Machine

def exec (i : Instr) (s : State) : Host.Outcome State Fault Refusal :=
  match i with
  | .registerWrite mgmt off v => Sys2Proof.Machine.execRegisterWrite mgmt off v s
  | .contractCheck => Sys2Proof.Machine.execContractCheck s
  | .bundleFetch g us => Sys2Proof.Machine.execBundleFetch g us s
  | .exceptionNotification g => Sys2Proof.Machine.execExceptionNotification g s
  | .resultWriteback g => Sys2Proof.Machine.execResultWriteback g s
  | .sramWordWriteback tile word => Sys2Proof.Machine.execSramWordWriteback tile word s
  | .nop g slot => Sys2Proof.Machine.execNop g slot s
  | .add g slot f => Sys2Proof.Machine.execAdd g slot f s
  | .sub g slot f => Sys2Proof.Machine.execSub g slot f s
  | .and_ g slot f => Sys2Proof.Machine.execAnd g slot f s
  | .or_ g slot f => Sys2Proof.Machine.execOr g slot f s
  | .xor g slot f => Sys2Proof.Machine.execXor g slot f s
  | .shl g slot f => Sys2Proof.Machine.execShl g slot f s
  | .shr g slot f => Sys2Proof.Machine.execShr g slot f s
  | .sra g slot f => Sys2Proof.Machine.execSra g slot f s
  | .mul g slot f => Sys2Proof.Machine.execMul g slot f s
  | .min g slot f => Sys2Proof.Machine.execMin g slot f s
  | .max g slot f => Sys2Proof.Machine.execMax g slot f s
  | .minu g slot f => Sys2Proof.Machine.execMinu g slot f s
  | .maxu g slot f => Sys2Proof.Machine.execMaxu g slot f s
  | .addi g slot f => Sys2Proof.Machine.execAddi g slot f s
  | .andi g slot f => Sys2Proof.Machine.execAndi g slot f s
  | .ori g slot f => Sys2Proof.Machine.execOri g slot f s
  | .xori g slot f => Sys2Proof.Machine.execXori g slot f s
  | .shli g slot f => Sys2Proof.Machine.execShli g slot f s
  | .shri g slot f => Sys2Proof.Machine.execShri g slot f s
  | .srai g slot f => Sys2Proof.Machine.execSrai g slot f s
  | .movlo g slot f => Sys2Proof.Machine.execMovlo g slot f s
  | .orhi g slot f => Sys2Proof.Machine.execOrhi g slot f s
  | .cmpeq g slot f => Sys2Proof.Machine.execCmpeq g slot f s
  | .cmpne g slot f => Sys2Proof.Machine.execCmpne g slot f s
  | .cmplt g slot f => Sys2Proof.Machine.execCmplt g slot f s
  | .cmpltu g slot f => Sys2Proof.Machine.execCmpltu g slot f s
  | .cmpge g slot f => Sys2Proof.Machine.execCmpge g slot f s
  | .cmpgeu g slot f => Sys2Proof.Machine.execCmpgeu g slot f s
  | .cmpeqi g slot f => Sys2Proof.Machine.execCmpeqi g slot f s
  | .cmplti g slot f => Sys2Proof.Machine.execCmplti g slot f s
  | .pand g slot f => Sys2Proof.Machine.execPand g slot f s
  | .por g slot f => Sys2Proof.Machine.execPor g slot f s
  | .pxor g slot f => Sys2Proof.Machine.execPxor g slot f s
  | .pandn g slot f => Sys2Proof.Machine.execPandn g slot f s
  | .tkst g f => Sys2Proof.Machine.execTkst g f s
  | .rdtil g f => Sys2Proof.Machine.execRdtil g f s
  | .jmp g f => Sys2Proof.Machine.execJmp g f s
  | .bz g f => Sys2Proof.Machine.execBz g f s
  | .bnz g f => Sys2Proof.Machine.execBnz g f s
  | .loop g f => Sys2Proof.Machine.execLoop g f s
  | .call g f => Sys2Proof.Machine.execCall g f s
  | .jr g f => Sys2Proof.Machine.execJr g f s
  | .end_ g f => Sys2Proof.Machine.execEnd g f s
  | .gangEndReport g => Sys2Proof.Machine.execGangEndReport g s
  | .lds g slot f us => Sys2Proof.Machine.execLds g slot f us s
  | .ldv g slot f us => Sys2Proof.Machine.execLdv g slot f us s
  | .ldbc g slot f us => Sys2Proof.Machine.execLdbc g slot f us s
  | .ldt g slot f us => Sys2Proof.Machine.execLdt g slot f us s
  | .sts g f => Sys2Proof.Machine.execSts g f s
  | .stv g f => Sys2Proof.Machine.execStv g f s
  | .vadd g slot f => Sys2Proof.Machine.execVadd g slot f s
  | .vsub g slot f => Sys2Proof.Machine.execVsub g slot f s
  | .vmul g slot f => Sys2Proof.Machine.execVmul g slot f s
  | .vfma g slot f => Sys2Proof.Machine.execVfma g slot f s
  | .vmin g slot f => Sys2Proof.Machine.execVmin g slot f s
  | .vmax g slot f => Sys2Proof.Machine.execVmax g slot f s
  | .vabs g slot f => Sys2Proof.Machine.execVabs g slot f s
  | .vneg g slot f => Sys2Proof.Machine.execVneg g slot f s
  | .vexp2 g slot f => Sys2Proof.Machine.execVexp2 g slot f s
  | .vrcp g slot f => Sys2Proof.Machine.execVrcp g slot f s
  | .vrsqrt g slot f => Sys2Proof.Machine.execVrsqrt g slot f s
  | .vfcmplt g slot f => Sys2Proof.Machine.execVfcmplt g slot f s
  | .vfcmpeq g slot f => Sys2Proof.Machine.execVfcmpeq g slot f s
  | .viadd g slot f => Sys2Proof.Machine.execViadd g slot f s
  | .visub g slot f => Sys2Proof.Machine.execVisub g slot f s
  | .vand g slot f => Sys2Proof.Machine.execVand g slot f s
  | .vor g slot f => Sys2Proof.Machine.execVor g slot f s
  | .vxor g slot f => Sys2Proof.Machine.execVxor g slot f s
  | .vshl g slot f => Sys2Proof.Machine.execVshl g slot f s
  | .vshr g slot f => Sys2Proof.Machine.execVshr g slot f s
  | .vsel g slot f => Sys2Proof.Machine.execVsel g slot f s
  | .vrot g slot f => Sys2Proof.Machine.execVrot g slot f s
  | .vbcs g slot f => Sys2Proof.Machine.execVbcs g slot f s
  | .vlane g slot f => Sys2Proof.Machine.execVlane g slot f s
  | .vcvt g slot f => Sys2Proof.Machine.execVcvt g slot f s
  | .vqbs g slot f => Sys2Proof.Machine.execVqbs g slot f s
  | .vacr g slot f => Sys2Proof.Machine.execVacr g slot f s
  | .vred g slot f => Sys2Proof.Machine.execVred g slot f s
  | .gbc g slot f => Sys2Proof.Machine.execGbc g slot f s
  | .gred g slot f => Sys2Proof.Machine.execGred g slot f s
  | .mma g f => Sys2Proof.Machine.execMma g f s
  | .mmaz g f => Sys2Proof.Machine.execMmaz g f s
  | .mclr g f => Sys2Proof.Machine.execMclr g f s
  | .gld g f => Sys2Proof.Machine.execGld g f s
  | .gst g f => Sys2Proof.Machine.execGst g f s
  | .send g f => Sys2Proof.Machine.execSend g f s
  | .recv g f => Sys2Proof.Machine.execRecv g f s
  | .dock g f => Sys2Proof.Machine.execDock g f s
  | .fill g f => Sys2Proof.Machine.execFill g f s
  | .coll g f => Sys2Proof.Machine.execColl g f s
  | .wait g operand => Sys2Proof.Machine.execWait g operand s
  | .wait1 g operand => Sys2Proof.Machine.execWait1 g operand s
  | .waitall g operand => Sys2Proof.Machine.execWaitall g operand s
  | .strum g operand => Sys2Proof.Machine.execStrum g operand s
  | .ticketWaitEnd g cycles => Sys2Proof.Machine.execTicketWaitEnd g cycles s
  | .globalLoadComplete tile tk => Sys2Proof.Machine.execGlobalLoadComplete tile tk s
  | .globalStoreComplete tile tk => Sys2Proof.Machine.execGlobalStoreComplete tile tk s
  | .fillComplete tile tk => Sys2Proof.Machine.execFillComplete tile tk s
  | .sendDispatch tile tk => Sys2Proof.Machine.execSendDispatch tile tk s
  | .channelRequest ch ctx src lines id cycles => Sys2Proof.Machine.execChannelRequest ch ctx src lines id cycles s
  | .channelArbitration ch cycles => Sys2Proof.Machine.execChannelArbitration ch cycles s
  | .burstLimitExpiry ch => Sys2Proof.Machine.execBurstLimitExpiry ch s
  | .transferComplete ch => Sys2Proof.Machine.execTransferComplete ch s
  | .starvationGrant ch cycles => Sys2Proof.Machine.execStarvationGrant ch cycles s
  | .refreshDue ch cycles => Sys2Proof.Machine.execRefreshDue ch cycles s
  | .dramLineRead line flips => Sys2Proof.Machine.execDramLineRead line flips s
  | .correctionWriteback line => Sys2Proof.Machine.execCorrectionWriteback line s
  | .poisonMarkInStore line => Sys2Proof.Machine.execPoisonMarkInStore line s
  | .eccLogClear mgmt onStack index => Sys2Proof.Machine.execEccLogClear mgmt onStack index s
  | .docketArrival tile tk => Sys2Proof.Machine.execDocketArrival tile tk s
  | .docketStart eng => Sys2Proof.Machine.execDocketStart eng s
  | .loadv eng => Sys2Proof.Machine.execLoadv eng s
  | .matv eng => Sys2Proof.Machine.execMatv eng s
  | .attn eng => Sys2Proof.Machine.execAttn eng s
  | .gather eng => Sys2Proof.Machine.execGather eng s
  | .scatter eng => Sys2Proof.Machine.execScatter eng s
  | .reduce eng => Sys2Proof.Machine.execReduce eng s
  | .quant eng => Sys2Proof.Machine.execQuant eng s
  | .copy eng => Sys2Proof.Machine.execCopy eng s
  | .docketFill eng => Sys2Proof.Machine.execDocketFill eng s
  | .zero eng => Sys2Proof.Machine.execZero eng s
  | .docketScrub eng n => Sys2Proof.Machine.execDocketScrub eng n s
  | .docketComplete eng => Sys2Proof.Machine.execDocketComplete eng s
  | .engineClockUngate eng => Sys2Proof.Machine.execEngineClockUngate eng s
  | .engineStall eng => Sys2Proof.Machine.execEngineStall eng s
  | .scrubStart => Sys2Proof.Machine.execScrubStart s
  | .scrubAbort => Sys2Proof.Machine.execScrubAbort s
  | .scrubDone => Sys2Proof.Machine.execScrubDone s
  | .packetHeadArrival port ctrl data => Sys2Proof.Machine.execPacketHeadArrival port ctrl data s
  | .flitArrival port ctrl data => Sys2Proof.Machine.execFlitArrival port ctrl data s
  | .outputAllocate port vc => Sys2Proof.Machine.execOutputAllocate port vc s
  | .tailTimeout port vc => Sys2Proof.Machine.execTailTimeout port vc s
  | .flitSlotSchedule port => Sys2Proof.Machine.execFlitSlotSchedule port s
  | .strictWindowEnd port => Sys2Proof.Machine.execStrictWindowEnd port s
  | .memoryWriteArrival p => Sys2Proof.Machine.execMemoryWriteArrival p s
  | .memoryReadRequest p => Sys2Proof.Machine.execMemoryReadRequest p s
  | .readResponseArrival p => Sys2Proof.Machine.execReadResponseArrival p s
  | .writeAckArrival p => Sys2Proof.Machine.execWriteAckArrival p s
  | .refusalArrival p => Sys2Proof.Machine.execRefusalArrival p s
  | .channelMessageArrival p => Sys2Proof.Machine.execChannelMessageArrival p s
  | .channelCreditArrival p => Sys2Proof.Machine.execChannelCreditArrival p s
  | .slotCreditArrival p => Sys2Proof.Machine.execSlotCreditArrival p s
  | .echoRequest p => Sys2Proof.Machine.execEchoRequest p s
  | .echoReply p => Sys2Proof.Machine.execEchoReply p s
  | .resetNotice p => Sys2Proof.Machine.execResetNotice p s
  | .unknownSystemMessage p => Sys2Proof.Machine.execUnknownSystemMessage p s
  | .stocktakeTimer port => Sys2Proof.Machine.execStocktakeTimer port s
  | .fabStocktake mgmt ports => Sys2Proof.Machine.execFabStocktake mgmt ports s
  | .stocktakeMarkerReceive port msg errs => Sys2Proof.Machine.execStocktakeMarkerReceive port msg errs s
  | .packetIdentityCheck port => Sys2Proof.Machine.execPacketIdentityCheck port s
  | .fabSnapshot ports => Sys2Proof.Machine.execFabSnapshot ports s
  | .dataFrameReceive port msg errs => Sys2Proof.Machine.execDataFrameReceive port msg errs s
  | .idleFrameReceive port msg errs => Sys2Proof.Machine.execIdleFrameReceive port msg errs s
  | .replayBufferFull port => Sys2Proof.Machine.execReplayBufferFull port s
  | .retrainTrigger port => Sys2Proof.Machine.execRetrainTrigger port s
  | .ckLoss port => Sys2Proof.Machine.execCkLoss port s
  | .portRetrain mgmt port => Sys2Proof.Machine.execPortRetrain mgmt port s
  | .portRelease mgmt port => Sys2Proof.Machine.execPortRelease mgmt port s
  | .neighbourTraining port => Sys2Proof.Machine.execNeighbourTraining port s
  | .ckReceived port => Sys2Proof.Machine.execCkReceived port s
  | .ckLockDone port => Sys2Proof.Machine.execCkLockDone port s
  | .laneAlignmentDone port slips marks => Sys2Proof.Machine.execLaneAlignmentDone port slips marks s
  | .rungMeasureDone port symbols wrong => Sys2Proof.Machine.execRungMeasureDone port symbols wrong s
  | .identityFrameReceive port msg errs => Sys2Proof.Machine.execIdentityFrameReceive port msg errs s
  | .rungDecision port => Sys2Proof.Machine.execRungDecision port s
  | .portActive port => Sys2Proof.Machine.execPortActive port s
  | .identityResend port => Sys2Proof.Machine.execIdentityResend port s
  | .quietIdleTimeout port => Sys2Proof.Machine.execQuietIdleTimeout port s
  | .quietEntryReceive port msg errs => Sys2Proof.Machine.execQuietEntryReceive port msg errs s
  | .quietPowerDown port => Sys2Proof.Machine.execQuietPowerDown port s
  | .quietWake port => Sys2Proof.Machine.execQuietWake port s
  | .wakeBurstDetect port isMatch slips marks => Sys2Proof.Machine.execWakeBurstDetect port isMatch slips marks s
  | .sealedPacketCheck port vc => Sys2Proof.Machine.execSealedPacketCheck port vc s
  | .timeTransferTimer port part => Sys2Proof.Machine.execTimeTransferTimer port part s
  | .timeRequestReceive port msg errs part => Sys2Proof.Machine.execTimeRequestReceive port msg errs part s
  | .timeReplyReceive port msg errs part => Sys2Proof.Machine.execTimeReplyReceive port msg errs part s
  | .exchangeTimeout port => Sys2Proof.Machine.execExchangeTimeout port s
  | .holdoverEntry => Sys2Proof.Machine.execHoldoverEntry s
  | .holdoverLong => Sys2Proof.Machine.execHoldoverLong s
  | .standbyRootTakeover => Sys2Proof.Machine.execStandbyRootTakeover s
  | .strumPartialArrival p => Sys2Proof.Machine.execStrumPartialArrival p s
  | .strumResultArrival p => Sys2Proof.Machine.execStrumResultArrival p s
  | .strumWaitExpiry group => Sys2Proof.Machine.execStrumWaitExpiry group s
  | .strumDeadline group member => Sys2Proof.Machine.execStrumDeadline group member s
  | .collQueuedStart set gang => Sys2Proof.Machine.execCollQueuedStart set gang s
  | .chunkSend set gang => Sys2Proof.Machine.execChunkSend set gang s
  | .chunkArrival p => Sys2Proof.Machine.execChunkArrival p s
  | .guardContribution set gang => Sys2Proof.Machine.execGuardContribution set gang s
  | .collectiveDeadline set gang => Sys2Proof.Machine.execCollectiveDeadline set gang s
  | .preemptionBoundExpiry set gang => Sys2Proof.Machine.execPreemptionBoundExpiry set gang s
  | .patternApply lpkg => Sys2Proof.Machine.execPatternApply lpkg s
  | .imageDelivery => Sys2Proof.Machine.execImageDelivery s
  | .imageBlockArrival p => Sys2Proof.Machine.execImageBlockArrival p s
  | .imageBlockPull tile lost => Sys2Proof.Machine.execImageBlockPull tile lost s
  | .planScan => Sys2Proof.Machine.execPlanScan s
  | .stepWake ctx => Sys2Proof.Machine.execStepWake ctx s
  | .readinessVote ctx => Sys2Proof.Machine.execReadinessVote ctx s
  | .readinessResultTimeout ctx => Sys2Proof.Machine.execReadinessResultTimeout ctx s
  | .rampFillStart ctx => Sys2Proof.Machine.execRampFillStart ctx s
  | .stepStart ctx => Sys2Proof.Machine.execStepStart ctx s
  | .staggerClassStart ctx => Sys2Proof.Machine.execStaggerClassStart ctx s
  | .stepAbort ctx => Sys2Proof.Machine.execStepAbort ctx s
  | .stepDeadline ctx => Sys2Proof.Machine.execStepDeadline ctx s
  | .auxPowerGood slot => Sys2Proof.Machine.execAuxPowerGood slot s
  | .inputPowerGood => Sys2Proof.Machine.execInputPowerGood s
  | .romBoot decayed => Sys2Proof.Machine.execRomBoot decayed s
  | .recordVerify puf lost => Sys2Proof.Machine.execRecordVerify puf lost s
  | .railBringup => Sys2Proof.Machine.execRailBringup s
  | .stackTraining failed => Sys2Proof.Machine.execStackTraining failed s
  | .stackAssay lines base => Sys2Proof.Machine.execStackAssay lines base s
  | .tileAssay cores dies unsound => Sys2Proof.Machine.execTileAssay cores dies unsound s
  | .serviceable => Sys2Proof.Machine.execServiceable s
  | .readinessDecision => Sys2Proof.Machine.execReadinessDecision s
  | .warmPath failed lost => Sys2Proof.Machine.execWarmPath failed lost s
  | .warrantInstall o => Sys2Proof.Machine.execWarrantInstall o s
  | .estimatorWindow est energy => Sys2Proof.Machine.execEstimatorWindow est energy s
  | .governorRaise die => Sys2Proof.Machine.execGovernorRaise die s
  | .powerCalibration inputMw inputCv => Sys2Proof.Machine.execPowerCalibration inputMw inputCv s
  | .allowanceGrant => Sys2Proof.Machine.execAllowanceGrant s
  | .hostCapWrite watts => Sys2Proof.Machine.execHostCapWrite watts s
  | .trayCap r => Sys2Proof.Machine.execTrayCap r s
  | .leaseRenew r => Sys2Proof.Machine.execLeaseRenew r s
  | .orphanCap r => Sys2Proof.Machine.execOrphanCap r s
  | .trayLeaseExpiry => Sys2Proof.Machine.execTrayLeaseExpiry s
  | .overcurrent => Sys2Proof.Machine.execOvercurrent s
  | .regulatorAlert => Sys2Proof.Machine.execRegulatorAlert s
  | .trayHold => Sys2Proof.Machine.execTrayHold s
  | .forcedFloorExitStep => Sys2Proof.Machine.execForcedFloorExitStep s
  | .droopDetect die cluster deep => Sys2Proof.Machine.execDroopDetect die cluster deep s
  | .droopStretchEnd die cluster => Sys2Proof.Machine.execDroopStretchEnd die cluster s
  | .droopStorm die => Sys2Proof.Machine.execDroopStorm die s
  | .stormReductionEnd die => Sys2Proof.Machine.execStormReductionEnd die s
  | .operatingPointChange die => Sys2Proof.Machine.execOperatingPointChange die s
  | .pointSwitch die => Sys2Proof.Machine.execPointSwitch die s
  | .sensorSample readings dram => Sys2Proof.Machine.execSensorSample readings dram s
  | .hotspotAdjust => Sys2Proof.Machine.execHotspotAdjust s
  | .criticalTemperature => Sys2Proof.Machine.execCriticalTemperature s
  | .thermalTrip => Sys2Proof.Machine.execThermalTrip s
  | .coolant r => Sys2Proof.Machine.execCoolant r s
  | .coolantReportTimeout => Sys2Proof.Machine.execCoolantReportTimeout s
  | .rthUpdate inputMw => Sys2Proof.Machine.execRthUpdate inputMw s
  | .coolantSlopeTrigger => Sys2Proof.Machine.execCoolantSlopeTrigger s
  | .muteStepDown => Sys2Proof.Machine.execMuteStepDown s
  | .heartbeat v => Sys2Proof.Machine.execHeartbeat v s
  | .leaseRelease => Sys2Proof.Machine.execLeaseRelease s
  | .driverLeaseExpiry => Sys2Proof.Machine.execDriverLeaseExpiry s
  | .perstAssert => Sys2Proof.Machine.execPerstAssert s
  | .perstDeassert => Sys2Proof.Machine.execPerstDeassert s
  | .adoptContext ctx => Sys2Proof.Machine.execAdoptContext ctx s
  | .adoptReset ctx => Sys2Proof.Machine.execAdoptReset ctx s
  | .bar2Write seg off bytes => Sys2Proof.Machine.execBar2Write seg off bytes s
  | .bar2Read seg off n => Sys2Proof.Machine.execBar2Read seg off n s
  | .discover src r => Sys2Proof.Machine.execDiscover src r s
  | .identity src r => Sys2Proof.Machine.execIdentity src r s
  | .spdm src doe session ask => Sys2Proof.Machine.execSpdm src doe session ask s
  | .getMeasurements doe session nonce => Sys2Proof.Machine.execGetMeasurements doe session nonce s
  | .sessionTimeout session => Sys2Proof.Machine.execSessionTimeout session s
  | .strangerFrame => Sys2Proof.Machine.execStrangerFrame s
  | .beaconLoss => Sys2Proof.Machine.execBeaconLoss s
  | .powerStatus r => Sys2Proof.Machine.execPowerStatus r s
  | .cycleRequest => Sys2Proof.Machine.execCycleRequest s
  | .daybook r => Sys2Proof.Machine.execDaybook r s
  | .trace r => Sys2Proof.Machine.execTrace r s
  | .scrub r => Sys2Proof.Machine.execScrub r s
  | .status r => Sys2Proof.Machine.execStatus r s
  | .receipt r => Sys2Proof.Machine.execReceipt r s
  | .custodianRecord o => Sys2Proof.Machine.execCustodianRecord o s
  | .ownerEnrol o => Sys2Proof.Machine.execOwnerEnrol o s
  | .ownerRemove o => Sys2Proof.Machine.execOwnerRemove o s
  | .serviceCommand o => Sys2Proof.Machine.execServiceCommand o s
  | .teardown o residue => Sys2Proof.Machine.execTeardown o residue s
  | .daybookMirrorSecond => Sys2Proof.Machine.execDaybookMirrorSecond s
  | .updateChunk r => Sys2Proof.Machine.execUpdateChunk r s
  | .bundleWrite o => Sys2Proof.Machine.execBundleWrite o s
  | .activate o => Sys2Proof.Machine.execActivate o s
  | .activationRetry => Sys2Proof.Machine.execActivationRetry s
  | .activationAbandon => Sys2Proof.Machine.execActivationAbandon s
  | .cancelActivation o => Sys2Proof.Machine.execCancelActivation o s
  | .reject o => Sys2Proof.Machine.execReject o s
  | .updateStatus r => Sys2Proof.Machine.execUpdateStatus r s
  | .handoverDrainDone => Sys2Proof.Machine.execHandoverDrainDone s
  | .handoverLoad decayed => Sys2Proof.Machine.execHandoverLoad decayed s
  | .handoverRestore lost => Sys2Proof.Machine.execHandoverRestore lost s
  | .handoverReclaim => Sys2Proof.Machine.execHandoverReclaim s
  | .trialConfirm => Sys2Proof.Machine.execTrialConfirm s
  | .trialTimeout => Sys2Proof.Machine.execTrialTimeout s
  | .handoverRecordWrite => Sys2Proof.Machine.execHandoverRecordWrite s
  | .stewardRestart => Sys2Proof.Machine.execStewardRestart s
  | .resetContext o ctx => Sys2Proof.Machine.execResetContext o ctx s
  | .resetEngine o stack index => Sys2Proof.Machine.execResetEngine o stack index s
  | .resetPartition o stack index => Sys2Proof.Machine.execResetPartition o stack index s
  | .resetChip o => Sys2Proof.Machine.execResetChip o s
  | .resetPowerCycle o => Sys2Proof.Machine.execResetPowerCycle o s
  | .contextReset ctx => Sys2Proof.Machine.execContextReset ctx s
  | .engineReset stack index => Sys2Proof.Machine.execEngineReset stack index s
  | .diePartitionReset die => Sys2Proof.Machine.execDiePartitionReset die s
  | .stackPartitionReset stack failed => Sys2Proof.Machine.execStackPartitionReset stack failed s
  | .chipReset => Sys2Proof.Machine.execChipReset s
  | .resetTimerExpiry level stack index units => Sys2Proof.Machine.execResetTimerExpiry level stack index units s
  | .stackControllerWatchdog stack => Sys2Proof.Machine.execStackControllerWatchdog stack s
  | .meshLivenessFail die => Sys2Proof.Machine.execMeshLivenessFail die s
  | .dieLinkDown die => Sys2Proof.Machine.execDieLinkDown die s
  | .digestExchange ctx => Sys2Proof.Machine.execDigestExchange ctx s
  | .digestResult p => Sys2Proof.Machine.execDigestResult p s
  | .twinStreamExpiry => Sys2Proof.Machine.execTwinStreamExpiry s
  | .mirrorHeartbeatTimer => Sys2Proof.Machine.execMirrorHeartbeatTimer s
  | .mirrorHeartbeat p digest => Sys2Proof.Machine.execMirrorHeartbeat p digest s
  | .mirrorStep p digest => Sys2Proof.Machine.execMirrorStep p digest s
  | .resyncData p => Sys2Proof.Machine.execResyncData p s
  | .resyncState p counts streams positions => Sys2Proof.Machine.execResyncState p counts streams positions s
  | .joinRecord p => Sys2Proof.Machine.execJoinRecord p s
  | .partnerLoss => Sys2Proof.Machine.execPartnerLoss s
  | .twinSwap => Sys2Proof.Machine.execTwinSwap s
  | .twinLeave => Sys2Proof.Machine.execTwinLeave s
  | .twinResync => Sys2Proof.Machine.execTwinResync s
  | .inputAlert => Sys2Proof.Machine.execInputAlert s
  | .inputLoss => Sys2Proof.Machine.execInputLoss s
  | .auxLoss => Sys2Proof.Machine.execAuxLoss s
  | .tripBackstop => Sys2Proof.Machine.execTripBackstop s
  | .slotIdChange observed => Sys2Proof.Machine.execSlotIdChange observed s
  | .regulatorAlertClear => Sys2Proof.Machine.execRegulatorAlertClear s
  | .trayHoldRelease => Sys2Proof.Machine.execTrayHoldRelease s
  | .tilePllLock tile => Sys2Proof.Machine.execTilePllLock tile s
  | .d3hot on => Sys2Proof.Machine.execD3hot on s
  | .unknownCommand cmd r => Sys2Proof.Machine.execUnknownCommand cmd r s
  | .cycleRequestAnswer => Sys2Proof.Machine.execCycleRequestAnswer s
  | .linkResetComplete port => Sys2Proof.Machine.execLinkResetComplete port s

end Sys2Proof.Machine
end

