-- ==== Sys2Proof/Machine/Tick.lean ====
section
/-! DEFINITION. What 8 ns of the 125 MHz reference clock do when no command waits (11 R303; log entry 2). -/

namespace Sys2Proof.Machine

/-- A tick, while the always-on supply is good: the package's time and the Drone's count advance (11 R303, R305), and what is bound to time alone happens. -/
def tick (s : State) : State :=
  if !s.pins.aux then s
  else alertPinTick { s with
    clock := s.clock + 8
    drone := { s.drone with count := (((s.drone.count + 8 * 2 ^ 24 : Nat) : Int) + s.drone.rate).toNat } }

end Sys2Proof.Machine
end

