-- ==== Sys2Proof/Safety.lean ====
section
/-! DEFINITION. The terms that the statements use: a run that no step stops, and a slot word that waits to execute. -/

namespace Sys2Proof.Safety

open Sys2Proof.Machine

/-- A safe step: it answers a next state, neither a fault nor a refusal. -/
def Goes (s : State) : Prop := ∃ t, step s = .next t

/-- The slot sl of gang g's latched bundle holds the word w and has not executed, and the gang issues (03 R81, R83). -/
def SlotHolds (s : State) (g : Nat) (sl : Slot) (w : Nat) : Prop :=
  (gangGet s g).phase = .running ∧ (gangGet s g).opened = true ∧ slotCode sl ∈ (gangGet s g).left
    ∧ slotBits (gangGet s g).bundle sl = w

/-- The host's writes take effect: a driver is accepted, the service core runs, and the window is open (01 R45, 15 R386, R387). -/
def HostOpen (s : State) : Prop :=
  s.host.accepted = true ∧ regField s regHstSteward 63 62 = 1 ∧ s.host.d3hot = false ∧ s.pins.perst = false

/-- A request in a session that stands, of a command that the session's role may send and the package's Warrants allow (15 R396, R397,
Table 15-8, 00 R9). -/
def Asks (s : State) (r : Request) (cmd : Nat) : Prop :=
  stewardRuns s = true ∧ r.session ≠ 0 ∧ ∃ x, sessionFind s r.session = some x ∧ roleMay cmd x.role = true
    ∧ (variantOn s = true ∨ barePermits cmd = true)

/-- The canonical form of the tables that every read goes through: package memory lists strictly rising addresses and no byte that reads as
an unlisted one does; the register file and the tables of tiles, gangs, channels, engines, line errors, router outputs, dies and stacks
list strictly rising indices. -/
structure Canonical (s : State) : Prop where
  mem : Memory.wf s.mem = true
  regs : mapRising s.regs = true
  tiles : mapRising s.tiles = true
  gangs : mapRising s.gangs = true
  chans : mapRising s.chans = true
  engs : mapRising s.engs = true
  lineErr : mapRising s.lineErr = true
  outs : mapRising s.router.outs = true
  dies : mapRising s.power.dies = true
  stks : mapRising s.power.stks = true

/-- The parts of State that a frame speaks of. -/
inductive Part where
  | pending | clock | freeCtr | outbox | regs | mem | memPoison | lineErr | book | host | plan | drone | tiles | gangs | chans | engs | scrub
  | strum | coll | rcv | router | link | fw | power | bring | flash | pins | twin | mgmt
  deriving DecidableEq, Repr

/-- Two states agree on a part. -/
def Part.same : Part → State → State → Prop
  | .pending, s, t => t.pending = s.pending
  | .clock, s, t => t.clock = s.clock
  | .freeCtr, s, t => t.freeCtr = s.freeCtr
  | .outbox, s, t => t.outbox = s.outbox
  | .regs, s, t => t.regs = s.regs
  | .mem, s, t => t.mem = s.mem
  | .memPoison, s, t => t.memPoison = s.memPoison
  | .lineErr, s, t => t.lineErr = s.lineErr
  | .book, s, t => t.book = s.book
  | .host, s, t => t.host = s.host
  | .plan, s, t => t.plan = s.plan
  | .drone, s, t => t.drone = s.drone
  | .tiles, s, t => t.tiles = s.tiles
  | .gangs, s, t => t.gangs = s.gangs
  | .chans, s, t => t.chans = s.chans
  | .engs, s, t => t.engs = s.engs
  | .scrub, s, t => t.scrub = s.scrub
  | .strum, s, t => t.strum = s.strum
  | .coll, s, t => t.coll = s.coll
  | .rcv, s, t => t.rcv = s.rcv
  | .router, s, t => t.router = s.router
  | .link, s, t => t.link = s.link
  | .fw, s, t => t.fw = s.fw
  | .power, s, t => t.power = s.power
  | .bring, s, t => t.bring = s.bring
  | .flash, s, t => t.flash = s.flash
  | .pins, s, t => t.pins = s.pins
  | .twin, s, t => t.twin = s.twin
  | .mgmt, s, t => t.mgmt = s.mgmt

/-- t differs from s at most in the parts of w. -/
def Only (w : List Part) (s t : State) : Prop := ∀ p : Part, p ∉ w → p.same s t

/-- What an event of the host may change: registers, the event ring in memory, the events counted and held, and the vectors sent. -/
def eventParts : List Part := [.regs, .mem, .host, .outbox]

/-- What a Daybook entry may change: the Daybook, what its event changes, and what an entry of error severity notes for a twin or ends of
a trial image's health. -/
def logParts : List Part := eventParts ++ [.book, .twin, .fw]

/-- The parts that a command may change. -/
def touches : Instr → List Part
  | .bundleFetch .. | .add .. | .sub .. | .and_ .. | .or_ .. | .xor .. | .shl .. | .shr .. | .sra .. | .mul .. | .min .. | .max .. |
    .minu .. | .maxu .. | .addi .. | .andi .. | .ori .. | .xori .. | .shli .. | .shri .. | .srai .. | .movlo .. | .orhi .. |
    .cmpeq .. | .cmpne .. | .cmplt .. | .cmpltu .. | .cmpge .. | .cmpgeu .. | .cmpeqi .. | .cmplti .. | .pand .. | .por .. | .pxor .. |
    .pandn .. | .tkst .. | .rdtil .. | .jmp .. | .bz .. | .bnz .. | .loop .. | .call .. | .jr .. | .end_ .. | .lds .. | .ldv .. |
    .ldbc .. | .ldt .. | .sts .. | .stv .. | .vadd .. | .vsub .. | .vmul .. | .vfma .. | .vmin .. | .vmax .. | .vabs .. | .vneg .. |
    .vexp2 .. | .vrcp .. | .vrsqrt .. | .vfcmplt .. | .vfcmpeq .. | .viadd .. | .visub .. | .vand .. | .vor .. | .vxor .. | .vshl .. |
    .vshr .. | .vsel .. | .vrot .. | .vbcs .. | .vlane .. | .vcvt .. | .vqbs .. | .vacr .. | .vred .. | .gbc .. | .gred .. | .mma .. |
    .mmaz .. | .mclr .. | .gld .. | .gst .. | .send .. | .recv .. | .dock .. | .fill .. | .coll .. | .wait .. | .wait1 .. |
    .waitall .. | .strum .. => logParts ++ [.memPoison, .lineErr, .tiles, .gangs, .chans, .engs, .strum, .coll, .rcv, .bring]
  | .estimatorWindow .. | .governorRaise .. | .trayLeaseExpiry | .forcedFloorExitStep | .droopDetect .. | .droopStretchEnd .. |
    .stormReductionEnd .. | .operatingPointChange .. | .pointSwitch .. | .hotspotAdjust | .rthUpdate .. | .muteStepDown |
    .regulatorAlertClear | .trayHoldRelease => [.power]
  | .contractCheck | .eccLogClear .. | .resetNotice .. | .unknownSystemMessage .. | .heartbeat .. | .leaseRelease | .trialConfirm |
    .mirrorHeartbeat .. | .mirrorStep .. | .twinSwap | .twinLeave | .twinResync | .slotIdChange .. => logParts
  | .fabStocktake .. | .stocktakeMarkerReceive .. | .packetIdentityCheck .. | .portRetrain .. | .portRelease .. | .rungMeasureDone .. |
    .identityFrameReceive .. | .rungDecision .. | .romBoot .. | .handoverLoad .. => logParts ++ [.router, .link]
  | .railBringup | .allowanceGrant | .overcurrent | .regulatorAlert | .trayHold | .criticalTemperature | .thermalTrip |
    .coolantSlopeTrigger | .inputAlert => eventParts ++ [.power]
  | .discover .. | .identity .. | .powerStatus .. | .trace .. | .status .. | .receipt .. | .updateStatus .. | .unknownCommand .. =>
      [.outbox, .regs, .mgmt]
  | .matv .. | .attn .. | .gather .. | .scatter .. | .reduce .. | .quant .. | .copy .. =>
      logParts ++ [.memPoison, .lineErr, .tiles, .chans, .engs, .bring]
  | .resultWriteback .. | .sramWordWriteback .. | .writeAckArrival .. | .channelCreditArrival .. | .imageBlockArrival .. |
    .tilePllLock .. => [.tiles]
  | .engineStall .. | .adoptContext .. | .adoptReset .. | .stackControllerWatchdog .. | .meshLivenessFail .. | .dieLinkDown .. =>
      logParts ++ [.engs, .rcv]
  | .powerCalibration .. | .hostCapWrite .. | .sensorSample .. | .coolantReportTimeout | .handoverRestore .. | .trialTimeout =>
      logParts ++ [.power]
  | .resetContext .. | .resetEngine .. | .resetPartition .. | .resetChip .. => logParts ++ [.engs, .rcv, .power, .bring, .mgmt]
  | .resetPowerCycle .. | .resetTimerExpiry .. =>
      logParts ++ [.freeCtr, .memPoison, .lineErr, .plan, .tiles, .gangs, .chans, .engs, .strum, .coll, .rcv, .router, .power,
      .bring, .mgmt]
  | .channelRequest .. | .burstLimitExpiry .. | .transferComplete .. | .starvationGrant .. | .refreshDue .. => [.regs, .chans]
  | .ckReceived .. | .ckLockDone .. | .laneAlignmentDone .. | .quietPowerDown .. | .quietWake .. => eventParts ++ [.link]
  | .retrainTrigger .. | .ckLoss .. | .neighbourTraining .. | .wakeBurstDetect .. => eventParts ++ [.router, .link, .twin]
  | .custodianRecord .. | .ownerEnrol .. | .ownerRemove .. | .serviceCommand .. => logParts ++ [.chans, .flash, .mgmt]
  | .outputAllocate .. | .tailTimeout .. | .strictWindowEnd .. => [.router]
  | .memoryWriteArrival .. | .bar2Write .. | .resyncData .. => logParts ++ [.memPoison, .lineErr, .chans]
  | .echoRequest .. | .mirrorHeartbeatTimer | .joinRecord .. => [.outbox, .twin]
  | .exchangeTimeout .. | .holdoverEntry | .standbyRootTakeover => [.regs, .drone]
  | .strumResultArrival .. | .strumDeadline .. | .digestResult .. =>
      logParts ++ [.freeCtr, .memPoison, .lineErr, .plan, .tiles, .chans, .strum, .coll]
  | .trayCap .. | .leaseRenew .. | .orphanCap .. => [.outbox, .regs, .power, .mgmt]
  | .spdm .. | .getMeasurements .. | .daybook .. => [.freeCtr, .outbox, .regs, .mgmt]
  | .sessionTimeout .. | .beaconLoss | .cycleRequestAnswer => [.mgmt]
  | .inputLoss | .auxLoss | .tripBackstop =>
      logParts ++ [.clock, .freeCtr, .memPoison, .lineErr, .plan, .drone, .tiles, .gangs, .chans, .engs, .scrub, .strum, .coll,
      .rcv, .router, .link, .power, .bring, .flash, .pins, .mgmt]
  | .exceptionNotification .. | .stepDeadline .. => logParts ++ [.freeCtr, .plan, .tiles, .gangs, .engs, .strum, .rcv]
  | .nop .. | .echoReply .. => []
  | .gangEndReport .. | .staggerClassStart .. => logParts ++ [.freeCtr, .plan, .tiles, .gangs, .strum]
  | .globalLoadComplete .. | .fillComplete .. => logParts ++ [.tiles, .chans, .engs, .rcv]
  | .correctionWriteback .. | .poisonMarkInStore .. => [.regs, .mem, .memPoison, .lineErr, .chans]
  | .docketStart .. | .engineClockUngate .. => [.regs, .engs]
  | .docketFill .. | .zero .. => logParts ++ [.memPoison, .lineErr, .tiles, .chans, .engs]
  | .flitArrival .. | .fabSnapshot .. => logParts ++ [.router]
  | .stocktakeTimer .. | .portActive .. => eventParts ++ [.router, .link]
  | .dataFrameReceive .. | .sealedPacketCheck .. => logParts ++ [.tiles, .router, .link]
  | .idleFrameReceive .. | .quietEntryReceive .. => [.outbox, .regs, .router, .link]
  | .identityResend .. | .quietIdleTimeout .. => [.outbox, .router, .link]
  | .timeTransferTimer .. | .timeRequestReceive .. => eventParts ++ [.drone, .router, .link]
  | .holdoverLong | .strangerFrame => [.regs]
  | .strumPartialArrival .. | .strumWaitExpiry .. => logParts ++ [.strum]
  | .collQueuedStart .. | .chunkArrival .. => logParts ++ [.memPoison, .lineErr, .tiles, .chans, .coll]
  | .guardContribution .. | .collectiveDeadline .. => logParts ++ [.strum, .coll]
  | .readinessDecision | .linkResetComplete .. => eventParts
  | .driverLeaseExpiry | .d3hot .. => [.host]
  | .activate .. | .cancelActivation .. => logParts ++ [.mgmt]
  | .activationRetry | .activationAbandon => eventParts ++ [.fw]
  | .handoverDrainDone | .stewardRestart => eventParts ++ [.fw, .power]
  | .contextReset .. | .diePartitionReset .. =>
      logParts ++ [.freeCtr, .memPoison, .lineErr, .plan, .tiles, .gangs, .chans, .engs, .strum, .coll, .rcv, .router]
  | .registerWrite .. =>
      logParts ++ [.freeCtr, .memPoison, .lineErr, .plan, .drone, .tiles, .gangs, .chans, .engs, .scrub, .strum, .coll, .rcv,
      .router, .link, .power, .bring, .flash, .mgmt]
  | .ticketWaitEnd .. => [.tiles, .gangs]
  | .globalStoreComplete .. => logParts ++ [.memPoison, .lineErr, .tiles, .chans, .engs, .rcv, .bring]
  | .sendDispatch .. => logParts ++ [.tiles, .engs, .rcv, .bring]
  | .channelArbitration .. => [.regs, .chans, .engs]
  | .dramLineRead .. => logParts ++ [.lineErr, .chans]
  | .docketArrival .. => [.regs, .tiles, .engs]
  | .loadv .. => logParts ++ [.tiles, .chans, .engs, .bring]
  | .docketScrub .. => logParts ++ [.memPoison, .lineErr, .chans, .engs, .scrub]
  | .docketComplete .. => [.regs, .tiles, .engs, .scrub]
  | .scrubStart => logParts ++ [.engs, .scrub]
  | .scrubAbort => logParts ++ [.scrub]
  | .scrubDone => [.outbox, .regs, .scrub]
  | .packetHeadArrival .. => logParts ++ [.tiles, .router]
  | .flitSlotSchedule .. => [.outbox, .router, .link, .twin]
  | .memoryReadRequest .. => logParts ++ [.chans]
  | .readResponseArrival .. => logParts ++ [.tiles, .engs, .rcv]
  | .refusalArrival .. => logParts ++ [.tiles, .strum, .coll]
  | .channelMessageArrival .. => [.outbox, .tiles, .twin]
  | .slotCreditArrival .. => [.coll]
  | .replayBufferFull .. => [.outbox, .regs, .link]
  | .timeReplyReceive .. => [.outbox, .regs, .drone, .router, .link]
  | .chunkSend .. => [.outbox, .coll, .twin]
  | .preemptionBoundExpiry .. => logParts ++ [.freeCtr, .plan, .tiles, .gangs, .strum, .coll, .router]
  | .patternApply .. =>
      logParts ++ [.plan, .drone, .tiles, .gangs, .chans, .engs, .strum, .coll, .rcv, .router, .link, .power, .flash]
  | .imageDelivery => [.outbox, .regs, .plan, .twin]
  | .imageBlockPull .. => logParts ++ [.tiles]
  | .planScan => logParts ++ [.memPoison, .lineErr, .plan, .chans]
  | .stepWake .. => [.plan, .tiles]
  | .readinessVote .. => logParts ++ [.plan, .strum]
  | .readinessResultTimeout .. => logParts ++ [.memPoison, .lineErr, .plan, .tiles, .chans]
  | .rampFillStart .. => [.plan]
  | .stepStart .. => logParts ++ [.freeCtr, .memPoison, .lineErr, .plan, .tiles, .gangs, .chans, .engs, .strum, .rcv]
  | .stepAbort .. => logParts ++ [.freeCtr, .plan, .tiles, .gangs, .strum, .coll]
  | .auxPowerGood .. => [.regs, .bring, .flash, .pins]
  | .inputPowerGood => [.bring, .pins]
  | .recordVerify .. => logParts ++ [.power, .bring]
  | .stackTraining .. => [.regs, .bring]
  | .stackAssay .. => logParts ++ [.memPoison, .lineErr, .bring]
  | .tileAssay .. => [.regs, .bring, .flash]
  | .serviceable => eventParts ++ [.router, .link, .power, .bring, .twin]
  | .warmPath .. => logParts ++ [.plan, .tiles, .gangs, .chans, .engs, .strum, .rcv, .power, .bring, .mgmt]
  | .warrantInstall .. => logParts ++ [.chans, .bring, .flash, .mgmt]
  | .droopStorm .. => [.regs, .power]
  | .coolant .. => eventParts ++ [.power, .mgmt]
  | .perstAssert => [.regs, .host, .power, .pins]
  | .perstDeassert => [.host, .pins]
  | .bar2Read .. => logParts ++ [.freeCtr, .plan, .chans, .strum]
  | .cycleRequest => [.outbox, .mgmt]
  | .scrub .. => [.outbox, .regs, .engs, .scrub, .mgmt]
  | .teardown .. =>
      logParts ++ [.freeCtr, .memPoison, .lineErr, .plan, .tiles, .gangs, .chans, .engs, .scrub, .strum, .coll, .rcv, .router,
      .link, .power, .flash, .mgmt]
  | .daybookMirrorSecond => [.regs, .book]
  | .updateChunk .. => logParts ++ [.memPoison, .lineErr, .chans, .mgmt]
  | .bundleWrite .. => logParts ++ [.chans, .mgmt]
  | .reject .. => logParts ++ [.power, .mgmt]
  | .handoverReclaim => logParts ++ [.memPoison, .lineErr, .plan, .chans, .rcv, .power]
  | .handoverRecordWrite => [.fw]
  | .engineReset .. =>
      logParts ++ [.freeCtr, .memPoison, .lineErr, .plan, .tiles, .gangs, .chans, .engs, .scrub, .strum, .coll, .rcv, .router]
  | .stackPartitionReset .. => logParts ++ [.memPoison, .lineErr, .tiles, .chans, .engs, .scrub, .rcv]
  | .chipReset =>
      logParts ++ [.freeCtr, .memPoison, .lineErr, .plan, .tiles, .gangs, .chans, .engs, .scrub, .strum, .coll, .rcv, .router,
      .bring]
  | .digestExchange .. => logParts ++ [.freeCtr, .plan, .strum]
  | .twinStreamExpiry => [.twin]
  | .resyncState .. => [.regs, .plan, .twin]
  | .partnerLoss => eventParts ++ [.twin]

end Sys2Proof.Safety
end

