-- ==== Sys2Proof/WellFormed.lean ====
section
/-! DEFINITION. Well-formed commands: operands within the ranges that the package gives them.  A command outside them meets no occasion
and changes nothing (log entry 1); the statements need it only for a slot's kind. -/

namespace Sys2Proof

/-- A scalar slot: S0, or S1 with its immediate of 20 bits (04 R118). -/
def scalarWf (sl : Slot) (f : ScalarFields) : Bool := sl == .s0 || (sl == .s1 && f.imm.toNat < 2 ^ 20)

/-- A gang number of a Pattern (12 R314). -/
def gangWf (g : Nat) : Bool := g < 0xFFFF

/-- Upsets name cells of 80 bits: 64 of data and 16 of check (07 R199). -/
def upsetsWf (us : Upsets) : Bool := us.all fun u => u.1 < 0xFFFE && u.2.1 < 2 && u.2.2.2 < 2 ^ 80

/-- The fields of a packet fit Table 08-3, and the payload 4,096 bytes (08 R212, R214). -/
def packetWf (p : Packet) : Bool :=
  p.dst < 2 ^ 16 && p.src < 2 ^ 16 && p.srcCtx < 16 && p.dstCtx < 16 && p.vc < 8 && p.kind < 32 && p.srcTag < 2 ^ 16 && p.dstTile < 2 ^ 16
    && p.channel < 2 ^ 8 && p.status < 2 ^ 8 && p.offset < 2 ^ 48 && p.members < 2 ^ 64 && p.origin < 2 ^ 16 && p.bytes < 2 ^ 13
    && p.payload.length ≤ 4096

/-- Is a command well-formed. -/
def Instr.wf : Instr → Bool
  | .registerWrite _ _ _ => true
  | .contractCheck => true
  | .bundleFetch g us => gangWf g && upsetsWf us
  | .exceptionNotification g => gangWf g
  | .resultWriteback g => gangWf g
  | .sramWordWriteback tile _ => tile < 0xFFFE
  | .nop g _ => gangWf g
  | .add g slot f => scalarWf slot f && gangWf g
  | .sub g slot f => scalarWf slot f && gangWf g
  | .and_ g slot f => scalarWf slot f && gangWf g
  | .or_ g slot f => scalarWf slot f && gangWf g
  | .xor g slot f => scalarWf slot f && gangWf g
  | .shl g slot f => scalarWf slot f && gangWf g
  | .shr g slot f => scalarWf slot f && gangWf g
  | .sra g slot f => scalarWf slot f && gangWf g
  | .mul g slot f => scalarWf slot f && gangWf g
  | .min g slot f => scalarWf slot f && gangWf g
  | .max g slot f => scalarWf slot f && gangWf g
  | .minu g slot f => scalarWf slot f && gangWf g
  | .maxu g slot f => scalarWf slot f && gangWf g
  | .addi g slot f => scalarWf slot f && gangWf g
  | .andi g slot f => scalarWf slot f && gangWf g
  | .ori g slot f => scalarWf slot f && gangWf g
  | .xori g slot f => scalarWf slot f && gangWf g
  | .shli g slot f => scalarWf slot f && gangWf g
  | .shri g slot f => scalarWf slot f && gangWf g
  | .srai g slot f => scalarWf slot f && gangWf g
  | .movlo g slot _ => slot == .s0 && gangWf g
  | .orhi g slot _ => slot == .s0 && gangWf g
  | .cmpeq g slot f => scalarWf slot f && gangWf g
  | .cmpne g slot f => scalarWf slot f && gangWf g
  | .cmplt g slot f => scalarWf slot f && gangWf g
  | .cmpltu g slot f => scalarWf slot f && gangWf g
  | .cmpge g slot f => scalarWf slot f && gangWf g
  | .cmpgeu g slot f => scalarWf slot f && gangWf g
  | .cmpeqi g slot f => scalarWf slot f && gangWf g
  | .cmplti g slot f => scalarWf slot f && gangWf g
  | .pand g slot f => scalarWf slot f && gangWf g
  | .por g slot f => scalarWf slot f && gangWf g
  | .pxor g slot f => scalarWf slot f && gangWf g
  | .pandn g slot f => scalarWf slot f && gangWf g
  | .tkst g f => scalarWf .s1 f && gangWf g
  | .rdtil g f => scalarWf .s1 f && gangWf g
  | .jmp g _ => gangWf g
  | .bz g _ => gangWf g
  | .bnz g _ => gangWf g
  | .loop g _ => gangWf g
  | .call g _ => gangWf g
  | .jr g _ => gangWf g
  | .end_ g _ => gangWf g
  | .gangEndReport g => gangWf g
  | .lds g slot _ us => (slot == .l0 || slot == .l1) && gangWf g && upsetsWf us
  | .ldv g slot _ us => (slot == .l0 || slot == .l1) && gangWf g && upsetsWf us
  | .ldbc g slot _ us => (slot == .l0 || slot == .l1) && gangWf g && upsetsWf us
  | .ldt g slot _ us => (slot == .l0 || slot == .l1) && gangWf g && upsetsWf us
  | .sts g _ => gangWf g
  | .stv g _ => gangWf g
  | .vadd g slot _ => (slot == .v0 || slot == .v1) && gangWf g
  | .vsub g slot _ => (slot == .v0 || slot == .v1) && gangWf g
  | .vmul g slot _ => (slot == .v0 || slot == .v1) && gangWf g
  | .vfma g slot _ => (slot == .v0 || slot == .v1) && gangWf g
  | .vmin g slot _ => (slot == .v0 || slot == .v1) && gangWf g
  | .vmax g slot _ => (slot == .v0 || slot == .v1) && gangWf g
  | .vabs g slot _ => (slot == .v0 || slot == .v1) && gangWf g
  | .vneg g slot _ => (slot == .v0 || slot == .v1) && gangWf g
  | .vexp2 g slot _ => (slot == .v0 || slot == .v1) && gangWf g
  | .vrcp g slot _ => (slot == .v0 || slot == .v1) && gangWf g
  | .vrsqrt g slot _ => (slot == .v0 || slot == .v1) && gangWf g
  | .vfcmplt g slot _ => (slot == .v0 || slot == .v1) && gangWf g
  | .vfcmpeq g slot _ => (slot == .v0 || slot == .v1) && gangWf g
  | .viadd g slot _ => (slot == .v0 || slot == .v1) && gangWf g
  | .visub g slot _ => (slot == .v0 || slot == .v1) && gangWf g
  | .vand g slot _ => (slot == .v0 || slot == .v1) && gangWf g
  | .vor g slot _ => (slot == .v0 || slot == .v1) && gangWf g
  | .vxor g slot _ => (slot == .v0 || slot == .v1) && gangWf g
  | .vshl g slot _ => (slot == .v0 || slot == .v1) && gangWf g
  | .vshr g slot _ => (slot == .v0 || slot == .v1) && gangWf g
  | .vsel g slot _ => (slot == .v0 || slot == .v1) && gangWf g
  | .vrot g slot _ => (slot == .v0 || slot == .v1) && gangWf g
  | .vbcs g slot _ => (slot == .v0 || slot == .v1) && gangWf g
  | .vlane g slot _ => (slot == .v0 || slot == .v1) && gangWf g
  | .vcvt g slot _ => (slot == .v0 || slot == .v1) && gangWf g
  | .vqbs g slot _ => (slot == .v0 || slot == .v1) && gangWf g
  | .vacr g slot _ => (slot == .v0 || slot == .v1) && gangWf g
  | .vred g slot _ => (slot == .v0 || slot == .v1) && gangWf g
  | .gbc g slot _ => (slot == .v0 || slot == .v1) && gangWf g
  | .gred g slot _ => (slot == .v0 || slot == .v1) && gangWf g
  | .mma g _ => gangWf g
  | .mmaz g _ => gangWf g
  | .mclr g _ => gangWf g
  | .gld g _ => gangWf g
  | .gst g _ => gangWf g
  | .send g _ => gangWf g
  | .recv g _ => gangWf g
  | .dock g _ => gangWf g
  | .fill g _ => gangWf g
  | .coll g _ => gangWf g
  | .wait g _ => gangWf g
  | .wait1 g _ => gangWf g
  | .waitall g _ => gangWf g
  | .strum g _ => gangWf g
  | .ticketWaitEnd g _ => gangWf g
  | .globalLoadComplete tile tk => tile < 0xFFFE && tk < 32
  | .globalStoreComplete tile tk => tile < 0xFFFE && tk < 32
  | .fillComplete tile tk => tile < 0xFFFE && tk < 32
  | .sendDispatch tile tk => tile < 0xFFFE && tk < 32
  | .channelRequest ch ctx src lines _ _ => ch < 256 && (ctx < 20 && src < 5 && 1 ≤ lines && lines ≤ 64)
  | .channelArbitration ch _ => ch < 256
  | .burstLimitExpiry ch => ch < 256
  | .transferComplete ch => ch < 256
  | .starvationGrant ch _ => ch < 256
  | .refreshDue ch _ => ch < 256
  | .dramLineRead _ _ => true
  | .correctionWriteback _ => true
  | .poisonMarkInStore _ => true
  | .eccLogClear _ _ _ => true
  | .docketArrival tile tk => tile < 0xFFFE && tk < 32
  | .docketStart eng => eng < 256
  | .loadv eng => eng < 256
  | .matv eng => eng < 256
  | .attn eng => eng < 256
  | .gather eng => eng < 256
  | .scatter eng => eng < 256
  | .reduce eng => eng < 256
  | .quant eng => eng < 256
  | .copy eng => eng < 256
  | .docketFill eng => eng < 256
  | .zero eng => eng < 256
  | .docketScrub eng _ => eng < 256
  | .docketComplete eng => eng < 256
  | .engineClockUngate eng => eng < 256
  | .engineStall eng => eng < 256
  | .scrubStart => true
  | .scrubAbort => true
  | .scrubDone => true
  | .packetHeadArrival port ctrl data => port < 30 && ctrl < 2 ^ 32 && data < 2 ^ 1024
  | .flitArrival port ctrl data => port < 30 && ctrl < 2 ^ 32 && data < 2 ^ 1024
  | .outputAllocate port vc => port < 30 && vc < 6
  | .tailTimeout port vc => port < 30 && vc < 6
  | .flitSlotSchedule port => port < 30
  | .strictWindowEnd port => port < 30
  | .memoryWriteArrival p => packetWf p
  | .memoryReadRequest p => packetWf p
  | .readResponseArrival p => packetWf p
  | .writeAckArrival p => packetWf p
  | .refusalArrival p => packetWf p
  | .channelMessageArrival p => packetWf p
  | .channelCreditArrival p => packetWf p
  | .slotCreditArrival p => packetWf p
  | .echoRequest p => packetWf p
  | .echoReply p => packetWf p
  | .resetNotice p => packetWf p
  | .unknownSystemMessage p => packetWf p
  | .stocktakeTimer port => port < 30
  | .fabStocktake _ ports => ports < 2 ^ 30
  | .stocktakeMarkerReceive port _ _ => port < 30
  | .packetIdentityCheck port => port < 30
  | .fabSnapshot ports => ports < 2 ^ 30
  | .dataFrameReceive port _ _ => port < 18
  | .idleFrameReceive port _ _ => port < 18
  | .replayBufferFull port => port < 18
  | .retrainTrigger port => port < 18
  | .ckLoss port => port < 18
  | .portRetrain _ port => port < 18
  | .portRelease _ port => port < 18
  | .neighbourTraining port => port < 18
  | .ckReceived port => port < 18
  | .ckLockDone port => port < 18
  | .laneAlignmentDone port slips marks => port < 18 && slips.length ≤ 8 && marks.length ≤ 8
  | .rungMeasureDone port _ wrong => port < 18 && wrong.length ≤ 8
  | .identityFrameReceive port _ _ => port < 18
  | .rungDecision port => port < 18
  | .portActive port => port < 18
  | .identityResend port => port < 18
  | .quietIdleTimeout port => port < 18
  | .quietEntryReceive port _ _ => port < 18
  | .quietPowerDown port => port < 18
  | .quietWake port => port < 18
  | .wakeBurstDetect port _ slips marks => port < 18 && slips.length ≤ 8 && marks.length ≤ 8
  | .sealedPacketCheck port vc => port < 18 && vc < 6
  | .timeTransferTimer port _ => port < 18
  | .timeRequestReceive port _ _ _ => port < 18
  | .timeReplyReceive port _ _ _ => port < 18
  | .exchangeTimeout port => port < 18
  | .holdoverEntry => true
  | .holdoverLong => true
  | .standbyRootTakeover => true
  | .strumPartialArrival p => packetWf p
  | .strumResultArrival p => packetWf p
  | .strumWaitExpiry group => group < 64
  | .strumDeadline group _ => group < 64
  | .collQueuedStart _ _ => true
  | .chunkSend _ _ => true
  | .chunkArrival p => packetWf p
  | .guardContribution _ _ => true
  | .collectiveDeadline _ _ => true
  | .preemptionBoundExpiry _ _ => true
  | .patternApply lpkg => lpkg < 2 ^ 13
  | .imageDelivery => true
  | .imageBlockArrival p => packetWf p
  | .imageBlockPull tile _ => tile < 0xFFFE
  | .planScan => true
  | .stepWake ctx => ctx < 16
  | .readinessVote ctx => ctx < 16
  | .readinessResultTimeout ctx => ctx < 16
  | .rampFillStart ctx => ctx < 16
  | .stepStart ctx => ctx < 16
  | .staggerClassStart ctx => ctx < 16
  | .stepAbort ctx => ctx < 16
  | .stepDeadline ctx => ctx < 16
  | .auxPowerGood _ => true
  | .inputPowerGood => true
  | .romBoot _ => true
  | .recordVerify _ _ => true
  | .railBringup => true
  | .stackTraining _ => true
  | .stackAssay _ _ => true
  | .tileAssay _ _ _ => true
  | .serviceable => true
  | .readinessDecision => true
  | .warmPath _ _ => true
  | .warrantInstall _ => true
  | .estimatorWindow _ _ => true
  | .governorRaise die => die < 4
  | .powerCalibration _ _ => true
  | .allowanceGrant => true
  | .hostCapWrite watts => watts < 2 ^ 16
  | .trayCap _ => true
  | .leaseRenew _ => true
  | .orphanCap _ => true
  | .trayLeaseExpiry => true
  | .overcurrent => true
  | .regulatorAlert => true
  | .trayHold => true
  | .forcedFloorExitStep => true
  | .droopDetect die cluster _ => die < 4 && cluster < 38
  | .droopStretchEnd die cluster => die < 4 && cluster < 38
  | .droopStorm die => die < 4
  | .stormReductionEnd die => die < 4
  | .operatingPointChange die => die < 4
  | .pointSwitch die => die < 4
  | .sensorSample _ _ => true
  | .hotspotAdjust => true
  | .criticalTemperature => true
  | .thermalTrip => true
  | .coolant _ => true
  | .coolantReportTimeout => true
  | .rthUpdate _ => true
  | .coolantSlopeTrigger => true
  | .muteStepDown => true
  | .heartbeat _ => true
  | .leaseRelease => true
  | .driverLeaseExpiry => true
  | .perstAssert => true
  | .perstDeassert => true
  | .adoptContext ctx => ctx < 16
  | .adoptReset ctx => ctx < 16
  | .bar2Write seg _ _ => seg < 4
  | .bar2Read seg _ _ => seg < 4
  | .discover _ _ => true
  | .identity _ _ => true
  | .spdm _ _ _ _ => true
  | .getMeasurements _ _ _ => true
  | .sessionTimeout _ => true
  | .strangerFrame => true
  | .beaconLoss => true
  | .powerStatus _ => true
  | .cycleRequest => true
  | .daybook _ => true
  | .trace _ => true
  | .scrub _ => true
  | .status _ => true
  | .receipt _ => true
  | .custodianRecord _ => true
  | .ownerEnrol _ => true
  | .ownerRemove _ => true
  | .serviceCommand _ => true
  | .teardown _ _ => true
  | .daybookMirrorSecond => true
  | .updateChunk _ => true
  | .bundleWrite _ => true
  | .activate _ => true
  | .activationRetry => true
  | .activationAbandon => true
  | .cancelActivation _ => true
  | .reject _ => true
  | .updateStatus _ => true
  | .handoverDrainDone => true
  | .handoverLoad _ => true
  | .handoverRestore _ => true
  | .handoverReclaim => true
  | .trialConfirm => true
  | .trialTimeout => true
  | .handoverRecordWrite => true
  | .stewardRestart => true
  | .resetContext _ ctx => ctx < 16
  | .resetEngine _ _ _ => true
  | .resetPartition _ _ _ => true
  | .resetChip _ => true
  | .resetPowerCycle _ => true
  | .contextReset ctx => ctx < 16
  | .engineReset _ _ => true
  | .diePartitionReset die => die < 4
  | .stackPartitionReset stack _ => stack < 8
  | .chipReset => true
  | .resetTimerExpiry _ _ _ _ => true
  | .stackControllerWatchdog stack => stack < 8
  | .meshLivenessFail die => die < 4
  | .dieLinkDown die => die < 4
  | .digestExchange ctx => ctx < 16
  | .digestResult p => packetWf p
  | .twinStreamExpiry => true
  | .mirrorHeartbeatTimer => true
  | .mirrorHeartbeat p _ => packetWf p
  | .mirrorStep p _ => packetWf p
  | .resyncData p => packetWf p
  | .resyncState p _ _ _ => packetWf p
  | .joinRecord p => packetWf p
  | .partnerLoss => true
  | .twinSwap => true
  | .twinLeave => true
  | .twinResync => true
  | .inputAlert => true
  | .inputLoss => true
  | .auxLoss => true
  | .tripBackstop => true
  | .slotIdChange _ => true
  | .regulatorAlertClear => true
  | .trayHoldRelease => true
  | .tilePllLock tile => tile < 0xFFFE
  | .d3hot _ => true
  | .unknownCommand _ _ => true
  | .cycleRequestAnswer => true
  | .linkResetComplete port => port < 30

/-- The gang and the slot whose word a command executes; none for a command that executes no slot's word. -/
def Instr.slotOf : Instr → Option (Nat × Slot)
  | .add g slot _ => some (g, slot)
  | .sub g slot _ => some (g, slot)
  | .and_ g slot _ => some (g, slot)
  | .or_ g slot _ => some (g, slot)
  | .xor g slot _ => some (g, slot)
  | .shl g slot _ => some (g, slot)
  | .shr g slot _ => some (g, slot)
  | .sra g slot _ => some (g, slot)
  | .mul g slot _ => some (g, slot)
  | .min g slot _ => some (g, slot)
  | .max g slot _ => some (g, slot)
  | .minu g slot _ => some (g, slot)
  | .maxu g slot _ => some (g, slot)
  | .addi g slot _ => some (g, slot)
  | .andi g slot _ => some (g, slot)
  | .ori g slot _ => some (g, slot)
  | .xori g slot _ => some (g, slot)
  | .shli g slot _ => some (g, slot)
  | .shri g slot _ => some (g, slot)
  | .srai g slot _ => some (g, slot)
  | .movlo g slot _ => some (g, slot)
  | .orhi g slot _ => some (g, slot)
  | .cmpeq g slot _ => some (g, slot)
  | .cmpne g slot _ => some (g, slot)
  | .cmplt g slot _ => some (g, slot)
  | .cmpltu g slot _ => some (g, slot)
  | .cmpge g slot _ => some (g, slot)
  | .cmpgeu g slot _ => some (g, slot)
  | .cmpeqi g slot _ => some (g, slot)
  | .cmplti g slot _ => some (g, slot)
  | .pand g slot _ => some (g, slot)
  | .por g slot _ => some (g, slot)
  | .pxor g slot _ => some (g, slot)
  | .pandn g slot _ => some (g, slot)
  | .tkst g _ => some (g, .s1)
  | .rdtil g _ => some (g, .s1)
  | .jmp g _ => some (g, .s0)
  | .bz g _ => some (g, .s0)
  | .bnz g _ => some (g, .s0)
  | .loop g _ => some (g, .s0)
  | .call g _ => some (g, .s0)
  | .jr g _ => some (g, .s0)
  | .end_ g _ => some (g, .s0)
  | .lds g slot _ _ => some (g, slot)
  | .ldv g slot _ _ => some (g, slot)
  | .ldbc g slot _ _ => some (g, slot)
  | .ldt g slot _ _ => some (g, slot)
  | .sts g _ => some (g, .st)
  | .stv g _ => some (g, .st)
  | .vadd g slot _ => some (g, slot)
  | .vsub g slot _ => some (g, slot)
  | .vmul g slot _ => some (g, slot)
  | .vfma g slot _ => some (g, slot)
  | .vmin g slot _ => some (g, slot)
  | .vmax g slot _ => some (g, slot)
  | .vabs g slot _ => some (g, slot)
  | .vneg g slot _ => some (g, slot)
  | .vexp2 g slot _ => some (g, slot)
  | .vrcp g slot _ => some (g, slot)
  | .vrsqrt g slot _ => some (g, slot)
  | .vfcmplt g slot _ => some (g, slot)
  | .vfcmpeq g slot _ => some (g, slot)
  | .viadd g slot _ => some (g, slot)
  | .visub g slot _ => some (g, slot)
  | .vand g slot _ => some (g, slot)
  | .vor g slot _ => some (g, slot)
  | .vxor g slot _ => some (g, slot)
  | .vshl g slot _ => some (g, slot)
  | .vshr g slot _ => some (g, slot)
  | .vsel g slot _ => some (g, slot)
  | .vrot g slot _ => some (g, slot)
  | .vbcs g slot _ => some (g, slot)
  | .vlane g slot _ => some (g, slot)
  | .vcvt g slot _ => some (g, slot)
  | .vqbs g slot _ => some (g, slot)
  | .vacr g slot _ => some (g, slot)
  | .vred g slot _ => some (g, slot)
  | .gbc g slot _ => some (g, slot)
  | .gred g slot _ => some (g, slot)
  | .mma g _ => some (g, .mx)
  | .mmaz g _ => some (g, .mx)
  | .mclr g _ => some (g, .mx)
  | .gld g _ => some (g, .dm)
  | .gst g _ => some (g, .dm)
  | .send g _ => some (g, .dm)
  | .recv g _ => some (g, .dm)
  | .dock g _ => some (g, .dm)
  | .fill g _ => some (g, .dm)
  | .coll g _ => some (g, .dm)
  | .wait g _ => some (g, .sy)
  | .wait1 g _ => some (g, .sy)
  | .waitall g _ => some (g, .sy)
  | .strum g _ => some (g, .sy)
  | _ => none

end Sys2Proof
end

