-- ==== Sys2Proof/Certificates/Slice0/Obligations.lean ====
section
/-! DEFINITION. The statements for the provers. -/

open Sys2Proof Sys2Proof.Machine Sys2Proof.Safety

/-- a step takes the command at the front of the queue and runs it with the rest of the queue. 00_scope.md. -/
def Obligations.StepRunsFrontCommand : Prop :=
  ∀ (c : Instr) (rest : List Instr) (s : State), step { s with pending := c :: rest } = exec c { s with pending := rest }

/-- on an empty queue 8 ns of the reference clock pass, and nothing else happens (the model's choice, log entry 2). R303, R305, R371. That an empty queue lets 8 ns pass is the model's choice (log entry 2). -/
def Obligations.EmptyQueueIsATick : Prop :=
  ∀ s : State, s.pending = [] →
    (s.pins.aux = false → step s = .next s)
    ∧ (s.pins.aux = true →
      let t := { s with clock := s.clock + 8, drone := { s.drone with count := ((s.drone.count : Int) + 8 * 2 ^ 24 + s.drone.rate).toNat } }
      let released := s.power.alertPin = true ∧ s.power.alert = false ∧ s.power.alertClear + 1000000 ≤ s.clock + 8
      (¬released → step s = .next t)
      ∧ (released → step s = .next { t with power := { s.power with alertPin := false }, outbox := s.outbox ++ [.pin "PWR_ALERT_N" false] }))

/-- after reset every register reads its table's reset value; memory, queue and outbox are empty. R17, R167, R238, R294, R313, R334, R384, R394. That memory reads 0 (log entry 4), the queue and the outbox (log entries 2 and 6) and the MSI-X masks (log entry 12) are the model's choices. -/
def Obligations.ResetLeavesThePowerOnState : Prop :=
  let s := State.reset
  (∀ e ∈ ([(regHstId, 0x0001B00000000000), (regContractFw, 0x01000000), (regLeaseCfg, 0x1F4), (regPlnCfg, 0x00C8000A03000000),
      (regPwrCapHost, 0xCE4), (regPwrCfg, 0x00005D140FA00000), (regFabId, 0x120C), (regFabCtrl, 0x1400100000),
      (regDroneCtrl, 0xFFFF), (regDroneStatus, 0xFF00000000)] : List (Nat × Nat)), regGet s e.1 = BitVec.ofNat 64 e.2)
  ∧ (∀ n < 8, regGet s (regStkId n) = BitVec.ofNat 64 (0x0C204800 + n) ∧ regGet s (regStkMap n) = 0
      ∧ regGet s (regArbCtrl n) = 0x1F000FFFDFF08000 ∧ regGet s (regArbSeed n) = 1 ∧ regGet s (regTicketsLo n) = 0x0101010101010101
      ∧ regGet s (regTicketsHi n) = 0x0101010101010101 ∧ ∀ c < 16, regGet s (regArbClass n c) = 0x2AA)
  ∧ (∀ p < 30, regGet s (regPortWeights p) = 0x02060404) ∧ (∀ p < 18, regGet s (regPrtCtrl p) = 0x0A8000000000)
  ∧ (∀ v < 32, regGet s (regMsix v) = 0x100000000)
  ∧ (∀ k, (regRow k = none ∨ ∃ r, regRow k = some r ∧ r.reset = 0) → regGet s k = 0)
  ∧ (∀ off n, memRead s off n = List.replicate n 0)
  ∧ s.pending = [] ∧ s.outbox = [] ∧ s.clock = 0 ∧ s.plan.pattern = none ∧ s.host.accepted = false ∧ s.pins.aux = false
  ∧ s.pins.input = false

/-- the state after reset keeps the canonical form of its tables. R17, R149. -/
def Obligations.ResetIsCanonical : Prop := Canonical State.reset

/-- no command stops the package: every step from every state answers a next state. R18, R116, R386. That a command without an occasion changes nothing is log entry 1. -/
def Obligations.EveryStepAnswersNextState : Prop := ∀ s : State, Goes s

/-- every step keeps the canonical form of memory, of the register file and of the other tables. R17, R149. -/
def Obligations.EveryStepKeepsCanonical : Prop := ∀ s t : State, Canonical s → step s = .next t → Canonical t

/-- decode of encode gives back every field of every slot, and a bundle gives back its ten slot words. R81, R115, R118, R123, R125, R132, R137, R140. -/
def Obligations.SlotEncodingsRoundTrip : Prop :=
  (∀ (sl : Slot) (op : Nat) (f : ScalarFields), (sl = .s0 ∨ sl = .s1 ∧ f.imm.toNat < 2 ^ 20) → op < 256 →
    encodeScalar sl op f < 2 ^ slotWidth sl ∧ slotOp sl (encodeScalar sl op f) = op ∧ decodeScalar sl (encodeScalar sl op f) = f)
  ∧ (∀ (sl : Slot) (op : Nat) (f : MemFields), sl = .l0 ∨ sl = .l1 ∨ sl = .st → op < 256 →
    encodeMem op f < 2 ^ slotWidth sl ∧ slotOp sl (encodeMem op f) = op ∧ decodeMem (encodeMem op f) = f)
  ∧ (∀ (sl : Slot) (op : Nat) (f : VecFields), sl = .v0 ∨ sl = .v1 → op < 256 →
    encodeVec op f < 2 ^ slotWidth sl ∧ slotOp sl (encodeVec op f) = op ∧ decodeVec (encodeVec op f) = f)
  ∧ (∀ (op : Nat) (f : MxFields), op < 256 →
    encodeMx op f < 2 ^ slotWidth .mx ∧ slotOp .mx (encodeMx op f) = op ∧ decodeMx (encodeMx op f) = f)
  ∧ (∀ (op : Nat) (f : DmFields), op < 256 →
    encodeDm op f < 2 ^ slotWidth .dm ∧ slotOp .dm (encodeDm op f) = op ∧ decodeDm (encodeDm op f) = f)
  ∧ (∀ (op : Nat) (o : BitVec 11), op < 32 →
    encodeSy op o < 2 ^ slotWidth .sy ∧ slotOp .sy (encodeSy op o) = op ∧ encodeSy op o % 2 ^ 11 = o.toNat)
  ∧ (∀ w : Slot → Nat, (∀ sl, w sl < 2 ^ slotWidth sl) → ∀ sl,
    slotBits (BitVec.ofNat 512 ((allSlots.map fun x => w x * 2 ^ slotLo x).foldl (· + ·) 0)) sl = w sl)

/-- a slot's outcomes are kept with the gang until its bundle commits, and the last slot commits it. R82, R83, R104, R111, R116. -/
def Obligations.SlotOutcomesAreCollected : Prop :=
  ∀ (s : State) (g : Nat) (sl : Slot) (gp : BitVec 4) (gn : Bool) (f : Nat → Nat → Tile → SlotOut),
    (gangGet s g).opened = true →
    let G := gangGet s g
    let out := fun (m : Nat × Nat) => if guardTrue (tileGet s m.2) gp gn = true then f m.1 m.2 (tileGet s m.2) else .done []
    let fault := fun (code : Nat) => { G with left := setErase G.left (slotCode sl), exc := G.exc ++ [⟨slotCode sl, 0, code, 0⟩] }
    let kept := { G with
      left := setErase G.left (slotCode sl)
      buf := G.buf ++ (gangMembers s g).flatMap fun m => match out m with
        | .done es => es.map fun e => (m.1, slotCode sl, e)
        | .raise _ _ => []
      exc := G.exc ++ (gangMembers s g).filterMap fun m => match out m with
        | .done _ => none
        | .raise code info => some ⟨slotCode sl, m.1, code, info⟩ }
    ((∃ k ∈ G.left, k ≠ slotCode sl) →
      (∀ code, slotRun s g sl (some code) gp gn f = gangSet s g (fault code)) ∧ slotRun s g sl none gp gn f = gangSet s g kept)
    ∧ ((∀ k ∈ G.left, k = slotCode sl) →
      (∀ code, slotRun s g sl (some code) gp gn f = commitBundle (gangSet s g (fault code)) g)
      ∧ slotRun s g sl none gp gn f = commitBundle (gangSet s g kept) g)

/-- a branch is taken where every member agrees, diverges with 0x09 else, and takes effect after two bundles. R85, R102, R121, R122. -/
def Obligations.TakenBranchAndDivergence : Prop :=
  (∀ (s : State) (g : Nat) (f : ScalarFields) (eff : Tile → SlotOut) (cond : Tile → Bool) (target : Tile → Nat),
    (∃ k ∈ (gangGet s g).left, k ≠ 0) →
    let G := gangGet s g
    let guard := fun (m : Nat × Nat) => guardTrue (tileGet s m.2) f.gp f.gn
    let out := fun (m : Nat × Nat) => if guard m = true then eff (tileGet s m.2) else .done []
    let holds := fun (m : Nat × Nat) => guard m = true ∧ cond (tileGet s m.2) = true
    let kept := { G with left := setErase G.left 0, buf := G.buf ++ (gangMembers s g).flatMap fun m => match out m with
        | .done es => es.map fun e => (m.1, 0, e)
        | .raise _ _ => [] }
    (∀ m ∈ gangMembers s g, ∃ es, out m = .done es) →
      (gangMembers s g ≠ [] → (∀ m ∈ gangMembers s g, holds m) →
        branchRun s g none f eff cond target
          = gangSet s g { kept with taken := some (target (tileGet s (at' 0 (gangTiles s g) 0))) })
      ∧ ((∀ m ∈ gangMembers s g, ¬holds m) → branchRun s g none f eff cond target = gangSet s g kept)
      ∧ (∀ (i t first : Nat), (i, t) ∈ gangMembers s g → (0, first) ∈ gangMembers s g → (holds (i, t) ↔ ¬holds (0, first)) →
        (∀ m ∈ gangMembers s g, m.1 < i → (holds m ↔ holds (0, first))) →
        branchRun s g none f eff cond target
          = gangSet s g { G with left := setErase G.left 0, exc := G.exc ++ [⟨0, i, 0x09, 0⟩] }))
  ∧ (∀ (G : Gang) (t : Nat),
    nextPc { G with branch := none, taken := some t } = (G.pc + 1, some (t, 2), .running)
    ∧ nextPc { G with branch := some (t, 2), taken := none } = (G.pc + 1, some (t, 1), .running)
    ∧ (t ≠ 0x10000 → nextPc { G with branch := some (t, 1), taken := none } = (t, none, .running))
    ∧ nextPc { G with branch := some (0x10000, 1), taken := none } = (G.pc, none, .draining)
    ∧ nextPc { G with branch := none, taken := none } = (G.pc + 1, none, .running))

/-- a bundle commits all its results together, or records its worst exception in every member and halts. R83, R84, R86, R104, R111. Slot before gang index is the model's reading of R111's two sentences (DEDUCED). -/
def Obligations.BundleCommitsOrRaises : Prop :=
  (∀ (l : List TileExc) (e : TileExc), worstExc l = some e →
    e ∈ l ∧ ∀ d ∈ l, e.slot < d.slot ∨ (e.slot = d.slot ∧ e.index ≤ d.index))
  ∧ (∀ (l : List TileExc), worstExc l = none ↔ l = [])
  ∧ (∀ (s : State) (g : Nat), let G := gangGet s g
    (∀ e ∈ G.buf, (∃ lat r, e.2.2 = .result lat r) ∨ ∃ m, e.2.2 = .wait m) → G.exc = [] →
    let s1 := (gangMembers s g).foldl (fun a m => tileMod a m.2 fun x => { x with
      pipe := x.pipe ++ G.buf.filterMap fun e => match e.2.2 with
        | .result lat r => if e.1 = m.1 then some ⟨G.cycle + lat, G.cycle, e.2.1, r⟩ else none
        | _ => none
      cntIssue := x.cntIssue + 1, cntMxBusy := if slotBits G.bundle .mx = 0 then x.cntMxBusy else x.cntMxBusy + 1 }) s
    let ws := G.buf.filterMap fun e => match e.2.2 with | .wait m => some (e.1, m) | _ => none
    commitBundle s g = gangSet s1 g { G with
      phase := (nextPc G).2.2, pc := (nextPc G).1, branch := (nextPc G).2.1, taken := none, opened := false, left := [], buf := [],
      exc := [], shadow := if hasBranch G.bundle = true then 2 else G.shadow - 1,
      waits := if waitHolds s1 g ws = true then ws else [] })
  ∧ (∀ (s : State) (g : Nat) (e : TileExc), Canonical s →
    worstExc ((gangGet s g).exc ++ clashExc (gangGet s g).buf) = some e →
    let t := commitBundle s g
    { t with tiles := s.tiles, gangs := s.gangs } = s
    ∧ (∀ x ∉ gangTiles s g, tileGet t x = tileGet s x)
    ∧ (∀ x ∈ gangTiles s g, tileGet t x = { flushTile (gangGet s g).cycle (tileGet s x) with
        exc := excWord e (gangGet s g).pc, excInfo := BitVec.ofNat 64 e.info, tstate := .halted })
    ∧ (gangGet t g).phase = .halted ∧ (gangGet t g).pc = (gangGet s g).pc ∧ (gangGet t g).left = [] ∧ (gangGet t g).waits = []
    ∧ ∀ h ≠ g, gangGet t h = gangGet s h)

/-- a gang's ticket wait ends when every named slot has left pending in every member, each with its own status. R101. -/
def Obligations.TicketWaitEnds : Prop :=
  (∀ (g cycles : Nat) (s : State), (gangGet s g).waits ≠ [] →
    let pending := fun (t : Nat) (mask : Nat) => ∃ k < 32, mask.testBit k = true ∧ mapGet 0 (tileGet s t).tick k = 1
    ((∀ w ∈ (gangGet s g).waits, ∀ t ∈ gangTiles s g, ¬pending t w.2) →
      exec (.ticketWaitEnd g cycles) s = .next (gangSet (tilesMod s (gangTiles s g) fun x =>
        { x with cntWait := x.cntWait + BitVec.ofNat 64 cycles }) g { gangGet s g with waits := [] }))
    ∧ ((∃ w ∈ (gangGet s g).waits, ∃ t ∈ gangTiles s g, pending t w.2) → exec (.ticketWaitEnd g cycles) s = .next s))
  ∧ (∀ (s : State) (t tk code : Nat), Canonical s → mapRising (tileGet s t).tick = true →
    let u := tileMod s t fun x => endTicket x tk code
    mapGet 0 (tileGet u t).tick tk = code ∧ ∀ x ≠ t, tileGet u x = tileGet s x)

/-- a slot that executes while others of its bundle remain changes its gang alone, its members only settling. R83, R86, R111. -/
def Obligations.BundleSlotFrame : Prop :=
  ∀ (c : Instr) (g : Nat) (sl : Slot) (s t : State), Canonical s → c.slotOf = some (g, sl) → sl ≠ .l0 → sl ≠ .l1 →
    (∀ f, c ≠ .dock g f ∧ c ≠ .coll g f) → (∃ k ∈ (gangGet s g).left, k ≠ slotCode sl) → exec c s = .next t →
    { t with tiles := s.tiles, gangs := s.gangs } = s
    ∧ (∀ x ∉ gangTiles s g, tileGet t x = tileGet s x)
    ∧ (∀ x ∈ gangTiles s g, tileGet t x = tileGet s x ∨ tileGet t x = settleTile (gangGet s g).cycle (tileGet s x))
    ∧ (∀ h ≠ g, gangGet t h = gangGet s h)
    ∧ (let G := gangGet s g
      let H := gangGet t g
      H.phase = G.phase ∧ H.pc = G.pc ∧ H.cycle = G.cycle ∧ H.bundle = G.bundle ∧ H.opened = G.opened ∧ H.branch = G.branch
        ∧ H.shadow = G.shadow ∧ H.waits = G.waits)

/-- a sum of long sums is the same bit for bit in every order and grouping, with the anchor and flags of 02 R62. R60, R61, R62. -/
def Obligations.LongSumsAreOrderIndependent : Prop :=
  (∀ x y z : LongSum, lsAdd x y = lsAdd y x ∧ lsAdd (lsAdd x y) z = lsAdd x (lsAdd y z))
  ∧ (∀ (x : LongSum) (l : List LongSum), x.g < 2 ^ 108 →
    let y := l.foldl lsAdd x
    y.g = (x.g + (l.map (·.g)).sum) % 2 ^ 108
    ∧ (x.anchor ≤ y.anchor ∧ (∀ z ∈ l, z.anchor ≤ y.anchor) ∧ (y.anchor = x.anchor ∨ ∃ z ∈ l, y.anchor = z.anchor))
    ∧ (y.nf = true ↔ x.nf = true ∨ ∃ z ∈ l, z.nf = true)
    ∧ (y.inexact = true ↔ x.inexact = true ∨ ∃ z ∈ l, z.inexact = true)
    ∧ (y.poison = true ↔ x.poison = true ∨ (∃ z ∈ l, z.poison = true) ∨ ∃ z ∈ l, z.anchor ≠ x.anchor)
    ∧ (y.range = true ↔ x.range = true ∨ (∃ z ∈ l, z.range = true) ∨ ∃ z ∈ l, z.anchor ≠ x.anchor)
    ∧ ∀ k : List LongSum, k.Perm l → k.foldl lsAdd x = y)

/-- the predicted residue of a sum is its residue, a written container passes its check, and any one wrong bit fails it. R61, R76, R77. -/
def Obligations.ResidueArithmetic : Prop :=
  (∀ g : Nat, g < 2 ^ 108 → residue63 g = ((List.range 18).map fun i => g / 64 ^ i % 64).sum % 63)
  ∧ (∀ x y : LongSum, x.g < 2 ^ 108 → y.g < 2 ^ 108 → lsPredictedResidue x y = residue63 (lsAdd x y).g)
  ∧ (∀ x : LongSum, x.g < 2 ^ 108 → -256 ≤ x.anchor → x.anchor < 256 →
    lsContainer x < 2 ^ 127 ∧ lsOfContainer (lsContainer x) = x ∧ lsResidueOk (lsContainer x) = true)
  ∧ (∀ c : Nat, bitsOf c 113 108 = 63 → lsResidueOk c = false)
  ∧ (∀ c i : Nat, i < 114 → lsResidueOk c = true → lsResidueOk (c ^^^ 2 ^ i) = false)

/-- each rounding mode keeps within its bound, exact values convert unchanged, and no NaN but the canonical one is made. R53, R55, R69, R72, R73. -/
def Obligations.RoundingIsExact : Prop :=
  (∀ (mode : Rnd) (r mant d : Nat) (lsb : Int),
    roundUnits mode r mant (lsb + d) lsb = mant * 2 ^ d
    ∧ (let u := roundUnits mode r mant (lsb - d) lsb
      (mode = .zero → u = mant / 2 ^ d)
      ∧ (mode = .nearest → 2 * (u * 2 ^ d) ≤ 2 * mant + 2 ^ d ∧ 2 * mant ≤ 2 * (u * 2 ^ d) + 2 ^ d
        ∧ (2 * (u * 2 ^ d) = 2 * mant + 2 ^ d ∨ 2 * mant = 2 * (u * 2 ^ d) + 2 ^ d → u % 2 = 0))
      ∧ (mode = .stochastic → u = mant / 2 ^ d + (if r < mant % 2 ^ d * 2 ^ 32 / 2 ^ d then 1 else 0))))
  ∧ (∀ (f : Fmt) (mode : Rnd) (r : Nat) (sat : Bool), f ∈ [Fmt.fp32, .bf16, .e4m3, .e5m2, .e3m2, .e2m3, .fp4, .int8] →
    (∀ v, v < 2 ^ f.width → decodeNum f v ≠ .nan → encodeNum f mode r sat (decodeNum f v) = (v, false))
    ∧ (∀ x : Machine.Num, decodeNum f (encodeNum f mode r sat x).1 = .nan →
      x = .nan ∧ some (encodeNum f mode r sat x).1 = f.canonNaN ∧ (encodeNum f mode r sat x).2 = false)
    ∧ (f.canonNaN = none → encodeNum f mode r sat .nan = (0, true)))

/-- shard j is elements 64 floor(jE / 64N) to the next, each cut again into r ring parts, all on 64-element multiples. R255. -/
def Obligations.ShardsCoverTheVector : Prop :=
  ∀ (r : SetRec) (d : List Word), cReduces d = true → r.members ≠ [] →
    let n := r.members.length
    let b := fun (j : Nat) => 64 * (j * cCount d / (64 * n))
    (∀ j ring : Nat,
      let part := partRange r d j ring
      let k := max 1 r.rings
      b j ≤ b (j + 1) ∧ 64 ∣ b j ∧ 64 ∣ part.1 ∧ 64 ∣ part.2
      ∧ part.1 = b j + 64 * (ring * (b (j + 1) - b j) / (64 * k))
      ∧ part.2 = (partRange r d j (ring + 1)).1
      ∧ (partRange r d j 0).1 = b j ∧ (partRange r d j (k - 1)).2 = b (j + 1))
    ∧ b 0 = 0 ∧ (64 ∣ cCount d → b n = cCount d)

/-- an output's link tag advances by one per packet modulo 4,096, and every flit of the packet carries it. R213. -/
def Obligations.LinkTagsCountPackets : Prop :=
  ∀ s : State, Canonical s →
    (∀ (port vc : Nat) (t : State), exec (.outputAllocate port vc) s = .next t →
      (t = s ∨ ((outGet s port vc).owner = none ∧ (outGet t port vc).owner ≠ none
        ∧ (outGet t port vc).tag = ((outGet s port vc).tag + 1) % 4096))
      ∧ ∀ p v, pvKey p v ≠ pvKey port vc → outGet t p v = outGet s p v)
    ∧ (∀ (port vc i : Nat), port < 30 → vc < 6 → (outGet s port vc).owner = none → i ∈ askers s port vc →
      ∃ t, exec (.outputAllocate port vc) s = .next t ∧ (outGet t port vc).tag = ((outGet s port vc).tag + 1) % 4096)
    ∧ (∀ (port vc : Nat) (f : Flit) (t : State), sendFlit s port vc = some (f, t) →
      ctrlTag f.ctrl = (outGet s port vc).tag % 4096 ∧ (outGet t port vc).tag = (outGet s port vc).tag)

/-- an enabled BAR2 write stores its bytes at its offset and leaves every other byte and all but the line marks alone. R149, R203, R389. -/
def Obligations.HostWritesReadBack : Prop :=
  ∀ (seg off : Nat) (bytes : List Byte) (s : State), Canonical s → windowClosed s = false → s.host.accepted = true →
    regField s (regHstBar2Map (seg % 4)) 63 63 = 1 → bar2Target s seg off + bytes.length ≤ reserveBase s →
    (∀ l ∈ linesOf (bar2Target s seg off) bytes.length, mapGet 0 s.lineErr l = 0) →
    let a := bar2Target s seg off
    ∃ t, exec (.bar2Write seg off bytes) s = .next t
      ∧ memRead t a bytes.length = bytes
      ∧ (∀ x, ¬(a ≤ x ∧ x < a + bytes.length) → memRead t x 1 = memRead s x 1)
      ∧ Canonical t
      ∧ (∀ k, (∀ n, k ≠ regEccWbSkip n) → regGet t k = regGet s k)
      ∧ (∀ l ∉ linesOf a bytes.length, linePoisoned t l = linePoisoned s l ∧ mapGet 0 t.lineErr l = mapGet 0 s.lineErr l)
      ∧ { t with mem := s.mem, memPoison := s.memPoison, lineErr := s.lineErr, chans := s.chans, regs := s.regs } = s

/-- a register write sets the bits its row lets a write set, leaves the rest, and is discarded while the register is locked. R17, R18, R19, R388. -/
def Obligations.RegisterWritesFollowTheirRow : Prop :=
  ∀ (s : State) (k : Nat) (v : Word), Canonical s → k < 0x300000 →
    let locked := s.plan.pattern.isSome = true ∧ ∃ r, regRow k = some r ∧ r.lk = true
    let host := fun (off : Nat) => HostOpen s ∧ off ≠ regHeartbeat ∧ bar0Key s off = some k
    (¬locked → regAction s k v = none → keyIn k (regStkMap 0) 0x10000 8 = false → k ≠ regDroneCtrl →
      ∃ t, exec (.registerWrite true k v) s = .next t ∧ (∀ off, host off → exec (.registerWrite false off v) s = .next t)
        ∧ { t with regs := s.regs } = s ∧ (∀ j ≠ k, regGet t j = regGet s j) ∧ (regRow k = none → t = s)
        ∧ ∀ r, regRow k = some r → ∀ i < 64, (regGet t k).getLsbD i =
          if r.rw.testBit i = true then (storedAs k v).getLsbD i
          else (regGet s k).getLsbD i && !(r.w1c.testBit i && v.getLsbD i))
    ∧ (locked →
      let logged := fun (by_ : Nat) => logEvent s 1 0x1001 3 0xFF [bar0Offset k, v.toNat, by_]
      exec (.registerWrite true k v) s = .next (logged 2) ∧ regGet (logged 2) k = regGet s k
      ∧ ∀ off, host off → exec (.registerWrite false off v) s = .next (logged 1) ∧ regGet (logged 1) k = regGet s k)

/-- a closed window, an absent service core, a driver not accepted, a stranger or a wrong role leave a request without effect. R9, R45, R386, R387, R396, R397, R408. -/
def Obligations.RequestsTurnedAway : Prop :=
  (∀ (s : State) (off k : Nat) (v : Word), bar0Key s off = some k →
    (windowClosed s = true → exec (.registerWrite false off v) s = .next s)
    ∧ (windowClosed s = false → stewardRuns s = false → keyMsix k = false → (off = regHeartbeat → s.host.accepted = false) →
      exec (.registerWrite false off v) s = .next (regPut s regHstSteward 31 0 (min (2 ^ 32 - 1) (regField s regHstSteward 31 0 + 1))))
    ∧ (windowClosed s = false → stewardRuns s = true → s.host.accepted = false → keyExempt k = false →
      (k ∈ s.book.warned → exec (.registerWrite false off v) s = .next s)
      ∧ (k ∉ s.book.warned → exec (.registerWrite false off v) s
        = .next (logEvent { s with book := { s.book with warned := k :: s.book.warned } } 1 0x1002 3 0xFF [bar0Offset k, v.toNat]))))
  ∧ (∀ e ∈ ([(0x10, .trayCap), (0x11, .leaseRenew), (0x12, .orphanCap), (0x13, .coolant), (0x14, .powerStatus), (0x20, .daybook),
      (0x21, .trace), (0x22, .scrub), (0x23, .status), (0x43, .receipt), (0x30, .updateChunk), (0x30, .updateStatus),
      (0x30, fun r => .bundleWrite (.plovco r)), (0x30, fun r => .activate (.plovco r)), (0x30, fun r => .reject (.plovco r)),
      (0x30, fun r => .cancelActivation (.plovco r)), (0x24, fun r => .resetChip (.plovco r)), (0x31, fun r => .warrantInstall (.plovco r)),
      (0x32, fun r => .serviceCommand (.plovco r)), (0x41, fun r => .ownerEnrol (.plovco r)), (0x41, fun r => .ownerRemove (.plovco r)),
      (0x42, fun r => .teardown (.plovco r) 0)] : List (Nat × (Request → Instr))),
    ∀ (r : Request) (s : State),
      (stewardRuns s = false → exec (e.2 r) s = .next s)
      ∧ (stewardRuns s = true →
        (sessionFind s r.session = none → exec (e.2 r) s = .next (regAdd s regStranger 1))
        ∧ ∀ x, sessionFind s r.session = some x → (roleMay e.1 x.role = false ∨ (variantOn s = false ∧ barePermits e.1 = false)) →
          exec (e.2 r) s = .next (reply (sessionTouch s r.session) r e.1 3 [])))

/-- an alert, a tray hold, 115 or 120 degrees or zero flow puts every die, engine and channel into the floor state. R353, R354, R371, R372, R376, R377, R461. -/
def Obligations.FloorStateIsForced : Prop :=
  ∀ s : State, Canonical s →
    let atFloor := fun (t : State) => t.power.forced = true
      ∧ (∀ d < 4, (dieGet t d).point = 5 ∧ (dieGet t d).target = 5 ∧ (dieGet t d).change = none)
      ∧ ∀ n < 8, (stackGet t n).engine = 2 ∧ (stackGet t n).duty = 4
    (s.power.alert = false → ∀ c ∈ [Instr.regulatorAlert, .overcurrent, .inputAlert],
      ∃ t, exec c s = .next t ∧ atFloor t ∧ t.power.alert = true ∧ t.power.alertPin = true
        ∧ (s.power.alertPin = false → .pin "PWR_ALERT_N" true ∈ t.outbox))
    ∧ (s.power.hold = false → ∃ t, exec .trayHold s = .next t ∧ atFloor t ∧ t.power.hold = true)
    ∧ ((∃ e ∈ s.power.sites, 115 * 16 ≤ e.2.protect) → ∃ t, exec .criticalTemperature s = .next t ∧ atFloor t ∧ t.power.critical = true)
    ∧ ((∃ e ∈ s.power.sites, 120 * 16 ≤ e.2.protect) → s.power.trip = false →
      ∃ t, exec .thermalTrip s = .next t ∧ atFloor t ∧ t.power.trip = true ∧ .pin "THERM_TRIP_N" true ∈ t.outbox)
    ∧ (∀ r : Request, Asks s r 0x13 → r.body.length = 8 → numAt r.body 4 2 = 0 → numAt r.body 6 2 ≤ 3 → numAt r.body 6 2 % 2 = 1 →
      ∃ t, exec (.coolant r) s = .next t ∧ atFloor t ∧ t.power.coolant = true)

/-- The frame of every command: each changes the parts of the package's state that it names, and nothing else. 00_scope.md, 03_tiles_and_bundles.md, 11_rack_wiring_and_drone_time.md. -/
def Obligations.CommandsLeaveTheRest : Prop :=
  (∀ c : Instr, Part.pending ∉ touches c) ∧ ∀ (c : Instr) (s t : State), exec c s = .next t → Only (touches c) s t

/-- ADD to MAXU: a scalar slot of the R-form gives rd the value of Table 04-3, poisoned where a source is. R83, R115, R116, R118, R119, R120. -/
def Obligations.ScalarRegisterFormCompletes : Prop :=
  ∀ c ∈ ([(0x01, .add, fun a b => a + b), (0x02, .sub, fun a b => a - b), (0x03, .and_, fun a b => a &&& b),
      (0x04, .or_, fun a b => a ||| b), (0x05, .xor, fun a b => a ^^^ b), (0x06, .shl, fun a b => a <<< (b.toNat % 64)),
      (0x07, .shr, fun a b => a >>> (b.toNat % 64)), (0x08, .sra, fun a b => a.sshiftRight (b.toNat % 64)),
      (0x09, .mul, fun a b => a * b), (0x0A, .min, fun a b => if a.toInt ≤ b.toInt then a else b),
      (0x0B, .max, fun a b => if b.toInt ≤ a.toInt then a else b), (0x0C, .minu, fun a b => if a ≤ b then a else b),
      (0x0D, .maxu, fun a b => if b ≤ a then a else b)] :
      List (Nat × (Nat → Slot → ScalarFields → Instr) × (Word → Word → Word))),
  ∀ (g : Nat) (sl : Slot) (f : ScalarFields) (s : State),
    (sl = .s0 ∨ sl = .s1 ∧ f.imm.toNat < 2 ^ 20) → SlotHolds s g sl (encodeScalar sl c.1 f) →
    exec (c.2.1 g sl f) s = .next (slotRun (settle s g) g sl (if f.imm = 0 then none else some 0x01) f.gp f.gn fun _ _ x =>
      .done [.result 1 (.scalar f.rd.toNat (c.2.2 (sReg x f.rs1.toNat).1 (sReg x f.rs2.toNat).1)
        ((sReg x f.rs1.toNat).2 || (sReg x f.rs2.toNat).2))])

/-- ADDI to SRAI, MOVLO and ORHI: a scalar slot with an immediate gives rd the value of Table 04-3. R115, R116, R118, R119, R120. -/
def Obligations.ScalarImmediateFormCompletes : Prop :=
  (∀ c ∈ ([(0x10, .addi, fun a b => a + b), (0x11, .andi, fun a b => a &&& b), (0x12, .ori, fun a b => a ||| b),
      (0x13, .xori, fun a b => a ^^^ b)] : List (Nat × (Nat → Slot → ScalarFields → Instr) × (Word → Word → Word))),
    ∀ (g : Nat) (sl : Slot) (f : ScalarFields) (s : State),
      (sl = .s0 ∨ sl = .s1 ∧ f.imm.toNat < 2 ^ 20) → SlotHolds s g sl (encodeScalar sl c.1 f) →
      exec (c.2.1 g sl f) s = .next (slotRun (settle s g) g sl (if f.rs2 = 0 then none else some 0x01) f.gp f.gn fun _ _ x =>
        .done [.result 1 (.scalar f.rd.toNat
          (c.2.2 (sReg x f.rs1.toNat).1 (if sl = .s0 then f.imm.signExtend 64 else (f.imm.setWidth 20).signExtend 64))
          (sReg x f.rs1.toNat).2)]))
  ∧ (∀ c ∈ ([(0x14, .shli, fun a n => a <<< n), (0x15, .shri, fun a n => a >>> n), (0x16, .srai, fun a n => a.sshiftRight n)] :
      List (Nat × (Nat → Slot → ScalarFields → Instr) × (Word → Nat → Word))),
    ∀ (g : Nat) (sl : Slot) (f : ScalarFields) (s : State),
      (sl = .s0 ∨ sl = .s1 ∧ f.imm.toNat < 2 ^ 20) → SlotHolds s g sl (encodeScalar sl c.1 f) →
      exec (c.2.1 g sl f) s = .next (slotRun (settle s g) g sl (if f.rs2 = 0 ∧ f.imm.toNat < 64 then none else some 0x01)
        f.gp f.gn fun _ _ x =>
          .done [.result 1 (.scalar f.rd.toNat (c.2.2 (sReg x f.rs1.toNat).1 f.imm.toNat) (sReg x f.rs1.toNat).2)]))
  ∧ (∀ (g : Nat) (f : ScalarFields) (s : State), SlotHolds s g .s0 (encodeScalar .s0 0x18 f) →
      exec (.movlo g .s0 f) s = .next (slotRun (settle s g) g .s0
        (if f.rs1 = 0 ∧ f.rs2 = 0 ∧ f.imm.toNat < 2 ^ 32 then none else some 0x01) f.gp f.gn fun _ _ _ =>
          .done [.result 1 (.scalar f.rd.toNat (f.imm.setWidth 64) false)]))
  ∧ (∀ (g : Nat) (f : ScalarFields) (s : State), SlotHolds s g .s0 (encodeScalar .s0 0x19 f) →
      exec (.orhi g .s0 f) s = .next (slotRun (settle s g) g .s0
        (if f.rs2 = 0 ∧ f.imm.toNat < 2 ^ 32 then none else some 0x01) f.gp f.gn fun _ _ x =>
          .done [.result 1 (.scalar f.rd.toNat ((sReg x f.rs1.toNat).1 ||| (f.imm.setWidth 64 <<< 32)) (sReg x f.rs1.toNat).2)]))

/-- CMPEQ to CMPLTI, PAND to PANDN, TKST and RDTIL complete with the result of Table 04-3. R97, R113, R116, R119, R120. -/
def Obligations.ScalarPredicateFormCompletes : Prop :=
  (∀ c ∈ ([(0x20, .cmpeq, fun a b => a == b), (0x21, .cmpne, fun a b => a != b), (0x22, .cmplt, fun a b => decide (a.toInt < b.toInt)),
      (0x23, .cmpltu, fun a b => decide (a < b)), (0x24, .cmpge, fun a b => decide (b.toInt ≤ a.toInt)),
      (0x25, .cmpgeu, fun a b => decide (b ≤ a))] : List (Nat × (Nat → Slot → ScalarFields → Instr) × (Word → Word → Bool))),
    ∀ (g : Nat) (sl : Slot) (f : ScalarFields) (s : State),
      (sl = .s0 ∨ sl = .s1 ∧ f.imm.toNat < 2 ^ 20) → SlotHolds s g sl (encodeScalar sl c.1 f) →
      exec (c.2.1 g sl f) s = .next (slotRun (settle s g) g sl (if f.imm = 0 ∧ f.rd.toNat < 16 then none else some 0x01)
        f.gp f.gn fun _ _ x =>
          if (sReg x f.rs1.toNat).2 = true ∨ (sReg x f.rs2.toNat).2 = true then .raise 0x0B 0
          else .done [.result 1 (.pred f.rd.toNat (c.2.2 (sReg x f.rs1.toNat).1 (sReg x f.rs2.toNat).1))]))
  ∧ (∀ c ∈ ([(0x26, .cmpeqi, fun a b => a == b), (0x27, .cmplti, fun a b => decide (a.toInt < b.toInt))] :
      List (Nat × (Nat → Slot → ScalarFields → Instr) × (Word → Word → Bool))),
    ∀ (g : Nat) (sl : Slot) (f : ScalarFields) (s : State),
      (sl = .s0 ∨ sl = .s1 ∧ f.imm.toNat < 2 ^ 20) → SlotHolds s g sl (encodeScalar sl c.1 f) →
      exec (c.2.1 g sl f) s = .next (slotRun (settle s g) g sl (if f.rs2 = 0 ∧ f.rd.toNat < 16 then none else some 0x01)
        f.gp f.gn fun _ _ x =>
          if (sReg x f.rs1.toNat).2 = true then .raise 0x0B 0
          else .done [.result 1 (.pred f.rd.toNat (c.2.2 (sReg x f.rs1.toNat).1
            (if sl = .s0 then f.imm.signExtend 64 else (f.imm.setWidth 20).signExtend 64)))]))
  ∧ (∀ c ∈ ([(0x28, .pand, fun a b => a && b), (0x29, .por, fun a b => a || b), (0x2A, .pxor, fun a b => xor a b),
      (0x2B, .pandn, fun a b => a && !b)] : List (Nat × (Nat → Slot → ScalarFields → Instr) × (Bool → Bool → Bool))),
    ∀ (g : Nat) (sl : Slot) (f : ScalarFields) (s : State),
      (sl = .s0 ∨ sl = .s1 ∧ f.imm.toNat < 2 ^ 20) → SlotHolds s g sl (encodeScalar sl c.1 f) →
      exec (c.2.1 g sl f) s = .next (slotRun (settle s g) g sl
        (if f.imm = 0 ∧ f.rd.toNat < 16 ∧ f.rs1.toNat < 16 ∧ f.rs2.toNat < 16 then none else some 0x01) f.gp f.gn fun _ _ x =>
          .done [.result 1 (.pred f.rd.toNat (c.2.2 (pReg x f.rs1.toNat) (pReg x f.rs2.toNat)))]))
  ∧ (∀ (g : Nat) (f : ScalarFields) (s : State), f.imm.toNat < 2 ^ 20 → SlotHolds s g .s1 (encodeScalar .s1 0x30 f) →
      exec (.tkst g f) s = .next (slotRun (settle s g) g .s1
        (if f.rs1 = 0 ∧ f.rs2 = 0 ∧ f.imm.toNat < 32 then none else some 0x01) f.gp f.gn fun _ _ _ =>
          .done [.wait (2 ^ f.imm.toNat), .result 1 (.ticket f.rd.toNat f.imm.toNat)]))
  ∧ (∀ (g : Nat) (f : ScalarFields) (s : State), f.imm.toNat < 2 ^ 20 → SlotHolds s g .s1 (encodeScalar .s1 0x31 f) →
      exec (.rdtil g f) s = .next (slotRun (settle s g) g .s1
        (if f.rs1 = 0 ∧ f.rs2 = 0 ∧ f.imm.toNat ≤ 2 then none else some 0x01) f.gp f.gn fun _ _ x =>
          .done [.result 1 (.scalar f.rd.toNat (if f.imm = 0 then x.id else if f.imm = 1 then x.step else x.flags) false)]))

/-- JMP, BZ, BNZ, LOOP, CALL, JR and END execute with the condition, effect and target of Table 04-4. R85, R102, R116, R121, R122. -/
def Obligations.BranchesComplete : Prop :=
  ∀ (g : Nat) (f : ScalarFields) (s : State),
    let poisoned := fun (r : Nat) (x : Tile) (k : SlotOut) => if (sReg x r).2 = true then SlotOut.raise 0x0B 0 else k
    let dec := fun (ok : Prop) [Decidable ok] =>
      if ok ∧ f.imm.toNat < 2 ^ 11 ∧ (gangGet s g).shadow = 0 then (none : Option Nat) else some 0x01
    (SlotHolds s g .s0 (encodeScalar .s0 0x40 f) → exec (.jmp g f) s = .next (branchRun (settle s g) g
      (dec (f.rd = 0 ∧ f.rs1 = 0 ∧ f.rs2 = 0)) f (fun _ => .done []) (fun _ => true) fun _ => f.imm.toNat))
    ∧ (SlotHolds s g .s0 (encodeScalar .s0 0x41 f) → exec (.bz g f) s = .next (branchRun (settle s g) g
      (dec (f.rd = 0 ∧ f.rs2 = 0)) f (fun x => poisoned f.rs1.toNat x (.done [])) (fun x => (sReg x f.rs1.toNat).1 == 0)
      fun _ => f.imm.toNat))
    ∧ (SlotHolds s g .s0 (encodeScalar .s0 0x42 f) → exec (.bnz g f) s = .next (branchRun (settle s g) g
      (dec (f.rd = 0 ∧ f.rs2 = 0)) f (fun x => poisoned f.rs1.toNat x (.done [])) (fun x => (sReg x f.rs1.toNat).1 != 0)
      fun _ => f.imm.toNat))
    ∧ (SlotHolds s g .s0 (encodeScalar .s0 0x43 f) → exec (.loop g f) s = .next (branchRun (settle s g) g
      (dec (f.rs1 = 0 ∧ f.rs2 = 0)) f
      (fun x => poisoned f.rd.toNat x (.done [.result 1 (.scalar f.rd.toNat ((sReg x f.rd.toNat).1 - 1) false)]))
      (fun x => (sReg x f.rd.toNat).1 - 1 != 0) fun _ => f.imm.toNat))
    ∧ (SlotHolds s g .s0 (encodeScalar .s0 0x44 f) → exec (.call g f) s = .next (branchRun (settle s g) g
      (dec (f.rs1 = 0 ∧ f.rs2 = 0)) f
      (fun _ => .done [.result 1 (.scalar f.rd.toNat (BitVec.ofNat 64 ((gangGet s g).pc + 3)) false)]) (fun _ => true)
      fun _ => f.imm.toNat))
    ∧ (SlotHolds s g .s0 (encodeScalar .s0 0x45 f) → exec (.jr g f) s = .next (branchRun (settle s g) g
      (dec (f.rd = 0 ∧ f.rs2 = 0 ∧ f.imm = 0)) f (fun x => poisoned f.rs1.toNat x (.done [])) (fun _ => true)
      fun x => if (sReg x f.rs1.toNat).1.toNat < 1536 then (sReg x f.rs1.toNat).1.toNat
        else 2048 + (sReg x f.rs1.toNat).1.toNat % 2048))
    ∧ (SlotHolds s g .s0 (encodeScalar .s0 0x4F f) → exec (.end_ g f) s = .next (branchRun (settle s g) g
      (dec (f.rd = 0 ∧ f.rs1 = 0 ∧ f.rs2 = 0 ∧ f.imm = 0)) f (fun _ => .done []) (fun _ => true) fun _ => 0x10000))

/-- LDS, LDV, LDBC, LDT, STS and STV: address checks, then the word or line with its poison, or the bytes stored. R89, R90, R92, R107, R123, R124, R198. -/
def Obligations.LoadsAndStoresComplete : Prop :=
  (∀ c ∈ ([(0x01, 8, .lds, fun f => decide (f.reg.toNat < 32) && f.aux == 0, fun f ws =>
        .scalar f.reg.toNat (BitVec.ofNat 64 (ws.headD (0, false)).1) (ws.headD (0, false)).2),
      (0x02, 256, .ldv, fun f => f.aux == 0, fun f ws => .vec f.reg.toNat (vecOfWords ws).1 (vecOfWords ws).2),
      (0x03, 8, .ldbc, fun f => f.aux == 0, fun f ws =>
        .vec f.reg.toNat (vecOfWords (List.replicate 32 (ws.headD (0, false)))).1 (vecOfWords (List.replicate 32 (ws.headD (0, false)))).2),
      (0x04, 256, .ldt, fun f => decide (f.reg.toNat < 8) && decide (f.aux.toNat < 8), fun f ws =>
        .stage (8 * f.reg.toNat + f.aux.toNat) (vecOfWords ws).1 (BitVec.ofNat 32 (packElems 1 (ws.map fun w => bit w.2))))] :
      List (Nat × Nat × (Nat → Slot → MemFields → Upsets → Instr) × (MemFields → Bool) × (MemFields → List (Nat × Bool) → Res))),
    ∀ (g : Nat) (sl : Slot) (f : MemFields) (us : Upsets) (s : State), (sl = .l0 ∨ sl = .l1) →
      SlotHolds s g sl (encodeMem c.1 f) →
      let s0 := upsetTiles (settle s g) us
      let out := fun (x : Tile) =>
        let a := padAddress x f
        let r := padReadWords x (a.1 / 8) (c.2.1 / 8)
        match padCheck a c.2.1 with
        | some code => SlotOut.raise code a.1
        | none => if (gangStrict (settle s g) g && r.2) = true then .raise 0x0D a.1
          else .done [.result 6 (c.2.2.2.2 f r.1), .bank (slotCode sl) (padBank a.1)]
      exec (c.2.2.1 g sl f us) s = .next (if c.2.2.2.1 f = true then
          commitIfDone (loadEffects s0 g c.2.1 f (slotPut s0 g sl (slotOuts s0 g none f.gp f.gn fun _ _ x b =>
            if b = true then out x else .done []))) g
        else commitIfDone (slotPut s0 g sl [(0, .raise 0x01 0)]) g))
  ∧ (∀ (g : Nat) (f : MemFields) (s : State), SlotHolds s g .st (encodeMem 0x01 f) →
      exec (.sts g f) s = .next (slotRun (settle s g) g .st (if f.reg.toNat < 32 ∧ f.aux = 0 then none else some 0x01) f.gp f.gn
        fun _ _ x => match padCheck (padAddress x f) 8 with
          | some code => .raise code (padAddress x f).1
          | none => .done [.store (padAddress x f).1 (bytesOf 8 (sReg x f.reg.toNat).1.toNat) (bit (sReg x f.reg.toNat).2)]))
  ∧ (∀ (g : Nat) (f : MemFields) (s : State), SlotHolds s g .st (encodeMem 0x02 f) →
      exec (.stv g f) s = .next (slotRun (settle s g) g .st (if f.aux.toNat < 6 then none else some 0x01) f.gp f.gn
        fun _ _ x => match padCheck (padAddress x f) (2 ^ (3 + f.aux.toNat)) with
          | some code => .raise code (padAddress x f).1
          | none => .done [.store (padAddress x f).1 (bytesOf (2 ^ (3 + f.aux.toNat)) (vReg x f.reg.toNat).1.toNat)
              (maskOf ((List.range (2 ^ (3 + f.aux.toNat) / 8)).filter fun w =>
                (vReg x f.reg.toNat).2.getLsbD (2 * w) || (vReg x f.reg.toNat).2.getLsbD (2 * w + 1)))]))

/-- VADD to VFCMPEQ: each element gets the exact result rounded once, marks ORed, latency 4. R66, R68, R106, R116, R125, R126, R127. -/
def Obligations.VectorFloatCompletes : Prop :=
  (∀ c ∈ ([(0x01, .vadd, fun fm m a b => roundTo fm m (numSum [decodeNum fm a, decodeNum fm b])),
      (0x02, .vsub, fun fm m a b => roundTo fm m (numSum [decodeNum fm a, numNegate (decodeNum fm b)])),
      (0x03, .vmul, fun fm m a b => roundTo fm m (numMul (decodeNum fm a) (decodeNum fm b))),
      (0x05, .vmin, fun fm _ a b => fmtMin fm a b), (0x06, .vmax, fun fm _ a b => fmtMax fm a b),
      (0x0C, .vfcmplt, fun fm _ a b => if numLt (decodeNum fm a) (decodeNum fm b) then 2 ^ fm.width - 1 else 0),
      (0x0D, .vfcmpeq, fun fm _ a b => if numEq (decodeNum fm a) (decodeNum fm b) then 2 ^ fm.width - 1 else 0)] :
      List (Nat × (Nat → Slot → VecFields → Instr) × (Fmt → Rnd → Nat → Nat → Nat))),
    ∀ (g : Nat) (sl : Slot) (f : VecFields) (s : State), (sl = .v0 ∨ sl = .v1) → SlotHolds s g sl (encodeVec c.1 f) →
      exec (c.2.1 g sl f) s = .next (slotRun (settle s g) g sl (floatDecode true true false f) f.gp f.gn fun _ _ x =>
        let w := (fmtOf f.fmt).width
        .done [.result 4 (.vec f.vd.toNat (BitVec.ofNat 2048 (packElems w (zipElems (c.2.2 (fmtOf f.fmt) (laneMode f.rnd))
          (elemsAt w (2048 / w) (vReg x f.va.toNat).1.toNat) (elemsAt w (2048 / w) (vReg x f.vb.toNat).1.toNat))))
          ((vReg x f.va.toNat).2 ||| (vReg x f.vb.toNat).2))]))
  ∧ (∀ c ∈ ([(0x07, true, .vabs, fun fm _ a => a % 2 ^ (fm.width - 1)), (0x08, true, .vneg, fun fm _ a => a ^^^ 2 ^ (fm.width - 1)),
      (0x09, false, .vexp2, fun fm m a => roundTo fm m (numExp2 (decodeNum fm a))),
      (0x0A, false, .vrcp, fun fm m a => roundTo fm m (numRcp (decodeNum fm a))),
      (0x0B, false, .vrsqrt, fun fm m a => roundTo fm m (numRsqrt (decodeNum fm a)))] :
      List (Nat × Bool × (Nat → Slot → VecFields → Instr) × (Fmt → Rnd → Nat → Nat))),
    ∀ (g : Nat) (sl : Slot) (f : VecFields) (s : State), (sl = .v0 ∨ sl = .v1) → SlotHolds s g sl (encodeVec c.1 f) →
      exec (c.2.2.1 g sl f) s = .next (slotRun (settle s g) g sl (floatDecode c.2.1 false false f) f.gp f.gn fun _ _ x =>
        let w := (fmtOf f.fmt).width
        .done [.result 4 (.vec f.vd.toNat (BitVec.ofNat 2048 (packElems w ((elemsAt w (2048 / w) (vReg x f.va.toNat).1.toNat).map
          (c.2.2.2 (fmtOf f.fmt) (laneMode f.rnd))))) (vReg x f.va.toNat).2)]))
  ∧ (∀ (g : Nat) (sl : Slot) (f : VecFields) (s : State), (sl = .v0 ∨ sl = .v1) → SlotHolds s g sl (encodeVec 0x04 f) →
      exec (.vfma g sl f) s = .next (slotRun (settle s g) g sl (floatDecode true true true f) f.gp f.gn fun _ _ x =>
        let fm := fmtOf f.fmt
        let es := fun (r : BitVec 6) => elemsAt fm.width (2048 / fm.width) (vReg x r.toNat).1.toNat
        .done [.result 4 (.vec f.vd.toNat (BitVec.ofNat 2048 (packElems fm.width
            (zipElems (fun ij k => roundTo fm (laneMode f.rnd)
                (numSum [numMul (decodeNum fm (ij / 2 ^ fm.width)) (decodeNum fm (ij % 2 ^ fm.width)), decodeNum fm k]))
              (zipElems (fun i j => i * 2 ^ fm.width + j) (es f.va) (es f.vb)) (es f.vc))))
          ((vReg x f.va.toNat).2 ||| (vReg x f.vb.toNat).2 ||| (vReg x f.vc.toNat).2))]))

/-- VIADD to VLANE: lane by lane on 64 lanes of 32 bits, latency 2. R106, R116, R125, R127. -/
def Obligations.VectorLaneOperationsComplete : Prop :=
  (∀ c ∈ ([(0x10, .viadd, fun a b => (a + b) % 2 ^ 32), (0x11, .visub, fun a b => (a + 2 ^ 32 - b) % 2 ^ 32),
      (0x12, .vand, fun a b => a &&& b), (0x13, .vor, fun a b => a ||| b), (0x14, .vxor, fun a b => a ^^^ b)] :
      List (Nat × (Nat → Slot → VecFields → Instr) × (Nat → Nat → Nat))),
    ∀ (g : Nat) (sl : Slot) (f : VecFields) (s : State), (sl = .v0 ∨ sl = .v1) → SlotHolds s g sl (encodeVec c.1 f) →
      exec (c.2.1 g sl f) s = .next (slotRun (settle s g) g sl (intDecode true false 1 f) f.gp f.gn fun _ _ x =>
        .done [.result 2 (.vec f.vd.toNat (BitVec.ofNat 2048 (packElems 32
          (zipElems c.2.2 (lanes (vReg x f.va.toNat).1) (lanes (vReg x f.vb.toNat).1))))
          ((vReg x f.va.toNat).2 ||| (vReg x f.vb.toNat).2))]))
  ∧ (∀ c ∈ ([(0x15, .vshl, fun a n => a * 2 ^ n % 2 ^ 32), (0x16, .vshr, fun a n => a / 2 ^ n)] :
      List (Nat × (Nat → Slot → VecFields → Instr) × (Nat → Nat → Nat))),
    ∀ (g : Nat) (sl : Slot) (f : VecFields) (s : State), (sl = .v0 ∨ sl = .v1) → SlotHolds s g sl (encodeVec c.1 f) →
      exec (c.2.1 g sl f) s = .next (slotRun (settle s g) g sl (intDecode false false 32 f) f.gp f.gn fun _ _ x =>
        .done [.result 2 (.vec f.vd.toNat (BitVec.ofNat 2048 (packElems 32
          ((lanes (vReg x f.va.toNat).1).map fun l => c.2.2 l f.imm.toNat))) (vReg x f.va.toNat).2)]))
  ∧ (∀ (g : Nat) (sl : Slot) (f : VecFields) (s : State), (sl = .v0 ∨ sl = .v1) → SlotHolds s g sl (encodeVec 0x17 f) →
      exec (.vsel g sl f) s = .next (slotRun (settle s g) g sl (intDecode true true 1 f) f.gp f.gn fun _ _ x =>
        let lane := fun (r : BitVec 6) (i : Nat) => at' 0 (lanes (vReg x r.toNat).1) i
        let pick := fun i => at' false ((lanes (vReg x f.vc.toNat).1).map fun l => l != 0) i
        .done [.result 2 (.vec f.vd.toNat
          (BitVec.ofNat 2048 (packElems 32 ((List.range 64).map fun i => if pick i then lane f.va i else lane f.vb i)))
          (laneMarks 32 ((List.range 64).map fun i => (vReg x f.vc.toNat).2.getLsbD i
            || (if pick i then (vReg x f.va.toNat).2.getLsbD i else (vReg x f.vb.toNat).2.getLsbD i))))]))
  ∧ (∀ (g : Nat) (sl : Slot) (f : VecFields) (s : State), (sl = .v0 ∨ sl = .v1) → SlotHolds s g sl (encodeVec 0x18 f) →
      exec (.vrot g sl f) s = .next (slotRun (settle s g) g sl (intDecode false false 64 f) f.gp f.gn fun _ _ x =>
        .done [.result 2 (.vec f.vd.toNat ((vReg x f.va.toNat).1.rotateRight (32 * f.imm.toNat))
          ((vReg x f.va.toNat).2.rotateRight f.imm.toNat))]))
  ∧ (∀ (g : Nat) (sl : Slot) (f : VecFields) (s : State), (sl = .v0 ∨ sl = .v1) → SlotHolds s g sl (encodeVec 0x19 f) →
      exec (.vbcs g sl f) s = .next (slotRun (settle s g) g sl
        (if f.va.toNat < 32 then intDecode false false 1 f else some 0x01) f.gp f.gn fun _ _ x =>
        .done [.result 2 (.vec f.vd.toNat
          (BitVec.ofNat 2048 (packElems 32 (List.replicate 64 ((sReg x f.va.toNat).1.toNat % 2 ^ 32))))
          (if (sReg x f.va.toNat).2 = true then -1#64 else 0))]))
  ∧ (∀ (g : Nat) (sl : Slot) (f : VecFields) (s : State), (sl = .v0 ∨ sl = .v1) → SlotHolds s g sl (encodeVec 0x1A f) →
      exec (.vlane g sl f) s = .next (slotRun (settle s g) g sl
        (if f.vd.toNat < 32 then intDecode false false 64 f else some 0x01) f.gp f.gn fun _ _ x =>
        .done [.result 2 (.scalar f.vd.toNat (BitVec.ofNat 64 (at' 0 (lanes (vReg x f.va.toNat).1) f.imm.toNat))
          ((vReg x f.va.toNat).2.getLsbD f.imm.toNat))]))

/-- VCVT, VQBS and VACR convert element by element, latency 4, with the flags of Table 03-15. R59, R72, R73, R74, R116, R127, R128, R129. -/
def Obligations.ConversionsComplete : Prop :=
  ∀ (g : Nat) (sl : Slot) (f : VecFields) (s : State), (sl = .v0 ∨ sl = .v1) →
    let fs := fmtOf f.fmt
    let fd := fmtOf f.fmt2
    let mode := (rndOfCode f.rnd.toNat).getD .nearest
    let draw := fun (x : Tile) (base i : Nat) => if f.rnd = 2 then tileDraw (settle s g) x base i else 0
    let results := fun (w : Nat) (cs : List Conv) => SlotOut.done
      [.result 4 (.vec f.vd.toNat (BitVec.ofNat 2048 (packElems w (cs.map (·.code)))) (laneMarks w (cs.map (·.poison)))),
        .result 4 (.flags (cs.foldl (fun a c => a ||| c.flags) 0))]
    (SlotHolds s g sl (encodeVec 0x20 f) → f.vb = 0 → f.imm.toNat < 2 ^ 13 → (fd = .longSum ∨ f.imm.toNat < 16) →
      convFormat f.fmt = true → convFormat f.fmt2 = true → f.rnd ≠ 3 → baseOk f (!(fs == .longSum && fd == .longSum)) = true →
      vcvtCount fs fd * (f.imm.toNat % 16 + 1) ≤ vecCapacity fs.width →
      exec (.vcvt g sl f) s = .next (slotRun (settle s g) g sl none f.gp f.gn fun _ _ x =>
        withBase f (!(fs == .longSum && fd == .longSum)) x fun base =>
          results fd.width ((List.range (vcvtCount fs fd)).map fun j =>
            convElem fs fd (immAnchor f.imm) mode (draw x base j) f.sat
              (elemPoisoned (vReg x f.va.toNat).2 fs.width (vcvtCount fs fd * (f.imm.toNat % 16) + j))
              ((vReg x f.va.toNat).1.toNat / 2 ^ (fs.width * (vcvtCount fs fd * (f.imm.toNat % 16) + j)) % 2 ^ fs.width))))
    ∧ (SlotHolds s g sl (encodeVec 0x21 f) → f.imm = 0 → f.vd ≠ f.vb → f.fmt = 0 → (fmtOfCode f.fmt2.toNat).isSome = true →
      fd.isNarrowFloat = true → f.rnd ≠ 3 → baseOk f true = true →
      exec (.vqbs g sl f) s = .next (slotRun (settle s g) g sl none f.gp f.gn fun _ _ x =>
        withBase f true x fun base =>
          let xs := (lanes (vReg x f.va.toNat).1).map (decodeNum .fp32)
          let rs := (List.range 64).map (draw x base)
          let q0 := quantBlock fd mode (rs.take 32) (xs.take 32)
          let q1 := quantBlock fd mode (rs.drop 32) (xs.drop 32)
          let p0 := (vReg x f.va.toNat).2.toNat % 2 ^ 32 != 0
          let p1 := (vReg x f.va.toNat).2.toNat / 2 ^ 32 != 0
          .done [.result 4 (.vec f.vd.toNat (BitVec.ofNat 2048 (packElems fd.width (q0.2 ++ q1.2)))
              (laneMarks fd.width (List.replicate 32 p0 ++ List.replicate 32 p1))),
            .result 4 (.vec f.vb.toNat (BitVec.ofNat 2048 (q0.1 + 256 * q1.1)) (if p0 || p1 then 1 else 0)),
            .result 4 (.flags (quantFlags fd mode (rs.take 32) (xs.take 32) ||| quantFlags fd mode (rs.drop 32) (xs.drop 32)))]))
    ∧ (SlotHolds s g sl (encodeVec 0x22 f) → f.vb = 0 → f.fmt = 0 → convFormat f.fmt2 = true → f.rnd ≠ 3 →
      (if fd = .longSum then bitOf f.imm.toNat 2 = false ∧ bitOf f.imm.toNat 3 = false ∧ f.imm.toNat < 2 ^ 13 else f.imm = 0) →
      baseOk f true = true →
      exec (.vacr g sl f) s = .next (slotRun (settle s g) g sl none f.gp f.gn fun _ _ x =>
        withBase f true x fun base =>
          let js := if fd = .longSum then rangeFrom (16 * (f.imm.toNat % 4)) 16 else List.range 64
          results fd.width ((js.zip (List.range js.length)).map fun j =>
            convEntry (accRow x f.va.toNat) fd (immAnchor f.imm) mode (draw x base j.2) f.sat j.1)))

/-- VRED, GBC and GRED complete with their reductions and latencies. R62, R66, R68, R103, R116, R130, R131. -/
def Obligations.ReductionsAndGangVectorsComplete : Prop :=
  ∀ (g : Nat) (sl : Slot) (f : VecFields) (s : State), (sl = .v0 ∨ sl = .v1) → f.vb = 0 → f.vc = 0 → f.sat = false → f.fmt2 = 0 →
    let fm := fmtOf f.fmt
    let o := f.imm.toNat % 8
    let es := fun (x : Tile) => elemsAt fm.width (vecCapacity fm.width) (vReg x f.va.toNat).1.toNat
    let p := fun (x : Tile) => (vReg x f.va.toNat).2 != 0
    let put := fun (x : Tile) (v w : Nat) =>
      SlotOut.done [.result 4 (.vec f.vd.toNat (BitVec.ofNat 2048 v) (if p x then lanesFilled w 1 else 0))]
    (SlotHolds s g sl (encodeVec 0x28 f) → f.rnd = 0 → (fmtOfCode f.fmt.toNat).isSome = true → fm.isNarrow = true → o = 0 →
      bitOf f.imm.toNat 3 = false → f.imm.toNat < 2 ^ 13 →
      exec (.vred g sl f) s = .next (slotRun (settle s g) g sl none f.gp f.gn fun _ _ x =>
        put x (lsContainer (poisonSum ((es x).foldl (fun b e => lsPlaceProduct b (decodeNum fm e) (.fin false 1 0) none none)
          (lsZero (immAnchor f.imm))) (p x))) 128))
    ∧ (SlotHolds s g sl (encodeVec 0x28 f) → f.rnd = 0 → (fmtOfCode f.fmt.toNat = some .fp32 ∨ fmtOfCode f.fmt.toNat = some .bf16) →
      f.imm = 0 →
      exec (.vred g sl f) s = .next (slotRun (settle s g) g sl none f.gp f.gn fun _ _ x =>
        put x (fp32PairSum 8 ((es x).map fun e => toFp32 (decodeNum fm e))) 32))
    ∧ (SlotHolds s g sl (encodeVec 0x28 f) → f.rnd = 0 → fmtOfCode f.fmt.toNat = some .longSum → f.imm = 0 →
      exec (.vred g sl f) s = .next (slotRun (settle s g) g sl none f.gp f.gn fun _ _ x =>
        let t := foldSums (es x)
        .done ([.result 4 (.vec f.vd.toNat (BitVec.ofNat 2048 (lsContainer (poisonSum t.1 (p x))))
            (if t.2 = true ∨ p x = true then lanesFilled 128 1 else 0))]
          ++ (if t.2 = true then [.mismatch f.vd.toNat] else []))))
    ∧ (SlotHolds s g sl (encodeVec 0x28 f) → f.rnd = 0 → vredFormat f.imm.toNat (fmtOfCode f.fmt.toNat) = true →
      1 ≤ f.imm.toNat → f.imm.toNat ≤ 5 →
      exec (.vred g sl f) s = .next (slotRun (settle s g) g sl none f.gp f.gn fun _ _ x =>
        put x (foldElems (if o = 1 then fmtMin fm else if o = 2 then fmtMax fm else bitwiseOp o) (es x)) fm.width))
    ∧ (SlotHolds s g sl (encodeVec 0x30 f) → f.fmt = 0 → f.rnd = 0 → f.imm.toNat < (gangTiles s g).length → f.imm.toNat < 16 →
      exec (.gbc g sl f) s = .next (slotRun (settle s g) g sl none f.gp f.gn fun _ _ _ =>
        let v := vReg (tileGet (settle s g) (at' 0 (gangTiles s g) f.imm.toNat)) f.va.toNat
        .done [.result 6 (.vec f.vd.toNat v.1 v.2)]))
    ∧ (SlotHolds s g sl (encodeVec 0x31 f) → f.imm.toNat ≤ 5 → gredFormat f.imm.toNat (fmtOfCode f.fmt.toNat) = true →
      f.rnd.toNat < 2 →
      exec (.gred g sl f) s = .next (slotRun (settle s g) g sl none f.gp f.gn fun _ _ _ =>
        let r := gredValue f.imm.toNat fm (laneMode f.rnd) ((gangTiles s g).map fun t => vReg (tileGet (settle s g) t) f.va.toNat)
        .done ([.result (8 + 2 * Nat.log2 (gangTiles s g).length) (.vec f.vd.toNat r.1 r.2.1)]
          ++ (if r.2.2 = true then [.mismatch f.vd.toNat] else []))))

/-- MMA, MMAZ and MCLR: the row's new value reaches the accumulator file 12 issue cycles later. R63, R80, R132, R133, R134, R135, R136. -/
def Obligations.MatrixSlotCompletes : Prop :=
  (∀ c ∈ ([(0x01, .mma, fun x f => rowAhead x (32 * bit f.bank + f.row.toNat)), (0x02, .mmaz, fun _ _ => {})] :
      List (Nat × (Nat → MxFields → Instr) × (Tile → MxFields → AccRow))),
    ∀ (g : Nat) (f : MxFields) (fa fb : Fmt) (k : Nat) (s : State), SlotHolds s g .mx (encodeMx c.1 f) →
      fmtOfCode f.fmta.toNat = some fa → fmtOfCode f.fmtb.toNat = some fb → mxShape (some fa) (some fb) = some k →
      f.rsv = 0 → (f.bs = true ∨ f.vsa = 0 ∧ f.vsb = 0) → (f.bs = true → fa.isNarrowFloat = true) →
      32 * f.asel.toNat + mxBytes fa k ≤ 2048 → (fb.width = 6 ∧ k = 64 → f.tb.toNat % 2 = 0) →
      exec (c.2.1 g f) s = .next (slotRun (settle s g) g .mx none f.gp f.gn fun _ _ x =>
        let r := c.2.2 x f
        if (if fa.isWide = true then r.mode = .longSum
            else r.mode = .fp32 ∨ r.mode = .longSum ∧ r.anchor ≠ signedOf 9 f.anchor.toNat) then .raise 0x0F 0
        else .done [.result 12 (.row (32 * bit f.bank + f.row.toNat) (mxRow x f fa fb k r))]))
  ∧ (∀ (g : Nat) (f : MxFields) (s : State), SlotHolds s g .mx (encodeMx 0x03 f) →
      exec (.mclr g f) s = .next (slotRun (settle s g) g .mx
        (if f.ta = 0 ∧ f.tb = 0 ∧ f.fmta = 0 ∧ f.fmtb = 0 ∧ f.bs = false ∧ f.vsb = 0 ∧ f.vsa = 0 ∧ f.anchor = 0 ∧ f.rsv = 0
          ∧ f.row.toNat + f.asel.toNat ≤ 31 then none else some 0x01) f.gp f.gn fun _ _ _ =>
        .done ((rangeFrom (32 * bit f.bank + f.row.toNat) (f.asel.toNat + 1)).map fun i => .result 12 (.row i {}))))

/-- GLD, GST, SEND, RECV, DOCK and FILL check in order and start their operation. R90, R116, R137, R138, R139, R176. -/
def Obligations.DmMovesComplete : Prop :=
  ∀ (g : Nat) (f : DmFields) (s : State),
    let s1 := settle s g
    let tk := f.tk.toNat
    let reg := fun (x : Tile) (r : BitVec 5) => (sReg x r.toNat).1.toNat
    let first := fun (x : Tile) (rs : List (BitVec 5)) (k : SlotOut) =>
      if mapGet 0 x.tick tk = 1 then SlotOut.raise 0x08 tk
      else match rs.find? fun r => (sReg x r.toNat).2 with
        | some r => .raise 0x0A (reg x r)
        | none => k
    let pad := fun (off len : Nat) (k : SlotOut) =>
      if off + len > padTop then SlotOut.raise 0x04 off else if off % 64 ≠ 0 then .raise 0x03 off else k
    let move := fun (mk : Nat → Nat → Nat → DmOp) (x : Tile) =>
      let a := reg x f.ra
      let off := reg x f.rb
      let len := reg x f.rc
      first x [f.ra, f.rb, f.rc] <| if len % 64 ≠ 0 ∨ len < 64 ∨ len > 786432 then SlotOut.raise 0x01 0 else pad off len <|
        if a % 64 ≠ 0 then .raise 0x03 a
        else if isLocal s a = true ∧ inRegions s (ctxOfGang s g) (gOff a) len = false then .raise 0x0E a
        else .done [.dm tk (mk a off len)]
    (SlotHolds s g .dm (encodeDm 0x01 f) → exec (.gld g f) s = .next (slotRun s1 g .dm (if f.aux = 0 then none else some 0x01)
      f.gp f.gn fun _ _ x => move (fun a off len => .gld a off len len 0) x))
    ∧ (SlotHolds s g .dm (encodeDm 0x02 f) → exec (.gst g f) s = .next (slotRun s1 g .dm (if f.aux = 0 then none else some 0x01)
      f.gp f.gn fun _ _ x => move (fun a off len => .gst a off len (pieces len).length 0) x))
    ∧ (SlotHolds s g .dm (encodeDm 0x03 f) → exec (.send g f) s = .next (slotRun s1 g .dm (if f.aux = 0 then none else some 0x01)
      f.gp f.gn fun _ _ x =>
        let a := reg x f.ra
        first x [f.ra, f.rb, f.rc] <|
          if reg x f.rc % 64 ≠ 0 ∨ reg x f.rc < 64 ∨ reg x f.rc > 4096 ∨ bitsOf a 31 8 ≠ 0 then .raise 0x01 0
          else pad (reg x f.rb) (reg x f.rc) (.done [.dm tk
            (.send (gChip a) (bitsOf a 47 32) (bitsOf a 7 0) (reg x f.rb) (reg x f.rc) (gangGet s g).cycle false)])))
    ∧ (SlotHolds s g .dm (encodeDm 0x04 f) → exec (.recv g f) s = .next (commitIfDone (slotPut s1 g .dm (slotOuts s1 g
      (if f.ra = 0 ∧ f.rb = 0 ∧ f.rc = 0 ∧ f.aux.toNat < 256 then none else some 0x01) f.gp f.gn fun _ t x b =>
        if chanRec s t (f.aux.toNat % 256) = none then .raise 0x01 0
        else if b = false then .done []
        else first x [] (.done [.dm tk (.recv (f.aux.toNat % 256) (rxGet x (f.aux.toNat % 256)).claimed)]))) g))
    ∧ (SlotHolds s g .dm (encodeDm 0x05 f) → f.rc = 0 → f.aux = 0 →
      exec (.dock g f) s = .next (commitIfDone (descEffects s1 g f (slotPut s1 g .dm (slotOuts s1 g none f.gp f.gn fun _ _ x b =>
        if b = false then .done []
        else
          let off := reg x f.ra
          first x [f.ra, f.rb] <|
            if off % 64 ≠ 0 then .raise 0x03 off
            else if off + 64 > padTop then .raise 0x04 off
            else if (padWords8 x off).2 = true then .raise 0x0A off
            else if dkLegal s1 (ctxOfGang s g) (padWords8 x off).1 = false then .raise 0x01 0
            else match dkPadFault (padWords8 x off).1 with
              | some o => .raise 0x04 o
              | none => match dkRegionFault s1 (ctxOfGang s g) (padWords8 x off).1 with
                | some o => .raise 0x0E o
                | none => .done [.dm tk (.dock (padWords8 x off).1 (reg x f.rb % 2 ^ 32) (gangGet s g).cycle false),
                    .bank 8 (padBank off)]))) g))
    ∧ (SlotHolds s g .dm (encodeDm 0x06 f) → exec (.fill g f) s = .next (commitIfDone (slotPut s1 g .dm (slotOuts s1 g
      (if f.aux = 0 then none else some 0x01) f.gp f.gn fun _ _ x b =>
        if reg x f.rb + reg x f.rc > 1536 then .raise 0x05 0
        else if b = false then .done []
        else first x [f.ra, f.rb, f.rc] <|
          if isLocal s (reg x f.ra) = true ∧ inRegions s (ctxOfGang s g) (gOff (reg x f.ra)) (64 * reg x f.rc) = false
          then .raise 0x0E (reg x f.ra)
          else .done [.dm tk (.fill (reg x f.ra) (reg x f.rb) (reg x f.rc) (64 * reg x f.rc) 0)])) g))

/-- COLL, WAIT, WAIT1, WAITALL, STRUM and NOP complete. R96, R115, R116, R137, R140, R141, R142, R254. -/
def Obligations.CollAndSyncSlotsComplete : Prop :=
  (∀ (g : Nat) (f : DmFields) (s : State), SlotHolds s g .dm (encodeDm 0x07 f) → f.rb = 0 → f.rc = 0 → f.aux = 0 →
    let s1 := settle s g
    exec (.coll g f) s = .next (commitIfDone (descEffects s1 g f (slotPut s1 g .dm (slotOuts s1 g none f.gp f.gn fun _ _ x b =>
      let off := (sReg x f.ra.toNat).1.toNat
      let d := padWords8 x off
      if b = false then .done []
      else if mapGet 0 x.tick f.tk.toNat = 1 then .raise 0x08 f.tk.toNat
      else if (sReg x f.ra.toNat).2 = true then .raise 0x0A off
      else if off + 64 > padTop then .raise 0x04 off
      else if off % 64 ≠ 0 then .raise 0x03 off
      else if d.2 = true then .raise 0x0A off
      else match setRec s1 (cSet d.1) with
        | none => .raise 0x01 0
        | some r =>
          if collMember s1 g r = false ∨ collReservedZero d.1 = false ∨ cOp d.1 = 0 ∨ cOp d.1 > 5 ∨ cRop d.1 > 5
              ∨ cCount d.1 % 64 ≠ 0 ∨ cRoot d.1 ≥ r.members.length then .raise 0x01 0
          else match collPadFault s1 g r d.1 with
            | some o => .raise 0x04 o
            | none =>
              if cStaging d.1 % 4096 ≠ 0 then .raise 0x03 (cStaging d.1)
              else match collRegionFault s1 g r d.1 with
                | some o => .raise 0x0E o
                | none => .done [.dm f.tk.toNat (.coll (cSet d.1) d.1)]))) g))
  ∧ (∀ (g : Nat) (o : BitVec 11) (s : State),
    let dec := fun (ok : Prop) [Decidable ok] => if ok then (none : Option Nat) else some 0x01
    let r := fun (x : Tile) => sReg x (o.toNat / 64)
    (SlotHolds s g .sy (encodeSy 0x01 o) → exec (.wait g o) s = .next (slotRun (settle s g) g .sy (dec (o.toNat % 64 = 0)) 0 false
      fun _ _ x => if (r x).2 = true then .raise 0x0A (r x).1.toNat else .done [.wait ((r x).1.toNat % 2 ^ 32)]))
    ∧ (SlotHolds s g .sy (encodeSy 0x02 o) → exec (.wait1 g o) s = .next (slotRun (settle s g) g .sy (dec (o.toNat % 64 = 0)) 0 false
      fun _ _ _ => .done [.wait (2 ^ (o.toNat / 64))]))
    ∧ (SlotHolds s g .sy (encodeSy 0x04 o) → exec (.waitall g o) s = .next (slotRun (settle s g) g .sy (dec (o = 0)) 0 false
      fun _ _ _ => .done [.wait (2 ^ 32 - 1)]))
    ∧ (SlotHolds s g .sy (encodeSy 0x03 o) → exec (.strum g o) s = .next (slotRun (settle s g) g .sy (dec (o.toNat % 64 = 0)) 0 false
      fun _ _ x => if (r x).2 = true then .raise 0x0A (r x).1.toNat
        else match strumCheck (settle s g) g x (r x).1 with
          | some (code, info) => .raise code info
          | none => .done [.strum (r x).1])))
  ∧ (∀ (g : Nat) (sl : Slot) (s : State), exec (.nop g sl) s = .next s)

/-- BUNDLE_FETCH, RESULT_WRITEBACK, TICKET_WAIT_END, GANG_END_REPORT, SRAM_WORD_WRITEBACK and EXCEPTION_NOTIFICATION complete. R86, R94, R96, R101, R111, R122, R200. -/
def Obligations.GangEventsComplete : Prop :=
  (∀ (g : Nat) (us : Upsets) (s : State),
    (gangGet s g).phase = .running → (gangGet s g).opened = false → (gangGet s g).waits = [] → gangTiles s g ≠ [] →
    let s1 := settle (upsetTiles s us) g
    let pc := (gangGet s g).pc
    let s2 := if pc < 1536 then (gangTiles s g).foldl (fun a t => fetchEffects a t pc) s1 else s1
    (∀ e, fetchFault s1 g pc = some e → exec (.bundleFetch g us) s = .next (raiseExc s2 g e))
    ∧ (fetchFault s1 g pc = none → exec (.bundleFetch g us) s = .next (commitIfDone (gangMod s2 g fun G =>
        let b := bundleRead (tileGet s1 (at' 0 (gangTiles s g) 0)) pc
        { G with
          cycle := G.cycle + 1, bundle := b, opened := true, left := (bundleSlots b).1, buf := [], exc := (bundleSlots b).2
          taken := none }) g)))
  ∧ (∀ (g : Nat) (s : State), exec (.resultWriteback g) s
      = .next ((gangTiles s g).foldl (fun a t => tileSet a t (settleTile (gangGet s g).cycle (tileGet a t))) s))
  ∧ (∀ (g n : Nat) (s : State), (gangGet s g).waits ≠ [] →
      (∀ w ∈ (gangGet s g).waits, ∀ t ∈ gangTiles s g, ∀ k < 32, bitOf w.2 k = true → mapGet 0 (tileGet s t).tick k ≠ 1) →
      exec (.ticketWaitEnd g n) s = .next (gangSet (tilesMod s (gangTiles s g) fun x =>
        { x with cntWait := x.cntWait + BitVec.ofNat 64 n }) g { gangGet s g with waits := [] }))
  ∧ (∀ (g : Nat) (s : State), (gangGet s g).phase = .draining → gangPending s g = false →
      exec (.gangEndReport g) s = .next (finishIfDone (gangSet (tilesMod s (gangTiles s g) fun x =>
        { flushTile (gangGet s g).cycle x with tstate := .ready }) g {}) (gangCtx s g)))
  ∧ (∀ (t w : Nat) (s : State), w ∈ (tileGet s t).fix →
      exec (.sramWordWriteback t w) s = .next (tileSet s t (if w < padWords
        then padPut (tileGet s t) w (padWord (tileGet s t) w).1 ((tileGet s t).padPoison.contains w)
        else { ibufWriteBack (tileGet s t) (w - padWords) with fix := setErase (tileGet s t).fix w })))
  ∧ (∀ (g : Nat) (r : StepRun) (s : State), stepIn s (gangCtx s g) .running = some r → (gangGet s g).phase = .halted →
      (gangExc s g).2 ≠ 0 →
      let c := gangCtx s g
      let detail := (gangExc s g).1 * 2 ^ 16 + (gangExc s g).2
      exec (.exceptionNotification g) s = .next (raiseTrigger (stepFail (freezeGangs s c) c r 0x01 detail)
        ⟨1, false, c, 0x02, s.clock, 0x01, 0x20 + dieOfTile s (gangExc s g).1, detail⟩ (some c)))

/-- GLOBAL_LOAD_COMPLETE, GLOBAL_STORE_COMPLETE, FILL_COMPLETE and SEND_DISPATCH complete. R95, R138, R139, R198, R201, R203. -/
def Obligations.TicketedTransfersComplete : Prop :=
  ∀ (t tk : Nat) (s : State),
    let strict := isStrict s (ctxOfTile s t)
    (∀ a off n left w, opOf s t tk = some (.gld a off n left w) → isLocal s a = true →
      let ls := linesOf (gOff a) n
      exec (.globalLoadComplete t tk) s = .next (if strict = true ∧ ∃ l ∈ ls, (lineData s l).2.2 = true
        then strictHalt (linesReadEffects s ls) t tk
        else postTicket (tileMod (linesReadEffects s ls) t fun x => padPutWords x (off / 8) (ls.flatMap (lineWords s))) t tk
          (if (ls.flatMap (lineWords s)).any (·.2) then 3 else 2)))
    ∧ (∀ a off n left w, opOf s t tk = some (.gst a off n left w) → isLocal s a = true →
      let d := padSource (tileGet s t) off n
      let s1 := padReadEffects s t (off / 8) (n / 8)
      exec (.globalStoreComplete t tk) s = .next (if strict = true ∧ d.2.2 = true then strictHalt s1 t tk
        else postTicket (twinLines (storeLines s1 (gOff a) (n / 64) d.1 d.2.1).1 (ctxOfTile s t) (ownChip s) (gOff a) d.1
          fun k => ((d.2.1.drop (8 * k)).take 8).any id) t tk (if d.2.1.any id then 3 else 2)))
    ∧ (∀ a first n left w, opOf s t tk = some (.fill a first n left w) → isLocal s a = true → strict = false →
      let parts := (List.range n).map fun i => (first + i, memLoad s (gOff a + 64 * i) 64)
      exec (.fillComplete t tk) s = .next (postTicket (tileMod (linesReadEffects s (linesOf (gOff a) (64 * n))) t fun x =>
        parts.foldl (fun y p => ibufPut y p.1 (BitVec.ofNat 512 (ofBytes p.2.1)) (p.2.2.1 || p.2.2.2)) x) t tk
        (if parts.any fun p => p.2.2.1 || p.2.2.2 then 3 else 2)))
    ∧ (∀ a off n w, opOf s t tk = some (.gld a off n 0 w) → isLocal s a = false →
      exec (.globalLoadComplete t tk) s = .next (postTicket s t tk (if w = 0 then 2 else w)))
    ∧ (∀ a first n w, opOf s t tk = some (.fill a first n 0 w) → isLocal s a = false →
      exec (.fillComplete t tk) s = .next (postTicket s t tk (if w = 0 then 2 else w)))
    ∧ (∀ chip u ch off n issued, opOf s t tk = some (.send chip u ch off n issued false) →
      0 < txCredits (tileGet s t) chip u ch → sendFirst (tileGet s t) chip u ch issued = true →
      let d := padSource (tileGet s t) off n
      let c := ctxOfTile s t
      let s1 := padReadEffects s t (off / 8) (n / 8)
      exec (.sendDispatch t tk) s = .next (if strict = true ∧ d.2.2 = true then strictHalt s1 t tk
        else inject (twinItem (tileMod s1 t fun y => { (txSet y chip u ch (txCredits (tileGet s t) chip u ch - 1)) with
            ops := mapPut y.ops tk (.send chip u ch off n issued true) }) c
            ([2] ++ bytesOf 2 chip ++ bytesOf 1 ch ++ bytesOf 1 (bit (d.2.1.any id)) ++ d.1)) (portTile (dieOfTile s t))
          (finishPacket {
            dst := chip, src := ownChip s, srcCtx := c, kind := 0x05, srcTag := tk, dstTile := u, channel := ch
            origin := t, payload := d.1, poison := flitPoison n fun j => at' false d.2.1 (j / 8) })))

/-- CHANNEL_REQUEST, CHANNEL_ARBITRATION, BURST_LIMIT_EXPIRY, TRANSFER_COMPLETE, STARVATION_GRANT and REFRESH_DUE complete. R157, R158, R159, R160, R161, R162, R163, R165. -/
def Obligations.ChannelArbiterCommandsComplete : Prop :=
  ∀ (ch n : Nat) (s : State), ch < 256 →
    let s1 := chanPass s ch n
    let c := chanGet s1 ch
    (∀ ctx src lines id, ctx < 20 → src < 5 → 1 ≤ lines → lines ≤ 64 →
      exec (.channelRequest ch ctx src lines id n) s = .next (chanSet s1 ch
        (if inService c ⟨ctx, src, lines, id, c.cycle, c.cycle + 1⟩ = true
          then { c with queue := c.queue ++ [⟨ctx, src, lines, id, c.cycle, c.cycle + 1⟩] }
          else { c with pend := c.pend ++ [⟨ctx, src, lines, id, c.cycle, c.cycle + 1⟩] })))
    ∧ exec (.channelArbitration ch n) s = .next (gateEngine (chanDecide (chanPreempt s1 ch) ch) ch)
    ∧ (∀ g h, (chanGet s ch).grant = some g → n = grantLeft s ch g → c.grant = some h → h.moved = h.req.lines →
      exec (.transferComplete ch) s = .next (chanSet s1 ch (chanNext { c with grant := none } h.req)))
    ∧ (∀ g h, (chanGet s ch).grant = some g → n = grantLeft s ch g → c.grant = some h → h.moved = burstLimit s ch h.cls →
      h.moved < h.req.lines →
      exec (.burstLimitExpiry ch) s = .next (chanSet s1 ch { c with
        grant := none
        pend := c.pend ++ [{ h.req with lines := h.req.lines - h.moved, since := c.cycle, seen := c.cycle }] }))
    ∧ (∀ q, lotteryDue c = true → starveN s1 ch ≤ c.count + 1 → longestOf (c.pend.filter fun q => q.seen ≤ c.cycle) = some q →
      exec (.starvationGrant ch n) s
        = .next (regAdd (chanGrant s1 ch { c with count := 0 } q) (regChStarve (ch / 32) (ch % 32)) 1))
    ∧ (c.nextRefresh ≤ 16 * c.cycle → c.refreshDue = false →
      exec (.refreshDue ch n) s = .next (chanSet s1 ch { c with
        refreshDue := true, nextRefresh := c.nextRefresh + (if regField s (regRefresh (ch / 32)) 0 0 = 1 then 48750 else 97500) }))

/-- dockets arrive, start, execute by their type and complete; engine clocks restart and stalls are raised. R168, R169, R177, R178, R187, R188, R190, R425. -/
def Obligations.EngineCommandsComplete : Prop :=
  (∀ (t tk base issued : Nat) (ws : List Word) (s : State), opOf s t tk = some (.dock ws base issued false) →
    let e := 32 * dkStack ws + dkEngine ws
    let c := ctxOfTile s t
    let x := engGet s e
    dockFirst (tileGet s t) e issued = true →
    ((x.inReset = true ∨ c ∈ x.halted) →
      exec (.docketArrival t tk) s = .next (engFail (postTicket s t tk 5) e ⟨c, t, tk, ws, base⟩ 5 0))
    ∧ (x.inReset = false → c ∉ x.halted →
      (x.queue.filter fun q => q.ctx == c).length < regField s (regEngShare (e / 32) c) 31 28 →
      exec (.docketArrival t tk) s = .next (engSet (tileMod s t fun y => { y with ops := mapPut y.ops tk (.dock ws base issued true) }) e
        { x with queue := x.queue ++ [⟨c, t, tk, ws, base⟩] })))
  ∧ (∀ (e c : Nat) (d : Docket) (rest : List Docket) (s : State), (engGet s e).inReset = false → (engGet s e).running = none →
    engNext (engGet s e) = some c → takeFirst (fun d => d.ctx == c) (engGet s e).queue = some (d, rest) →
    let y := { engGet s e with
      queue := rest, running := some d, result := none, lastCtx := c, gated := false, lastMove := s.clock }
    exec (.docketStart e) s = .next (if c < 16 ∧ dkFormatsOk d.words = false
      then engFail (engSet s e { y with result := some 0xB }) e d 0xB 0 else engSet s e y))
  ∧ (∀ k ∈ ([(0x01, .loadv, runLoadv), (0x02, .matv, runMatv), (0x03, .attn, runAttn), (0x04, .gather, runGather),
      (0x05, .scatter, runScatter), (0x06, .reduce, runReduce), (0x07, .quant, runQuant), (0x08, .copy, runCopy),
      (0x09, .docketFill, runFill), (0x0A, .zero, runZero)] : List (Nat × (Nat → Instr) × (State → Docket → DkOut))),
    ∀ (e : Nat) (d : Docket) (s : State), (engGet s e).running = some d → (engGet s e).result = none → dkType d.words = k.1 →
      (engGet s e).inReset = false →
      let r := k.2.2 s d
      let s1 := engMod (regAdd (regAdd r.state (regEngLines (e / 32) (e % 32)) r.lines) (regEngMac (e / 32) (e % 32)) r.macs) e
        fun y => { y with result := some r.code, lastMove := s.clock, gated := false }
      let s2 := if 3 < r.code then engFail s1 e d r.code r.pos else s1
      exec (k.2.1 e) s = .next (if r.code = 0xA then engHalt s2 e d.ctx else s2))
  ∧ (∀ (e n : Nat) (d : Docket) (x : Scrub) (s : State), (engGet s e).running = some d → (engGet s e).result = none →
    s.scrub = some x → dkType d.words = 0x0B → (engGet s e).inReset = false → x.aborting = false →
    let top := x.last / 64
    let p := mapGet top x.left e
    let ls := scanLines s e top (top - p) n p
    let next := (ls.getLast?.map (· + 1)).getD p
    let r := ls.foldl scrubLine (s, x)
    exec (.docketScrub e n) s = .next (engMod (regAdd { r.1 with scrub := some { r.2 with left := mapPut r.2.left e next } }
      (regEngLines (e / 32) (e % 32)) ls.length) e fun y =>
        { y with lastMove := s.clock, result := if scanLines s e top (top - next) 1 next = [] then some 2 else none }))
  ∧ (∀ (e code : Nat) (d : Docket) (s : State), (engGet s e).running = some d → (engGet s e).result = some code →
    dkType d.words ≠ 0x0B →
    exec (.docketComplete e) s = .next (regAdd (engSet (dkPost s d code) e { engGet s e with running := none, result := none })
      (regEngDockets (e / 32) (e % 32)) 1))
  ∧ (∀ (e : Nat) (s : State), (engGet s e).gated = true →
    (engGet s e).gatedSince + (engGet s e).gatedTurn ≤ (chanGet s e).cycle + 16 →
    exec (.engineClockUngate e) s = .next (regAdd (engSet s e { engGet s e with gated := false })
      (regEngGated (e / 32) (e % 32)) (((chanGet s e).cycle - (engGet s e).gatedSince) * 96 / 125)))
  ∧ (∀ (e : Nat) (d : Docket) (s : State), (engGet s e).running = some d → (engGet s e).inReset = false →
    (engGet s e).lastMove + 10000000 ≤ s.clock →
    exec (.engineStall e) s = .next (raiseTrigger s ⟨2, true, e, 0x05, s.clock, 0, 0x10 + e / 32, e % 32⟩
      (if d.ctx < 16 then some d.ctx else none)))

/-- DRAM_LINE_READ, the two write-backs, ECC_LOG_CLEAR, SCRUB_START, SCRUB_ABORT and SCRUB_DONE complete. R159, R195, R200, R202, R205, R208, R209. -/
def Obligations.StoredDataCommandsComplete : Prop :=
  (∀ (l flips : Nat) (s : State), 64 * l < spaceBytes s →
    exec (.dramLineRead l flips) s = .next (lineReadEffects (upsetLine s l (flips % 2 ^ 576)) l))
  ∧ (∀ (l : Nat) (s : State), wbGranted s l = some ⟨l, false⟩ → exec (.correctionWriteback l) s = .next (makeWriteBack s l false))
  ∧ (∀ (l : Nat) (s : State), wbGranted s l = some ⟨l, true⟩ → exec (.poisonMarkInStore l) s = .next (makeWriteBack s l true))
  ∧ (∀ (mgmt : Bool) (i : Nat) (s : State), (mgmt = true ∨ HostOpen s) →
    (i < 8 → exec (.eccLogClear mgmt true i) s = .next ((List.range 32).foldl
      (fun a k => regSet (regSet a (regEccLogA i k) 0) (regEccLogB i k) 0) (regSet s (regEccLogStatus i) 0)))
    ∧ (i < 4 → exec (.eccLogClear mgmt false i) s = .next ((List.range 32).foldl
      (fun a k => regSet a (regDieEccLog i k) 0) (regSet s (regDieEccLogStatus i) 0))))
  ∧ (∀ (s : State), HostOpen s →
    let first := regField s regScbLo 47 0
    let last := regField s regScbHi 47 0
    (s.scrub ≠ none → exec .scrubStart s = .next (regPut s regScbStatus 2 0 6))
    ∧ (s.scrub = none → (first % 64 ≠ 0 ∨ last % 64 ≠ 0 ∨ last ≤ first ∨ spaceBytes s < last) →
      exec .scrubStart s = .next (regPut s regScbStatus 2 0 5))
    ∧ (s.scrub = none → first % 64 = 0 → last % 64 = 0 → first < last → last ≤ spaceBytes s →
      ∃ t, exec .scrubStart s = .next t ∧ t.scrub = some {
        first := first, last := last, plovco := none, start := s.clock, left := scrubChannels s first last, aborting := false
        lines := 0, corrected := 0, writtenBack := 0, uncorrectable := 0, alreadyPoisoned := 0, firstBad := 2 ^ 64 - 1
        lastBad := 2 ^ 64 - 1 })
    ∧ (∀ x, s.scrub = some x → exec .scrubAbort s = .next { s with scrub := some { x with aborting := true } }))
  ∧ (∀ (x : Scrub) (s : State), s.scrub = some x → x.left = [] →
    exec .scrubDone s = .next (scrubEnd s x (if x.aborting = true then 3 else 2)))

/-- head and flit arrivals, output allocation, tail timeouts, flit slots, strict windows, snapshots and reset ends complete. R213, R226, R227, R228, R231, R235, R238, R275. -/
def Obligations.RouterFlitCommandsComplete : Prop :=
  (∀ (port ctrl data : Nat) (s : State), port < 30 →
    (ctrlVc ctrl < 6 → (ctrlKind ctrl = 0 ∨ ctrlKind ctrl = 3) →
      exec (.packetHeadArrival port ctrl data) s = .next (headArrive s port (ctrl % 2 ^ 32) (data % 2 ^ 1024)))
    ∧ (ctrlVc ctrl < 6 → ctrlKind ctrl ≠ 0 → ctrlKind ctrl ≠ 3 →
      exec (.flitArrival port ctrl data) s = .next (flitArrive s port (ctrl % 2 ^ 32) (data % 2 ^ 1024)))
    ∧ (6 ≤ ctrlVc ctrl → isInternal port = true →
      let t := logEvent s 0x60 Config.strayFlitEvent 4 0xFF [port]
      ((ctrlKind ctrl = 0 ∨ ctrlKind ctrl = 3) → exec (.packetHeadArrival port ctrl data) s = .next t)
      ∧ (ctrlKind ctrl ≠ 0 → ctrlKind ctrl ≠ 3 → exec (.flitArrival port ctrl data) s = .next t)))
  ∧ (∀ (port vc i : Nat) (s : State), port < 30 → vc < 6 → (outGet s port vc).owner = none →
    (((List.range 30).map fun k => ((outGet s port vc).lastIn + 1 + k) % 30).find? fun k => (askers s port vc).contains k) = some i →
    exec (.outputAllocate port vc) s = .next (inSet (outSet s port vc { outGet s port vc with
      owner := some (pvKey i vc), lastIn := i, tag := ((outGet s port vc).tag + 1) % 4096 }) i vc
      (headWorm (fun w => { w with branches := w.branches.map fun b => if b.port = port ∧ b.done = false then { b with held := true } else b })
        (inGet s i vc))))
  ∧ (∀ (port vc : Nat) (w : Worm) (ws : List Worm) (s : State), (inGet s port vc).worms = w :: ws → wormBegun w = true → w.flits = [] →
    w.ended = false → w.since + 1000 * regField s regFabCtrl 41 32 ≤ s.clock →
    exec (.tailTimeout port vc) s = .next (inSet s port vc { inGet s port vc with worms := cutWorm w :: ws, orphan := some w.tag }))
  ∧ (∀ (port vc : Nat) (f : Flit) (t u : State) (s : State), port < 30 → isInternal port = true →
    (mapGet (0, 0) s.router.strict port).2 < 64 → pickVc (countStalls s port) port = some (vc, t) → sendFlit t port vc = some (f, u) →
    exec (.flitSlotSchedule port) s = .next (emit u (.flit port vc f.ctrl f.data)))
  ∧ (∀ (port : Nat) (s : State), 64 ≤ (mapGet (0, 0) s.router.strict port).2 →
    exec (.strictWindowEnd port) s = .next { s with router := { s.router with strict := mapDel s.router.strict port } })
  ∧ (∀ (ports : Nat) (s : State), HostOpen s → exec (.fabSnapshot ports) s = .next ((setBits 30 ports).foldl latchHost s))
  ∧ (∀ (port : Nat) (s : State), portState s port = 7 →
    exec (.linkResetComplete port) s = .next (if isInternal port = true then setPortState s port 2 else showState s port))

/-- delivered memory, channel and credit packets take effect and are answered. R139, R198, R201, R203, R204, R214, R215, R229, R260. -/
def Obligations.DeliveredPacketsComplete : Prop :=
  ∀ (p : Packet) (s : State),
    let t := p.dstTile
    let tk := p.srcTag % 32
    (p.kind = 0x01 → exec (.memoryWriteArrival p) s =
      let s1 := writeLines (rangeMark p) (p.bytes / 64 + 2) s p.offset 0 (carriedLines p)
      .next (inject s1 (memPortOf s p.offset) (ackPacket s1 p (if p.cut = true then 1 else if payloadPoisoned p = true then 2 else 0))))
    ∧ (p.kind = 0x02 → exec (.memoryReadRequest p) s
        = .next (inject (linesReadEffects s (linesOf p.offset p.bytes)) (memPortOf s p.offset) (readResponse s p)))
    ∧ (∀ a off n left w, p.kind = 0x03 → t < 0xFFFE → opOf s t tk = some (.gld a off n left w) →
      exec (.readResponseArrival p) s = .next (if p.status = 3 ∧ isStrict s (ctxOfTile s t) = true then strictHalt s t tk
        else answerPiece (tileMod s t fun x => padPutWords x (off / 8 + 512 * (p.srcTag / 32)) (packetWords p)) t p.srcTag
          (if p.cut = true ∨ p.status = 1 then 6 else if p.status ≠ 0 ∨ payloadPoisoned p = true then 3 else 2)))
    ∧ (∀ a f n left w, p.kind = 0x03 → t < 0xFFFE → p.status ≠ 3 → opOf s t tk = some (.fill a f n left w) →
      exec (.readResponseArrival p) s = .next (answerPiece (tileMod s t fun x => (List.range (p.bytes / 64)).foldl (fun y i =>
          ibufPut y (f + 64 * (p.srcTag / 32) + i) (BitVec.ofNat 512 (ofBytes (slice (carried p) (64 * i) 64))) (rangeMark p (64 * i))) x)
        t p.srcTag (if p.cut = true ∨ p.status = 1 then 6 else if p.status ≠ 0 ∨ payloadPoisoned p = true then 3 else 2)))
    ∧ (∀ c u h o n i, p.kind = 0x04 → t < 0xFFFE → opOf s t tk = some (.send c u h o n i true) →
      exec (.writeAckArrival p) s = .next (answerPiece s t p.srcTag (if p.status = 1 then 6 else if p.status = 2 then 3 else 2)))
    ∧ (∀ a off n left w, p.kind = 0x04 → t < 0xFFFE → opOf s t tk = some (.gst a off n left w) →
      exec (.writeAckArrival p) s = .next (answerPiece s t p.srcTag (if p.status = 1 then 6 else if p.status = 2 then 3 else 2)))
    ∧ (∀ a off n left w, p.kind = 0x07 → t < 0xFFFE → bitsOf (extWord p 0) 47 43 ≠ 9 → opOf s t tk = some (.gst a off n left w) →
      exec (.refusalArrival p) s
        = .next (answerPiece s t p.srcTag (if p.status = 4 then 0xC else if p.status = 7 then 0x7 else 0x5)))
    ∧ (p.kind = 0x05 → twinCut p = false → chanRec s t p.channel = none →
      exec (.channelMessageArrival p) s = .next (refusePacket s p 0x03))
    ∧ (∀ r, p.kind = 0x05 → twinCut p = false → chanRec s t p.channel = some r → isSender r p = true → p.bytes ≤ r.slot →
      let m := (rxGet (tileGet s t) p.channel).landed
      let s1 := tileMod s t fun x =>
        let y := padPutWords x ((r.base + m % r.depth * r.slot) / 8) (packetWords p)
        { y with rx := mapSet {} y.rx p.channel { rxGet y p.channel with
          landed := m + 1, codes := (rxGet y p.channel).codes ++ [if p.cut then 6 else if payloadPoisoned p then 3 else 2] } }
      let s2 := tileMod s1 t fun x => x.ops.foldl (fun y e => match e.2 with
        | .recv h n => if h = p.channel then recvDone y e.1 h n else y
        | _ => y) x
      exec (.channelMessageArrival p) s = .next (inject s2 (portTile (dieOfTile s t)) (ackPacket s2 p (ackStatus p))))
    ∧ (p.kind = 0x06 → p.channel ≠ 0xFF → exec (.channelCreditArrival p) s = .next (tileMod s t fun x =>
      txSet x p.src p.origin p.channel (if bitOf (extWord p 0) 55 = true then bitsOf (extWord p 0) 63 56
        else txCredits x p.src p.origin p.channel + bitsOf (extWord p 0) 63 56)))
    ∧ (p.kind = 0x06 → p.channel = 0xFF → exec (.slotCreditArrival p) s = .next (collCredit s p))

/-- system messages, strum packets and collective events complete. R216, R244, R246, R247, R248, R254, R260, R261, R263, R264, R265, R466. -/
def Obligations.MessagesAndCollectivesComplete : Prop :=
  (∀ (p : Packet) (s : State),
    (p.kind = 0x0B → p.cut = false → bitsOf (extWord p 0) 63 48 = 1 → exec (.echoRequest p) s = .next (inject s portSteward
      (finishPacket { dst := p.src, src := ownChip s, kind := 0x0B, payload := p.payload, ext := [BitVec.ofNat 64 (2 * 2 ^ 48 + extWord p 0 % 2 ^ 32)] })))
    ∧ exec (.echoReply p) s = .next s
    ∧ (p.kind = 0x0B → p.cut = false → bitsOf (extWord p 0) 63 48 = 3 →
      exec (.resetNotice p) s = .next (logEvent s 1 0x3004 2 0xFF [p.src, numAt p.payload 0 1, numAt p.payload 4 8]))
    ∧ (p.kind = 0x0B → p.cut = false → (bitsOf (extWord p 0) 63 48 = 0 ∨ 3 < bitsOf (extWord p 0) 63 48) →
      exec (.unknownSystemMessage p) s = .next (logEvent s 1 0x3005 3 0xFF [p.src, bitsOf (extWord p 0) 63 48]))
    ∧ (p.kind = 0x08 → p.cut = false → exec (.strumPartialArrival p) s = .next (strumPartial s p))
    ∧ (p.kind = 0x08 → p.cut = false → strumType p = 2 → exec (.strumResultArrival p) s = .next (resultArrive s p))
    ∧ (p.kind = 0x09 → twinCut p = false → exec (.chunkArrival p) s = .next (collArrive s p)))
  ∧ (∀ (k m : Nat) (s : State), exec (.strumWaitExpiry k) s = .next (strumExpire s k)
    ∧ exec (.strumDeadline k m) s = .next (deadlinePass s k m)
    ∧ exec (.collQueuedStart k m) s = .next (collQueued s k m)
    ∧ exec (.chunkSend k m) s = .next (collSend s k m))
  ∧ (∀ (k m : Nat) (run : CollRun) (s : State), runGet s k m = some run →
    (collFinished run = true → run.contributed = false → exec (.guardContribution k m) s = .next (collGuard s run))
    ∧ (∀ r, setRec s k = some r → run.contributed = false → run.start + 1000 * r.deadlineUs ≤ s.clock →
      exec (.collectiveDeadline k m) s = .next (collStop s run 8))
    ∧ (∀ b r, run.stopBy = some b → b ≤ s.clock → atBoundary s (gangCtx s m) = false →
      let s1 := routerCtxReset (regAdd s regColPreemptCut 1) (gangCtx s m)
      stepFind s1 (gangCtx s m) (fun r => r.phase == .running && r.aborted) = some r →
      exec (.preemptionBoundExpiry k m) s = .next (abortStop s1 (gangCtx s m) r))
    ∧ (∀ b r, run.stopBy = some b → atBoundary s (gangCtx s m) = true →
      stepFind s (gangCtx s m) (fun r => r.phase == .running && r.aborted) = some r →
      exec (.preemptionBoundExpiry k m) s = .next (abortStop s (gangCtx s m) r)))

/-- stocktakes, markers, frames, replays, sealed packets and Quiet on a link complete. R41, R224, R225, R226, R275, R276, R284, R288, R289, R292. -/
def Obligations.LinkFramesAndStocktakesComplete : Prop :=
  (∀ (port : Nat) (s : State), port < 30 → (mkGet s port).due ≤ s.clock →
    exec (.stocktakeTimer port) s = .next (sendMarker s port false))
  ∧ (∀ (mgmt : Bool) (ports : Nat) (s : State), (mgmt = true ∨ HostOpen s) →
    exec (.fabStocktake mgmt ports) s = .next ((setBits 30 ports).foldl (fun a p => sendMarker a p true) s))
  ∧ (∀ (port msg : Nat) (errs : List Nat) (s : State), port < 30 → isInternal port = true →
    exec (.stocktakeMarkerReceive port msg errs) s
      = .next (takeMarker s port (bytesOf 128 (((slotsOf msg)[0]?).getD emptySlot).data)))
  ∧ (∀ (port : Nat) (s : State), port < 30 →
    let bad := (List.range 6).filter fun v => (packetSides s port v).1 != (packetSides s port v).2
    bad ≠ [] → exec (.packetIdentityCheck port) s = .next (linkReset (regPut (bad.foldl (fun a v =>
      logEvent a 0x60 0x3002 4 0xFF [port, v, (packetSides s port v).1, (packetSides s port v).2]) s) (regPortStatus port) 7 7 1) port))
  ∧ (∀ (port msg : Nat) (errs : List Nat) (t : State) (s : State), linkUp s port = true → frameTake s port msg errs = (t, true) →
    ((headerOf msg).ftype = 0 → exec (.dataFrameReceive port msg errs) s =
      .next (((slotsOf msg).filter (· != emptySlot)).foldl (fun a f => flitIn a port f)
        (lpMod t port fun x => { x with quietSent := false, quietGot := false, busy := s.clock })))
    ∧ ((headerOf msg).ftype = 1 → exec (.idleFrameReceive port msg errs) s = .next t)
    ∧ ((headerOf msg).ftype = 2 → port < 30 → isInternal port = false → exec (.stocktakeMarkerReceive port msg errs) s
        = .next (takeMarker t port (bytesOf 128 (((slotsOf msg)[0]?).getD emptySlot).data)))
    ∧ ((headerOf msg).ftype = 4 →
      let t1 := lpMod t port fun x => { x with quietGot := true }
      exec (.quietEntryReceive port msg errs) s
        = .next (if quietMeets t1 port = true ∧ (lpGet t1 port).quietSent = false then sendQuiet t1 port else t1)))
  ∧ (∀ (port : Nat) (f : TxFrame) (fs : List TxFrame) (s : State), linkUp s port = true → (lpGet s port).replay = f :: fs →
    canSend s port = false → exec (.replayBufferFull port) s = .next (replayStart s port f.seq))
  ∧ (∀ (port vc ctr : Nat) (pkt flits : List Flit) (rest : List Flit) (l : Flit) (s : State),
    firstHeld (mapGet [] (lpGet s port).sealRx vc) = some (pkt, rest) → sealOpen s pkt = some (flits, ctr) → pkt.getLast? = some l →
    let src := (pkt.head?.map fun f => (headOf f.data).src).getD 0
    let s1 := lpMod s port fun x => { x with sealRx := mapSet [] x.sealRx vc rest }
    let seen := mapPut s1.link.sealSeen src (sealSee ((mapFind s.link.sealSeen src).getD ⟨0, []⟩) ctr)
    exec (.sealedPacketCheck port vc) s = .next (takeFlit (flits.foldl (fun a f =>
        if isHead f = true then headArrive a port f.ctrl f.data else flitArrive a port f.ctrl f.data)
      { s1 with link := { s1.link with sealSeen := seen } }) port l))
  ∧ (∀ (port vc : Nat) (pkt rest : List Flit) (s : State), firstHeld (mapGet [] (lpGet s port).sealRx vc) = some (pkt, rest) →
    sealOpen s pkt = none →
    let s1 := lpMod s port fun x => { x with sealRx := mapSet [] x.sealRx vc rest }
    exec (.sealedPacketCheck port vc) s = .next (logEvent (regAdd (pkt.foldl (fun a f => takeFlit a port f) s1) (regPrtSealFail port) 1)
      (0x40 + port) 0x5002 3 0xFF [port, (pkt.head?.map fun f => (headOf f.data).src).getD 0]))
  ∧ (∀ (port : Nat) (s : State), port < 18 →
    (quietMeets s port = true → (lpGet s port).quietSent = false → exec (.quietIdleTimeout port) s = .next (sendQuiet s port))
    ∧ (prtPhase s port = 8 → portState s port = 2 → (lpGet s port).quietSent = true → (lpGet s port).quietGot = true →
      quietFree s port = true → exec (.quietPowerDown port) s
        = .next (setPhase (regAdd (lpSet s port { lpGet s port with quietSince := s.clock }) (regPrtQuiet port) 1) port 9))
    ∧ (prtPhase s port = 9 → quietFree s port = false → exec (.quietWake port) s = .next (wakePort s port)))

/-- the training ladder's events, retrains, holds and wake-ups complete. R271, R277, R279, R280, R281, R282, R283, R284, R287, R289. -/
def Obligations.TrainingCommandsComplete : Prop :=
  (∀ (port : Nat) (s : State), port < 18 →
    let x := lpGet s port
    (linkUp s port = true → (16 ≤ x.replays ∨ 1000 < x.uncorrAt.length) → exec (.retrainTrigger port) s = .next (retrain s port))
    ∧ (x.ck = true → exec (.ckLoss port) s = .next (retrain (lpMod s port fun y => { y with ck := false }) port))
    ∧ (∀ mgmt : Bool, (mgmt = true ∨ HostOpen s) → prtPhase s port ≠ 0 → exec (.portRetrain mgmt port) s = .next (retrain s port))
    ∧ (7 ≤ prtPhase s port → exec (.neighbourTraining port) s = .next (retrain s port))
    ∧ (3 ≤ regField s regStwBoot 63 60 → regField s regStwBoot 63 60 ≤ 7 → prtPhase s port = 0 → x.ck = false →
      exec (.ckReceived port) s = .next (setPhase (lpMod s port fun y => { y with ck := true }) port 1))
    ∧ (prtPhase s port = 1 → exec (.ckLockDone port) s = .next (sendBurst (lpMod (regPut (setPhase s port 2) (regPrtStatus port) 59 58 1)
      port fun y => { y with stage := 0 }) port (List.range 8)))
    ∧ (∀ slips marks, (prtPhase s port = 2 ∨ (prtPhase s port = 4 ∨ prtPhase s port = 5) ∧ x.stage = 0) →
      exec (.laneAlignmentDone port slips marks) s = .next (showLanes (setPhase (lpSet s port { x with
        stage := 1, align := mapPut x.align (phaseRung (prtPhase s port)) (alignLanes slips marks) }) port
        (if prtPhase s port = 2 then 3 else prtPhase s port)) port (phaseRung (prtPhase s port)) 0))
    ∧ (∀ symbols wrong, 3 ≤ prtPhase s port → prtPhase s port ≤ 5 → x.stage = 1 →
      let rung := phaseRung (prtPhase s port)
      let mask := ((setBits 8 (alignedMask x rung)).filter fun q => at' 0 wrong q * 100000 ≤ symbols).foldl (fun a q => a + 2 ^ q) 0
      let s1 := sendIdentity (showLanes (lpSet s port { x with stage := 2, pass := mapPut x.pass rung mask }) port rung 0) port
      exec (.rungMeasureDone port symbols wrong) s = .next (if farPass x rung ≠ 0 then exchanged s1 port else s1))
    ∧ (prtPhase s port = 6 → exec (.rungDecision port) s = .next (decideRung s port))
    ∧ (prtPhase s port = 7 → exec (.portActive port) s
      = .next (sendMarker (setPhase (lpMod (restorePools s port) port fun y => { linkCleared y with busy := s.clock }) port 8) port false))
    ∧ (∀ mgmt : Bool, (mgmt = true ∨ HostOpen s) → exec (.portRelease mgmt port) s = .next (reconsider s port))
    ∧ (prtPhase s port = 10 → x.idSent + 1000000000 ≤ s.clock → exec (.identityResend port) s = .next (sendIdentity s port))
    ∧ (∀ slips marks, prtPhase s port = 9 → exec (.wakeBurstDetect port true slips marks) s = .next (wakePort s port)))
  ∧ (∀ (port msg : Nat) (errs : List Nat) (t : State) (s : State), linkUp s port = true → (headerOf msg).ftype = 3 →
    frameTake s port msg errs = (t, true) →
    let bs := bytesOf 128 (((slotsOf msg)[0]?).getD emptySlot).data
    recordOk bs = true → ¬ (3 ≤ prtPhase (storeRecord t port bs) port ∧ prtPhase (storeRecord t port bs) port ≤ 5) →
    exec (.identityFrameReceive port msg errs) s = .next (recheck (storeRecord t port bs) port))

/-- time requests, replies, timeouts, holdover and the standby root's takeover complete. R306, R307, R309, R310, R311. -/
def Obligations.TimeTransferCommandsComplete : Prop :=
  (∀ (port part : Nat) (b : Bool) (s : State), edgeOf s port = some b → droneRole s ≠ 1 → droneState s ≠ 0 → droneState s ≠ 4 →
    timePortOpen s port = true → ((edgeGet s b).sentAt = 0 ∨ (edgeGet s b).sentAt + 1000000 ≤ s.clock) →
    let e := edgeGet s b
    let s1 := if e.waiting = true then skipExchange s b else s
    let s2 := edgeSet s1 b { edgeGet s1 b with seq := (e.seq + 1) % 256, t1 := droneStamp s part, sentAt := s.clock, waiting := true }
    let s3 := lpMod (wakePort s2 port) port fun x => { x with timeSpoilt := false }
    exec (.timeTransferTimer port part) s
      = .next (newFrame s3 port 5 [⟨0, ofBytes (timeRecord s3 1 ((e.seq + 1) % 256) (droneStamp s part) 0 0 0)⟩]))
  ∧ (∀ (port msg part : Nat) (errs : List Nat) (r : Bool) (bs : List Byte) (t s : State), linkUp s port = true →
    (headerOf msg).ftype = 5 → timeFrame s port msg errs = (t, some (bs, r)) →
    let bs0 := bytesOf 128 (((slotsOf msg)[0]?).getD emptySlot).data
    (numAt bs0 2 1 = 1 → timeOk bs = true → timePortOpen t port = true →
      let s2 := wakePort (noteLocked t port bs) port
      exec (.timeRequestReceive port msg errs part) s = .next (newFrame s2 port 5 [⟨0, ofBytes
        (timeRecord s2 2 (numAt bs 3 1) (droneStamp s2 part) (droneStamp s2 part) (stampAt bs 8 16) (numAt bs 48 8))⟩]))
    ∧ (∀ b, numAt bs0 2 1 = 2 → edgeOf t port = some b → (edgeGet t b).waiting = true → droneState t ≠ 0 → droneState t ≠ 4 →
      timeOk bs = true → numAt bs 3 1 = (edgeGet t b).seq → stampAt bs 32 40 = (edgeGet t b).t1 → r = false →
      (lpGet t port).timeSpoilt = false → rootOk t (numAt bs 4 2) = true → (numAt bs 7 1 = 2 ∨ numAt bs 7 1 = 4) →
      t.clock < (edgeGet t b).sentAt + 100000 →
      exec (.timeReplyReceive port msg errs part) s = .next (validExchange (noteLocked t port bs) b bs (droneStamp t part)))
    ∧ (∀ b, numAt bs0 2 1 = 2 → edgeOf t port = some b → (edgeGet t b).waiting = true → droneState t ≠ 0 → droneState t ≠ 4 →
      (edgeGet t b).sentAt + 100000 ≤ t.clock → exec (.timeReplyReceive port msg errs part) s = .next (skipExchange t b)))
  ∧ (∀ (port : Nat) (b : Bool) (s : State), edgeOf s port = some b → (edgeGet s b).waiting = true →
    (edgeGet s b).sentAt + 100000 ≤ s.clock → exec (.exchangeTimeout port) s = .next (skipExchange s b))
  ∧ (∀ (s : State), droneState s = 2 → (edgeGet s (droneSwapped s)).valid + 3000000 ≤ s.clock →
    (edgeGet s (!droneSwapped s)).valid = 0 →
    exec .holdoverEntry s = .next (regPut { s with drone := { s.drone with holdSince := s.clock } } regDroneStatus 2 0 3))
  ∧ (∀ (s : State), droneState s = 3 → s.drone.holdSince + 1000000000 < s.clock →
    exec .holdoverLong s = .next (regPut s regDroneStatus 5 5 1))
  ∧ (∀ (s : State), droneRole s = 2 → droneState s ≠ 0 → droneState s ≠ 4 → s.drone.parent.valid + 100000000 ≤ s.clock →
    s.drone.backup.valid + 100000000 ≤ s.clock →
    exec .standbyRootTakeover s = .next (becomeRoot s))

/-- applying a Pattern, delivering its images, pulling blocks, PLL locks and the contract check complete. R46, R313, R316, R318, R320, R321, R323, R324, R386. -/
def Obligations.PatternAndImageCommandsComplete : Prop :=
  (∀ (lpkg : Nat) (s : State), HostOpen s → exec (.patternApply lpkg) s = .next (
    let t := if (applyBusy s || !streamPlaced s) = true then s else linesReadEffects s (linesOf (streamOff s) (streamLen s))
    match checkPattern s lpkg with
    | .error r => refusePattern t r
    | .ok (p, secs) => applyPattern t p secs))
  ∧ (∀ (p : Pattern) (s : State), s.plan.pattern = some p → s.plan.imagesSent = false →
    let t := (p.images.zip (List.range p.images.length)).foldl (fun a e => (imageDies a e.2).foldl (fun b d =>
      (List.range (imageBlocks e.1)).foldl (fun z i => inject z portSteward (imagePacket z d e.2 i e.1)) b) a) s
    exec .imageDelivery s = .next (imageCount { t with plan := { t.plan with imagesSent := true } }))
  ∧ (∀ (p : Packet) (s : State), p.kind = 0x0A → p.cut = false → payloadPoisoned p = false →
    sha384 p.payload = (List.range 6).flatMap (fun w => bytesOf 8 (extWord p (1 + w))) →
    exec (.imageBlockArrival p) s = .next (((allTiles s).filter (tileUses s (dieOfTile s p.dstTile) (bitsOf (extWord p 0) 63 48))).foldl
      (fun a t => match imageOf a t with
        | some (_, m) => if bitsOf (extWord p 0) 47 32 < imageBlocks m then tileMod a t (blockStore m (bitsOf (extWord p 0) 47 32) p.payload) else a
        | none => a) s))
  ∧ (∀ (tile image : Nat) (lost : List Nat) (m : ImageRec) (s : State), imageOf s tile = some (image, m) → s.plan.imagesSent = true →
    (tileGet s tile).loaded = false →
    let got := (missingBlocks m (tileGet s tile)).filter fun i => !lost.contains i && blockSound m i
    let t := regSatAdd (tileMod s tile fun x => got.foldl (fun y i => blockStore m i (at' [] m.blocks i) y) x) regPlnImage 15 0 got.length
    missingBlocks m (tileGet t tile) = [] → ofBytes (sha384 (m.blocks.flatMap id)) = m.digest →
    exec (.imageBlockPull tile lost) s = .next (imageCount (tileMod t tile fun x => { x with loaded := true })))
  ∧ (∀ (tile : Nat) (s : State), exec (.tilePllLock tile) s
    = .next (tileMod s tile fun x => if x.tstate = .waking then { x with tstate := .ready } else x))
  ∧ (∀ (s : State), HostOpen s → exec .contractCheck s = .next (contractCheck s))

/-- the plan scan, wakes, votes, timeouts, ramp fill, starts, classes, aborts and deadlines of a step complete. R325, R326, R327, R328, R329, R330, R331, R386. -/
def Obligations.StepEventsComplete : Prop :=
  (∀ (s : State), isReady s = true → stewardRuns s = true → s.plan.scanned + 2000 ≤ s.clock → exec .planScan s = .next (planScan s))
  ∧ ∀ (c : Nat) (s : State),
    (∀ r, stepFind s c (fun r => !r.woken && effStart s r ≤ droneNs s + 1000 * r.wakeUs) = some r →
      let t := stepPut s c { r with woken := true }
      exec (.stepWake c) s = .next (tilesMod t ((stepGangs r).flatMap (gangTiles t)) fun x =>
        if x.tstate = .off then { x with tstate := .waking } else x))
    ∧ (∀ r, stepIn s c .accepted = some r → r.start ≤ droneNs s + readyLeadNs s →
      let v := contribute (resyncVote s r.step) (((ctxRec s c).map (·.readyGroup)).getD 0) (bit (stepReady s c r) + 2 * bit !r.aborted)
      exec (.readinessVote c) s = .next (stepPut v.1 c { r with phase := .voting, gen := v.2 }))
    ∧ (∀ r, stepIn s c .voting = some r → r.start ≤ droneNs s + 1000 →
      exec (.readinessResultTimeout c) s = .next (stepEnd s c r 4 0x06 0xFFFF))
    ∧ (∀ p r, s.plan.pattern = some p → stepIn s c .ready = some r → bitOf r.flags 0 = true → r.ramp = false →
      effStart s r ≤ droneNs s + p.rampNs → exec (.rampFillStart c) s = .next (stepPut s c { r with ramp := true }))
    ∧ (∀ r, stepIn s c .ready = some r → effStart s r ≤ droneNs s → unlockedTile s r = none → r.aborted = false →
      let q := { r with phase := .running }
      exec (.stepStart c) s = .next (classBegin (resyncStart (writeReport (stepClear (stepPut s c q) c) c q (droneNs s)) r.step) c q 0))
    ∧ (∀ r, stepIn s c .running = some r → r.classes < 8 → effStart s r + 250 * r.classes ≤ droneNs s →
      exec (.staggerClassStart c) s = .next (classBegin s c r r.classes))
    ∧ (HostOpen s → exec (.stepAbort c) s = .next (stepAbort (c % 16) (regGet s regPlnAbortStep).toNat s))
    ∧ (∀ r, stepIn s c .running = some r → r.deadline ≤ droneNs s → exec (.stepDeadline c) s = .next (raiseTrigger
        (stepFail (freezeGangs s c) c r 0x02 0) ⟨1, false, c, 0x01, s.clock, 0x02, 1, 0⟩ (some c)))

/-- the start paths' steps, the Assay, the readiness decision and Warrant installation complete. R335, R336, R337, R338, R339, R340, R341, R345, R346, R348, R415, R454. -/
def Obligations.BringUpCommandsComplete : Prop :=
  ∀ (s : State),
    (∀ slot, s.pins.aux = false → exec (.auxPowerGood slot) s = .next (flashMod (bring (latchSlot { s with pins := { s.pins with aux := true } } slot)
      fun b => { b with pathStart := s.clock }) fun f => { f with powerOns := f.powerOns + 1 }))
    ∧ (s.pins.held = true → s.pins.stopped = false → exec .inputPowerGood s
      = .next (bring { s with pins := { s.pins with input := true, held := false } } fun b => { b with pathStart := s.clock }))
    ∧ (∀ decayed, s.pins.aux = true → s.pins.held = false → bootPhase s = 0 → s.fw.booted = none →
      let t := romBoot s decayed true
      exec (.romBoot decayed) s = .next (if t.fw.booted = none then portsDark (setBoot t 8) else setBoot (takeForce t true) 1))
    ∧ (∀ puf lost, bootPhase s = 1 →
      let s1 := [0, 1].foldl (fun a i => if (slotGet a i).state = 1 then slotState a i 7 else a) s
      let s2 := settingsApply (settingsChoose s1 lost)
      let s3 := match identityFault s2 puf with
        | some (i, c) => logEvent (bring s2 fun b => { b with identityOk := false }) 1 0x0002 4 0xFF [i, c]
        | none => bring s2 fun b => { b with identityOk := true }
      exec (.recordVerify puf lost) s
        = .next (setBoot (regPut (showMend (warrantsEffect (mendLoad s3 lost))) regHstSteward 63 62 1) 2))
    ∧ (bootPhase s = 2 → s.pins.input = true →
      exec .railBringup s = .next (setBoot (if (powerFloor s).power.hold = true then forceFloor (powerFloor s) else powerFloor s) 3))
    ∧ (∀ failed, bootPhase s = 3 → exec (.stackTraining failed) s
      = .next (setBoot (bring (allStacks.foldl (fun a n => regPut a (regStkId n) 4 3 1) s) fun b =>
        { b with stacksTrained := true, stackFail := b.stackFail ||| failed % 256 }) 4))
    ∧ (∀ lines base, bootPhase s = 4 → s.bring.stacksTrained = true → s.bring.stackAssay = false →
      let s1 := memClear (lines.foldl assayLine (allStacks.foldl (fun a n => stackLogClear (regPut a (regEccCtrl n) 0 0 1) n) s))
      let bad := (lines.filter fun l => (lineDecode l.2).kind.bad).map (·.1)
      let dram := (allStacks.filter fun n => 16 < ((bad.filter fun l => chanOfLine s l / 32 == n).eraseDups).length).foldl (fun a n => a + 2 ^ n) 0
      exec (.stackAssay lines base) s = .next (bring s1 fun b =>
        { b with stackAssay := true, stackFail := b.stackFail ||| base % 256 ||| dram }))
    ∧ (∀ cores dies unsound, bootPhase s = 4 → s.bring.stacksTrained = true → s.bring.tileAssay = false →
      let s1 := allDies.foldl (fun a d => dieLogClear (regPut a (regDieEccCtrl d) 0 0 1) d) s
      let s2 := if mendGrown s1 cores = s1.bring.mend.entries then s1 else mendWrite s1 (mendGrown s1 cores)
      exec (.tileAssay cores dies unsound) s = .next (showMend (bring (flashMod s2 fun f => { f with removals := [] }) fun b =>
        { b with proposals := [], tileAssay := true, dieFail := b.dieFail ||| dies % 16, unserviceable := b.unserviceable || unsound })))
    ∧ (bootPhase s = 4 → s.bring.stackAssay = true → s.bring.tileAssay = true →
      (s.bring.unserviceable = true → exec .serviceable s = .next (portsDark (setBoot s 8)))
      ∧ (s.bring.unserviceable = false → s.bring.resetAfter = false →
        let s1 := showStacks (setBoot (setCorrections s 0) 5) (regField s regSecWarrant 55 48)
        exec .serviceable s = .next (setPatternW (warrantPower s1) (warrantMax s1))))
    ∧ (isServiceable s = true → isReady s = false → s.bring.warm = false →
      (checksPass s = true → exec .readinessDecision s = .next (eventAppend (twinReturns (setCorrections (setBoot
        (regSet s regStwReady (BitVec.ofNat 64 (2 ^ 63 + readyFaults s))) 7) 0)) 4 0xFF 0 0 0 0))
      ∧ (checksPass s = false → exec .readinessDecision s = .next (setBoot
        (regSet s regStwReady (BitVec.ofNat 64 (readyFaults s))) (if s.plan.pattern.isSome = true then 6 else 5))))
    ∧ (∀ failed lost, s.bring.warm = true → failed % 256 = 0 → (mendPick s lost).isSome = true → s.clock ≤ s.bring.pathStart + 3000000000 →
      exec (.warmPath failed lost) s = .next (warmDone s lost))
    ∧ (HostOpen s → stagedOk s = true → exec (.warrantInstall .host) s = .next (recordTake
      (linesReadEffects s (linesOf (regField s regSecRecord 47 0) (regField s regSecRecord 63 48))) (stagedRecord s) warrantTake))
    ∧ (∀ r bs t, Asks s r 0x31 → pieceFormed r.body = true → pieceArrive (sessionTouch s r.session) r 0x31 = (some bs, t) →
      let b := recordTake t bs warrantTake
      exec (.warrantInstall (.plovco r)) s = .next (reply b r 0x31 (if regField b regSecStatus 63 62 = 3 then 4 else 0) (regBytes (regGet b regSecStatus))))

/-- estimator windows, calibrations, grants, governors, droop, operating points, alerts and floor exits complete. R354, R356, R357, R358, R361, R364, R365, R368, R369, R370, R372, R373. -/
def Obligations.PowerLoopCommandsComplete : Prop :=
  ∀ (s : State),
    (∀ est energy, s.power.lastWindow + 4000 ≤ s.clock → s.power.forced = false →
      let c := fun i => corrected s (at' 0 est i)
      let s1 := allDies.foldl (fun a d => dieMod a d fun x => { x with estimate := c d, peak := max x.peak (c d) }) s
      let s2 := allStacks.foldl (fun a n => stackMod a n fun x => { x with estimate := c (4 + n), peak := max x.peak (c (4 + n)) }) s1
      let s3 := pwr s2 fun p => { p with linkEst := c 12, linkPeak := max p.linkPeak (c 12), alwaysEst := c 13, lastWindow := s.clock, rawSum := p.rawSum + (est.take 14).foldl (· + ·) 0, rawWindows := p.rawWindows + 1, energyNj := energy.foldl (fun m e => if e.1 ≤ 16 then mapSet 0 m e.1 (mapGet 0 m e.1 + e.2) else m) p.energyNj }
      let s4 := allStacks.foldl governStack (allDies.foldl governDie s3)
      exec (.estimatorWindow est energy) s = .next ((activeReasons s4).foldl (fun a n => reasonAdd a n 4000)
        (pwr s4 fun p => { p with active := (if stretching s4 then 7 :: activeReasons s4 else activeReasons s4).foldl (fun a n => a ||| 2 ^ n) 0 })))
    ∧ (∀ mw cv, s.power.lastCal + 1000000 ≤ s.clock → muted s = false → s.power.rawSum ≠ 0 →
      let p := s.power
      let want := mw * p.rawWindows * 0x8000 / p.rawSum
      let f := max 29491 (min 36044 (max (p.factor - p.factor / 100) (min (p.factor + p.factor / 100) want)))
      let t := pwr s fun q => { q with inputW := min 65535 (mw / 1000), inputCv := min 65535 cv, lastCal := s.clock, rawSum := 0, rawWindows := 0, factor := f }
      exec (.powerCalibration mw cv) s = .next (if (f = 29491 ∨ f = 36044) ∧ f ≠ p.factor then logEvent t 0x70 0x6001 3 0xFF [f] else t))
    ∧ (s.power.lastGrant + 100000 ≤ s.clock → muted s = false → ∃ t, exec .allowanceGrant s = .next t
      ∧ t.power.effective = (effectiveCap s).1 ∧ t.power.binding = (effectiveCap s).2 ∧ t.power.linkPeak = t.power.linkEst)
    ∧ (∀ die, die < 4 →
      (25 ≤ (dieGet s die).fit → muted s = false → s.power.forced = false → (dieGet s die).storm = none →
        exec (.governorRaise die) s = .next (raisePoint (dieMod s die fun x => { x with fit := 0 }) die))
      ∧ ((dieGet s die).target ≠ (dieGet s die).point → (dieGet s die).change = none → s.power.forced = false →
        exec (.operatingPointChange die) s = .next (dieMod s die fun y => { y with change := some (s.clock +
          if y.target < y.point then (pointRail y.target - pointRail y.point) * 50 else 0) }))
      ∧ (∀ t, (dieGet s die).change = some t → t ≤ s.clock → ((dieGet s die).stretch = [] ∨ t + 10000 ≤ s.clock) →
        exec (.pointSwitch die) s = .next (dieMod s die fun y => { y with point := y.target, change := none, duty := 16, above := 0, fit := 0 }))
      ∧ (∀ cluster deep, cluster < 38 → exec (.droopDetect die cluster deep) s = .next (dieMod (stretchCount s die) die fun x =>
          { x with stretch := (cluster, deep) :: x.stretch.filter (·.1 != cluster), stretchSince := s.clock }))
      ∧ ((dieGet s die).winStart + 100000 ≤ s.clock →
        let s2 := dieMod (stretchCount s die) die fun x => { x with winStart := s.clock, winNs := 0 }
        (regField s regPwrCfg 39 32 * 1000 < (dieGet (stretchCount s die) die).winNs → muted s = false → exec (.droopStorm die) s
          = .next (dieMod (regSatAdd (lowerPoint s2 die) regPwrEvents 15 0 1) die fun x => { x with storm := some (s.clock + 10000000) }))
        ∧ ((dieGet (stretchCount s die) die).winNs ≤ regField s regPwrCfg 39 32 * 1000 → exec (.droopStorm die) s = .next s2))
      ∧ (∀ t, (dieGet s die).storm = some t → t ≤ s.clock → muted s = false →
        exec (.stormReductionEnd die) s = .next (raisePoint (dieMod s die fun x => { x with storm := none }) die)))
    ∧ (∀ die cluster, (dieGet s die).stretch.any (·.1 == cluster) = true → exec (.droopStretchEnd die cluster) s
      = .next (dieMod (stretchCount s die) die fun x => { x with stretch := x.stretch.filter (·.1 != cluster) }))
    ∧ exec .regulatorAlert s = .next (alertAssert s)
    ∧ exec .overcurrent s = .next (alertAssert (regSatAdd s regPwrEvents 47 32 1))
    ∧ (s.power.hold = false → exec .trayHold s = .next (forceFloor (regSatAdd (pwr s fun p => { p with hold := true }) regPwrEvents 31 16 1)))
    ∧ (s.power.hold = true → exec .trayHoldRelease s = .next (pwr s fun p => { p with hold := false, holdHigh := s.clock }))
    ∧ (s.power.alert = true → exec .regulatorAlertClear s = .next (pwr s fun p => { p with alert := false, alertClear := s.clock }))
    ∧ (s.power.leaseState = 1 → s.power.leaseEnd ≤ s.clock → muted s = false →
      exec .trayLeaseExpiry s = .next (setTray (pwr s fun p => { p with leaseState := 2 }) s.power.orphan))
    ∧ (s.power.forced = true → muted s = false → floorMayEnd s = true → s.power.stepAt + 100000 ≤ s.clock →
      ((∀ d < 4, (dieGet s d).point ≤ maxPoint s) → (∀ n < 8, (stackGet s n).engine ≤ maxEngine s) → exec .forcedFloorExitStep s = .next (pwr s fun p =>
        { p with forced := false, stks := allStacks.foldl (fun m n => mapSet {} m n { mapGet {} m n with duty := 16 }) p.stks }))
      ∧ (((∃ d < 4, maxPoint s < (dieGet s d).point) ∨ ∃ n < 8, maxEngine s < (stackGet s n).engine) → exec .forcedFloorExitStep s = .next (pwr s fun p =>
        let lower := fun (x most : Nat) => if x > most then x - 1 else x
        { p with stepAt := s.clock, dies := allDies.foldl (fun m d => mapSet {} m d { mapGet {} m d with point := lower (mapGet {} m d).point (maxPoint s), target := lower (mapGet {} m d).point (maxPoint s) }) p.dies, stks := allStacks.foldl (fun m n => mapSet {} m n { mapGet {} m n with engine := lower (mapGet {} m n).engine (maxEngine s) }) p.stks })))

/-- samples, hot spots, critical temperature, trip, coolant limits, thermal resistance and mute steps complete. R363, R374, R375, R376, R377, R378, R379, R380, R381. -/
def Obligations.ThermalAndMuteCommandsComplete : Prop :=
  ∀ (s : State),
    (∀ readings dram, s.power.lastSample + 50000 ≤ s.clock → s.clock < s.power.lastPast + 10000000 →
      exec (.sensorSample readings dram) s = .next (pwr (allStacks.foldl (fun a n =>
        regPut (regPut a (regRefresh n) 15 8 (min 255 (at' 0 dram n))) (regRefresh n) 0 0 (bit (decide (min 255 (at' 0 dram n) > 85))))
        (allSites.foldl (fun a i => siteTake a i (at' (0, 0) readings i)) s)) fun p => { p with lastSample := s.clock }))
    ∧ (s.power.lastAdjust + 1000000 ≤ s.clock → muted s = false → exec .hotspotAdjust s = .next (allStacks.foldl dramAdjust
      (allStacks.foldl baseAdjust ((List.range 64).foldl regionAdjust (pwr s fun p => { p with lastAdjust := s.clock })))))
    ∧ ((∃ e ∈ s.power.sites, 115 * 16 ≤ e.2.protect) → exec .criticalTemperature s
      = .next (forceFloor (pwr s fun p => { p with critical := true, criticalCool := none })))
    ∧ (∀ t, s.power.critical = true → (∀ e ∈ s.power.sites, e.2.protect ≤ 100 * 16) → s.power.criticalCool = some t → exec .criticalTemperature s
      = .next (pwr s fun p => { p with criticalCool := some t, critical := decide (s.clock < t + 1000000000) }))
    ∧ ((∃ e ∈ s.power.sites, 120 * 16 ≤ e.2.protect) → s.power.trip = false → exec .thermalTrip s = .next (emit (forceFloor
      (pwr s fun p => { p with trip := true, critical := true, tripAt := s.clock })) (.pin "THERM_TRIP_N" true)))
    ∧ (∀ t, s.power.reportAt = some t → t + 1000000000 ≤ s.clock → s.power.noReport = false → exec .coolantReportTimeout s
      = .next (logEvent (pwr s fun p => { p with noReport := true }) 0x70 0x6003 3 0xFF [Config.reportAge (s.clock - t)]))
    ∧ (∀ mw : Nat, s.power.lastRth + 10000000 ≤ s.clock → muted s = false → 600000 ≤ mw →
      let r : Int := (hottest s - inletNow s) * (1000 * 2 ^ 32) / (16 * (mw : Int))
      let rth := (max 21474837 (min 858993459 ((s.power.rth : Int) + (r - s.power.rth) / 1000))).toNat
      exec (.rthUpdate mw) s = .next (setThermal (pwr s fun p => { p with rth := rth, thermalRaw := min 65535 (thermalSlot s rth), lastRth := s.clock })
        (min (warrantMax s) (thermalSlot s rth))))
    ∧ (s.power.pastInput.all (fun w => 10 * w * s.power.pastInput.length ≤ 11 * s.power.pastInput.foldl (· + ·) 0
        && 9 * s.power.pastInput.foldl (· + ·) 0 ≤ 10 * w * s.power.pastInput.length) = true →
      (∃ i, i < 64 ∧ (siteGet s i).past.length = 21 ∧ risesBy 0 (siteGet s i).past = true) →
      exec .coolantSlopeTrigger s = .next (forceFloor (pwr s fun p => { p with coolant := true, coolantGood := none })))
    ∧ (∀ base, s.power.mute = some base → (∃ e ∈ s.power.sites, 95 * 16 ≤ e.2.protect) → s.power.muteStepped = false →
      exec .muteStepDown s = .next (pwr s fun p => { p with mute := some (p.sites.map fun e => (e.1, e.2.protect)), muteAt := s.clock, muteStepped := true, dies := allDies.foldl (fun m d => mapSet {} m d { mapGet {} m d with point := min floorPoint ((mapGet {} m d).point + 1), target := min floorPoint ((mapGet {} m d).point + 1), change := none }) p.dies, stks := allStacks.foldl (fun m n => mapSet {} m n { mapGet {} m n with engine := min floorEngine ((mapGet {} m n).engine + 1) }) p.stks }))

/-- host and tray caps, lease renewals, the orphan cap, coolant reports and power status complete. R359, R360, R361, R378, R381, R396, R408. -/
def Obligations.CapAndCoolantRequestsComplete : Prop :=
  (∀ (watts : Nat) (s : State), HostOpen s → exec (.hostCapWrite watts) s
    = .next (capChanged (regPut s regPwrCapHost 15 0 (min (warrantMax s) (max 1200 (watts % 2 ^ 16))))))
  ∧ ∀ (r : Request) (s : State),
    let a := sessionTouch s r.session
    (Asks s r 0x10 → r.body.length = 8 → allZero (r.body.drop 2) = true →
      let t := leaseTray (setTray a (min (warrantMax a) (max 1200 (numAt r.body 0 2))))
      exec (.trayCap r) s = .next (reply t r 0x10 0 (bytesOf 2 t.power.effective ++ bytesOf 2 t.power.tray ++ bytesOf 4 (leaseMs t))))
    ∧ (Asks s r 0x11 → r.body = [] → exec (.leaseRenew r) s
      = .next (reply (leaseTray a) r 0x11 0 (bytesOf 2 s.power.tray ++ zeros 2 ++ bytesOf 4 (leaseMs (leaseTray a)))))
    ∧ (Asks s r 0x12 → r.body.length = 8 → allZero (r.body.drop 2) = true →
      let w := min (warrantMax s) (max 1200 (numAt r.body 0 2))
      exec (.orphanCap r) s = .next (reply (pwr a fun p => { p with orphan := w }) r 0x12 0 (bytesOf 2 w ++ zeros 6)))
    ∧ (Asks s r 0x13 → r.body.length = 8 → numAt r.body 6 2 ≤ 3 → exec (.coolant r) s = .next (reply (coolantTake a r.body) r 0x13 0 []))
    ∧ (Asks s r 0x14 → r.body = [] → exec (.powerStatus r) s = .next (reply a r 0x14 0 (bytesOf 8 (pwrCapStatus s.power)
      ++ bytesOf 8 (pwrSlots s.power) ++ bytesOf 8 s.power.active ++ bytesOf 8 (thmStatus s.power))))

/-- register writes, heartbeats, lease ends, PERST_N, power states, adoptions and BAR2 accesses complete. R45, R48, R386, R387, R388, R389, R391, R392, R393, R394, R460. -/
def Obligations.HostCommandsComplete : Prop :=
  ∀ (s : State),
    (∀ k v, exec (.registerWrite true k v) s = .next (regTake true s k v))
    ∧ (∀ off k v, HostOpen s → off ≠ regHeartbeat → bar0Key s off = some k → exec (.registerWrite false off v) s = .next (regTake false s k v))
    ∧ (∀ v, windowClosed s = false → s.host.accepted = true →
      let t := hostMod s fun h => { h with lease := .leased, leaseEnd := s.clock + 1000000 * regField s regLeaseCfg 15 0 }
      exec (.heartbeat v) s = .next t ∧ exec (.registerWrite false regHeartbeat v) s = .next t)
    ∧ (s.host.lease = .leased →
      let t := hostMod s fun h => { h with accepted := false, lease := .orphan, orphaned := definedCtxs s }
      (HostOpen s → exec .leaseRelease s = .next t) ∧ (s.host.leaseEnd ≤ s.clock → exec .driverLeaseExpiry s = .next t))
    ∧ (let t := hostMod (regRestore (leaseEnds s) perstRestores) fun h => { h with accepted := false, vectors := [], d3hot := false, linkTraining := false }
      exec .perstAssert s = .next (capChanged { t with pins := { t.pins with perst := true } }))
    ∧ (s.pins.aux = true → exec .perstDeassert s
      = .next (hostMod { s with pins := { s.pins with perst := false } } fun h => { h with linkTraining := true }))
    ∧ (∀ on, s.pins.perst = false → exec (.d3hot on) s = .next (hostMod s fun h => { h with d3hot := on }))
    ∧ (∀ c, HostOpen s → exec (.adoptContext c) s = .next (adoptWrite s 0 (2 ^ (c % 16)))
      ∧ exec (.adoptReset c) s = .next (adoptWrite s (2 ^ (c % 16)) 0))
    ∧ (∀ seg off, windowClosed s = false → s.host.accepted = true → regField s (regHstBar2Map (seg % 4)) 63 63 = 1 →
      (∀ bytes, bar2Target s seg off + bytes.length ≤ reserveBase s → exec (.bar2Write seg off bytes) s = .next (memStoreClean s (bar2Target s seg off) bytes))
      ∧ (∀ n, bar2Target s seg off + n ≤ reserveBase s → exec (.bar2Read seg off n) s = .next (emit
        (((linesOf (bar2Target s seg off) n).filter fun l => (lineData s l).2.1).foldl hostPoison (linesReadEffects s (linesOf (bar2Target s seg off) n)))
        (.completion (memLoad s (bar2Target s seg off) n).1 (memLoad s (bar2Target s seg off) n).2.1 false))))

/-- strangers, sessions, attestation, the Daybook, trace, receipt, status and cycle requests complete. R395, R396, R397, R403, R404, R405, R406, R408, R435. -/
def Obligations.ManagementCommandsComplete : Prop :=
  (∀ (src : Nat) (r : Request) (s : State),
    let a := sessionTouch s r.session
    let hello := bytesOf 1 s.pins.slotId ++ bytesOf 1 (bootPhase s) ++ bytesOf 2 (ownChip s) ++ bytesOf 2 (regField s regHstId 63 48)
      ++ bytesOf 1 (regField s regHstId 47 40) ++ zeros 1 ++ slice s.flash.idRecord 16 16 ++ (idDigest s).take 16
    (Asks s r 0x01 → r.body = [] → exec (.discover src r) s = .next (reply a r 0x01 0 hello))
    ∧ (stewardRuns s = true → r.session = 0 → r.body = [] →
      let recent := s.mgmt.asked.filter fun e => s.clock < e.2 + 1000000000
      (recent.filter fun e => e.1 == src).length < 16 →
      exec (.discover src r) s = .next (reply (mgmt s fun m => { m with asked := recent ++ [(src, s.clock)] }) r 0x01 0 hello))
    ∧ (Asks s r 0x02 → r.body.length = 4 → 1 ≤ numAt r.body 2 2 → numAt r.body 2 2 ≤ 1024 → exec (.identity src r) s
      = .next (reply a r 0x02 0 (r.body.take 2 ++ bytesOf 2 1504 ++ slice s.flash.idRecord (numAt r.body 0 2) (numAt r.body 2 2))))
    ∧ (∀ e es, Asks s r 0x20 → daybookFormed r.body = true → daybookPick s r.body = es ++ [e] → exec (.daybook r) s
      = .next (reply (freshFree a).2 r 0x20 0 (bytesOf 8 (e.seq + 1) ++ bytesOf 1 (es.length + 1) ++ zeros 7 ++ (es ++ [e]).flatMap dbBytes)))
    ∧ (Asks s r 0x21 → r.body.length = 32 →
      let t := (List.range 4).foldl (fun z w => regSet z (regTraceMask w) (BitVec.ofNat 64 (numAt r.body (8 * w) 8))) a
      exec (.trace r) s = .next (reply t r 0x21 0 ((List.range 4).flatMap fun w => regBytes (regGet t (regTraceMask w)))))
    ∧ (Asks s r 0x43 → r.body.length = 4 → exec (.receipt r) s
      = .next (reply a r 0x43 0 (r.body.take 2 ++ bytesOf 2 352 ++ slice s.flash.receipt (numAt r.body 0 2) (numAt r.body 2 2))))
    ∧ (∀ cmd x, plovcoKnown.contains cmd = false → stewardRuns s = true → sessionFind s r.session = some x →
      exec (.unknownCommand cmd r) s = .next (reply a r cmd 5 [])))
  ∧ (∀ (src session : Nat) (doe : Bool) (x : Session) (s : State), stewardRuns s = true → (doe = true → s.pins.perst = false) →
    session ≠ 0 → sessionFind s session = some x → x.doe = doe →
    let a := sessionTouch s session
    let t := (freshFree a).2
    let n := (freshFree a).1
    exec (.spdm src doe session .plain) s = .next (emit t (.spdm session (Config.spdmBody n)))
    ∧ ∀ nonce, exec (.getMeasurements doe session nonce) s = .next (emit t (.spdm session (measurements t n ++ nonce
      ++ Config.deviceSign (measurements t n ++ nonce)))))
  ∧ (∀ (n : Nat) (s : State),
    exec (.sessionTimeout n) s = .next (mgmt s fun m =>
      { m with sessions := m.sessions.filter fun x => !(x.id == n && decide (s.clock ≥ x.last + 20000000000)) })
    ∧ (stewardRuns s = true → exec .strangerFrame s = .next (regAdd s regStranger 1))
    ∧ exec .beaconLoss s = .next (mgmt s fun m => { m with csma := true, beaconLosses := m.beaconLosses + 1 })
    ∧ (∀ reason t, s.mgmt.cycle = some (reason, t) → t + 1000000000 ≤ s.clock → exec .cycleRequest s = .next (cycleSend s reason))
    ∧ exec .cycleRequestAnswer s = .next (mgmt s fun m => { m with cycle := none, answered := true })
    ∧ (s.book.unmirrored ≠ 0 → s.book.second < droneNs s / 1000000000 →
      let e : DbEntry := ⟨droneNs s, s.book.next, 1, 0xF100, 3, 0xFF, [s.book.unmirrored, s.book.firstUnmirrored, 0, 0, 0]⟩
      let t := mirrorWrite (bookWrite s e) e
      exec .daybookMirrorSecond s = .next { t with book := { t.book with second := droneNs s / 1000000000, mirrored := 0, unmirrored := 0, firstUnmirrored := 0, traced := 0 } }))

/-- custodian, owner, service and teardown records are judged and answered. R9, R399, R400, R401, R402, R408, R409. -/
def Obligations.KeyRecordCommandsComplete : Prop :=
  ∀ (residue : Nat) (s : State),
    (HostOpen s → variantOn s = true → stagedOk s = true →
      ∀ c ∈ ([(Instr.custodianRecord, custodianTake), (Instr.ownerEnrol, enrolTake), (Instr.ownerRemove, removeTake),
        (Instr.serviceCommand, serviceTake), (fun o => Instr.teardown o residue, teardownTake residue (some (regField s regSecRecord 47 0)))]
        : List ((Origin → Instr) × (State → List Byte → Except Nat State))),
      let t := linesReadEffects s (linesOf (regField s regSecRecord 47 0) (regField s regSecRecord 63 48))
      exec (c.1 .host) s = .next (match c.2 t (stagedRecord s) with
        | .ok u => regSet u regSecStatus (BitVec.ofNat 64 (2 * 2 ^ 62))
        | .error e => regSet t regSecStatus (BitVec.ofNat 64 (3 * 2 ^ 62 + e * 2 ^ 56))))
    ∧ (∀ c ∈ ([(0x40, Instr.custodianRecord, custodianTake), (0x41, Instr.ownerEnrol, ownerTake), (0x41, Instr.ownerRemove, ownerTake),
        (0x32, Instr.serviceCommand, serviceTake), (0x42, fun o => Instr.teardown o residue, teardownTake residue none)]
        : List (Nat × (Origin → Instr) × (State → List Byte → Except Nat State))),
      ∀ (r : Request) (t : State), (Asks s r c.1 ∨ c.1 = 0x40 ∧ r.session = 0 ∧ stewardRuns s = true ∧ variantOn s = true) → pieceFormed r.body = true →
        (pieceArrive (sessionTouch s r.session) r c.1 = (none, t) →
          exec (c.2.1 (.plovco r)) s = .next (reply t r c.1 0 (regBytes (regGet t regSecStatus))))
        ∧ (∀ bs, pieceArrive (sessionTouch s r.session) r c.1 = (some bs, t) →
          let u := recordTake t bs c.2.2
          exec (c.2.1 (.plovco r)) s = .next (reply u r c.1 (if regField u regSecStatus 63 62 = 3 then 4 else 0) (regBytes (regGet u regSecStatus)))))

/-- chunks, bundle writes, activations, cancels, rejects and status requests complete. R408, R412, R413, R414, R416, R419, R420, R422. -/
def Obligations.UpdateCommandsComplete : Prop :=
  (∀ (r : Request) (s : State), Asks s r 0x30 →
    let a := sessionTouch s r.session
    (updateFormed 1 r.body = true → numAt r.body 4 4 + (r.body.drop 8).length ≤ 512 * 65536 →
      let t := memStoreClean a (reserveBase s + numAt r.body 4 4) (r.body.drop 8)
      exec (.updateChunk r) s = .next (reply t r 0x30 0 (updBody t)))
    ∧ (updateFormed 6 r.body = true → exec (.updateStatus r) s = .next (reply a r 0x30 0 (updBody a)))
    ∧ (∀ c ∈ ([(2, Instr.bundleWrite, chunkBundle (numAt r.body 4 4)), (3, Instr.activate, activate), (4, Instr.reject, fun x => fallBack x 0x0F),
        (5, Instr.cancelActivation, cancelActivation)] : List (Nat × (Origin → Instr) × (State → State))),
      updateFormed c.1 r.body = true → exec (c.2.1 (.plovco r)) s = .next (reply (c.2.2 a) r 0x30 (updReplyStatus (c.2.2 a)) (updBody (c.2.2 a)))))
  ∧ (∀ (s : State), HostOpen s →
    (∀ c ∈ ([(Instr.bundleWrite, hostBundle), (Instr.activate, activate), (Instr.reject, fun x => fallBack x 0x0F),
        (Instr.cancelActivation, cancelActivation)] : List ((Origin → Instr) × (State → State))), exec (c.1 .host) s = .next (c.2 s))
    ∧ (∀ i, stagePlaced s = true → updBusy s = false →
      let n := regField s regUpdStage 63 48
      let b := (memLoad s (regField s regUpdStage 47 0) (65536 * n)).1
      let r := linesReadEffects s (linesOf (regField s regUpdStage 47 0) (65536 * n))
      updBusy r = false → freeSlot r = some i →
      let w := updState (updBlock (slotSet r i { state := 1 }) 0) 1 0
      exec (.bundleWrite .host) s = .next (match bundleReason w true b n with
        | some e => updState (updBlock (slotState w i 7) (if e = 0x03 then (badBlock b n).getD 0 else 0)) 8 e
        | none => updState (slotSet w i { state := 2, man := manifestOf b, data := b }) 2 0))
    ∧ (∀ i, updBusy s = false → slotIn s 2 = some i → exec (.activate .host) s = .next (activateTry s s.clock i)))
  ∧ (∀ (asked tried : Nat) (s : State), isDeferred s = some (asked, tried) → stewardRuns s = true →
    (tried + 1000000000 ≤ s.clock → exec .activationRetry s = .next (activateTry s asked s.fw.target))
    ∧ (asked + 60000000000 ≤ s.clock → emergencies s ≠ 0 →
      exec .activationAbandon s = .next (updState (fwMod s fun f => { f with deferred := none }) 9 0x0D)))

/-- the handover's stages, trials, the record and service-core restarts complete. R410, R411, R415, R417, R418, R419, R421, R423. -/
def Obligations.HandoverCommandsComplete : Prop :=
  ∀ (s : State),
    (s.fw.phase = .drain → stewardRuns s = true → drained s = true → emergencies s = 0 →
      let i := s.fw.target
      let t := slotState (slotSet s i { slotGet s i with state := 3, boots := 0 }) (1 - i) 5
      exec .handoverDrainDone s = .next (stewardAway (recordWrite (fwMod t fun f => { f with deferred := none, trialAt := s.clock, healthy := none })) 3))
    ∧ (∀ d, s.fw.phase = .quiesced → slotIn s 3 = none →
      let t := romBoot s d false
      exec (.handoverLoad d) s = .next (if t.fw.booted = none then portsDark (setBoot t 8) else fwMod t fun f => { f with phase := .loaded }))
    ∧ (∀ d i, s.fw.phase = .quiesced → slotIn s 3 = some i → (slotGet (romBoot s d false) i).state = 7 →
      let t := romBoot s d false
      let u := updState (logEvent t 1 0x9002 4 0xFF [(slotGet t i).man.version, 0x0E]) 7 0x0E
      exec (.handoverLoad d) s = .next (if u.fw.booted = none then portsDark (setBoot u 8) else fwMod u fun f => { f with phase := .loaded }))
    ∧ (∀ lost, s.fw.phase = .loaded →
      exec (.handoverRestore lost) s = .next (fwMod (settingsChoose (recordRead s) lost) fun f => { f with phase := .restored }))
    ∧ (s.fw.phase = .restored →
      let t := muteReclaim (regPut (fwMod s fun f => { f with phase := .idle }) regHstSteward 63 62 1)
      let u := { t with rcv := { t.rcv with reqs := t.rcv.reqs.map fun q => { q with start := s.clock } } }
      let v := if isReady u = true then planScan u else u
      exec .handoverReclaim s = .next (if (slotIn v 3).isSome = true ∧ slotIn v 3 = v.fw.booted
        then updState (fwMod v fun f => { f with healthy := some s.clock }) 5 0 else v))
    ∧ (∀ i t, slotIn s 3 = some i → s.fw.healthy = some t → stewardRuns s = true → s.fw.phase = .idle → s.fw.booted = some i →
      s.fw.settingsUse.isSome = true → t + 10000000000 ≤ s.clock → exec .trialConfirm s = .next (confirm s i))
    ∧ (∀ i, slotIn s 3 = some i → s.fw.booted.isSome = true → s.fw.trialAt + 60000000000 ≤ s.clock →
      exec .trialTimeout s = .next (fallBack s 0x0E))
    ∧ (stewardRuns s = true → s.fw.record.at_ + 100000000 ≤ s.clock → exec .handoverRecordWrite s = .next (recordWrite s))
    ∧ (stewardRuns s = true →
      let t := if s.fw.phase = .drain then updState s 3 0 else s
      exec .stewardRestart s = .next (stewardAway (fwMod (regSatAdd t regHstSteward 47 32 1) fun f => { f with healthy := none }) 2))

/-- an accepted host's reset requests raise trigger 0x04 at their level for the unit they name. R425, R426, R431, R432, R449. -/
def Obligations.ResetRequestsComplete : Prop :=
  ∀ (s : State), HostOpen s → isServiceable s = true →
    let ask := fun (level : Nat) (stack : Bool) (index fault : Nat) =>
      raiseTrigger (regPut s regRcvStatus 59 56 0) ⟨level, stack, index, 4, s.clock, fault, 1, 0⟩ none
    (∀ c, c < 16 → (ctxRec s c).isSome = true → widestLevel s = 0 → exec (.resetContext .host c) s = .next (ask 1 false c 0x07))
    ∧ (∀ i, widestLevel s < 2 →
      (i < 4096 → i < 4 * tilesPerDie s → exec (.resetEngine .host false i) s = .next (ask 2 false i 0x07))
      ∧ (i < 256 → (enabledStacks s).contains (i / 32) = true → exec (.resetEngine .host true i) s = .next (ask 2 true i 0x07)))
    ∧ (∀ i, widestLevel s < 3 →
      (i < 4 → exec (.resetPartition .host false i) s = .next (ask 3 false i 0x07))
      ∧ (i < 8 → (enabledStacks s).contains i = true → exec (.resetPartition .host true i) s = .next (ask 3 true i 0x07)))
    ∧ (widestLevel s < 4 → exec (.resetChip .host) s = .next (ask 4 false 0 0x08))
    ∧ (widestLevel s < 5 → exec (.resetPowerCycle .host) s = .next (askCycle (allReset (copyDossier (regPut s regRcvStatus 59 56 0)) 0x07) 4))

/-- the resets that stand asked for are carried out, timed out or raised by the units' own watchdogs. R427, R428, R429, R430, R431, R432, R433, R434, R435, R437. -/
def Obligations.ResetExecutionCompletes : Prop :=
  ∀ (s : State),
    (stewardRuns s = true → isServiceable s = true → ∀ (q : RcvReq),
      (∀ c, ctxReq s c = some q → exec (.contextReset c) s
        = .next (levelEnd (ctxReset s q c) q 1))
      ∧ (∀ t, unitReq s 2 false t = some q → exec (.engineReset false t) s = .next (levelEnd (tileReset s q t) q 1))
      ∧ (∀ e, unitReq s 2 true e = some q →
        let cs := (definedCtxs s).filter fun c => ((engGet s e).running.toList ++ (engGet s e).queue).any fun d => d.ctx == c
        exec (.engineReset true e) s = .next (levelEnd (engineReset (capture s q ⟨cs, [], [e]⟩) e true) q 1))
      ∧ (∀ d, d < 4 → unitReq s 3 false d = some q → exec (.diePartitionReset d) s = .next (levelEnd (dieReset s q d) q 1))
      ∧ (∀ n, n < 8 → unitReq s 3 true n = some q →
        exec (.stackPartitionReset n false) s = .next (twinOut (levelEnd (stackReset s q n) q 1))
        ∧ exec (.stackPartitionReset n true) s = .next (raiseTrigger (levelEnd s q 2) ⟨4, false, 0, 0x0A, s.clock, 0x08, q.src, q.detail⟩ none))
      ∧ (chipReq s = some q → s.bring.warm = false → s.fw.phase = .idle → exec .chipReset s = .next (chipReset s q)))
    ∧ (∀ (level : Nat) (stack : Bool) (index : Nat) (us : List (Bool × Nat)) (q : RcvReq), unitReq s level stack index = some q →
      stewardRuns s = true → q.start + levelTimer level ≤ s.clock → widestLevel s ≤ level →
      (level < 4 → (level = 1 → us ≠ []) → exec (.resetTimerExpiry level stack index us) s
        = .next ((nextLevels s q us).foldl (fun a r => raiseTrigger a r none) (levelEnd (levelPart s q us) q 2)))
      ∧ (level = 4 → exec (.resetTimerExpiry level stack index us) s
        = .next (askCycle (if s.bring.warm = true then bring (copyDossier (levelEnd s q 2)) fun b => { b with warm := false }
            else allReset (copyDossier (levelEnd s q 2)) 0x08) 0x0A)))
    ∧ (isServiceable s = true →
      (∀ n, n < 8 → unitReq s 3 true n = none →
        exec (.stackControllerWatchdog n) s = .next (raiseTrigger s ⟨3, true, n, 0x07, s.clock, 0, 0x10 + n, 0⟩ none))
      ∧ (∀ d, d < 4 → unitReq s 3 false d = none →
        exec (.meshLivenessFail d) s = .next (raiseTrigger s ⟨3, false, d, 0x08, s.clock, 0x07, 0x20 + d, 0⟩ none))
      ∧ (∀ d, d < 4 → chipReq s = none →
        exec (.dieLinkDown d) s = .next (raiseTrigger s ⟨4, false, 0, 0x09, s.clock, 0x08, 0x20 + d, 0⟩ none)))

/-- digest exchanges, mirror records, losses, swaps, leaves and resynchronisations complete. R438, R440, R441, R443, R444, R445, R446, R447, R448, R449. -/
def Obligations.TwinCommandsComplete : Prop :=
  (∀ (c : Nat) (r : StepRun) (s : State), stepIn s c .running = some r → gangsEnded s r = true → r.digestGen = none → twinPaired s = true →
    let v := strumContribute (mirrorSend s 1 c [] []) twinGroup stewardMember (6, 0, 16) (bytesOf 16 (mapGet 0 s.twin.digest c)) false true
    exec (.digestExchange c) s = .next (stepPut v.1 c { r with digestGen := some v.2 }))
  ∧ (∀ (p : Packet) (s : State),
    (p.kind = 0x08 → p.cut = false → strumType p = 2 → strumTree p = 4095 → exec (.digestResult p) s = .next (resultArrive s p))
    ∧ (∀ d, isMirror s p 1 = true → exec (.mirrorHeartbeat p d) s = .next (mirrorTake s p d))
    ∧ (∀ d, isMirror s p 2 = true → exec (.mirrorStep p d) s = .next (mirrorTake s p d))
    ∧ (isMirror s p 3 = true → isJoining s = true →
      let t := memStore s p.offset p.payload fun l => bytePoisoned p (64 * l - p.offset)
      exec (.resyncData p) s = .next (regPut { t with twin := { t.twin with heard := s.clock } } regRcvTwin 47 45 5))
    ∧ (∀ counts streams positions, isMirror s p 4 = true → isJoining s = true →
      let cs := counts.foldl (fun m e => mapSet 0 m e.1 e.2) []
      let fs := streams.map fun x => (⟨x.src, x.ctx, x.vc, x.agent, x.high, x.marks, s.clock⟩ : TwinStream)
      let t := { s with twin := { s.twin with counts := cs, streams := fs, heard := s.clock, copied := true } }
      exec (.resyncState p counts streams positions) s = .next (regPut (positions.foldl (fun a e =>
        planSet a e.1 { planGet a e.1 with head := e.2.1, last := some e.2.2 }) t) regRcvTwin 47 45 5))
    ∧ (isMirror s p 5 = true → twinState s = 4 → exec (.joinRecord p) s
      = .next (mirrorSend { s with twin := { s.twin with heard := s.clock, copied := false } } 5 0 [] []))
    ∧ (∀ e, isMirror s p 5 = true → twinState s ≠ 4 → s.twin.resync = some e → exec (.joinRecord p) s
      = .next { s with twin := { s.twin with joined := true, heard := s.clock } }))
  ∧ (∀ (s : State),
    exec .twinStreamExpiry s = .next { s with twin := { s.twin with streams := s.twin.streams.filter fun t => s.clock < t.last + 100000000 } }
    ∧ (isTwin s = true → twinState s ≠ 3 → s.twin.sentAt + 1000000 ≤ s.clock → exec .mirrorHeartbeatTimer s = .next (mirrorSend s 1 0 [] []))
    ∧ (twinPaired s = true → s.twin.heard + 1000000 ≤ s.clock → exec .partnerLoss s = .next (partnerLost s))
    ∧ (HostOpen s →
      (twinPaired s = true → exec .twinSwap s = .next { s with twin := { s.twin with swap := true } })
      ∧ (isTwin s = true → exec .twinLeave s = .next (regPut { s with twin := { s.twin with resync := none, joined := false, copied := false } } regRcvTwin 47 45 3))
      ∧ (twinState s = 2 → exec .twinResync s = .next (mirrorSend { s with twin := { s.twin with resync := some ((regGet s regRcvResyncStep).toNat, resyncRanges s), joined := false, copied := false, heard := s.clock } } 5 0 [] []))))

/-- input alerts, losses of supply, the trip backstop and a changed SLOT_ID complete. R354, R371, R376, R454, R455, R456, R457, R458, R459, R460. -/
def Obligations.PinEventsComplete : Prop :=
  ∀ (s : State),
    exec .inputAlert s = .next (alertAssert s)
    ∧ (s.pins.aux = true →
      let t := (freshFree s).2
      let e : DbEntry := ⟨droneNs s, s.book.next, 0x70, 0x6000 + Config.free (freshFree s).1 % 4096, 5, 0xFF, [0, 0, 0, 0, 0]⟩
      exec .inputLoss s = .next (heldReset (mirrorWrite (bookWrite t e) e) { s.pins with input := false, held := true }))
    ∧ (s.power.trip = false → s.power.alertPin = false →
      exec .auxLoss s = .next { powerLost s with pins := { input := s.pins.input, perst := s.pins.perst } })
    ∧ (s.power.trip = true → s.power.alertPin = false →
      exec .auxLoss s = .next (emit { powerLost s with pins := { input := s.pins.input, perst := s.pins.perst } } (.pin "THERM_TRIP_N" false)))
    ∧ (s.power.trip = true → s.pins.input = true → s.pins.stopped = false → s.power.tripAt + 100000000 ≤ s.clock →
      exec .tripBackstop s = .next (heldReset s { s.pins with stopped := true, held := true }))
    ∧ (∀ slot, s.pins.aux = true → slot % 64 ≠ s.pins.slotId →
      exec (.slotIdChange slot) s = .next (logEvent s 1 0x0001 3 0xFF [s.pins.slotId, slot % 64]))
end

