-- ==== Sys2Proof/Laws/Ecc.lean ====
section
/-! SUPPORT. What reading lines does to a package without upset cells. -/

namespace Sys2Proof.Machine

/-- Reading a line with no upset cell changes nothing. -/
theorem lineReadEffects_clean (s : State) (l : Nat) (h : mapGet 0 s.lineErr l = 0) : lineReadEffects s l = s := by
  simp [lineReadEffects, h]

/-- Reading lines with no upset cells changes nothing. -/
theorem linesReadEffects_clean (s : State) (ls : List Nat) (h : ∀ l ∈ ls, mapGet 0 s.lineErr l = 0) : linesReadEffects s ls = s := by
  induction ls with
  | nil => rfl
  | cons l ls ih =>
    show linesReadEffects (lineReadEffects s l) ls = s
    rw [lineReadEffects_clean s l (h l (by simp))]
    exact ih fun k hk => h k (by simp [hk])

/-- A line with no upset cell reads as it is stored, with its poison mark. -/
theorem lineData_clean (s : State) (l : Nat) (h : mapGet 0 s.lineErr l = 0) : lineData s l = (memRead s (64 * l) 64, linePoisoned s l, false) := by
  simp [lineData, h]

end Sys2Proof.Machine
end

