-- ==== Sys2Proof/Laws/Map.lean ====
section
/-! SUPPORT. Laws of the sparse tables: read after write, and that every write keeps the canonical form. -/

namespace Sys2Proof.Machine

/-! ### Read after write -/

theorem mapGet_mapPut_self {α : Type} (d : α) (m : SMap α) (i : Nat) (x : α) : mapGet d (mapPut m i x) i = x := by
  induction m with
  | nil => simp [mapPut, mapGet]
  | cons a m ih =>
    obtain ⟨k, v⟩ := a
    simp only [mapPut]
    split
    · simp [mapGet]
    · split
      · simp [mapGet]
      · rw [mapGet, if_neg (by assumption), if_neg (by assumption), ih]

theorem mapFind_mapPut_self {α : Type} (m : SMap α) (i : Nat) (x : α) : mapFind (mapPut m i x) i = some x := by
  induction m with
  | nil => simp [mapPut, mapFind]
  | cons a m ih =>
    obtain ⟨k, v⟩ := a
    simp only [mapPut]
    split
    · simp [mapFind]
    · split
      · simp [mapFind]
      · rw [mapFind, if_neg (by assumption), if_neg (by assumption), ih]

theorem mapPut_mapPut {α : Type} (m : SMap α) (i : Nat) (x y : α) : mapPut (mapPut m i x) i y = mapPut m i y := by
  induction m with
  | nil => simp [mapPut]
  | cons a m ih =>
    obtain ⟨k, v⟩ := a
    simp only [mapPut]
    split
    · simp [mapPut]
    · split
      · simp [mapPut]
      · rw [mapPut, if_neg (by assumption), if_neg (by assumption), ih]

/-- Every index of a table is above i. -/
def mapAbove {α : Type} (i : Nat) (m : SMap α) : Prop := ∀ e ∈ m, i < e.1

theorem mapRising_cons {α : Type} (a : Nat × α) (m : SMap α) : mapRising (a :: m) = true ↔ mapAbove a.1 m ∧ mapRising m = true := by
  induction m generalizing a with
  | nil => simp [mapRising, mapAbove]
  | cons b m ih =>
    simp only [mapRising, Bool.and_eq_true, decide_eq_true_eq]
    constructor
    · rintro ⟨h1, h2⟩
      refine ⟨?_, h2⟩
      intro e he
      rcases List.mem_cons.mp he with rfl | he
      · exact h1
      · exact Nat.lt_trans h1 (((ih b).mp h2).1 e he)
    · rintro ⟨h1, h2⟩
      exact ⟨h1 b (by simp), h2⟩

theorem mapFind_above {α : Type} (m : SMap α) (i j : Nat) (h : mapAbove i m) (hj : j ≤ i) : mapFind m j = none := by
  cases m with
  | nil => rfl
  | cons a m =>
    have := h a (by simp)
    simp only [mapFind]
    rw [if_neg (by omega), if_pos (by omega)]

theorem mapGet_find {α : Type} (d : α) (m : SMap α) (i : Nat) : mapGet d m i = (mapFind m i).getD d := by
  induction m with
  | nil => rfl
  | cons a m ih =>
    obtain ⟨k, v⟩ := a
    simp only [mapGet, mapFind]
    split
    · rfl
    · split
      · rfl
      · exact ih

theorem mapFind_mapPut_ne {α : Type} (m : SMap α) (i j : Nat) (x : α) (h : mapRising m = true) (hj : j ≠ i) :
    mapFind (mapPut m i x) j = mapFind m j := by
  induction m with
  | nil => simp [mapPut, mapFind, hj.symm]
  | cons a m ih =>
    obtain ⟨k, v⟩ := a
    obtain ⟨ha, hm⟩ := (mapRising_cons _ _).mp h
    simp only [mapPut]
    split
    · rename_i hk
      subst hk
      simp only [mapFind]
      rw [if_neg hj.symm, if_neg hj.symm]
    · split
      · rename_i h1 h2
        simp only [mapFind, if_neg hj.symm]
        split
        · rw [if_neg (by omega), if_pos (by omega)]
        · rfl
      · simp only [mapFind]
        rw [ih hm]

theorem mapFind_mapDel_self {α : Type} (m : SMap α) (i : Nat) (h : mapRising m = true) : mapFind (mapDel m i) i = none := by
  induction m with
  | nil => rfl
  | cons a m ih =>
    obtain ⟨k, v⟩ := a
    obtain ⟨ha, hm⟩ := (mapRising_cons _ _).mp h
    simp only [mapDel]
    split
    · rename_i hk
      subst hk
      exact mapFind_above m _ _ ha (Nat.le_refl _)
    · split
      · rename_i h1 h2
        simp [mapFind, h1, h2]
      · rename_i h1 h2
        simp only [mapFind, if_neg h1, if_neg h2]
        exact ih hm

theorem mapFind_mapDel_ne {α : Type} (m : SMap α) (i j : Nat) (h : mapRising m = true) (hj : j ≠ i) :
    mapFind (mapDel m i) j = mapFind m j := by
  induction m with
  | nil => rfl
  | cons a m ih =>
    obtain ⟨k, v⟩ := a
    obtain ⟨ha, hm⟩ := (mapRising_cons _ _).mp h
    simp only [mapDel]
    split
    · rename_i hk
      subst hk
      simp only [mapFind, if_neg hj.symm]
      split
      · rename_i hlt
        exact mapFind_above m _ _ ha (Nat.le_of_lt hlt)
      · rfl
    · split
      · rfl
      · simp only [mapFind]
        rw [ih hm]

/-- Reading the index just written gives the value written. -/
theorem mapGet_mapSet_self {α : Type} [DecidableEq α] (d : α) (m : SMap α) (i : Nat) (x : α) (h : mapRising m = true) :
    mapGet d (mapSet d m i x) i = x := by
  unfold mapSet
  split
  · rename_i hx
    rw [mapGet_find, mapFind_mapDel_self _ _ h, hx]
    rfl
  · exact mapGet_mapPut_self d m i x

/-- The same without the table's order, where the value is not the default. -/
theorem mapGet_mapSet_of_ne {α : Type} [DecidableEq α] (d : α) (m : SMap α) (i : Nat) (x : α) (h : x ≠ d) :
    mapGet d (mapSet d m i x) i = x := by
  unfold mapSet
  rw [if_neg h, mapGet_mapPut_self]

/-- A write leaves every other index alone. -/
theorem mapGet_mapSet_ne {α : Type} [DecidableEq α] (d : α) (m : SMap α) (i j : Nat) (x : α) (h : mapRising m = true) (hj : j ≠ i) :
    mapGet d (mapSet d m i x) j = mapGet d m j := by
  unfold mapSet
  split
  · rw [mapGet_find, mapGet_find, mapFind_mapDel_ne _ _ _ h hj]
  · rw [mapGet_find, mapGet_find, mapFind_mapPut_ne _ _ _ _ h hj]

theorem mapSet_mapSet_of_ne {α : Type} [DecidableEq α] (d : α) (m : SMap α) (i : Nat) (x y : α) (hx : x ≠ d) (hy : y ≠ d) :
    mapSet d (mapSet d m i x) i y = mapSet d m i y := by
  unfold mapSet
  rw [if_neg hx, if_neg hy, if_neg hy, mapPut_mapPut]

/-! ### The canonical form -/

theorem mapAbove_mapPut {α : Type} (j : Nat) (m : SMap α) (i : Nat) (x : α) (h : mapAbove j m) (hi : j < i) : mapAbove j (mapPut m i x) := by
  induction m with
  | nil => intro e he; simp only [mapPut, List.mem_singleton] at he; subst he; exact hi
  | cons a m ih =>
    obtain ⟨k, v⟩ := a
    have hm : mapAbove j m := fun e he => h e (by simp [he])
    simp only [mapPut]
    split
    · intro e he
      rcases List.mem_cons.mp he with rfl | he
      · exact hi
      · exact hm e he
    · split
      · intro e he
        rcases List.mem_cons.mp he with rfl | he
        · exact hi
        · exact h e he
      · intro e he
        rcases List.mem_cons.mp he with rfl | he
        · exact h _ (by simp)
        · exact ih hm e he

theorem mapRising_mapPut {α : Type} (m : SMap α) (i : Nat) (x : α) (h : mapRising m = true) : mapRising (mapPut m i x) = true := by
  induction m with
  | nil => rfl
  | cons a m ih =>
    obtain ⟨k, v⟩ := a
    obtain ⟨ha, hm⟩ := (mapRising_cons _ _).mp h
    simp only [mapPut]
    split
    · rename_i hk
      subst hk
      exact (mapRising_cons _ _).mpr ⟨ha, hm⟩
    · split
      · rename_i h1 h2
        refine (mapRising_cons _ _).mpr ⟨?_, h⟩
        intro e he
        rcases List.mem_cons.mp he with rfl | he
        · exact h2
        · exact Nat.lt_trans h2 (ha e he)
      · rename_i h1 h2
        exact (mapRising_cons _ _).mpr ⟨mapAbove_mapPut _ _ _ _ ha (by simp only; omega), ih hm⟩

theorem mapDel_sublist {α : Type} (m : SMap α) (i : Nat) : (mapDel m i).Sublist m := by
  induction m with
  | nil => exact List.Sublist.refl _
  | cons a m ih =>
    obtain ⟨k, v⟩ := a
    simp only [mapDel]
    split
    · exact List.sublist_cons_self _ _
    · split
      · exact List.Sublist.refl _
      · exact ih.cons_cons _

theorem mapRising_sublist {α : Type} (m l : SMap α) (h : mapRising m = true) (hs : l.Sublist m) : mapRising l = true := by
  induction hs with
  | slnil => rfl
  | cons a _ ih => exact ih ((mapRising_cons _ _).mp h).2
  | cons_cons a hs ih =>
    obtain ⟨ha, hm⟩ := (mapRising_cons _ _).mp h
    exact (mapRising_cons _ _).mpr ⟨fun e he => ha e (hs.subset he), ih hm⟩

theorem mapRising_mapDel {α : Type} (m : SMap α) (i : Nat) (h : mapRising m = true) : mapRising (mapDel m i) = true :=
  mapRising_sublist m _ h (mapDel_sublist m i)

theorem mapRising_mapSet {α : Type} [DecidableEq α] (d : α) (m : SMap α) (i : Nat) (x : α) (h : mapRising m = true) :
    mapRising (mapSet d m i x) = true := by
  unfold mapSet
  split
  · exact mapRising_mapDel m i h
  · exact mapRising_mapPut m i x h

theorem mapRising_mapDrop {α : Type} (p : Nat → Bool) (m : SMap α) (h : mapRising m = true) : mapRising (mapDrop p m) = true :=
  mapRising_sublist m _ h List.filter_sublist

theorem mapRising_map {α β : Type} (f : Nat × α → Nat × β) (hf : ∀ e, (f e).1 = e.1) (m : SMap α) (h : mapRising m = true) :
    mapRising (m.map f) = true := by
  induction m with
  | nil => rfl
  | cons a m ih =>
    obtain ⟨ha, hm⟩ := (mapRising_cons _ _).mp h
    refine (mapRising_cons _ _).mpr ⟨?_, ih hm⟩
    intro e he
    obtain ⟨b, hb, rfl⟩ := List.mem_map.mp he
    rw [hf a, hf b]
    exact ha b hb

/-- A fold of writes keeps the order. -/
theorem mapRising_foldl {α β : Type} (f : SMap α → β → SMap α) (hf : ∀ m e, mapRising m = true → mapRising (f m e) = true) (l : List β)
    (m : SMap α) (h : mapRising m = true) : mapRising (l.foldl f m) = true := by
  induction l generalizing m with
  | nil => exact h
  | cons e l ih => exact ih (f m e) (hf m e h)

theorem mem_mapPut {α : Type} (m : SMap α) (i : Nat) (x : α) (e : Nat × α) (he : e ∈ mapPut m i x) : e = (i, x) ∨ e ∈ m := by
  induction m with
  | nil => simp only [mapPut, List.mem_singleton] at he; exact Or.inl he
  | cons a m ih =>
    obtain ⟨k, v⟩ := a
    simp only [mapPut] at he
    split at he
    · rcases List.mem_cons.mp he with rfl | he
      · exact Or.inl rfl
      · exact Or.inr (by simp [he])
    · split at he
      · rcases List.mem_cons.mp he with rfl | he
        · exact Or.inl rfl
        · exact Or.inr he
      · rcases List.mem_cons.mp he with rfl | he
        · exact Or.inr (by simp)
        · rcases ih he with h | h
          · exact Or.inl h
          · exact Or.inr (by simp [h])

theorem mapWf_iff {α : Type} [DecidableEq α] (d : α) (m : SMap α) : mapWf d m = true ↔ mapRising m = true ∧ ∀ e ∈ m, e.2 ≠ d := by
  simp [mapWf]

/-- A write keeps the canonical form. -/
theorem mapWf_mapSet {α : Type} [DecidableEq α] (d : α) (m : SMap α) (i : Nat) (x : α) (h : mapWf d m = true) :
    mapWf d (mapSet d m i x) = true := by
  obtain ⟨h1, h2⟩ := (mapWf_iff d m).mp h
  refine (mapWf_iff d _).mpr ⟨mapRising_mapSet d m i x h1, ?_⟩
  unfold mapSet
  split
  · exact fun e he => h2 e ((mapDel_sublist m i).subset he)
  · rename_i hx
    intro e he
    rcases mem_mapPut m i x e he with rfl | he
    · exact hx
    · exact h2 e he

/-- Writing a list of entries keeps the canonical form. -/
theorem mapWf_mapSetList {α : Type} [DecidableEq α] (d : α) (xs : List α) (m : SMap α) (i : Nat) (h : mapWf d m = true) :
    mapWf d (mapSetList d m i xs) = true := by
  induction xs generalizing m i with
  | nil => exact h
  | cons x xs ih => exact ih _ _ (mapWf_mapSet d m i x h)

theorem mapRising_mapSetList {α : Type} [DecidableEq α] (d : α) (xs : List α) (m : SMap α) (i : Nat) (h : mapRising m = true) :
    mapRising (mapSetList d m i xs) = true := by
  induction xs generalizing m i with
  | nil => exact h
  | cons x xs ih => exact ih _ _ (mapRising_mapSet d m i x h)

/-- What a table reads after a list of entries was written: the list inside its range, the old table outside it. -/
theorem mapGet_mapSetList {α : Type} [DecidableEq α] (d : α) (xs : List α) (m : SMap α) (i j : Nat) (h : mapRising m = true) :
    mapGet d (mapSetList d m i xs) j = if h : i ≤ j ∧ j < i + xs.length then xs[j - i] else mapGet d m j := by
  induction xs generalizing m i with
  | nil => simp [mapSetList]
  | cons x xs ih =>
    rw [mapSetList, ih _ _ (mapRising_mapSet d m i x h)]
    by_cases hji : j = i
    · subst hji
      rw [dif_neg (by omega), dif_pos (by simp), mapGet_mapSet_self d m j x h]
      simp
    · by_cases hr : i + 1 ≤ j ∧ j < i + 1 + xs.length
      · rw [dif_pos hr, dif_pos (by simp only [List.length_cons]; omega), List.getElem_cons]
        rw [dif_neg (by omega)]
        congr 1
      · rw [dif_neg hr, dif_neg (by simp only [List.length_cons]; omega), mapGet_mapSet_ne d m i j x h hji]

theorem mapWalk_above {α : Type} (d : α) (m : SMap α) (i n : Nat) (h : mapRising m = true) (ha : ∀ e ∈ m, i ≤ e.1) :
    mapWalk d m i n = (List.range n).map fun k => mapGet d m (i + k) := by
  induction n generalizing m i with
  | zero => cases m <;> rfl
  | succ n ih =>
    rw [List.range_succ_eq_map, List.map_cons, List.map_map]
    cases m with
    | nil =>
      rw [mapWalk, ih [] (i + 1) rfl (by simp)]
      congr 1
    | cons a m =>
      obtain ⟨k, v⟩ := a
      obtain ⟨hk, hm⟩ := (mapRising_cons _ _).mp h
      rw [mapWalk]
      split
      · rename_i hki
        subst hki
        rw [ih m (k + 1) hm fun e he => hk e he]
        congr 1
        · simp [mapGet]
        · apply List.map_congr_left
          intro x _
          simp only [mapGet, Function.comp]
          rw [if_neg (by omega), if_neg (by omega)]
          congr 1
          omega
      · rename_i hki
        have : i < k := Nat.lt_of_le_of_ne (ha (k, v) (by simp)) (Ne.symm hki)
        rw [ih _ (i + 1) h (by
          intro e he
          rcases List.mem_cons.mp he with rfl | he
          · exact this
          · exact Nat.le_trans this (Nat.le_of_lt (hk e he)))]
        congr 1
        · simp only [mapGet]
          rw [if_neg (by omega), if_pos (by omega)]
        · apply List.map_congr_left
          intro x _
          simp only [Function.comp]
          congr 1
          omega

theorem mapGet_dropWhile {α : Type} (d : α) (m : SMap α) (i j : Nat) (h : mapRising m = true) (hj : i ≤ j) :
    mapGet d (m.dropWhile fun e => e.1 < i) j = mapGet d m j := by
  induction m with
  | nil => rfl
  | cons a m ih =>
    obtain ⟨k, v⟩ := a
    obtain ⟨_, hm⟩ := (mapRising_cons _ _).mp h
    rw [List.dropWhile_cons]
    split
    · rename_i hk
      simp only [decide_eq_true_eq] at hk
      rw [ih hm, mapGet, if_neg (by omega), if_neg (by omega)]
    · rfl

/-- Reading n successive entries is reading each of them. -/
theorem mapGetList_eq {α : Type} (d : α) (m : SMap α) (i n : Nat) (h : mapRising m = true) :
    mapGetList d m i n = (List.range n).map fun k => mapGet d m (i + k) := by
  unfold mapGetList
  have hr := mapRising_sublist m _ h (List.dropWhile_sublist fun e => decide (e.1 < i))
  rw [mapWalk_above d _ i n hr]
  · apply List.map_congr_left
    intro k _
    exact mapGet_dropWhile d m i (i + k) h (by omega)
  · intro e he
    rcases hm : m.dropWhile (fun e => decide (e.1 < i)) with _ | ⟨a, l⟩
    · rw [hm] at he; cases he
    · have hp : ¬a.1 < i := by
        have := List.head?_dropWhile_not (fun e : Nat × α => decide (e.1 < i)) m
        rw [hm] at this
        simpa using this
      rw [hm] at he hr
      rcases List.mem_cons.mp he with rfl | he
      · omega
      · have := ((mapRising_cons _ _).mp hr).1 e he
        omega

end Sys2Proof.Machine
end

