-- ==== Sys2Proof/Laws/Frame.lean ====
section
/-! SUPPORT. What a function of the model may change and that it keeps the canonical form: one relation between the state before and the
state after, its composition, and the rules by which a function's body is followed. -/

namespace Sys2Proof.Laws

open Sys2Proof.Machine Sys2Proof.Safety

/-- The number of a part: its bit in a set of parts. -/
def partBit : Part → Nat
  | .pending => 0 | .clock => 1 | .freeCtr => 2 | .outbox => 3 | .regs => 4 | .mem => 5 | .memPoison => 6 | .lineErr => 7 | .book => 8
  | .host => 9 | .plan => 10 | .drone => 11 | .tiles => 12 | .gangs => 13 | .chans => 14 | .engs => 15 | .scrub => 16 | .strum => 17
  | .coll => 18 | .rcv => 19 | .router => 20 | .link => 21 | .fw => 22 | .power => 23 | .bring => 24 | .flash => 25 | .pins => 26
  | .twin => 27 | .mgmt => 28

/-- t keeps the canonical form that s has, and agrees with s on every part whose bit is not in w. -/
structure Moves (w : Nat) (s t : State) : Prop where
  canon : Canonical s → Canonical t
  same : ∀ p : Part, w.testBit (partBit p) = false → p.same s t

/-- Where an outcome is a next state, it is one that s may move to. -/
def MovesN (w : Nat) (s : State) (o : Host.Outcome State Fault Refusal) : Prop := ∀ t, o = .next t → Moves w s t

/-- The same for an optional state, for one that comes with a value, and for one that may be refused. -/
def MovesO (w : Nat) (s : State) (o : Option State) : Prop := ∀ t, o = some t → Moves w s t
def MovesOR {α : Type} (w : Nat) (s : State) (o : Option (α × State)) : Prop := ∀ x t, o = some (x, t) → Moves w s t
def MovesE (w : Nat) (s : State) (o : Except Nat State) : Prop := ∀ t, o = .ok t → Moves w s t

theorem Moves.refl {w : Nat} {s : State} : Moves w s s := ⟨fun h => h, fun p _ => by cases p <;> rfl⟩

theorem Part.same_trans (p : Part) (s t u : State) (h1 : p.same s t) (h2 : p.same t u) : p.same s u := by
  cases p <;> exact Eq.trans h2 h1

theorem Moves.trans {w : Nat} {s t u : State} (h1 : Moves w s t) (h2 : Moves w t u) : Moves w s u :=
  ⟨fun h => h2.canon (h1.canon h), fun p hp => Part.same_trans p s t u (h1.same p hp) (h2.same p hp)⟩

/-- A set within a set within a set. -/
theorem Moves.sub {a v w : Nat} (h1 : a ||| v = v) (h2 : v ||| w = w) : a ||| w = w := by
  rw [← h2, ← Nat.or_assoc, h1]

theorem Moves.mono {w v : Nat} {s t : State} (h : Moves w s t) (hv : w ||| v = v) : Moves v s t :=
  ⟨h.canon, fun p hp => h.same p (by
    have : (w ||| v).testBit (partBit p) = false := by rw [hv]; exact hp
    rw [Nat.testBit_or, Bool.or_eq_false_iff] at this
    exact this.1)⟩

/-- One function after another. -/
theorem Moves.call {w v : Nat} {s t u : State} (h2 : Moves w t u) (hv : w ||| v = v) (h1 : Moves v s t) : Moves v s u :=
  h1.trans (h2.mono hv)

theorem Moves.ite {w : Nat} {s a b : State} {c : Prop} [Decidable c] (h1 : c → Moves w s a) (h2 : ¬c → Moves w s b) :
    Moves w s (if c then a else b) := by
  split
  · exact h1 ‹_›
  · exact h2 ‹_›

theorem Moves.foldl {α : Type} {w : Nat} {s t : State} {f : State → α → State} {l : List α} (hf : ∀ a e, Moves w a (f a e))
    (h : Moves w s t) : Moves w s (l.foldl f t) := by
  induction l generalizing t with
  | nil => exact h
  | cons e l ih => exact ih (h.trans (hf t e))

/-- The same for a value that carries the state, seen through p. -/
theorem Moves.foldl_of {α β : Type} (p : β → State) {w : Nat} {s : State} {x : β} {f : β → α → β} {l : List α}
    (hf : ∀ a e, Moves w (p a) (p (f a e))) (h : Moves w s (p x)) : Moves w s (p (l.foldl f x)) := by
  induction l generalizing x with
  | nil => exact h
  | cons e l ih => exact ih (h.trans (hf x e))

theorem Moves.ite_of {α : Type} (p : α → State) {w : Nat} {s : State} {a b : α} {c : Prop} [Decidable c] (h1 : c → Moves w s (p a))
    (h2 : ¬c → Moves w s (p b)) : Moves w s (p (if c then a else b)) := by
  split
  · exact h1 ‹_›
  · exact h2 ‹_›

theorem Moves.ite_fun {α : Type} {w : Nat} {s : State} {f g : α → State} {c : Prop} [Decidable c] {x : α} (h1 : c → Moves w s (f x))
    (h2 : ¬c → Moves w s (g x)) : Moves w s ((if c then f else g) x) := by
  split
  · exact h1 ‹_›
  · exact h2 ‹_›

theorem Moves.of_snd {α : Type} {w : Nat} {s b : State} {x : α × State} {a : α} (hx : x = (a, b)) (h : Moves w s x.2) : Moves w s b := by
  rw [hx] at h; exact h

theorem Moves.of_fst {α : Type} {w : Nat} {s b : State} {x : State × α} {a : α} (hx : x = (b, a)) (h : Moves w s x.1) : Moves w s b := by
  rw [hx] at h; exact h

theorem Moves.getD {w : Nat} {s t : State} {o : Option State} (h1 : MovesO w s o) (h2 : Moves w s t) : Moves w s (o.getD t) := by
  cases o with
  | none => exact h2
  | some x => exact h1 x rfl

/-- A record update: the fields of the canonical form and the parts outside w are those of the state updated. -/
theorem Moves.upd {w : Nat} {s t : State} (x : State) (h : Moves w s x) (hc : Canonical x → Canonical t)
    (hp : ∀ p : Part, w.testBit (partBit p) = false → p.same x t) : Moves w s t := h.trans ⟨hc, hp⟩

/-- A record update, in the form in which its term shows the state updated: the queue is never written; every other part is in the set or is
that of the state updated; and each table of the canonical form stays one (unchanged, unless a law of the table is named). -/
theorem Moves.record {w : Nat} {s x : State} {a1 a2 a3 a4 a5 a6 a7 a8 a9 a10 a11 a12 a13 a14 a15 a16 a17 a18 a19 a20 a21 a22 a23 a24 a25 a26 a27 a28} (h : Moves w s x)
    (cmem : mapWf (0 : Byte) x.mem = true → mapWf (0 : Byte) a5 = true := by exact id)
    (cregs : mapRising x.regs = true → mapRising a4 = true := by exact id)
    (ctiles : mapRising x.tiles = true → mapRising a12 = true := by exact id)
    (cgangs : mapRising x.gangs = true → mapRising a13 = true := by exact id)
    (cchans : mapRising x.chans = true → mapRising a14 = true := by exact id)
    (cengs : mapRising x.engs = true → mapRising a15 = true := by exact id)
    (clines : mapRising x.lineErr = true → mapRising a7 = true := by exact id)
    (couts : mapRising x.router.outs = true → mapRising a20.outs = true := by exact id)
    (cdies : mapRising x.power.dies = true → mapRising a23.dies = true := by exact id)
    (cstks : mapRising x.power.stks = true → mapRising a23.stks = true := by exact id)
    (h1 : w.testBit 1 = true ∨ a1 = x.clock := by first | exact .inl rfl | exact .inr rfl)
    (h2 : w.testBit 2 = true ∨ a2 = x.freeCtr := by first | exact .inl rfl | exact .inr rfl)
    (h3 : w.testBit 3 = true ∨ a3 = x.outbox := by first | exact .inl rfl | exact .inr rfl)
    (h4 : w.testBit 4 = true ∨ a4 = x.regs := by first | exact .inl rfl | exact .inr rfl)
    (h5 : w.testBit 5 = true ∨ a5 = x.mem := by first | exact .inl rfl | exact .inr rfl)
    (h6 : w.testBit 6 = true ∨ a6 = x.memPoison := by first | exact .inl rfl | exact .inr rfl)
    (h7 : w.testBit 7 = true ∨ a7 = x.lineErr := by first | exact .inl rfl | exact .inr rfl)
    (h8 : w.testBit 8 = true ∨ a8 = x.book := by first | exact .inl rfl | exact .inr rfl)
    (h9 : w.testBit 9 = true ∨ a9 = x.host := by first | exact .inl rfl | exact .inr rfl)
    (h10 : w.testBit 10 = true ∨ a10 = x.plan := by first | exact .inl rfl | exact .inr rfl)
    (h11 : w.testBit 11 = true ∨ a11 = x.drone := by first | exact .inl rfl | exact .inr rfl)
    (h12 : w.testBit 12 = true ∨ a12 = x.tiles := by first | exact .inl rfl | exact .inr rfl)
    (h13 : w.testBit 13 = true ∨ a13 = x.gangs := by first | exact .inl rfl | exact .inr rfl)
    (h14 : w.testBit 14 = true ∨ a14 = x.chans := by first | exact .inl rfl | exact .inr rfl)
    (h15 : w.testBit 15 = true ∨ a15 = x.engs := by first | exact .inl rfl | exact .inr rfl)
    (h16 : w.testBit 16 = true ∨ a16 = x.scrub := by first | exact .inl rfl | exact .inr rfl)
    (h17 : w.testBit 17 = true ∨ a17 = x.strum := by first | exact .inl rfl | exact .inr rfl)
    (h18 : w.testBit 18 = true ∨ a18 = x.coll := by first | exact .inl rfl | exact .inr rfl)
    (h19 : w.testBit 19 = true ∨ a19 = x.rcv := by first | exact .inl rfl | exact .inr rfl)
    (h20 : w.testBit 20 = true ∨ a20 = x.router := by first | exact .inl rfl | exact .inr rfl)
    (h21 : w.testBit 21 = true ∨ a21 = x.link := by first | exact .inl rfl | exact .inr rfl)
    (h22 : w.testBit 22 = true ∨ a22 = x.fw := by first | exact .inl rfl | exact .inr rfl)
    (h23 : w.testBit 23 = true ∨ a23 = x.power := by first | exact .inl rfl | exact .inr rfl)
    (h24 : w.testBit 24 = true ∨ a24 = x.bring := by first | exact .inl rfl | exact .inr rfl)
    (h25 : w.testBit 25 = true ∨ a25 = x.flash := by first | exact .inl rfl | exact .inr rfl)
    (h26 : w.testBit 26 = true ∨ a26 = x.pins := by first | exact .inl rfl | exact .inr rfl)
    (h27 : w.testBit 27 = true ∨ a27 = x.twin := by first | exact .inl rfl | exact .inr rfl)
    (h28 : w.testBit 28 = true ∨ a28 = x.mgmt := by first | exact .inl rfl | exact .inr rfl) :
    Moves w s ⟨x.pending, a1, a2, a3, a4, a5, a6, a7, a8, a9, a10, a11, a12, a13, a14, a15, a16, a17, a18, a19, a20, a21, a22, a23, a24, a25, a26, a27, a28⟩ := by
  refine h.trans ⟨fun c => ⟨cmem c.mem, cregs c.regs, ctiles c.tiles, cgangs c.gangs, cchans c.chans, cengs c.engs, clines c.lineErr, couts c.outs, cdies c.dies, cstks c.stks⟩, fun p hp => ?_⟩
  have key : ∀ {i : Nat} {P : Prop}, w.testBit i = true ∨ P → w.testBit i = false → P := by
    intro i P h h'
    rcases h with h | h
    · rw [h] at h'; cases h'
    · exact h
  cases p
  · rfl
  · exact key h1 hp
  · exact key h2 hp
  · exact key h3 hp
  · exact key h4 hp
  · exact key h5 hp
  · exact key h6 hp
  · exact key h7 hp
  · exact key h8 hp
  · exact key h9 hp
  · exact key h10 hp
  · exact key h11 hp
  · exact key h12 hp
  · exact key h13 hp
  · exact key h14 hp
  · exact key h15 hp
  · exact key h16 hp
  · exact key h17 hp
  · exact key h18 hp
  · exact key h19 hp
  · exact key h20 hp
  · exact key h21 hp
  · exact key h22 hp
  · exact key h23 hp
  · exact key h24 hp
  · exact key h25 hp
  · exact key h26 hp
  · exact key h27 hp
  · exact key h28 hp

/-! ### Outcomes -/

theorem MovesN.next {w : Nat} {s t : State} (h : Moves w s t) : MovesN w s (.next t) := by
  intro u hu; injection hu with hu; subst hu; exact h

theorem MovesN.ite {w : Nat} {s : State} {a b : Host.Outcome State Fault Refusal} {c : Prop} [Decidable c] (h1 : c → MovesN w s a)
    (h2 : ¬c → MovesN w s b) : MovesN w s (if c then a else b) := by
  split
  · exact h1 ‹_›
  · exact h2 ‹_›

theorem MovesN.mono {w v : Nat} {s : State} {o : Host.Outcome State Fault Refusal} (h : MovesN w s o) (hv : w ||| v = v) : MovesN v s o :=
  fun t ht => (h t ht).mono hv

theorem MovesN.after {w : Nat} {s x : State} {o : Host.Outcome State Fault Refusal} (h1 : Moves w s x) (h : MovesN w x o) : MovesN w s o :=
  fun t ht => h1.trans (h t ht)

theorem MovesO.none {w : Nat} {s : State} : MovesO w s .none := by intro t ht; cases ht

theorem MovesO.some {w : Nat} {s t : State} (h : Moves w s t) : MovesO w s (.some t) := by
  intro u hu; injection hu with hu; subst hu; exact h

theorem MovesO.ite {w : Nat} {s : State} {a b : Option State} {c : Prop} [Decidable c] (h1 : c → MovesO w s a) (h2 : ¬c → MovesO w s b) :
    MovesO w s (if c then a else b) := by
  split
  · exact h1 ‹_›
  · exact h2 ‹_›

theorem MovesO.mono {w v : Nat} {s : State} {o : Option State} (h : MovesO w s o) (hv : w ||| v = v) : MovesO v s o :=
  fun t ht => (h t ht).mono hv

theorem MovesOR.none {α : Type} {w : Nat} {s : State} : MovesOR (α := α) w s .none := by intro x t ht; cases ht

theorem MovesOR.some {α : Type} {w : Nat} {s : State} {x : α × State} (h : Moves w s x.2) : MovesOR w s (.some x) := by
  intro y u hu; injection hu with hu; subst hu; exact h

theorem MovesOR.ite {α : Type} {w : Nat} {s : State} {a b : Option (α × State)} {c : Prop} [Decidable c] (h1 : c → MovesOR w s a)
    (h2 : ¬c → MovesOR w s b) : MovesOR w s (if c then a else b) := by
  split
  · exact h1 ‹_›
  · exact h2 ‹_›

theorem MovesOR.mono {α : Type} {w v : Nat} {s : State} {o : Option (α × State)} (h : MovesOR w s o) (hv : w ||| v = v) : MovesOR v s o :=
  fun x t ht => (h x t ht).mono hv

theorem MovesO.after {w : Nat} {s x : State} {o : Option State} (h1 : Moves w s x) (h : MovesO w x o) : MovesO w s o :=
  fun t ht => h1.trans (h t ht)

theorem MovesOR.after {α : Type} {w : Nat} {s x : State} {o : Option (α × State)} (h1 : Moves w s x) (h : MovesOR w x o) : MovesOR w s o :=
  fun y t ht => h1.trans (h y t ht)

theorem MovesE.ok {w : Nat} {s t : State} (h : Moves w s t) : MovesE w s (.ok t) := by
  intro u hu; injection hu with hu; subst hu; exact h

theorem MovesE.error {w e : Nat} {s : State} : MovesE w s (.error e) := by intro t ht; cases ht

theorem MovesE.ite {w : Nat} {s : State} {a b : Except Nat State} {c : Prop} [Decidable c] (h1 : c → MovesE w s a)
    (h2 : ¬c → MovesE w s b) : MovesE w s (if c then a else b) := by
  split
  · exact h1 ‹_›
  · exact h2 ‹_›

theorem MovesE.mono {w v : Nat} {s : State} {o : Except Nat State} (h : MovesE w s o) (hv : w ||| v = v) : MovesE v s o :=
  fun t ht => (h t ht).mono hv

theorem MovesE.after {w : Nat} {s x : State} {o : Except Nat State} (h1 : Moves w s x) (h : MovesE w x o) : MovesE w s o :=
  fun t ht => h1.trans (h t ht)

end Sys2Proof.Laws
end

