-- ==== Sys2Proof/Laws/FrameOps.lean ====
section
/-! SUPPORT. What each function of Machine/Ops.lean may change, and that it keeps the canonical form: its frame law. -/

namespace Sys2Proof.Laws

set_option Elab.async false

open Sys2Proof Sys2Proof.Machine Sys2Proof.Safety

theorem regsPut_rising (m : SMap Word) (k : Nat) (v : Word) (h : mapRising m = true) : mapRising (regsPut m k v) = true := by
  unfold regsPut
  split
  · exact mapRising_mapDel m k h
  · exact mapRising_mapPut m k v h

theorem regSet_moves (s : State) (k : Nat) (v : Word) : Moves 16 s (regSet s k v) :=
  Moves.record Moves.refl (cregs := regsPut_rising _ _ _)

theorem regAdd_moves (s : State) (k : Nat) (n : Nat) : Moves 16 s (regAdd s k n) := by
  unfold regAdd
  refine Moves.call (regSet_moves _ _ _) (by decide) ?_
  exact Moves.refl

theorem regPut_moves (s : State) (k : Nat) (hi : Nat) (lo : Nat) (x : Nat) : Moves 16 s (regPut s k hi lo x) := by
  unfold regPut
  refine Moves.call (regSet_moves _ _ _) (by decide) ?_
  exact Moves.refl

theorem bookWrite_moves (s : State) (e : DbEntry) : Moves 272 s (bookWrite s e) := by
  unfold bookWrite
  extract_lets +onlyGivenNames z0; clear_value z0
  extract_lets +onlyGivenNames z1; clear_value z1
  extract_lets +onlyGivenNames z2
  have hz2 : Moves 272 s z2 := by
    unfold z2
    refine Moves.record ?_
    exact Moves.refl
  clear_value z2
  extract_lets +onlyGivenNames z3
  have hz3 : Moves 272 s z3 := by
    unfold z3
    refine Moves.call (regSet_moves _ _ _) (by decide) ?_
    exact hz2
  clear_value z3
  refine Moves.call (regSet_moves _ _ _) (by decide) ?_
  exact hz3

theorem regSatAdd_moves (s : State) (k : Nat) (hi : Nat) (lo : Nat) (n : Nat) : Moves 16 s (regSatAdd s k hi lo n) := by
  unfold regSatAdd
  refine Moves.call (regPut_moves _ _ _ _ _) (by decide) ?_
  exact Moves.refl

theorem holdEvent_moves (s : State) (e : HostEvent) : Moves 528 s (holdEvent s e) := by
  unfold holdEvent
  extract_lets +onlyGivenNames z0; clear_value z0
  refine Moves.ite (fun _ => ?_) (fun _ => ?_)
  · refine Moves.record ?_
    exact Moves.refl
  · refine Moves.call (regSatAdd_moves _ _ _ _ _) (by decide) ?_
    exact Moves.refl

theorem memPutBytes_moves (s : State) (off : Nat) (bs : List Byte) : Moves 32 s (memPutBytes s off bs) :=
  Moves.record Moves.refl (cmem := mapWf_mapSetList _ _ _ _)

theorem emit_moves (s : State) (e : Emit) : Moves 8 s (emit s e) := by
  unfold emit
  refine Moves.record ?_
  exact Moves.refl

theorem signalVector_moves (s : State) (v : Nat) : Moves 24 s (signalVector s v) := by
  unfold signalVector
  refine Moves.ite (fun _ => ?_) (fun _ => ?_)
  · refine Moves.call (regPut_moves _ _ _ _ _) (by decide) ?_
    exact Moves.refl
  · refine Moves.call (emit_moves _ _) (by decide) ?_
    exact Moves.refl

theorem ringAppend_moves (s : State) (e : HostEvent) : Moves 56 s (ringAppend s e) := by
  unfold ringAppend
  extract_lets +onlyGivenNames z0; clear_value z0
  extract_lets +onlyGivenNames z1; clear_value z1
  extract_lets +onlyGivenNames z2; clear_value z2
  extract_lets +onlyGivenNames z3
  have hz3 : Moves 56 s z3 := by
    unfold z3
    refine Moves.ite (fun _ => ?_) (fun _ => ?_)
    · refine Moves.call (regSatAdd_moves _ _ _ _ _) (by decide) ?_
      exact Moves.refl
    · refine Moves.call (regPut_moves _ _ _ _ _) (by decide) ?_
      refine Moves.call (memPutBytes_moves _ _ _) (by decide) ?_
      exact Moves.refl
  clear_value z3
  refine Moves.call (signalVector_moves _ _) (by decide) ?_
  exact hz3

theorem eventAppend_moves (s : State) (kind : Nat) (ctx : Nat) (step : Nat) (state : Nat) (fault : Nat) (detail : Nat) : Moves 568 s (eventAppend s kind ctx
      step state fault detail) := by
  unfold eventAppend
  extract_lets +onlyGivenNames z0; clear_value z0
  split
  · exact Moves.refl
  · extract_lets +onlyGivenNames z1; clear_value z1
    refine Moves.call (holdEvent_moves _ _) (by decide) ?_
    refine Moves.record ?_
    exact Moves.refl
  · extract_lets +onlyGivenNames z2; clear_value z2
    extract_lets +onlyGivenNames z3
    have hz3 : Moves 568 s z3 := by
      unfold z3
      refine Moves.record ?_
      exact Moves.refl
    clear_value z3
    refine Moves.ite (fun _ => ?_) (fun _ => ?_)
    · refine Moves.call (holdEvent_moves _ _) (by decide) ?_
      exact hz3
    · refine Moves.call (ringAppend_moves _ _) (by decide) ?_
      exact hz3

theorem mirrorWrite_moves (s : State) (e : DbEntry) : Moves 272 s (mirrorWrite s e) := by
  unfold mirrorWrite
  extract_lets +onlyGivenNames z0; clear_value z0
  extract_lets +onlyGivenNames z1
  have hz1 : Moves 272 s z1 := by
    unfold z1
    refine Moves.record ?_
    exact Moves.refl
  clear_value z1
  refine Moves.call (regSet_moves _ _ _) (by decide) ?_
  exact hz1

theorem mirrorEntry_moves (s : State) (e : DbEntry) : Moves 272 s (mirrorEntry s e) := by
  unfold mirrorEntry
  extract_lets +onlyGivenNames z0; clear_value z0
  refine Moves.ite (fun _ => ?_) (fun _ => ?_)
  · refine Moves.call (mirrorWrite_moves _ _) (by decide) ?_
    refine Moves.record ?_
    exact Moves.refl
  · refine Moves.record ?_
    exact Moves.refl

theorem rollSecond_moves (s : State) : Moves 256 s (rollSecond s) := by
  unfold rollSecond
  extract_lets +onlyGivenNames z0; clear_value z0
  extract_lets +onlyGivenNames z1; clear_value z1
  refine Moves.ite (fun _ => ?_) (fun _ => ?_)
  · exact Moves.refl
  · refine Moves.record ?_
    exact Moves.refl

theorem logEvent_moves (s : State) (source : Nat) (code : Nat) (severity : Nat) (ctx : Nat) (args : List Nat) : Moves 138412856 s (logEvent s source code
      severity ctx args) := by
  unfold logEvent
  extract_lets +onlyGivenNames z0
  have hz0 : Moves 138412856 s z0 := by
    unfold z0
    refine Moves.call (rollSecond_moves _) (by decide) ?_
    exact Moves.refl
  clear_value z0
  extract_lets +onlyGivenNames z1; clear_value z1
  extract_lets +onlyGivenNames z2
  have hz2 : Moves 138412856 s z2 := by
    unfold z2
    refine Moves.call (bookWrite_moves _ _) (by decide) ?_
    exact hz0
  clear_value z2
  extract_lets +onlyGivenNames z3
  have hz3 : Moves 138412856 s z3 := by
    unfold z3
    refine Moves.ite (fun _ => ?_) (fun _ => ?_)
    · refine Moves.call (mirrorEntry_moves _ _) (by decide) ?_
      exact hz2
    · exact hz2
  clear_value z3
  extract_lets +onlyGivenNames z4; clear_value z4
  extract_lets +onlyGivenNames z5
  have hz5 : Moves 138412856 s z5 := by
    unfold z5
    refine Moves.ite (fun _ => ?_) (fun _ => ?_)
    · refine Moves.record ?_
      exact hz3
    · exact hz3
  clear_value z5
  extract_lets +onlyGivenNames z6; clear_value z6
  extract_lets +onlyGivenNames z7
  have hz7 : Moves 138412856 s z7 := by
    unfold z7
    refine Moves.ite (fun _ => ?_) (fun _ => ?_)
    · refine Moves.record ?_
      exact hz5
    · exact hz5
  clear_value z7
  refine Moves.ite (fun _ => ?_) (fun _ => ?_)
  · refine Moves.call (eventAppend_moves _ _ _ _ _ _ _) (by decide) ?_
    exact hz7
  · exact hz3

theorem freshFree_moves (s : State) : Moves 4 s (freshFree s).2 := by
  unfold freshFree
  dsimp only
  refine Moves.record ?_
  exact Moves.refl

theorem tileSet_moves (s : State) (t : Nat) (x : Tile) : Moves 4096 s (tileSet s t x) :=
  Moves.record Moves.refl (ctiles := mapRising_mapSet _ _ _ _)

theorem tileMod_moves (s : State) (t : Nat) (f : Tile → Tile) : Moves 4096 s (tileMod s t f) := by
  unfold tileMod
  refine Moves.call (tileSet_moves _ _ _) (by decide) ?_
  exact Moves.refl

theorem tilesMod_moves (s : State) (ts : List Nat) (f : Tile → Tile) : Moves 4096 s (tilesMod s ts f) := by
  unfold tilesMod
  refine Moves.foldl (fun a0 _ => ?_) ?_
  · refine Moves.call (tileMod_moves _ _ _) (by decide) ?_
    exact Moves.refl
  · exact Moves.refl

theorem gangSet_moves (s : State) (g : Nat) (x : Gang) : Moves 8192 s (gangSet s g x) :=
  Moves.record Moves.refl (cgangs := mapRising_mapSet _ _ _ _)

theorem setLinePoison_moves (s : State) (l : Nat) (p : Bool) : Moves 64 s (setLinePoison s l p) := by
  unfold setLinePoison
  refine Moves.record ?_
  exact Moves.refl

theorem freezeEngines_moves (s : State) (q : RcvReq) : Moves 32768 s (freezeEngines s q) := by
  unfold freezeEngines
  extract_lets +onlyGivenNames z0; clear_value z0
  refine Moves.foldl (fun a1 _ => ?_) ?_
  · extract_lets +onlyGivenNames z2; clear_value z2
    refine Moves.ite (fun _ => ?_) (fun _ => ?_)
    · refine Moves.record ?_ (cengs := fun h => mapRising_mapSet _ _ _ _ h)
      exact Moves.refl
    · exact Moves.refl
  · exact Moves.refl

theorem recordBlame_moves (s : State) (c : Nat) (trigger : Nat) (src : Nat) (detail : Nat) : Moves 138412856 s (recordBlame s c trigger src detail) := by
  unfold recordBlame
  refine Moves.call (logEvent_moves _ _ _ _ _ _) (by decide) ?_
  refine Moves.call (regSet_moves _ _ _) (by decide) ?_
  exact Moves.refl

theorem raiseTrigger_moves (s : State) (q : RcvReq) (ctx : Option Nat) : Moves 138969912 s (raiseTrigger s q ctx) := by
  unfold raiseTrigger
  extract_lets +onlyGivenNames z0; clear_value z0
  extract_lets +onlyGivenNames z1
  have hz1 : Moves 138969912 s z1 := by
    unfold z1
    refine Moves.call (freezeEngines_moves _ _) (by decide) ?_
    refine Moves.record ?_
    exact Moves.refl
  clear_value z1
  extract_lets +onlyGivenNames z2
  have hz2 : Moves 138969912 s z2 := by
    unfold z2
    refine Moves.call (regPut_moves _ _ _ _ _) (by decide) ?_
    exact hz1
  clear_value z2
  refine Moves.ite (fun _ => ?_) (fun _ => ?_)
  · refine Moves.call (logEvent_moves _ _ _ _ _ _) (by decide) ?_
    exact Moves.refl
  · split
    · refine Moves.call (recordBlame_moves _ _ _ _ _) (by decide) ?_
      exact hz2
    · exact hz2

theorem regRestore_moves (s : State) (p : Nat → Bool) : Moves 16 s (regRestore s p) :=
  Moves.record Moves.refl (cregs := mapRising_mapDrop _ _)

theorem gangMod_moves (s : State) (g : Nat) (f : Gang → Gang) : Moves 8192 s (gangMod s g f) := by
  unfold gangMod
  refine Moves.call (gangSet_moves _ _ _) (by decide) ?_
  exact Moves.refl

end Sys2Proof.Laws
end

