-- ==== Sys2Proof/Laws/FrameEcc.lean ====
section
/-! SUPPORT. What each function of Machine/Ecc.lean may change, and that it keeps the canonical form: its frame law. -/

namespace Sys2Proof.Laws

set_option Elab.async false

open Sys2Proof Sys2Proof.Machine Sys2Proof.Safety

theorem stackLog_moves (s : State) (n : Nat) (l : Nat) (d : LineDecode) : Moves 138412856 s (stackLog s n l d) := by
  unfold stackLog
  extract_lets +onlyGivenNames z0; clear_value z0
  extract_lets +onlyGivenNames z1; clear_value z1
  split
  · refine Moves.call (regSatAdd_moves _ _ _ _ _) (by decide) ?_
    exact Moves.refl
  · refine Moves.call (regSatAdd_moves _ _ _ _ _) (by decide) ?_
    exact Moves.refl
  · extract_lets +onlyGivenNames z2
    have hz2 : Moves 138412856 s z2 := by
      unfold z2
      refine Moves.call (regSet_moves _ _ _) (by decide) ?_
      exact Moves.refl
    clear_value z2
    extract_lets +onlyGivenNames z3
    have hz3 : Moves 138412856 s z3 := by
      unfold z3
      refine Moves.call (regSet_moves _ _ _) (by decide) ?_
      exact hz2
    clear_value z3
    extract_lets +onlyGivenNames z4
    have hz4 : Moves 138412856 s z4 := by
      unfold z4
      refine Moves.call (regPut_moves _ _ _ _ _) (by decide) ?_
      exact hz3
    clear_value z4
    refine Moves.call (logEvent_moves _ _ _ _ _ _) (by decide) ?_
    exact hz4

theorem lineReadCount_moves (s : State) (l : Nat) : Moves 138412856 s (lineReadCount s l) := by
  unfold lineReadCount
  extract_lets +onlyGivenNames z0; clear_value z0
  extract_lets +onlyGivenNames z1; clear_value z1
  extract_lets +onlyGivenNames z2
  have hz2 : Moves 138412856 s z2 := by
    unfold z2
    refine Moves.call (regAdd_moves _ _ _) (by decide) ?_
    exact Moves.refl
  clear_value z2
  refine Moves.ite (fun _ => ?_) (fun _ => ?_)
  · exact Moves.refl
  · refine Moves.call (stackLog_moves _ _ _ _) (by decide) ?_
    refine Moves.ite (fun _ => ?_) (fun _ => ?_)
    · refine Moves.call (regAdd_moves _ _ _) (by decide) ?_
      exact hz2
    · exact hz2

theorem chanSet_moves (s : State) (i : Nat) (c : Chan) : Moves 16384 s (chanSet s i c) := by
  unfold chanSet
  refine Moves.record ?_ (cchans := fun h => mapRising_mapSet _ _ _ _ h)
  exact Moves.refl

theorem queueWriteBack_moves (s : State) (l : Nat) (mark : Bool) : Moves 16400 s (queueWriteBack s l mark) := by
  unfold queueWriteBack
  extract_lets +onlyGivenNames z0; clear_value z0
  extract_lets +onlyGivenNames z1; clear_value z1
  refine Moves.ite (fun _ => ?_) (fun _ => ?_)
  · exact Moves.refl
  · refine Moves.ite (fun _ => ?_) (fun _ => ?_)
    · refine Moves.call (chanSet_moves _ _ _) (by decide) ?_
      exact Moves.refl
    · refine Moves.call (regAdd_moves _ _ _) (by decide) ?_
      exact Moves.refl

theorem lineReadEffects_moves (s : State) (l : Nat) : Moves 138429240 s (lineReadEffects s l) := by
  unfold lineReadEffects
  extract_lets +onlyGivenNames z0; clear_value z0
  extract_lets +onlyGivenNames z1; clear_value z1
  refine Moves.ite (fun _ => ?_) (fun _ => ?_)
  · exact Moves.refl
  · refine Moves.ite (fun _ => ?_) (fun _ => ?_)
    · exact Moves.refl
    · refine Moves.ite (fun _ => ?_) (fun _ => ?_)
      · refine Moves.call (queueWriteBack_moves _ _ _) (by decide) ?_
        refine Moves.call (lineReadCount_moves _ _) (by decide) ?_
        exact Moves.refl
      · refine Moves.call (lineReadCount_moves _ _) (by decide) ?_
        exact Moves.refl

theorem cancelWriteBack_moves (s : State) (l : Nat) : Moves 16400 s (cancelWriteBack s l) := by
  unfold cancelWriteBack
  extract_lets +onlyGivenNames z0; clear_value z0
  extract_lets +onlyGivenNames z1; clear_value z1
  refine Moves.ite (fun _ => ?_) (fun _ => ?_)
  · refine Moves.call (regAdd_moves _ _ _) (by decide) ?_
    refine Moves.call (chanSet_moves _ _ _) (by decide) ?_
    exact Moves.refl
  · exact Moves.refl

theorem lineStore_moves (s : State) (l : Nat) (bs : List Byte) (p : Bool) : Moves 16624 s (lineStore s l bs p) := by
  unfold lineStore
  refine Moves.call (setLinePoison_moves _ _ _) (by decide) ?_
  exact Moves.record (x := cancelWriteBack s l) ((cancelWriteBack_moves _ _).mono (by decide)) (cmem := mapWf_mapSetList _ _ _ _)
    (clines := mapRising_mapDel _ _)

theorem linePart_moves (s : State) (l : Nat) (o : Nat) (bs : List Byte) (p : Bool) : Moves 138429432 s (linePart s l o bs p) := by
  unfold linePart
  extract_lets +onlyGivenNames z0; clear_value z0
  extract_lets +onlyGivenNames z1
  have hz1 : Moves 138429432 s z1 := by
    unfold z1
    refine Moves.call (lineReadEffects_moves _ _) (by decide) ?_
    exact Moves.refl
  clear_value z1
  refine Moves.call (lineStore_moves _ _ _ _) (by decide) ?_
  exact hz1

theorem memStoreLines_moves (poisoned : Nat → Bool) (n : Nat) (s : State) (o : Nat) (bs : List Byte) :
    Moves 138429432 s (memStoreLines poisoned n s o bs) := by
  induction n generalizing s o bs with
  | zero => exact Moves.refl
  | succ n ih =>
    unfold memStoreLines
    refine Moves.ite (fun _ => Moves.refl) (fun _ => ?_)
    refine Moves.trans ?_ (ih ..)
    refine Moves.ite (fun _ => Moves.refl) (fun _ => Moves.ite (fun _ => ?_) (fun _ => ?_))
    · exact (lineStore_moves ..).mono (by decide)
    · exact (linePart_moves ..).mono (by decide)

theorem memStore_moves (s : State) (off : Nat) (bs : List Byte) (poisoned : Nat → Bool) : Moves 138429432 s (memStore s off bs poisoned) := by
  unfold memStore
  refine Moves.call (memStoreLines_moves _ _ _ _ _) (by decide) ?_
  exact Moves.refl

theorem memStoreClean_moves (s : State) (off : Nat) (bs : List Byte) : Moves 138429432 s (memStoreClean s off bs) := by
  unfold memStoreClean
  refine Moves.call (memStore_moves _ _ _ _) (by decide) ?_
  exact Moves.refl

theorem linesReadEffects_moves (s : State) (ls : List Nat) : Moves 138429240 s (linesReadEffects s ls) := by
  unfold linesReadEffects
  refine Moves.foldl (fun a0 _ => ?_) ?_
  · refine Moves.call (lineReadEffects_moves _ _) (by decide) ?_
    exact Moves.refl
  · exact Moves.refl

theorem mendPropose_moves (s : State) (t : Nat) (cause : Nat) : Moves 155190072 s (mendPropose s t cause) := by
  unfold mendPropose
  extract_lets +onlyGivenNames z0; clear_value z0
  split
  extract_lets +onlyGivenNames z1; clear_value z1
  extract_lets +onlyGivenNames z2; clear_value z2
  extract_lets +onlyGivenNames z3; clear_value z3
  refine Moves.ite (fun _ => ?_) (fun _ => ?_)
  · exact Moves.refl
  · refine Moves.call (logEvent_moves _ _ _ _ _ _) (by decide) ?_
    refine Moves.call (regPut_moves _ _ _ _ _) (by decide) ?_
    refine Moves.record ?_
    exact Moves.refl

theorem dieLog_moves (s : State) (t : Nat) (kind : Nat) (structure_ : Nat) (word : Nat) (rows : Nat) (cols : Nat) : Moves 155190072 s (dieLog s t kind
      structure_ word rows cols) := by
  unfold dieLog
  extract_lets +onlyGivenNames z0; clear_value z0
  split
  split
  · refine Moves.call (regSatAdd_moves _ _ _ _ _) (by decide) ?_
    exact Moves.refl
  · refine Moves.call (regSatAdd_moves _ _ _ _ _) (by decide) ?_
    exact Moves.refl
  · extract_lets +onlyGivenNames z1; clear_value z1
    extract_lets +onlyGivenNames z2
    have hz2 : Moves 155190072 s z2 := by
      unfold z2
      refine Moves.call (regSet_moves _ _ _) (by decide) ?_
      exact Moves.refl
    clear_value z2
    extract_lets +onlyGivenNames z3
    have hz3 : Moves 155190072 s z3 := by
      unfold z3
      refine Moves.call (regPut_moves _ _ _ _ _) (by decide) ?_
      exact hz2
    clear_value z3
    extract_lets +onlyGivenNames z4
    have hz4 : Moves 155190072 s z4 := by
      unfold z4
      refine Moves.call (logEvent_moves _ _ _ _ _ _) (by decide) ?_
      exact hz3
    clear_value z4
    refine Moves.ite (fun _ => ?_) (fun _ => ?_)
    · refine Moves.call (mendPropose_moves _ _ _) (by decide) ?_
      exact hz4
    · exact hz4

theorem tileCorrected_moves (s : State) (t : Nat) : Moves 155194168 s (tileCorrected s t) := by
  unfold tileCorrected
  extract_lets +onlyGivenNames z0
  have hz0 : Moves 155194168 s z0 := by
    unfold z0
    refine Moves.call (tileMod_moves _ _ _) (by decide) ?_
    exact Moves.refl
  clear_value z0
  refine Moves.ite (fun _ => ?_) (fun _ => ?_)
  · refine Moves.call (mendPropose_moves _ _ _) (by decide) ?_
    exact hz0
  · exact hz0

theorem sramCount_moves (s : State) (t : Nat) (structure_ : Nat) (word : Nat) (e : Nat) : Moves 155194168 s (sramCount s t structure_ word e) := by
  unfold sramCount
  split
  · exact Moves.refl
  · refine Moves.call (dieLog_moves _ _ _ _ _ _ _) (by decide) ?_
    refine Moves.call (tileCorrected_moves _ _) (by decide) ?_
    exact Moves.refl
  · refine Moves.call (dieLog_moves _ _ _ _ _ _ _) (by decide) ?_
    refine Moves.call (tileCorrected_moves _ _) (by decide) ?_
    exact Moves.refl
  · refine Moves.call (dieLog_moves _ _ _ _ _ _ _) (by decide) ?_
    refine Moves.call (regAdd_moves _ _ _) (by decide) ?_
    exact Moves.refl

theorem padReadEffects_moves (s : State) (t : Nat) (w : Nat) (n : Nat) : Moves 155194168 s (padReadEffects s t w n) := by
  unfold padReadEffects
  refine Moves.foldl (fun a0 _ => ?_) ?_
  · extract_lets +onlyGivenNames z1; clear_value z1
    extract_lets +onlyGivenNames z2; clear_value z2
    extract_lets +onlyGivenNames z3
    have hz3 : Moves 155194168 a0 z3 := by
      unfold z3
      refine Moves.call (sramCount_moves _ _ _ _ _) (by decide) ?_
      exact Moves.refl
    clear_value z3
    refine Moves.ite (fun _ => ?_) (fun _ => ?_)
    · exact Moves.refl
    · refine Moves.ite (fun _ => ?_) (fun _ => ?_)
      · exact hz3
      · refine Moves.ite (fun _ => ?_) (fun _ => ?_)
        · refine Moves.call (tileMod_moves _ _ _) (by decide) ?_
          exact hz3
        · refine Moves.ite (fun _ => ?_) (fun _ => ?_)
          · refine Moves.call (tileMod_moves _ _ _) (by decide) ?_
            exact hz3
          · exact hz3
  · exact Moves.refl

theorem upsetLine_moves (s : State) (l : Nat) (e : Nat) : Moves 128 s (upsetLine s l e) := by
  unfold upsetLine
  refine Moves.record ?_ (clines := fun h => mapRising_mapSet _ _ _ _ h)
  exact Moves.refl

theorem upsetTiles_moves (s : State) (us : List (Nat × Nat × Nat × Nat)) : Moves 4096 s (upsetTiles s us) := by
  unfold upsetTiles
  refine Moves.foldl (fun a0 _ => ?_) ?_
  · refine Moves.call (tileMod_moves _ _ _) (by decide) ?_
    exact Moves.refl
  · exact Moves.refl

end Sys2Proof.Laws
end

