-- ==== Sys2Proof/Laws/FramePackets.lean ====
section
/-! SUPPORT. What each function of Machine/Packets.lean may change, and that it keeps the canonical form: its frame law. -/

namespace Sys2Proof.Laws

set_option Elab.async false

open Sys2Proof Sys2Proof.Machine Sys2Proof.Safety

theorem twinStamp_moves (s : State) (port : Nat) (p : Packet) : Moves 134217728 s (twinStamp s port p).1 := by
  unfold twinStamp
  extract_lets +onlyGivenNames z0; clear_value z0
  extract_lets +onlyGivenNames z1; clear_value z1
  extract_lets +onlyGivenNames z2; clear_value z2
  refine Moves.ite_of Prod.fst (fun _ => ?_) (fun _ => ?_)
  · dsimp only
    refine Moves.record ?_
    exact Moves.refl
  · exact Moves.refl

theorem inject_moves (s : State) (port : Nat) (p : Packet) : Moves 134217736 s (inject s port p) := by
  unfold inject
  split
  refine Moves.call (emit_moves _ _) (by decide) ?_
  refine Moves.call (Moves.of_fst (by assumption) (twinStamp_moves _ _ _)) (by decide) ?_
  exact Moves.refl

theorem twinItem_moves (s : State) (ctx : Nat) (item : List Byte) : Moves 134217728 s (twinItem s ctx item) := by
  unfold twinItem
  extract_lets +onlyGivenNames z0; clear_value z0
  extract_lets +onlyGivenNames z1; clear_value z1
  refine Moves.ite (fun _ => ?_) (fun _ => ?_)
  · refine Moves.record ?_
    exact Moves.refl
  · exact Moves.refl

theorem twinLines_moves (s : State) (ctx : Nat) (chip : Nat) (off : Nat) (bs : List Byte) (poisoned : Nat → Bool) : Moves 134217728 s (twinLines s ctx chip
      off bs poisoned) := by
  unfold twinLines
  refine Moves.ite (fun _ => ?_) (fun _ => ?_)
  · refine Moves.foldl (fun a0 _ => ?_) ?_
    · split
      refine Moves.call (twinItem_moves _ _ _) (by decide) ?_
      exact Moves.refl
    · exact Moves.refl
  · exact Moves.refl

theorem injectAll_moves (s : State) (port : Nat) (ps : List Packet) : Moves 134217736 s (injectAll s port ps) := by
  unfold injectAll
  refine Moves.foldl (fun a0 _ => ?_) ?_
  · refine Moves.call (inject_moves _ _ _) (by decide) ?_
    exact Moves.refl
  · exact Moves.refl

end Sys2Proof.Laws
end

