-- ==== Sys2Proof/Laws/FrameStrumCore.lean ====
section
/-! SUPPORT. What each function of Machine/StrumCore.lean may change, and that it keeps the canonical form: its frame law. -/

namespace Sys2Proof.Laws

set_option Elab.async false

open Sys2Proof Sys2Proof.Machine Sys2Proof.Safety

theorem declareLost_moves (s : State) (r : GroupRec) (k : StrumGen) (p : Nat → Bool) : Moves 16 s (declareLost s r k p).1 := by
  unfold declareLost
  extract_lets +onlyGivenNames z0; clear_value z0
  dsimp only
  refine Moves.call (regAdd_moves _ _ _) (by decide) ?_
  exact Moves.refl

theorem groupSet_moves (s : State) (g : Nat) (x : StrumGroup) : Moves 131072 s (groupSet s g x) := by
  unfold groupSet
  extract_lets +onlyGivenNames z0; clear_value z0
  refine Moves.record ?_
  exact Moves.refl

theorem groupStatus_moves (s : State) (g : Nat) : Moves 16 s (groupStatus s g) := by
  unfold groupStatus
  extract_lets +onlyGivenNames z0; clear_value z0
  split
  refine Moves.call (regPut_moves _ _ _ _ _) (by decide) ?_
  refine Moves.call (regPut_moves _ _ _ _ _) (by decide) ?_
  exact Moves.refl

theorem logResidue_moves (s : State) (cls : Nat) (unit_ : Nat) (ctx : Nat) (ident : Nat × Nat) (res : Option (Nat × Nat)) : Moves 138412856 s (logResidue s
      cls unit_ ctx ident res) := by
  unfold logResidue
  extract_lets +onlyGivenNames z0; clear_value z0
  refine Moves.call (logEvent_moves _ _ _ _ _ _) (by decide) ?_
  exact Moves.refl

theorem anchorCheck_moves (s : State) (g : Nat) (r : GroupRec) (k : StrumGen) : Moves 138412856 s (anchorCheck s g r k) := by
  unfold anchorCheck
  split
  extract_lets +onlyGivenNames z0; clear_value z0
  refine Moves.ite (fun _ => ?_) (fun _ => ?_)
  · exact Moves.refl
  · refine Moves.call (logResidue_moves _ _ _ _ _ _) (by decide) ?_
    refine Moves.call (regAdd_moves _ _ _) (by decide) ?_
    exact Moves.refl

theorem sendUp_moves (s : State) (g : Nat) (r : GroupRec) (k : StrumGen) : Moves 138543928 s (sendUp s g r k) := by
  unfold sendUp
  extract_lets +onlyGivenNames z0
  have hz0 : Moves 138543928 s z0 := by
    unfold z0
    refine Moves.call (anchorCheck_moves _ _ _ _) (by decide) ?_
    exact Moves.refl
  clear_value z0
  split
  extract_lets +onlyGivenNames z1; clear_value z1
  extract_lets +onlyGivenNames z2; clear_value z2
  split
  extract_lets +onlyGivenNames z3; clear_value z3
  extract_lets +onlyGivenNames z4; clear_value z4
  extract_lets +onlyGivenNames z5
  have hz5 : Moves 138543928 s z5 := by
    unfold z5
    refine Moves.foldl (fun a6 _ => ?_) ?_
    · refine Moves.call (inject_moves _ _ _) (by decide) ?_
      exact Moves.refl
    · exact hz0
  clear_value z5
  extract_lets +onlyGivenNames z7
  have hz7 : Moves 138543928 s z7 := by
    unfold z7
    refine Moves.call (groupSet_moves _ _ _) (by decide) ?_
    exact hz5
  clear_value z7
  extract_lets +onlyGivenNames z8; clear_value z8
  extract_lets +onlyGivenNames z9; clear_value z9
  refine Moves.ite (fun _ => ?_) (fun _ => ?_)
  · refine Moves.ite (fun _ => ?_) (fun _ => ?_)
    · refine Moves.call (logEvent_moves _ _ _ _ _ _) (by decide) ?_
      exact hz7
    · exact hz7
  · refine Moves.call (inject_moves _ _ _) (by decide) ?_
    refine Moves.call (groupSet_moves _ _ _) (by decide) ?_
    exact hz0

theorem putGen_moves (s : State) (g : Nat) (r : GroupRec) (k : StrumGen) : Moves 138543928 s (putGen s g r k) := by
  unfold putGen
  extract_lets +onlyGivenNames z0; clear_value z0
  extract_lets +onlyGivenNames z1; clear_value z1
  extract_lets +onlyGivenNames z2
  have hz2 : Moves 138543928 s z2 := by
    unfold z2
    refine Moves.call (groupSet_moves _ _ _) (by decide) ?_
    exact Moves.refl
  clear_value z2
  refine Moves.call (groupStatus_moves _ _) (by decide) ?_
  refine Moves.ite (fun _ => ?_) (fun _ => ?_)
  · refine Moves.call (sendUp_moves _ _ _ _) (by decide) ?_
    exact hz2
  · exact hz2

theorem groupLose_moves (s : State) (g : Nat) (r : GroupRec) (p : Nat → Bool) : Moves 138543928 s (groupLose s g r p) := by
  unfold groupLose
  refine Moves.foldl (fun a0 _ => ?_) ?_
  · refine Moves.ite (fun _ => ?_) (fun _ => ?_)
    · exact Moves.refl
    · split
      refine Moves.ite (fun _ => ?_) (fun _ => ?_)
      · exact Moves.refl
      · refine Moves.call (putGen_moves _ _ _ _) (by decide) ?_
        refine Moves.call (Moves.of_fst (by assumption) (declareLost_moves _ _ _ _)) (by decide) ?_
        exact Moves.refl
  · exact Moves.refl

theorem addTicket_moves (s : State) (g : Nat) (t : StrumTicket) : Moves 131072 s (addTicket s g t) := by
  unfold addTicket
  extract_lets +onlyGivenNames z0; clear_value z0
  refine Moves.call (groupSet_moves _ _ _) (by decide) ?_
  exact Moves.refl

theorem agreeKind_moves (s : State) (g : Nat) (member : Nat) (k : StrumGen) (kind : Nat × Nat × Nat) : Moves 138412856 s (agreeKind s g member k kind).1 := by
  unfold agreeKind
  split
  · exact Moves.refl
  · refine Moves.ite_of Prod.fst (fun _ => ?_) (fun _ => ?_)
    · exact Moves.refl
    · dsimp only
      refine Moves.call (logEvent_moves _ _ _ _ _ _) (by decide) ?_
      exact Moves.refl

theorem strumBreak_moves (s : State) (g : Nat) (member : Nat) : Moves 138543928 s (strumBreak s g member) := by
  unfold strumBreak
  extract_lets +onlyGivenNames z0; clear_value z0
  extract_lets +onlyGivenNames z1; clear_value z1
  extract_lets +onlyGivenNames z2
  have hz2 : Moves 138543928 s z2 := by
    unfold z2
    refine Moves.call (logEvent_moves _ _ _ _ _ _) (by decide) ?_
    refine Moves.call (regAdd_moves _ _ _) (by decide) ?_
    exact Moves.refl
  clear_value z2
  extract_lets +onlyGivenNames z3; clear_value z3
  extract_lets +onlyGivenNames z4; clear_value z4
  refine Moves.call (groupSet_moves _ _ _) (by decide) ?_
  exact hz2

theorem strumContribute_moves (s : State) (g : Nat) (m : Nat) (kind : Nat × Nat × Nat) (payload : List Byte) (poison : Bool) (steward : Bool) : Moves
      138543928 s (strumContribute s g m kind payload poison steward).1 := by
  unfold strumContribute
  split
  · exact Moves.refl
  · extract_lets +onlyGivenNames z0; clear_value z0
    extract_lets +onlyGivenNames z1; clear_value z1
    extract_lets +onlyGivenNames z2
    have hz2 : ∀ x0 x1, Moves 138543928 x0 (z2 x0 x1).1 := by
      intro x0 x1
      unfold z2
      split
      extract_lets +onlyGivenNames z3; clear_value z3
      dsimp only
      refine Moves.call (putGen_moves _ _ _ _) (by decide) ?_
      refine Moves.call (addTicket_moves _ _ _) (by decide) ?_
      refine Moves.call (regAdd_moves _ _ _) (by decide) ?_
      refine Moves.call (Moves.of_fst (by assumption) (agreeKind_moves _ _ _ _ _)) (by decide) ?_
      exact Moves.refl
    clear_value z2
    split
    · split
      · exact hz2 _ _
      · exact Moves.refl
    · extract_lets +onlyGivenNames z4; clear_value z4
      dsimp only
      refine Moves.call (addTicket_moves _ _ _) (by decide) ?_
      refine Moves.call (groupSet_moves _ _ _) (by decide) ?_
      refine Moves.call (regAdd_moves _ _ _) (by decide) ?_
      exact Moves.refl
    · extract_lets +onlyGivenNames z5; clear_value z5
      refine Moves.ite_of Prod.fst (fun _ => ?_) (fun _ => ?_)
      · dsimp only
        refine Moves.call (addTicket_moves _ _ _) (by decide) ?_
        refine Moves.call (putGen_moves _ _ _ _) (by decide) ?_
        refine Moves.call (regAdd_moves _ _ _) (by decide) ?_
        refine Moves.call (regAdd_moves _ _ _) (by decide) ?_
        exact Moves.refl
      · refine Moves.trans ?_ (hz2 _ _)
        refine Moves.call (regAdd_moves _ _ _) (by decide) ?_
        refine Moves.call (groupSet_moves _ _ _) (by decide) ?_
        exact Moves.refl
    · dsimp only
      refine Moves.call (addTicket_moves _ _ _) (by decide) ?_
      refine Moves.call (strumBreak_moves _ _ _) (by decide) ?_
      exact Moves.refl

theorem strumLose_moves (s : State) (p : Nat → Bool) : Moves 138543928 s (strumLose s p) := by
  unfold strumLose
  split
  · exact Moves.refl
  · refine Moves.foldl (fun a0 _ => ?_) ?_
    · refine Moves.call (groupLose_moves _ _ _ _) (by decide) ?_
      exact Moves.refl
    · exact Moves.refl

theorem strumDeadline_moves (s : State) (g : Nat) (m : Nat) : Moves 135184 s (strumDeadline s g m).1 := by
  unfold strumDeadline
  extract_lets +onlyGivenNames z0; clear_value z0
  split
  · exact Moves.refl
  · extract_lets +onlyGivenNames z1; clear_value z1
    extract_lets +onlyGivenNames z2
    have hz2 : Moves 135184 s z2 := by
      unfold z2
      refine Moves.call (regPut_moves _ _ _ _ _) (by decide) ?_
      refine Moves.call (groupSet_moves _ _ _) (by decide) ?_
      exact Moves.refl
    clear_value z2
    dsimp only
    refine Moves.ite (fun _ => ?_) (fun _ => ?_)
    · exact hz2
    · refine Moves.call (tilesMod_moves _ _ _) (by decide) ?_
      exact hz2

theorem resultStray_moves (s : State) (p : Packet) : Moves 138543928 s (resultStray s p) := by
  unfold resultStray
  split
  · refine Moves.ite (fun _ => ?_) (fun _ => ?_)
    · refine Moves.call (strumBreak_moves _ _ _) (by decide) ?_
      exact Moves.refl
    · refine Moves.call (regAdd_moves _ _ _) (by decide) ?_
      exact Moves.refl
  · refine Moves.call (regAdd_moves _ _ _) (by decide) ?_
    exact Moves.refl

theorem strumDiscard_moves (s : State) (p : Packet) : Moves 138412856 s (strumDiscard s p) := by
  unfold strumDiscard
  refine Moves.call (logEvent_moves _ _ _ _ _ _) (by decide) ?_
  refine Moves.call (regAdd_moves _ _ _) (by decide) ?_
  exact Moves.refl

theorem recordResult_moves (s : State) (g : Nat) (num : Nat) (outcome : Nat) (lost : Nat) (chips : List Nat) : Moves 16 s (recordResult s g num outcome lost
      chips) := by
  unfold recordResult
  extract_lets +onlyGivenNames z0; clear_value z0
  extract_lets +onlyGivenNames z1
  have hz1 : Moves 16 s z1 := by
    unfold z1
    refine Moves.call (regPut_moves _ _ _ _ _) (by decide) ?_
    refine Moves.call (regPut_moves _ _ _ _ _) (by decide) ?_
    refine Moves.call (regPut_moves _ _ _ _ _) (by decide) ?_
    exact Moves.refl
  clear_value z1
  refine Moves.ite (fun _ => ?_) (fun _ => ?_)
  · refine Moves.foldl (fun a2 _ => ?_) ?_
    · refine Moves.call (regPut_moves _ _ _ _ _) (by decide) ?_
      exact Moves.refl
    · exact hz1
  · exact hz1

theorem strumResult_moves (s : State) (p : Packet) : ∀ d, strumResult s p = some d → Moves 134352920 s d.state := by
  intro d hd
  have hg : ∀ a g x, Moves 134352920 a (groupSet a g x) := fun a g x => (groupSet_moves ..).mono (by decide)
  unfold strumResult at hd
  split at hd
  · cases hd
  · split at hd
    · cases hd
    · dsimp only at hd
      split at hd
      · split at hd
        · injection hd with hd
          subst hd
          refine Moves.call (groupStatus_moves ..) (by decide) (Moves.call (recordResult_moves ..) (by decide)
            (Moves.call (regAdd_moves ..) (by decide) (Moves.trans (Moves.foldl (fun b t => ?_) (hg ..)) (hg ..))))
          exact Moves.ite (fun _ => Moves.refl) (fun _ => (tilesMod_moves ..).mono (by decide))
        · cases hd
      · split at hd
        · injection hd with hd
          subst hd
          refine Moves.call (groupStatus_moves ..) (by decide) (Moves.call (recordResult_moves ..) (by decide)
            (Moves.call (regAdd_moves ..) (by decide) (Moves.trans (Moves.foldl (fun b t => ?_) (Moves.trans ?_ (hg ..))) (hg ..))))
          · exact Moves.ite (fun _ => Moves.refl) (fun _ => (tilesMod_moves ..).mono (by decide))
          · exact Moves.foldl (fun a c => (inject_moves ..).mono (by decide)) Moves.refl
        · split at hd
          · injection hd with hd
            subst hd
            refine Moves.call (groupStatus_moves ..) (by decide) (Moves.call (recordResult_moves ..) (by decide)
              (Moves.call (regAdd_moves ..) (by decide) (Moves.trans (Moves.foldl (fun b t => ?_) (Moves.trans ?_ (hg ..))) (hg ..))))
            · exact Moves.ite (fun _ => Moves.refl) (fun _ => (tilesMod_moves ..).mono (by decide))
            · exact Moves.foldl (fun a c => (inject_moves ..).mono (by decide)) Moves.refl
          · cases hd

theorem strumPartial_moves (s : State) (p : Packet) : Moves 138543928 s (strumPartial s p) := by
  unfold strumPartial
  refine Moves.ite (fun _ => ?_) (fun _ => ?_)
  · refine Moves.call (strumDiscard_moves _ _) (by decide) ?_
    exact Moves.refl
  · split
    · exact Moves.refl
    · split
      · exact Moves.refl
      · extract_lets +onlyGivenNames z0; clear_value z0
        extract_lets +onlyGivenNames z1; clear_value z1
        extract_lets +onlyGivenNames z2; clear_value z2
        extract_lets +onlyGivenNames z3; clear_value z3
        extract_lets +onlyGivenNames z4; clear_value z4
        extract_lets +onlyGivenNames z5; clear_value z5
        extract_lets +onlyGivenNames z6; clear_value z6
        extract_lets +onlyGivenNames z7
        have hz7 : ∀ x0 x1, Moves 138543928 x0 (z7 x0 x1) := by
          intro x0 x1
          unfold z7
          extract_lets +onlyGivenNames z8
          have hz8 : Moves 138543928 x0 z8 := by
            unfold z8
            refine Moves.ite (fun _ => ?_) (fun _ => ?_)
            · exact Moves.refl
            · refine Moves.call (logResidue_moves _ _ _ _ _ _) (by decide) ?_
              refine Moves.call (regAdd_moves _ _ _) (by decide) ?_
              exact Moves.refl
          clear_value z8
          split
          refine Moves.call (putGen_moves _ _ _ _) (by decide) ?_
          refine Moves.call (regAdd_moves _ _ _) (by decide) ?_
          refine Moves.call (Moves.of_fst (by assumption) (agreeKind_moves _ _ _ _ _)) (by decide) ?_
          exact hz8
        clear_value z7
        refine Moves.ite (fun _ => ?_) (fun _ => ?_)
        · refine Moves.call (strumBreak_moves _ _ _) (by decide) ?_
          exact Moves.refl
        · split
          · refine Moves.ite (fun _ => ?_) (fun _ => ?_)
            · exact Moves.refl
            · refine Moves.ite (fun _ => ?_) (fun _ => ?_)
              · refine Moves.call (regAdd_moves _ _ _) (by decide) ?_
                exact Moves.refl
              · refine Moves.ite (fun _ => ?_) (fun _ => ?_)
                · refine Moves.call (strumBreak_moves _ _ _) (by decide) ?_
                  exact Moves.refl
                · exact hz7 _ _
          · extract_lets +onlyGivenNames z9; clear_value z9
            extract_lets +onlyGivenNames z10; clear_value z10
            refine Moves.ite (fun _ => ?_) (fun _ => ?_)
            · refine Moves.trans ?_ (hz7 _ _)
              refine Moves.call (regAdd_moves _ _ _) (by decide) ?_
              refine Moves.call (groupSet_moves _ _ _) (by decide) ?_
              exact Moves.refl
            · refine Moves.ite (fun _ => ?_) (fun _ => ?_)
              · refine Moves.call (regAdd_moves _ _ _) (by decide) ?_
                exact Moves.refl
              · refine Moves.call (strumBreak_moves _ _ _) (by decide) ?_
                exact Moves.refl

theorem strumExpire_moves (s : State) (g : Nat) : Moves 138543928 s (strumExpire s g) := by
  unfold strumExpire
  split
  · exact Moves.refl
  · split
    · exact Moves.refl
    · split
      extract_lets +onlyGivenNames z0; clear_value z0
      extract_lets +onlyGivenNames z1; clear_value z1
      extract_lets +onlyGivenNames z2; clear_value z2
      refine Moves.call (putGen_moves _ _ _ _) (by decide) ?_
      refine Moves.call (regAdd_moves _ _ _) (by decide) ?_
      refine Moves.call (Moves.of_fst (by assumption) (declareLost_moves _ _ _ _)) (by decide) ?_
      exact Moves.refl

end Sys2Proof.Laws
end

