-- ==== Sys2Proof/Laws/FrameCollCore.lean ====
section
/-! SUPPORT. What each function of Machine/CollCore.lean may change, and that it keeps the canonical form: its frame law. -/

namespace Sys2Proof.Laws

set_option Elab.async false

open Sys2Proof Sys2Proof.Machine Sys2Proof.Safety

theorem collWrite_moves (s : State) (gang : Nat) (place : Bool × Nat) (total : Nat) (o : Nat) (bs : List Byte) (poison : Bool) : Moves 138433528 s (collWrite
      s gang place total o bs poison) := by
  unfold collWrite
  extract_lets +onlyGivenNames z0; clear_value z0
  extract_lets +onlyGivenNames z1; clear_value z1
  refine Moves.ite (fun _ => ?_) (fun _ => ?_)
  · refine Moves.foldl (fun a2 _ => ?_) ?_
    · split
      refine Moves.call (tileMod_moves _ _ _) (by decide) ?_
      exact Moves.refl
    · exact Moves.refl
  · refine Moves.call (memStore_moves _ _ _ _) (by decide) ?_
    exact Moves.refl

theorem runPut_moves (s : State) (run : CollRun) : Moves 262144 s (runPut s run) := by
  unfold runPut
  extract_lets +onlyGivenNames z0; clear_value z0
  refine Moves.record ?_
  exact Moves.refl

theorem collStore_moves (s : State) (r : SetRec) (run : CollRun) (o : Nat) (bs : List Byte) (poison : Bool) : Moves 138695672 s (collStore s r run o bs
      poison) := by
  unfold collStore
  extract_lets +onlyGivenNames z0
  have hz0 : Moves 138695672 s z0 := by
    unfold z0
    refine Moves.call (collWrite_moves _ _ _ _ _ _ _) (by decide) ?_
    exact Moves.refl
  clear_value z0
  refine Moves.call (runPut_moves _ _) (by decide) ?_
  exact hz0

theorem collSelf_moves (s : State) (r : SetRec) (run : CollRun) : Moves 138695672 s (collSelf s r run) := by
  unfold collSelf
  extract_lets +onlyGivenNames z0; clear_value z0
  split
  · split
    refine Moves.call (collStore_moves _ _ _ _ _ _) (by decide) ?_
    exact Moves.refl
  · extract_lets +onlyGivenNames z1; clear_value z1
    extract_lets +onlyGivenNames z2; clear_value z2
    extract_lets +onlyGivenNames z3; clear_value z3
    extract_lets +onlyGivenNames z4; clear_value z4
    extract_lets +onlyGivenNames z5; clear_value z5
    extract_lets +onlyGivenNames z6; clear_value z6
    split
    extract_lets +onlyGivenNames z7; clear_value z7
    extract_lets +onlyGivenNames z8
    have hz8 : Moves 138695672 s z8 := by
      unfold z8
      refine Moves.call (collWrite_moves _ _ _ _ _ _ _) (by decide) ?_
      exact Moves.refl
    clear_value z8
    extract_lets +onlyGivenNames z9
    have hz9 : Moves 138695672 s z9 := by
      unfold z9
      refine Moves.call (tilesMod_moves _ _ _) (by decide) ?_
      exact hz8
    clear_value z9
    refine Moves.call (runPut_moves _ _) (by decide) ?_
    exact hz9
  · refine Moves.ite (fun _ => ?_) (fun _ => ?_)
    · split
      refine Moves.call (collStore_moves _ _ _ _ _ _) (by decide) ?_
      exact Moves.refl
    · exact Moves.refl
  · exact Moves.refl

theorem collStart_moves (s : State) (set : Nat) (gang : Nat) (d : List Word) : Moves 138695672 s (collStart s set gang d) := by
  unfold collStart
  split
  · exact Moves.refl
  · extract_lets +onlyGivenNames z0
    have hz0 : ∀ x0 x1, Moves 138695672 x0 (z0 x0 x1) := by
      intro x0 x1
      unfold z0
      refine Moves.call (tilesMod_moves _ _ _) (by decide) ?_
      exact Moves.refl
    clear_value z0
    refine Moves.ite (fun _ => ?_) (fun _ => ?_)
    · exact hz0 _ _
    · split
      · exact Moves.refl
      · extract_lets +onlyGivenNames z1; clear_value z1
        extract_lets +onlyGivenNames z2; clear_value z2
        extract_lets +onlyGivenNames z3; clear_value z3
        extract_lets +onlyGivenNames z4
        have hz4 : Moves 138695672 s z4 := by
          unfold z4
          refine Moves.record ?_
          exact Moves.refl
        clear_value z4
        extract_lets +onlyGivenNames z5
        have hz5 : Moves 138695672 s z5 := by
          unfold z5
          refine Moves.call (collSelf_moves _ _ _) (by decide) ?_
          exact hz4
        clear_value z5
        split
        · exact hz5
        · refine Moves.call (runPut_moves _ _) (by decide) ?_
          exact hz5

theorem collIssue_moves (s : State) (set : Nat) (gang : Nat) (d : List Word) : Moves 138695672 s (collIssue s set gang d) := by
  unfold collIssue
  extract_lets +onlyGivenNames z0; clear_value z0
  refine Moves.ite (fun _ => ?_) (fun _ => ?_)
  · refine Moves.record ?_
    exact Moves.refl
  · refine Moves.call (collStart_moves _ _ _ _) (by decide) ?_
    exact Moves.refl

theorem collReduced_moves (s : State) (r : SetRec) (run : CollRun) (ring : Nat) (shard : Nat) (chunk : Nat) (w : List Byte) (poison : Bool) : Moves 138695672
      s (collReduced s r run ring shard chunk w poison) := by
  unfold collReduced
  extract_lets +onlyGivenNames z0; clear_value z0
  split
  extract_lets +onlyGivenNames z1; clear_value z1
  split
  extract_lets +onlyGivenNames z2; clear_value z2
  extract_lets +onlyGivenNames z3; clear_value z3
  extract_lets +onlyGivenNames z4; clear_value z4
  extract_lets +onlyGivenNames z5; clear_value z5
  extract_lets +onlyGivenNames z6; clear_value z6
  refine Moves.ite (fun _ => ?_) (fun _ => ?_)
  · refine Moves.call (collStore_moves _ _ _ _ _ _) (by decide) ?_
    exact Moves.refl
  · refine Moves.ite (fun _ => ?_) (fun _ => ?_)
    · refine Moves.call (collStore_moves _ _ _ _ _ _) (by decide) ?_
      exact Moves.refl
    · refine Moves.call (runPut_moves _ _) (by decide) ?_
      exact Moves.refl

theorem collConsume_moves (s : State) (r : SetRec) (run : CollRun) (c : CollIn) : Moves 138695672 s (collConsume s r run c) := by
  unfold collConsume
  extract_lets +onlyGivenNames z0; clear_value z0
  extract_lets +onlyGivenNames z1; clear_value z1
  extract_lets +onlyGivenNames z2; clear_value z2
  extract_lets +onlyGivenNames z3; clear_value z3
  split
  extract_lets +onlyGivenNames z4; clear_value z4
  split
  · extract_lets +onlyGivenNames z5; clear_value z5
    extract_lets +onlyGivenNames z6; clear_value z6
    extract_lets +onlyGivenNames z7; clear_value z7
    split
    extract_lets +onlyGivenNames z8
    have hz8 : ∀ x0, Moves 138695672 x0 (z8 x0) := by
      intro x0
      unfold z8
      refine Moves.call (regAdd_moves _ _ _) (by decide) ?_
      refine Moves.call (logResidue_moves _ _ _ _ _ _) (by decide) ?_
      exact Moves.refl
    clear_value z8
    extract_lets +onlyGivenNames z9; clear_value z9
    extract_lets +onlyGivenNames z10; clear_value z10
    extract_lets +onlyGivenNames z11; clear_value z11
    extract_lets +onlyGivenNames z12; clear_value z12
    extract_lets +onlyGivenNames z13
    have hz13 : Moves 138695672 s z13 := by
      unfold z13
      refine Moves.ite (fun _ => ?_) (fun _ => ?_)
      · exact Moves.refl
      · exact hz8 _
    clear_value z13
    extract_lets +onlyGivenNames z14; clear_value z14
    extract_lets +onlyGivenNames z15; clear_value z15
    extract_lets +onlyGivenNames z16; clear_value z16
    extract_lets +onlyGivenNames z17; clear_value z17
    extract_lets +onlyGivenNames z18
    have hz18 : Moves 138695672 s z18 := by
      unfold z18
      refine Moves.ite (fun _ => ?_) (fun _ => ?_)
      · refine Moves.trans ?_ (hz8 _)
        exact hz13
      · exact hz13
    clear_value z18
    extract_lets +onlyGivenNames z19; clear_value z19
    refine Moves.ite (fun _ => ?_) (fun _ => ?_)
    · split
      extract_lets +onlyGivenNames z20; clear_value z20
      extract_lets +onlyGivenNames z21
      have hz21 : Moves 138695672 s z21 := by
        unfold z21
        refine Moves.ite (fun _ => ?_) (fun _ => ?_)
        · exact hz8 _
        · exact Moves.refl
      clear_value z21
      extract_lets +onlyGivenNames z22; clear_value z22
      extract_lets +onlyGivenNames z23; clear_value z23
      refine Moves.ite (fun _ => ?_) (fun _ => ?_)
      · refine Moves.call (collReduced_moves _ _ _ _ _ _ _ _) (by decide) ?_
        refine Moves.call (runPut_moves _ _) (by decide) ?_
        exact hz21
      · refine Moves.call (runPut_moves _ _) (by decide) ?_
        exact hz21
    · refine Moves.ite (fun _ => ?_) (fun _ => ?_)
      · refine Moves.ite (fun _ => ?_) (fun _ => ?_)
        · refine Moves.call (collReduced_moves _ _ _ _ _ _ _ _) (by decide) ?_
          refine Moves.call (runPut_moves _ _) (by decide) ?_
          exact hz18
        · refine Moves.call (runPut_moves _ _) (by decide) ?_
          exact hz18
      · refine Moves.call (runPut_moves _ _) (by decide) ?_
        exact hz13
  · extract_lets +onlyGivenNames z24; clear_value z24
    extract_lets +onlyGivenNames z25; clear_value z25
    extract_lets +onlyGivenNames z26; clear_value z26
    refine Moves.ite (fun _ => ?_) (fun _ => ?_)
    · exact Moves.refl
    · refine Moves.call (collStore_moves _ _ _ _ _ _) (by decide) ?_
      exact Moves.refl
  · extract_lets +onlyGivenNames z27; clear_value z27
    split
    · extract_lets +onlyGivenNames z28; clear_value z28
      extract_lets +onlyGivenNames z29; clear_value z29
      extract_lets +onlyGivenNames z30; clear_value z30
      extract_lets +onlyGivenNames z31
      have hz31 : Moves 138695672 s z31 := by
        unfold z31
        refine Moves.call (collWrite_moves _ _ _ _ _ _ _) (by decide) ?_
        exact Moves.refl
      clear_value z31
      extract_lets +onlyGivenNames z32; clear_value z32
      extract_lets +onlyGivenNames z33
      extract_lets +onlyGivenNames z34
      have hz34 : Moves 138695672 s z34 := by
        unfold z34
        refine Moves.ite (fun _ => ?_) (fun _ => ?_)
        · refine Moves.call (tilesMod_moves _ _ _) (by decide) ?_
          exact hz31
        · exact hz31
      clear_value z34
      refine Moves.call (runPut_moves _ _) (by decide) ?_
      exact hz34
    · extract_lets +onlyGivenNames z35; clear_value z35
      extract_lets +onlyGivenNames z36; clear_value z36
      refine Moves.ite (fun _ => ?_) (fun _ => ?_)
      · exact Moves.refl
      · refine Moves.call (collStore_moves _ _ _ _ _ _) (by decide) ?_
        exact Moves.refl
    · refine Moves.ite (fun _ => ?_) (fun _ => ?_)
      · exact Moves.refl
      · refine Moves.call (collStore_moves _ _ _ _ _ _) (by decide) ?_
        exact Moves.refl

theorem collArrive_moves (s : State) (p : Packet) : Moves 138695672 s (collArrive s p) := by
  unfold collArrive
  split
  · refine Moves.call (logEvent_moves _ _ _ _ _ _) (by decide) ?_
    refine Moves.call (regAdd_moves _ _ _) (by decide) ?_
    exact Moves.refl
  · split
    · exact Moves.refl
    · refine Moves.ite (fun _ => ?_) (fun _ => ?_)
      · refine Moves.call (logEvent_moves _ _ _ _ _ _) (by decide) ?_
        refine Moves.call (regAdd_moves _ _ _) (by decide) ?_
        exact Moves.refl
      · split
        · exact Moves.refl
        · extract_lets +onlyGivenNames z0; clear_value z0
          extract_lets +onlyGivenNames z1; clear_value z1
          extract_lets +onlyGivenNames z2; clear_value z2
          extract_lets +onlyGivenNames z3; clear_value z3
          extract_lets +onlyGivenNames z4; clear_value z4
          extract_lets +onlyGivenNames z5; clear_value z5
          extract_lets +onlyGivenNames z6; clear_value z6
          extract_lets +onlyGivenNames z7; clear_value z7
          extract_lets +onlyGivenNames z8; clear_value z8
          extract_lets +onlyGivenNames z9
          have hz9 : Moves 138695672 s z9 := by
            unfold z9
            refine Moves.call (collConsume_moves _ _ _ _) (by decide) ?_
            refine Moves.call (runPut_moves _ _) (by decide) ?_
            exact Moves.refl
          clear_value z9
          extract_lets +onlyGivenNames z10
          have hz10 : Moves 138695672 s z10 := by
            unfold z10
            refine Moves.call (regAdd_moves _ _ _) (by decide) ?_
            exact hz9
          clear_value z10
          refine Moves.ite (fun _ => ?_) (fun _ => ?_)
          · refine Moves.ite (fun _ => ?_) (fun _ => ?_)
            · exact hz10
            · refine Moves.call (inject_moves _ _ _) (by decide) ?_
              exact hz10
          · refine Moves.call (runPut_moves _ _) (by decide) ?_
            exact Moves.refl

theorem collCredit_moves (s : State) (p : Packet) : Moves 262144 s (collCredit s p) := by
  unfold collCredit
  extract_lets +onlyGivenNames z0; clear_value z0
  extract_lets +onlyGivenNames z1; clear_value z1
  extract_lets +onlyGivenNames z2; clear_value z2
  split
  · exact Moves.refl
  · split
    · exact Moves.refl
    · extract_lets +onlyGivenNames z3; clear_value z3
      refine Moves.call (runPut_moves _ _) (by decide) ?_
      exact Moves.refl

theorem collEnd_moves (s : State) (set : Nat) (gang : Nat) (code : Nat) : Moves 266240 s (collEnd s set gang code) := by
  unfold collEnd
  extract_lets +onlyGivenNames z0; clear_value z0
  extract_lets +onlyGivenNames z1
  have hz1 : Moves 266240 s z1 := by
    unfold z1
    refine Moves.call (tilesMod_moves _ _ _) (by decide) ?_
    exact Moves.refl
  clear_value z1
  extract_lets +onlyGivenNames z2; clear_value z2
  refine Moves.record ?_
  exact hz1

theorem collGuard_moves (s : State) (run : CollRun) : Moves 138806072 s (collGuard s run) := by
  unfold collGuard
  split
  · exact Moves.refl
  · refine Moves.ite (fun _ => ?_) (fun _ => ?_)
    · exact Moves.refl
    · refine Moves.call (strumContribute_moves _ _ _ _ _ _ _) (by decide) ?_
      refine Moves.call (runPut_moves _ _) (by decide) ?_
      exact Moves.refl

theorem collGuardResult_moves (s : State) (g : Nat) (gang : Nat) (outcome : Nat) (payload : List Byte) : Moves 266240 s (collGuardResult s g gang outcome
      payload) := by
  unfold collGuardResult
  refine Moves.foldl (fun a0 _ => ?_) ?_
  · refine Moves.ite (fun _ => ?_) (fun _ => ?_)
    · refine Moves.call (collEnd_moves _ _ _ _) (by decide) ?_
      exact Moves.refl
    · exact Moves.refl
  · exact Moves.refl

theorem collQueued_moves (s : State) (set : Nat) (gang : Nat) : Moves 138695672 s (collQueued s set gang) := by
  unfold collQueued
  refine Moves.ite (fun _ => ?_) (fun _ => ?_)
  · exact Moves.refl
  · split
    · exact Moves.refl
    · extract_lets +onlyGivenNames z0; clear_value z0
      refine Moves.call (collStart_moves _ _ _ _) (by decide) ?_
      refine Moves.record ?_
      exact Moves.refl

theorem collSend_moves (s : State) (set : Nat) (gang : Nat) : Moves 134479880 s (collSend s set gang) := by
  unfold collSend
  split
  · refine Moves.ite (fun _ => ?_) (fun _ => ?_)
    · exact Moves.refl
    · split
      · exact Moves.refl
      · extract_lets +onlyGivenNames z0; clear_value z0
        extract_lets +onlyGivenNames z1; clear_value z1
        extract_lets +onlyGivenNames z2
        have hz2 : Moves 134479880 s z2 := by
          unfold z2
          refine Moves.call (runPut_moves _ _) (by decide) ?_
          exact Moves.refl
        clear_value z2
        extract_lets +onlyGivenNames z3; clear_value z3
        refine Moves.call (injectAll_moves _ _ _) (by decide) ?_
        exact hz2
  · exact Moves.refl

theorem collStop_moves (s : State) (run : CollRun) (flag : Nat) : Moves 138806072 s (collStop s run flag) := by
  unfold collStop
  refine Moves.call (collGuard_moves _ _) (by decide) ?_
  exact Moves.refl

end Sys2Proof.Laws
end

