-- ==== Sys2Proof/Laws/FrameIssue.lean ====
section
/-! SUPPORT. What each function of Machine/Issue.lean may change, and that it keeps the canonical form: its frame law. -/

namespace Sys2Proof.Laws

set_option Elab.async false

open Sys2Proof Sys2Proof.Machine Sys2Proof.Safety

theorem strictHalt_moves (s : State) (t : Nat) (tk : Nat) : Moves 138974008 s (strictHalt s t tk) := by
  unfold strictHalt
  extract_lets +onlyGivenNames z0; clear_value z0
  extract_lets +onlyGivenNames z1
  have hz1 : Moves 138974008 s z1 := by
    unfold z1
    refine Moves.call (tileMod_moves _ _ _) (by decide) ?_
    exact Moves.refl
  clear_value z1
  refine Moves.call (raiseTrigger_moves _ _ _) (by decide) ?_
  exact hz1

theorem dmBegin_moves (s : State) (g : Nat) (i : Nat) (t : Nat) (tk : Nat) (op : DmOp) : Moves 156029944 s (dmBegin s g i t tk op) := by
  unfold dmBegin
  extract_lets +onlyGivenNames z0; clear_value z0
  extract_lets +onlyGivenNames z1
  have hz1 : Moves 156029944 s z1 := by
    unfold z1
    refine Moves.call (tileMod_moves _ _ _) (by decide) ?_
    exact Moves.refl
  clear_value z1
  extract_lets +onlyGivenNames z2; clear_value z2
  refine Moves.ite (fun _ => ?_) (fun _ => ?_)
  · refine Moves.call (tileMod_moves _ _ _) (by decide) ?_
    exact Moves.refl
  · split
    · refine Moves.ite (fun _ => ?_) (fun _ => ?_)
      · exact hz1
      · refine Moves.call (injectAll_moves _ _ _) (by decide) ?_
        exact hz1
    · refine Moves.ite (fun _ => ?_) (fun _ => ?_)
      · exact hz1
      · refine Moves.call (injectAll_moves _ _ _) (by decide) ?_
        exact hz1
    · refine Moves.ite (fun _ => ?_) (fun _ => ?_)
      · exact hz1
      · split
        extract_lets +onlyGivenNames z3
        have hz3 : Moves 156029944 s z3 := by
          unfold z3
          refine Moves.call (padReadEffects_moves _ _ _ _) (by decide) ?_
          exact hz1
        clear_value z3
        extract_lets +onlyGivenNames z4
        have hz4 : Moves 156029944 s z4 := by
          unfold z4
          refine Moves.call (twinLines_moves _ _ _ _ _ _) (by decide) ?_
          exact hz3
        clear_value z4
        refine Moves.ite (fun _ => ?_) (fun _ => ?_)
        · refine Moves.call (strictHalt_moves _ _ _) (by decide) ?_
          exact hz3
        · refine Moves.call (injectAll_moves _ _ _) (by decide) ?_
          exact hz4
    · extract_lets +onlyGivenNames z5
      have hz5 : Moves 156029944 s z5 := by
        unfold z5
        refine Moves.call (tileMod_moves _ _ _) (by decide) ?_
        exact hz1
      clear_value z5
      extract_lets +onlyGivenNames z6
      have hz6 : Moves 156029944 s z6 := by
        unfold z6
        split
        · refine Moves.ite (fun _ => ?_) (fun _ => ?_)
          · exact hz5
          · refine Moves.call (inject_moves _ _ _) (by decide) ?_
            exact hz5
        · exact hz5
      clear_value z6
      refine Moves.call (tileMod_moves _ _ _) (by decide) ?_
      exact hz6
    · refine Moves.ite (fun _ => ?_) (fun _ => ?_)
      · refine Moves.call (collIssue_moves _ _ _ _) (by decide) ?_
        exact hz1
      · exact hz1
    · exact hz1
    · exact hz1
    · exact hz1

theorem raiseExc_moves (s : State) (g : Nat) (e : TileExc) : Moves 12288 s (raiseExc s g e) := by
  unfold raiseExc
  extract_lets +onlyGivenNames z0; clear_value z0
  extract_lets +onlyGivenNames z1
  have hz1 : Moves 12288 s z1 := by
    unfold z1
    refine Moves.call (tilesMod_moves _ _ _) (by decide) ?_
    exact Moves.refl
  clear_value z1
  refine Moves.call (gangSet_moves _ _ _) (by decide) ?_
  exact hz1

theorem strumBegin_moves (s : State) (g : Nat) (ds : List (Nat × Word)) : Moves 155325240 s (strumBegin s g ds) := by
  unfold strumBegin
  split
  · exact Moves.refl
  · extract_lets +onlyGivenNames z0; clear_value z0
    split
    extract_lets +onlyGivenNames z1
    have hz1 : Moves 155325240 s z1 := by
      unfold z1
      refine Moves.call (padReadEffects_moves _ _ _ _) (by decide) ?_
      exact Moves.refl
    clear_value z1
    extract_lets +onlyGivenNames z2; clear_value z2
    extract_lets +onlyGivenNames z3; clear_value z3
    extract_lets +onlyGivenNames z4; clear_value z4
    split
    extract_lets +onlyGivenNames z5
    have hz5 : Moves 155325240 s z5 := by
      unfold z5
      refine Moves.call (twinItem_moves _ _ _) (by decide) ?_
      refine Moves.call (Moves.of_fst (by assumption) (strumContribute_moves _ _ _ _ _ _ _)) (by decide) ?_
      exact hz1
    clear_value z5
    refine Moves.foldl (fun a6 _ => ?_) ?_
    · refine Moves.call (tileMod_moves _ _ _) (by decide) ?_
      exact Moves.refl
    · exact hz5

theorem commitBundle_moves (s : State) (g : Nat) : Moves 156169208 s (commitBundle s g) := by
  unfold commitBundle
  extract_lets +onlyGivenNames z0; clear_value z0
  split
  · refine Moves.call (raiseExc_moves _ _ _) (by decide) ?_
    exact Moves.refl
  · extract_lets +onlyGivenNames z1; clear_value z1
    extract_lets +onlyGivenNames z2
    have hz2 : Moves 156169208 s z2 := by
      unfold z2
      refine Moves.foldl (fun a3 _ => ?_) ?_
      · extract_lets +onlyGivenNames z4; clear_value z4
        refine Moves.call (tileMod_moves _ _ _) (by decide) ?_
        exact Moves.refl
      · exact Moves.refl
    clear_value z2
    extract_lets +onlyGivenNames z5
    have hz5 : Moves 156169208 s z5 := by
      unfold z5
      refine Moves.foldl (fun a6 _ => ?_) ?_
      · split
        · refine Moves.call (dmBegin_moves _ _ _ _ _ _) (by decide) ?_
          exact Moves.refl
        · refine Moves.call (logResidue_moves _ _ _ _ _ _) (by decide) ?_
          exact Moves.refl
        · exact Moves.refl
      · exact hz2
    clear_value z5
    extract_lets +onlyGivenNames z7; clear_value z7
    extract_lets +onlyGivenNames z8
    have hz8 : Moves 156169208 s z8 := by
      unfold z8
      refine Moves.call (strumBegin_moves _ _ _) (by decide) ?_
      exact hz5
    clear_value z8
    extract_lets +onlyGivenNames z9; clear_value z9
    split
    refine Moves.call (gangSet_moves _ _ _) (by decide) ?_
    exact hz8

theorem commitIfDone_moves (s : State) (g : Nat) : Moves 156169208 s (commitIfDone s g) := by
  unfold commitIfDone
  extract_lets +onlyGivenNames z0; clear_value z0
  refine Moves.ite (fun _ => ?_) (fun _ => ?_)
  · refine Moves.call (commitBundle_moves _ _) (by decide) ?_
    exact Moves.refl
  · exact Moves.refl

theorem slotPut_moves (s : State) (g : Nat) (sl : Slot) (outs : List (Nat × SlotOut)) : Moves 8192 s (slotPut s g sl outs) := by
  unfold slotPut
  refine Moves.call (gangMod_moves _ _ _) (by decide) ?_
  exact Moves.refl

theorem settle_moves (s : State) (g : Nat) : Moves 4096 s (settle s g) := by
  unfold settle
  refine Moves.call (tilesMod_moves _ _ _) (by decide) ?_
  exact Moves.refl

theorem slotExec_moves {w : Nat} {s : State} {g : Nat} {sl : Slot} {op : Nat} {fields : Nat → Bool} {run : State → State} (hw : 4096 ||| w = w)
    (hf : ∀ a, Moves w a (run a)) : MovesN w s (slotExec s g sl op fields run) := by
  unfold slotExec
  refine MovesN.ite (fun _ => MovesN.next ?_) (fun _ => MovesN.next Moves.refl)
  exact (((settle_moves ..).mono (v := 4096) (by decide)).mono hw).trans (hf _)

theorem slotRun_moves (s : State) (g : Nat) (sl : Slot) (dec : Option Nat) (gp : BitVec 4) (gn : Bool) (f : Nat → Nat → Tile → SlotOut) : Moves 156169208 s
      (slotRun s g sl dec gp gn f) := by
  unfold slotRun
  refine Moves.call (commitIfDone_moves _ _) (by decide) ?_
  refine Moves.call (slotPut_moves _ _ _ _) (by decide) ?_
  exact Moves.refl

end Sys2Proof.Laws
end

