-- ==== Sys2Proof/Laws/FrameBranch.lean ====
section
/-! SUPPORT. What each function of Machine/Branch.lean may change, and that it keeps the canonical form: its frame law. -/

namespace Sys2Proof.Laws

set_option Elab.async false

open Sys2Proof Sys2Proof.Machine Sys2Proof.Safety

theorem branchRun_moves (s : State) (g : Nat) (dec : Option Nat) (f : ScalarFields) (eff : Tile → SlotOut) (cond : Tile → Bool) (target : Tile → Nat) : Moves
      156169208 s (branchRun s g dec f eff cond target) := by
  unfold branchRun
  extract_lets +onlyGivenNames z0; clear_value z0
  extract_lets +onlyGivenNames z1; clear_value z1
  extract_lets +onlyGivenNames z2; clear_value z2
  extract_lets +onlyGivenNames z3
  have hz3 : Moves 156169208 s z3 := by
    unfold z3
    refine Moves.call (slotPut_moves _ _ _ _) (by decide) ?_
    exact Moves.refl
  clear_value z3
  extract_lets +onlyGivenNames z4
  have hz4 : Moves 156169208 s z4 := by
    unfold z4
    refine Moves.ite (fun _ => ?_) (fun _ => ?_)
    · refine Moves.call (slotPut_moves _ _ _ _) (by decide) ?_
      exact Moves.refl
    · split
      · refine Moves.call (slotPut_moves _ _ _ _) (by decide) ?_
        exact Moves.refl
      · refine Moves.ite (fun _ => ?_) (fun _ => ?_)
        · refine Moves.call (gangMod_moves _ _ _) (by decide) ?_
          exact hz3
        · exact hz3
  clear_value z4
  refine Moves.call (commitIfDone_moves _ _) (by decide) ?_
  exact hz4

theorem execBnz_moves (g : Nat) (f : ScalarFields) (s : State) : MovesN 156169208 s (execBnz g f s) := by
  unfold execBnz
  refine slotExec_moves (by decide) (fun a0 => ?_)
  refine Moves.call (branchRun_moves _ _ _ _ _ _ _) (by decide) ?_
  exact Moves.refl

theorem execBz_moves (g : Nat) (f : ScalarFields) (s : State) : MovesN 156169208 s (execBz g f s) := by
  unfold execBz
  refine slotExec_moves (by decide) (fun a0 => ?_)
  refine Moves.call (branchRun_moves _ _ _ _ _ _ _) (by decide) ?_
  exact Moves.refl

theorem execCall_moves (g : Nat) (f : ScalarFields) (s : State) : MovesN 156169208 s (execCall g f s) := by
  unfold execCall
  refine slotExec_moves (by decide) (fun a0 => ?_)
  refine Moves.call (branchRun_moves _ _ _ _ _ _ _) (by decide) ?_
  exact Moves.refl

theorem execEnd_moves (g : Nat) (f : ScalarFields) (s : State) : MovesN 156169208 s (execEnd g f s) := by
  unfold execEnd
  refine slotExec_moves (by decide) (fun a0 => ?_)
  refine Moves.call (branchRun_moves _ _ _ _ _ _ _) (by decide) ?_
  exact Moves.refl

theorem execJmp_moves (g : Nat) (f : ScalarFields) (s : State) : MovesN 156169208 s (execJmp g f s) := by
  unfold execJmp
  refine slotExec_moves (by decide) (fun a0 => ?_)
  refine Moves.call (branchRun_moves _ _ _ _ _ _ _) (by decide) ?_
  exact Moves.refl

theorem execJr_moves (g : Nat) (f : ScalarFields) (s : State) : MovesN 156169208 s (execJr g f s) := by
  unfold execJr
  refine slotExec_moves (by decide) (fun a0 => ?_)
  refine Moves.call (branchRun_moves _ _ _ _ _ _ _) (by decide) ?_
  exact Moves.refl

theorem execLoop_moves (g : Nat) (f : ScalarFields) (s : State) : MovesN 156169208 s (execLoop g f s) := by
  unfold execLoop
  refine slotExec_moves (by decide) (fun a0 => ?_)
  refine Moves.call (branchRun_moves _ _ _ _ _ _ _) (by decide) ?_
  exact Moves.refl

end Sys2Proof.Laws
end

