-- ==== Sys2Proof/Laws/FrameChannel.lean ====
section
/-! SUPPORT. What each function of Machine/Channel.lean may change, and that it keeps the canonical form: its frame law. -/

namespace Sys2Proof.Laws

set_option Elab.async false

open Sys2Proof Sys2Proof.Machine Sys2Proof.Safety

theorem chansPurge_moves (s : State) (ctx : Nat) : Moves 16384 s (chansPurge s ctx) := by
  unfold chansPurge
  refine Moves.record ?_ (cchans := fun h => mapRising_map _ (by intro _; rfl) _ h)
  exact Moves.refl

theorem engSet_moves (s : State) (e : Nat) (x : Engine) : Moves 32768 s (engSet s e x) := by
  unfold engSet
  refine Moves.record ?_ (cengs := fun h => mapRising_mapSet _ _ _ _ h)
  exact Moves.refl

theorem engMod_moves (s : State) (e : Nat) (f : Engine → Engine) : Moves 32768 s (engMod s e f) := by
  unfold engMod
  refine Moves.call (engSet_moves _ _ _) (by decide) ?_
  exact Moves.refl

theorem chanGrant_moves (s : State) (ch : Nat) (c : Chan) (q : ChanReq) : Moves 16400 s (chanGrant s ch c q) := by
  unfold chanGrant
  extract_lets +onlyGivenNames z0; clear_value z0
  extract_lets +onlyGivenNames z1; clear_value z1
  extract_lets +onlyGivenNames z2; clear_value z2
  extract_lets +onlyGivenNames z3; clear_value z3
  refine Moves.call (regAdd_moves _ _ _) (by decide) ?_
  refine Moves.call (chanSet_moves _ _ _) (by decide) ?_
  exact Moves.refl

theorem chanDecide_moves (s : State) (ch : Nat) : Moves 16400 s (chanDecide s ch) := by
  unfold chanDecide
  extract_lets +onlyGivenNames z0; clear_value z0
  extract_lets +onlyGivenNames z1; clear_value z1
  refine Moves.ite (fun _ => ?_) (fun _ => ?_)
  · exact Moves.refl
  · refine Moves.ite (fun _ => ?_) (fun _ => ?_)
    · refine Moves.call (chanSet_moves _ _ _) (by decide) ?_
      exact Moves.refl
    · split
      · refine Moves.call (chanGrant_moves _ _ _ _) (by decide) ?_
        exact Moves.refl
      · split
        · refine Moves.call (chanGrant_moves _ _ _ _) (by decide) ?_
          exact Moves.refl
        · extract_lets +onlyGivenNames z2; clear_value z2
          refine Moves.ite (fun _ => ?_) (fun _ => ?_)
          · exact Moves.refl
          · split
            · refine Moves.call (chanGrant_moves _ _ _ _) (by decide) ?_
              exact Moves.refl
            · split
              · refine Moves.call (regAdd_moves _ _ _) (by decide) ?_
                refine Moves.call (chanGrant_moves _ _ _ _) (by decide) ?_
                exact Moves.refl
              · exact Moves.refl

theorem chanPass_moves (s : State) (ch : Nat) (n : Nat) : Moves 16400 s (chanPass s ch n) := by
  unfold chanPass
  extract_lets +onlyGivenNames z0; clear_value z0
  extract_lets +onlyGivenNames z1; clear_value z1
  extract_lets +onlyGivenNames z2; clear_value z2
  extract_lets +onlyGivenNames z3
  have hz3 : Moves 16400 s z3 := by
    unfold z3
    refine Moves.call (chanSet_moves _ _ _) (by decide) ?_
    exact Moves.refl
  clear_value z3
  refine Moves.ite (fun _ => ?_) (fun _ => ?_)
  · refine Moves.call (regAdd_moves _ _ _) (by decide) ?_
    exact hz3
  · refine Moves.ite (fun _ => ?_) (fun _ => ?_)
    · refine Moves.call (regAdd_moves _ _ _) (by decide) ?_
      exact hz3
    · exact hz3

theorem chanPreempt_moves (s : State) (ch : Nat) : Moves 16400 s (chanPreempt s ch) := by
  unfold chanPreempt
  extract_lets +onlyGivenNames z0; clear_value z0
  split
  · refine Moves.ite (fun _ => ?_) (fun _ => ?_)
    · refine Moves.call (regAdd_moves _ _ _) (by decide) ?_
      refine Moves.call (chanSet_moves _ _ _) (by decide) ?_
      exact Moves.refl
    · exact Moves.refl
  · exact Moves.refl

theorem chanRestart_moves (s : State) (ch : Nat) : Moves 16384 s (chanRestart s ch) := by
  unfold chanRestart
  extract_lets +onlyGivenNames z0; clear_value z0
  refine Moves.call (chanSet_moves _ _ _) (by decide) ?_
  exact Moves.refl

theorem execBurstLimitExpiry_moves (ch : Nat) (s : State) : MovesN 16400 s (execBurstLimitExpiry ch s) := by
  unfold execBurstLimitExpiry
  split
  · extract_lets +onlyGivenNames z0
    have hz0 : Moves 16400 s z0 := by
      unfold z0
      refine Moves.call (chanPass_moves _ _ _) (by decide) ?_
      exact Moves.refl
    clear_value z0
    extract_lets +onlyGivenNames z1; clear_value z1
    split
    · extract_lets +onlyGivenNames z2; clear_value z2
      extract_lets +onlyGivenNames z3; clear_value z3
      refine MovesN.ite (fun _ => ?_) (fun _ => ?_)
      · refine MovesN.next ?_
        refine Moves.call (chanSet_moves _ _ _) (by decide) ?_
        exact hz0
      · refine MovesN.next ?_
        exact hz0
    · refine MovesN.next ?_
      exact hz0
  · refine MovesN.next ?_
    exact Moves.refl

theorem gateEngine_moves (s : State) (ch : Nat) : Moves 32768 s (gateEngine s ch) := by
  unfold gateEngine
  extract_lets +onlyGivenNames z0; clear_value z0
  extract_lets +onlyGivenNames z1; clear_value z1
  extract_lets +onlyGivenNames z2; clear_value z2
  refine Moves.ite (fun _ => ?_) (fun _ => ?_)
  · refine Moves.call (engSet_moves _ _ _) (by decide) ?_
    exact Moves.refl
  · exact Moves.refl

theorem execChannelArbitration_moves (ch : Nat) (cycles : Nat) (s : State) : MovesN 49168 s (execChannelArbitration ch cycles s) := by
  unfold execChannelArbitration
  refine MovesN.ite (fun _ => ?_) (fun _ => ?_)
  · refine MovesN.next ?_
    refine Moves.call (gateEngine_moves _ _) (by decide) ?_
    refine Moves.call (chanDecide_moves _ _) (by decide) ?_
    refine Moves.call (chanPreempt_moves _ _) (by decide) ?_
    refine Moves.call (chanPass_moves _ _ _) (by decide) ?_
    exact Moves.refl
  · refine MovesN.next ?_
    exact Moves.refl

theorem execChannelRequest_moves (ch : Nat) (ctx : Nat) (src : Nat) (lines : Nat) (id : Nat) (cycles : Nat) (s : State) : MovesN 16400 s (execChannelRequest
      ch ctx src lines id cycles s) := by
  unfold execChannelRequest
  extract_lets +onlyGivenNames z0
  have hz0 : Moves 16400 s z0 := by
    unfold z0
    refine Moves.call (chanPass_moves _ _ _) (by decide) ?_
    exact Moves.refl
  clear_value z0
  extract_lets +onlyGivenNames z1; clear_value z1
  refine MovesN.ite (fun _ => ?_) (fun _ => ?_)
  · refine MovesN.next ?_
    refine Moves.call (chanSet_moves _ _ _) (by decide) ?_
    exact hz0
  · refine MovesN.next ?_
    exact Moves.refl

theorem execRefreshDue_moves (ch : Nat) (cycles : Nat) (s : State) : MovesN 16400 s (execRefreshDue ch cycles s) := by
  unfold execRefreshDue
  extract_lets +onlyGivenNames z0
  have hz0 : Moves 16400 s z0 := by
    unfold z0
    refine Moves.call (chanPass_moves _ _ _) (by decide) ?_
    exact Moves.refl
  clear_value z0
  extract_lets +onlyGivenNames z1; clear_value z1
  refine MovesN.ite (fun _ => ?_) (fun _ => ?_)
  · refine MovesN.ite (fun _ => ?_) (fun _ => ?_)
    · refine MovesN.next ?_
      refine Moves.call (chanSet_moves _ _ _) (by decide) ?_
      exact hz0
    · refine MovesN.next ?_
      exact hz0
  · refine MovesN.next ?_
    exact Moves.refl

theorem execStarvationGrant_moves (ch : Nat) (cycles : Nat) (s : State) : MovesN 16400 s (execStarvationGrant ch cycles s) := by
  unfold execStarvationGrant
  extract_lets +onlyGivenNames z0
  have hz0 : Moves 16400 s z0 := by
    unfold z0
    refine Moves.call (chanPass_moves _ _ _) (by decide) ?_
    exact Moves.refl
  clear_value z0
  extract_lets +onlyGivenNames z1; clear_value z1
  refine MovesN.ite (fun _ => ?_) (fun _ => ?_)
  · refine MovesN.ite (fun _ => ?_) (fun _ => ?_)
    · split
      · refine MovesN.next ?_
        refine Moves.call (regAdd_moves _ _ _) (by decide) ?_
        refine Moves.call (chanGrant_moves _ _ _ _) (by decide) ?_
        exact hz0
      · refine MovesN.next ?_
        exact hz0
    · refine MovesN.next ?_
      exact hz0
  · refine MovesN.next ?_
    exact Moves.refl

theorem execTransferComplete_moves (ch : Nat) (s : State) : MovesN 16400 s (execTransferComplete ch s) := by
  unfold execTransferComplete
  split
  · extract_lets +onlyGivenNames z0
    have hz0 : Moves 16400 s z0 := by
      unfold z0
      refine Moves.call (chanPass_moves _ _ _) (by decide) ?_
      exact Moves.refl
    clear_value z0
    extract_lets +onlyGivenNames z1; clear_value z1
    split
    · refine MovesN.ite (fun _ => ?_) (fun _ => ?_)
      · refine MovesN.next ?_
        refine Moves.call (chanSet_moves _ _ _) (by decide) ?_
        exact hz0
      · refine MovesN.next ?_
        exact hz0
    · refine MovesN.next ?_
      exact hz0
  · refine MovesN.next ?_
    exact Moves.refl

end Sys2Proof.Laws
end

