-- ==== Sys2Proof/Laws/FrameHostGate.lean ====
section
/-! SUPPORT. What each function of Machine/HostGate.lean may change, and that it keeps the canonical form: its frame law. -/

namespace Sys2Proof.Laws

set_option Elab.async false

open Sys2Proof Sys2Proof.Machine Sys2Proof.Safety

theorem discardWrite_moves (s : State) (k : Nat) (v : Word) : Moves 138412856 s (discardWrite s k v) := by
  unfold discardWrite
  extract_lets +onlyGivenNames z0; clear_value z0
  refine Moves.ite (fun _ => ?_) (fun _ => ?_)
  · exact Moves.refl
  · refine Moves.call (logEvent_moves _ _ _ _ _ _) (by decide) ?_
    refine Moves.record ?_
    exact Moves.refl

theorem hostWrite_moves {w : Nat} {s : State} {k : Nat} {v : Word} {f : State → State} (hw : 138412856 ||| w = w)
    (hf : ∀ a, Moves w a (f a)) : Moves w s (hostWrite s k v f) := by
  unfold hostWrite
  split
  · exact Moves.refl
  · exact ((regSatAdd_moves ..).mono (v := 138412856) (by decide)).mono hw
  · exact ((discardWrite_moves ..).mono (v := 138412856) (by decide)).mono hw
  · exact hf s

theorem writeBy_moves {w : Nat} {mgmt : Bool} {s : State} {k : Nat} {v : Word} {f : State → State} (hw : 138412856 ||| w = w)
    (hf : ∀ a, Moves w a (f a)) : Moves w s (writeBy mgmt s k v f) := by
  unfold writeBy
  exact Moves.ite (fun _ => hf s) (fun _ => hostWrite_moves hw hf)

end Sys2Proof.Laws
end

