-- ==== Sys2Proof/Laws/FrameEccEvents.lean ====
section
/-! SUPPORT. What each function of Machine/EccEvents.lean may change, and that it keeps the canonical form: its frame law. -/

namespace Sys2Proof.Laws

set_option Elab.async false

open Sys2Proof Sys2Proof.Machine Sys2Proof.Safety

theorem dieLogClear_moves (s : State) (d : Nat) : Moves 16 s (dieLogClear s d) := by
  unfold dieLogClear
  refine Moves.foldl (fun a0 _ => ?_) ?_
  · refine Moves.call (regSet_moves _ _ _) (by decide) ?_
    exact Moves.refl
  · refine Moves.call (regSet_moves _ _ _) (by decide) ?_
    exact Moves.refl

theorem writeBackLine_moves (s : State) (l : Nat) (mark : Bool) : Moves 240 s (writeBackLine s l mark) := by
  unfold writeBackLine
  refine Moves.call (regAdd_moves _ _ _) (by decide) (Moves.call (setLinePoison_moves _ _ _) (by decide) ?_)
  exact Moves.record (x := s) Moves.refl (cmem := mapWf_mapSetList _ _ _ _) (clines := mapRising_mapDel _ _)

theorem makeWriteBack_moves (s : State) (l : Nat) (mark : Bool) : Moves 16624 s (makeWriteBack s l mark) := by
  unfold makeWriteBack
  extract_lets +onlyGivenNames z0; clear_value z0
  extract_lets +onlyGivenNames z1
  have hz1 : Moves 16624 s z1 := by
    unfold z1
    refine Moves.call (writeBackLine_moves _ _ _) (by decide) ?_
    exact Moves.refl
  clear_value z1
  extract_lets +onlyGivenNames z2; clear_value z2
  extract_lets +onlyGivenNames z3
  have hz3 : Moves 16624 s z3 := by
    unfold z3
    refine Moves.call (chanPass_moves _ _ _) (by decide) ?_
    refine Moves.call (chanSet_moves _ _ _) (by decide) ?_
    exact hz1
  clear_value z3
  extract_lets +onlyGivenNames z4; clear_value z4
  refine Moves.call (chanSet_moves _ _ _) (by decide) ?_
  exact hz3

theorem execCorrectionWriteback_moves (line : Nat) (s : State) : MovesN 16624 s (execCorrectionWriteback line s) := by
  unfold execCorrectionWriteback
  split
  · refine MovesN.ite (fun _ => ?_) (fun _ => ?_)
    · refine MovesN.next ?_
      exact Moves.refl
    · refine MovesN.next ?_
      refine Moves.call (makeWriteBack_moves _ _ _) (by decide) ?_
      exact Moves.refl
  · refine MovesN.next ?_
    exact Moves.refl

theorem execDramLineRead_moves (line : Nat) (flips : Nat) (s : State) : MovesN 138429368 s (execDramLineRead line flips s) := by
  unfold execDramLineRead
  refine MovesN.ite (fun _ => ?_) (fun _ => ?_)
  · refine MovesN.next ?_
    refine Moves.call (lineReadEffects_moves _ _) (by decide) ?_
    refine Moves.call (upsetLine_moves _ _ _) (by decide) ?_
    exact Moves.refl
  · refine MovesN.next ?_
    exact Moves.refl

theorem stackLogClear_moves (s : State) (n : Nat) : Moves 16 s (stackLogClear s n) := by
  unfold stackLogClear
  extract_lets +onlyGivenNames z0
  have hz0 : Moves 16 s z0 := by
    unfold z0
    refine Moves.call (regSet_moves _ _ _) (by decide) ?_
    exact Moves.refl
  clear_value z0
  refine Moves.foldl (fun a1 _ => ?_) ?_
  · refine Moves.call (regSet_moves _ _ _) (by decide) ?_
    refine Moves.call (regSet_moves _ _ _) (by decide) ?_
    exact Moves.refl
  · exact hz0

theorem execEccLogClear_moves (mgmt : Bool) (onStack : Bool) (index : Nat) (s : State) : MovesN 138412856 s (execEccLogClear mgmt onStack index s) := by
  unfold execEccLogClear
  refine MovesN.ite (fun _ => ?_) (fun _ => ?_)
  · refine MovesN.ite (fun _ => ?_) (fun _ => ?_)
    · refine MovesN.next ?_
      refine Moves.trans ?_ (writeBy_moves (by decide) (fun a0 => ?_))
      · exact Moves.refl
      · refine Moves.call (stackLogClear_moves _ _) (by decide) ?_
        exact Moves.refl
    · refine MovesN.next ?_
      exact Moves.refl
  · refine MovesN.ite (fun _ => ?_) (fun _ => ?_)
    · refine MovesN.next ?_
      refine Moves.trans ?_ (writeBy_moves (by decide) (fun a1 => ?_))
      · exact Moves.refl
      · refine Moves.call (dieLogClear_moves _ _) (by decide) ?_
        exact Moves.refl
    · refine MovesN.next ?_
      exact Moves.refl

theorem execPoisonMarkInStore_moves (line : Nat) (s : State) : MovesN 16624 s (execPoisonMarkInStore line s) := by
  unfold execPoisonMarkInStore
  split
  · refine MovesN.ite (fun _ => ?_) (fun _ => ?_)
    · refine MovesN.next ?_
      refine Moves.call (makeWriteBack_moves _ _ _) (by decide) ?_
      exact Moves.refl
    · refine MovesN.next ?_
      exact Moves.refl
  · refine MovesN.next ?_
    exact Moves.refl

end Sys2Proof.Laws
end

