-- ==== Sys2Proof/Laws/FrameTransfers.lean ====
section
/-! SUPPORT. What each function of Machine/Transfers.lean may change, and that it keeps the canonical form: its frame law. -/

namespace Sys2Proof.Laws

set_option Elab.async false

open Sys2Proof Sys2Proof.Machine Sys2Proof.Safety

theorem postTicket_moves (s : State) (t : Nat) (tk : Nat) (code : Nat) : Moves 4096 s (postTicket s t tk code) := by
  unfold postTicket
  refine Moves.call (tileMod_moves _ _ _) (by decide) ?_
  exact Moves.refl

theorem answerPiece_moves (s : State) (t : Nat) (srcTag : Nat) (code : Nat) : Moves 4096 s (answerPiece s t srcTag code) := by
  unfold answerPiece
  extract_lets +onlyGivenNames z0; clear_value z0
  extract_lets +onlyGivenNames z1; clear_value z1
  extract_lets +onlyGivenNames z2
  have hz2 : ∀ x0, Moves 4096 s (z2 x0) := by
    intro x0
    unfold z2
    refine Moves.call (tileMod_moves _ _ _) (by decide) ?_
    exact Moves.refl
  clear_value z2
  split
  · exact hz2 _
  · exact hz2 _
  · refine Moves.ite (fun _ => ?_) (fun _ => ?_)
    · refine Moves.call (postTicket_moves _ _ _ _) (by decide) ?_
      exact Moves.refl
    · exact hz2 _
  · refine Moves.call (postTicket_moves _ _ _ _) (by decide) ?_
    exact Moves.refl
  · exact Moves.refl

theorem execFillComplete_moves (tile : Nat) (tk : Nat) (s : State) : MovesN 138990392 s (execFillComplete tile tk s) := by
  unfold execFillComplete
  split
  · extract_lets +onlyGivenNames z0
    have hz0 : Moves 138990392 s z0 := by
      unfold z0
      refine Moves.call (linesReadEffects_moves _ _) (by decide) ?_
      exact Moves.refl
    clear_value z0
    extract_lets +onlyGivenNames z1; clear_value z1
    extract_lets +onlyGivenNames z2; clear_value z2
    extract_lets +onlyGivenNames z3
    have hz3 : Moves 138990392 s z3 := by
      unfold z3
      refine Moves.call (tileMod_moves _ _ _) (by decide) ?_
      exact hz0
    clear_value z3
    refine MovesN.ite (fun _ => ?_) (fun _ => ?_)
    · refine MovesN.ite (fun _ => ?_) (fun _ => ?_)
      · refine MovesN.next ?_
        refine Moves.call (strictHalt_moves _ _ _) (by decide) ?_
        exact hz3
      · refine MovesN.next ?_
        refine Moves.call (postTicket_moves _ _ _ _) (by decide) ?_
        exact hz3
    · refine MovesN.ite (fun _ => ?_) (fun _ => ?_)
      · refine MovesN.next ?_
        refine Moves.call (postTicket_moves _ _ _ _) (by decide) ?_
        exact Moves.refl
      · refine MovesN.next ?_
        exact Moves.refl
  · refine MovesN.next ?_
    exact Moves.refl

theorem execGlobalLoadComplete_moves (tile : Nat) (tk : Nat) (s : State) : MovesN 138990392 s (execGlobalLoadComplete tile tk s) := by
  unfold execGlobalLoadComplete
  split
  · extract_lets +onlyGivenNames z0; clear_value z0
    extract_lets +onlyGivenNames z1
    have hz1 : Moves 138990392 s z1 := by
      unfold z1
      refine Moves.call (linesReadEffects_moves _ _) (by decide) ?_
      exact Moves.refl
    clear_value z1
    extract_lets +onlyGivenNames z2; clear_value z2
    extract_lets +onlyGivenNames z3; clear_value z3
    refine MovesN.ite (fun _ => ?_) (fun _ => ?_)
    · refine MovesN.ite (fun _ => ?_) (fun _ => ?_)
      · refine MovesN.next ?_
        refine Moves.call (strictHalt_moves _ _ _) (by decide) ?_
        exact hz1
      · refine MovesN.next ?_
        refine Moves.call (postTicket_moves _ _ _ _) (by decide) ?_
        refine Moves.call (tileMod_moves _ _ _) (by decide) ?_
        exact hz1
    · refine MovesN.ite (fun _ => ?_) (fun _ => ?_)
      · refine MovesN.next ?_
        refine Moves.call (postTicket_moves _ _ _ _) (by decide) ?_
        exact Moves.refl
      · refine MovesN.next ?_
        exact Moves.refl
  · refine MovesN.next ?_
    exact Moves.refl

theorem storeLines_moves (s : State) (off n : Nat) (bs : List Byte) (ps : List Bool) : Moves 16624 s (storeLines s off n bs ps).1 := by
  induction n generalizing s off bs ps with
  | zero => exact Moves.refl
  | succ n ih =>
    unfold storeLines
    refine Moves.trans ?_ (ih ..)
    exact Moves.ite (fun _ => Moves.refl) (fun _ => (lineStore_moves ..).mono (by decide))

theorem execGlobalStoreComplete_moves (tile : Nat) (tk : Nat) (s : State) : MovesN 155767800 s (execGlobalStoreComplete tile tk s) := by
  unfold execGlobalStoreComplete
  split
  · refine MovesN.ite (fun _ => ?_) (fun _ => ?_)
    · split
      extract_lets +onlyGivenNames z0
      have hz0 : Moves 155767800 s z0 := by
        unfold z0
        refine Moves.call (padReadEffects_moves _ _ _ _) (by decide) ?_
        exact Moves.refl
      clear_value z0
      extract_lets +onlyGivenNames z1; clear_value z1
      extract_lets +onlyGivenNames z2
      have hz2 : Moves 155767800 s z2 := by
        unfold z2
        refine Moves.call (storeLines_moves _ _ _ _ _) (by decide) ?_
        exact hz0
      clear_value z2
      extract_lets +onlyGivenNames z3
      have hz3 : Moves 155767800 s z3 := by
        unfold z3
        refine Moves.call (twinLines_moves _ _ _ _ _ _) (by decide) ?_
        exact hz2
      clear_value z3
      refine MovesN.ite (fun _ => ?_) (fun _ => ?_)
      · refine MovesN.next ?_
        refine Moves.call (strictHalt_moves _ _ _) (by decide) ?_
        exact hz0
      · refine MovesN.next ?_
        refine Moves.call (postTicket_moves _ _ _ _) (by decide) ?_
        exact hz3
    · refine MovesN.next ?_
      exact Moves.refl
  · refine MovesN.next ?_
    exact Moves.refl

theorem execSendDispatch_moves (tile : Nat) (tk : Nat) (s : State) : MovesN 155751224 s (execSendDispatch tile tk s) := by
  unfold execSendDispatch
  extract_lets +onlyGivenNames z0; clear_value z0
  split
  · extract_lets +onlyGivenNames z1; clear_value z1
    refine MovesN.ite (fun _ => ?_) (fun _ => ?_)
    · refine MovesN.next ?_
      exact Moves.refl
    · split
      extract_lets +onlyGivenNames z2
      have hz2 : Moves 155751224 s z2 := by
        unfold z2
        refine Moves.call (padReadEffects_moves _ _ _ _) (by decide) ?_
        exact Moves.refl
      clear_value z2
      extract_lets +onlyGivenNames z3; clear_value z3
      extract_lets +onlyGivenNames z4; clear_value z4
      extract_lets +onlyGivenNames z5
      have hz5 : Moves 155751224 s z5 := by
        unfold z5
        refine Moves.call (tileMod_moves _ _ _) (by decide) ?_
        exact hz2
      clear_value z5
      extract_lets +onlyGivenNames z6
      have hz6 : Moves 155751224 s z6 := by
        unfold z6
        refine Moves.call (twinItem_moves _ _ _) (by decide) ?_
        exact hz5
      clear_value z6
      refine MovesN.ite (fun _ => ?_) (fun _ => ?_)
      · refine MovesN.next ?_
        refine Moves.call (strictHalt_moves _ _ _) (by decide) ?_
        exact hz2
      · refine MovesN.next ?_
        refine Moves.call (inject_moves _ _ _) (by decide) ?_
        exact hz6
  · refine MovesN.next ?_
    exact Moves.refl

end Sys2Proof.Laws
end

