-- ==== Sys2Proof/Laws/FrameRouter.lean ====
section
/-! SUPPORT. What each function of Machine/Router.lean may change, and that it keeps the canonical form: its frame law. -/

namespace Sys2Proof.Laws

set_option Elab.async false

open Sys2Proof Sys2Proof.Machine Sys2Proof.Safety

theorem agentOutside_moves (s : State) (p : Packet) : Moves 4096 s (agentOutside s p) := by
  unfold agentOutside
  refine Moves.ite (fun _ => ?_) (fun _ => ?_)
  · refine Moves.call (answerPiece_moves _ _ _ _) (by decide) ?_
    exact Moves.refl
  · exact Moves.refl

theorem freeFlit_moves (s : State) (port : Nat) (vc : Nat) (pool : Bool) : Moves 1048576 s (freeFlit s port vc pool) := by
  unfold freeFlit
  extract_lets +onlyGivenNames z0; clear_value z0
  extract_lets +onlyGivenNames z1
  refine Moves.ite (fun _ => ?_) (fun _ => ?_)
  · refine Moves.record ?_
    exact Moves.refl
  · refine Moves.record ?_
    exact Moves.refl

theorem freeFlits_moves (s : State) (port : Nat) (vc : Nat) (fs : List (Flit × Bool)) : Moves 1048576 s (freeFlits s port vc fs) := by
  unfold freeFlits
  refine Moves.foldl (fun a0 _ => ?_) ?_
  · refine Moves.call (freeFlit_moves _ _ _ _) (by decide) ?_
    exact Moves.refl
  · exact Moves.refl

theorem inSet_moves (s : State) (port : Nat) (vc : Nat) (x : InVc) : Moves 1048576 s (inSet s port vc x) := by
  unfold inSet
  extract_lets +onlyGivenNames z0
  refine Moves.record ?_
  exact Moves.refl

theorem cutHead_moves (s : State) (port : Nat) (vc : Nat) : Moves 1048576 s (cutHead s port vc) := by
  unfold cutHead
  extract_lets +onlyGivenNames z0; clear_value z0
  split
  · extract_lets +onlyGivenNames z1
    have hz1 : Moves 1048576 s z1 := by
      unfold z1
      refine Moves.call (freeFlits_moves _ _ _ _) (by decide) ?_
      exact Moves.refl
    clear_value z1
    refine Moves.call (inSet_moves _ _ _ _) (by decide) ?_
    exact hz1
  · exact Moves.refl

theorem cntAdd_moves (s : State) (port : Nat) (vc : Nat) (off : Nat) (n : Nat) : Moves 1048576 s (cntAdd s port vc off n) := by
  unfold cntAdd
  extract_lets +onlyGivenNames z0; clear_value z0
  extract_lets +onlyGivenNames z1
  refine Moves.record ?_
  exact Moves.refl

theorem cntDiscard_moves (s : State) (port : Nat) (vc : Nat) (reason : Nat) : Moves 1048576 s (cntDiscard s port vc reason) := by
  unfold cntDiscard
  refine Moves.call (cntAdd_moves _ _ _ _ _) (by decide) ?_
  refine Moves.call (cntAdd_moves _ _ _ _ _) (by decide) ?_
  exact Moves.refl

theorem refusePacket_moves (s : State) (p : Packet) (status : Nat) : Moves 134217736 s (refusePacket s p status) := by
  unfold refusePacket
  refine Moves.call (inject_moves _ _ _) (by decide) ?_
  exact Moves.refl

theorem dropWorm_moves (s : State) (port : Nat) (vc : Nat) (reason : Nat) (notice : Bool) (w : Worm) : Moves 135266312 s (dropWorm s port vc reason notice w)
      := by
  unfold dropWorm
  extract_lets +onlyGivenNames z0
  have hz0 : Moves 135266312 s z0 := by
    unfold z0
    refine Moves.call (freeFlits_moves _ _ _ _) (by decide) ?_
    refine Moves.call (cntDiscard_moves _ _ _ _) (by decide) ?_
    exact Moves.refl
  clear_value z0
  extract_lets +onlyGivenNames z1
  have hz1 : Moves 135266312 s z1 := by
    unfold z1
    refine Moves.ite (fun _ => ?_) (fun _ => ?_)
    · refine Moves.call (refusePacket_moves _ _ _) (by decide) ?_
      exact hz0
    · exact hz0
  clear_value z1
  extract_lets +onlyGivenNames z2; clear_value z2
  refine Moves.ite (fun _ => ?_) (fun _ => ?_)
  · exact hz1
  · refine Moves.call (inSet_moves _ _ _ _) (by decide) ?_
    exact hz1

theorem purgeVc_moves (s : State) (port : Nat) (vc : Nat) (reason : Nat) (notice : Bool) (p : Worm → Bool) : Moves 135266312 s (purgeVc s port vc reason
      notice p) := by
  unfold purgeVc
  extract_lets +onlyGivenNames z0; clear_value z0
  extract_lets +onlyGivenNames z1; clear_value z1
  extract_lets +onlyGivenNames z2; clear_value z2
  extract_lets +onlyGivenNames z3
  have hz3 : Moves 135266312 s z3 := by
    unfold z3
    refine Moves.foldl (fun a4 _ => ?_) ?_
    · refine Moves.call (dropWorm_moves _ _ _ _ _ _) (by decide) ?_
      exact Moves.refl
    · refine Moves.call (inSet_moves _ _ _ _) (by decide) ?_
      exact Moves.refl
  clear_value z3
  split
  · refine Moves.ite (fun _ => ?_) (fun _ => ?_)
    · refine Moves.call (cutHead_moves _ _ _) (by decide) ?_
      exact hz3
    · exact hz3
  · exact hz3

theorem routerCtxReset_moves (s : State) (ctx : Nat) : Moves 135266312 s (routerCtxReset s ctx) := by
  unfold routerCtxReset
  refine Moves.foldl (fun a0 _ => ?_) ?_
  · refine Moves.foldl (fun a1 _ => ?_) ?_
    · refine Moves.call (purgeVc_moves _ _ _ _ _ _) (by decide) ?_
      exact Moves.refl
    · exact Moves.refl
  · exact Moves.refl

theorem outSet_moves (s : State) (port : Nat) (vc : Nat) (x : OutVc) : Moves 1048576 s (outSet s port vc x) := by
  unfold outSet
  extract_lets +onlyGivenNames z0
  refine Moves.record ?_ (couts := fun h => mapRising_mapSet _ _ _ _ h)
  exact Moves.refl

theorem twinMark_moves (s : State) (p : Packet) (poison : Bool) : Moves 134217728 s (twinMark s p poison) := by
  unfold twinMark
  extract_lets +onlyGivenNames z0; clear_value z0
  extract_lets +onlyGivenNames z1; clear_value z1
  refine Moves.ite (fun _ => ?_) (fun _ => ?_)
  · exact Moves.refl
  · refine Moves.record ?_
    exact Moves.refl

theorem wormDone_moves (s : State) (port : Nat) (vc : Nat) : Moves 135266304 s (wormDone s port vc) := by
  unfold wormDone
  extract_lets +onlyGivenNames z0; clear_value z0
  split
  · extract_lets +onlyGivenNames z1
    have hz1 : Moves 135266304 s z1 := by
      unfold z1
      refine Moves.call (cntAdd_moves _ _ _ _ _) (by decide) ?_
      refine Moves.call (inSet_moves _ _ _ _) (by decide) ?_
      exact Moves.refl
    clear_value z1
    extract_lets +onlyGivenNames z2
    have hz2 : Moves 135266304 s z2 := by
      unfold z2
      refine Moves.ite (fun _ => ?_) (fun _ => ?_)
      · refine Moves.call (cntAdd_moves _ _ _ _ _) (by decide) ?_
        exact hz1
      · exact hz1
    clear_value z2
    refine Moves.ite (fun _ => ?_) (fun _ => ?_)
    · refine Moves.ite (fun _ => ?_) (fun _ => ?_)
      · refine Moves.call (twinMark_moves _ _ _) (by decide) ?_
        exact hz2
      · exact hz2
    · exact Moves.refl
  · exact Moves.refl

theorem wormFree_moves (s : State) (port : Nat) (vc : Nat) : Moves 1048576 s (wormFree s port vc) := by
  unfold wormFree
  extract_lets +onlyGivenNames z0; clear_value z0
  split
  · extract_lets +onlyGivenNames z1; clear_value z1
    refine Moves.call (freeFlits_moves _ _ _ _) (by decide) ?_
    refine Moves.call (inSet_moves _ _ _ _) (by decide) ?_
    exact Moves.refl
  · exact Moves.refl

theorem cutOutput_moves (s : State) (port : Nat) (vc : Nat) : Moves 135266304 s (cutOutput s port vc) := by
  unfold cutOutput
  split
  · exact Moves.refl
  · extract_lets +onlyGivenNames z0; clear_value z0
    extract_lets +onlyGivenNames z1; clear_value z1
    extract_lets +onlyGivenNames z2
    have hz2 : Moves 135266304 s z2 := by
      unfold z2
      refine Moves.call (outSet_moves _ _ _ _) (by decide) ?_
      exact Moves.refl
    clear_value z2
    extract_lets +onlyGivenNames z3; clear_value z3
    split
    · exact hz2
    · extract_lets +onlyGivenNames z4; clear_value z4
      refine Moves.ite (fun _ => ?_) (fun _ => ?_)
      · refine Moves.ite (fun _ => ?_) (fun _ => ?_)
        · refine Moves.call (freeFlits_moves _ _ _ _) (by decide) ?_
          refine Moves.call (cntDiscard_moves _ _ _ _) (by decide) ?_
          refine Moves.call (inSet_moves _ _ _ _) (by decide) ?_
          exact hz2
        · refine Moves.call (wormDone_moves _ _ _) (by decide) ?_
          refine Moves.call (wormFree_moves _ _ _) (by decide) ?_
          refine Moves.call (inSet_moves _ _ _ _) (by decide) ?_
          exact hz2
      · refine Moves.call (freeFlits_moves _ _ _ _) (by decide) ?_
        refine Moves.call (cntDiscard_moves _ _ _ _) (by decide) ?_
        refine Moves.call (inSet_moves _ _ _ _) (by decide) ?_
        exact hz2

theorem restorePools_moves (s : State) (port : Nat) : Moves 1048576 s (restorePools s port) := by
  unfold restorePools
  extract_lets +onlyGivenNames z0; clear_value z0
  extract_lets +onlyGivenNames z1
  refine Moves.record ?_
  exact Moves.refl

theorem portPurge_moves (s : State) (port : Nat) : Moves 135266312 s (portPurge s port) := by
  unfold portPurge
  extract_lets +onlyGivenNames z0
  have hz0 : Moves 135266312 s z0 := by
    unfold z0
    refine Moves.foldl (fun a1 _ => ?_) ?_
    · refine Moves.call (purgeVc_moves _ _ _ _ _ _) (by decide) ?_
      exact Moves.refl
    · exact Moves.refl
  clear_value z0
  extract_lets +onlyGivenNames z2
  have hz2 : Moves 135266312 s z2 := by
    unfold z2
    refine Moves.foldl (fun a3 _ => ?_) ?_
    · refine Moves.call (cutOutput_moves _ _ _) (by decide) ?_
      exact Moves.refl
    · exact hz0
  clear_value z2
  extract_lets +onlyGivenNames z4
  have hz4 : Moves 135266312 s z4 := by
    unfold z4
    refine Moves.foldl (fun a5 _ => ?_) ?_
    · extract_lets +onlyGivenNames z6; clear_value z6
      refine Moves.call (inSet_moves _ _ _ _) (by decide) ?_
      exact Moves.refl
    · exact hz2
  clear_value z4
  refine Moves.call (restorePools_moves _ _) (by decide) ?_
  exact hz4

theorem setPortState_moves (s : State) (p : Nat) (v : Nat) : Moves 568 s (setPortState s p v) := by
  unfold setPortState
  refine Moves.ite (fun _ => ?_) (fun _ => ?_)
  · exact Moves.refl
  · refine Moves.call (eventAppend_moves _ _ _ _ _ _ _) (by decide) ?_
    refine Moves.call (regPut_moves _ _ _ _ _) (by decide) ?_
    exact Moves.refl

theorem routerChipReset_moves (s : State) : Moves 135266312 s (routerChipReset s) := by
  unfold routerChipReset
  refine Moves.foldl (fun a0 _ => ?_) ?_
  · refine Moves.foldl (fun a1 _ => ?_) ?_
    · refine Moves.call (purgeVc_moves _ _ _ _ _ _) (by decide) ?_
      exact Moves.refl
    · exact Moves.refl
  · exact Moves.refl

theorem countRx_moves (s : State) (port : Nat) (vc : Nat) (ctrl : Nat) : Moves 1048576 s (countRx s port vc ctrl) := by
  unfold countRx
  extract_lets +onlyGivenNames z0
  have hz0 : Moves 1048576 s z0 := by
    unfold z0
    refine Moves.call (cntAdd_moves _ _ _ _ _) (by decide) ?_
    exact Moves.refl
  clear_value z0
  extract_lets +onlyGivenNames z1
  refine Moves.record ?_
  exact hz0

theorem countStalls_moves (s : State) (port : Nat) : Moves 1048576 s (countStalls s port) := by
  unfold countStalls
  refine Moves.foldl (fun a0 _ => ?_) ?_
  · refine Moves.ite (fun _ => ?_) (fun _ => ?_)
    · refine Moves.call (cntAdd_moves _ _ _ _ _) (by decide) ?_
      exact Moves.refl
    · exact Moves.refl
  · exact Moves.refl

theorem orphanFlit_moves (s : State) (port : Nat) (vc : Nat) (ctrl : Nat) : Moves 1048576 s (orphanFlit s port vc ctrl) := by
  unfold orphanFlit
  extract_lets +onlyGivenNames z0
  have hz0 : Moves 1048576 s z0 := by
    unfold z0
    refine Moves.call (freeFlit_moves _ _ _ _) (by decide) ?_
    refine Moves.call (cntAdd_moves _ _ _ _ _) (by decide) ?_
    refine Moves.call (cntAdd_moves _ _ _ _ _) (by decide) ?_
    exact Moves.refl
  clear_value z0
  extract_lets +onlyGivenNames z1; clear_value z1
  refine Moves.ite (fun _ => ?_) (fun _ => ?_)
  · refine Moves.call (inSet_moves _ _ _ _) (by decide) ?_
    exact hz0
  · exact hz0

theorem flitArrive_moves (s : State) (port : Nat) (ctrl : Nat) (data : Nat) : Moves 1048576 s (flitArrive s port ctrl data) := by
  unfold flitArrive
  extract_lets +onlyGivenNames z0; clear_value z0
  extract_lets +onlyGivenNames z1
  have hz1 : Moves 1048576 s z1 := by
    unfold z1
    refine Moves.call (countRx_moves _ _ _ _) (by decide) ?_
    exact Moves.refl
  clear_value z1
  extract_lets +onlyGivenNames z2; clear_value z2
  extract_lets +onlyGivenNames z3
  have hz3 : Moves 1048576 s z3 := by
    unfold z3
    refine Moves.call (freeFlit_moves _ _ _ _) (by decide) ?_
    exact hz1
  clear_value z3
  extract_lets +onlyGivenNames z4; clear_value z4
  refine Moves.ite (fun _ => ?_) (fun _ => ?_)
  · refine Moves.call (orphanFlit_moves _ _ _ _) (by decide) ?_
    exact hz1
  · refine Moves.ite (fun _ => ?_) (fun _ => ?_)
    · refine Moves.ite (fun _ => ?_) (fun _ => ?_)
      · refine Moves.call (inSet_moves _ _ _ _) (by decide) ?_
        exact hz3
      · exact hz3
    · split
      · refine Moves.call (inSet_moves _ _ _ _) (by decide) ?_
        exact hz1
      · refine Moves.call (freeFlit_moves _ _ _ _) (by decide) ?_
        exact hz1

theorem headDrain_moves (s : State) (port : Nat) (vc : Nat) (ctrl : Nat) : Moves 1048576 s (headDrain s port vc ctrl) := by
  unfold headDrain
  extract_lets +onlyGivenNames z0
  have hz0 : Moves 1048576 s z0 := by
    unfold z0
    refine Moves.call (freeFlit_moves _ _ _ _) (by decide) ?_
    exact Moves.refl
  clear_value z0
  extract_lets +onlyGivenNames z1; clear_value z1
  refine Moves.ite (fun _ => ?_) (fun _ => ?_)
  · exact hz0
  · refine Moves.call (inSet_moves _ _ _ _) (by decide) ?_
    exact hz0

theorem twinTouch_moves (s : State) (p : Packet) : Moves 134217728 s (twinTouch s p) := by
  unfold twinTouch
  extract_lets +onlyGivenNames z0; clear_value z0
  extract_lets +onlyGivenNames z1; clear_value z1
  extract_lets +onlyGivenNames z2; clear_value z2
  refine Moves.ite (fun _ => ?_) (fun _ => ?_)
  · exact Moves.refl
  · refine Moves.record ?_
    exact Moves.refl

theorem wormBegin_moves (s : State) (port : Nat) (vc : Nat) (ctrl : Nat) (data : Nat) (p : Packet) (branches : List Branch) : Moves 1048576 s (wormBegin s
      port vc ctrl data p branches) := by
  unfold wormBegin
  extract_lets +onlyGivenNames z0; clear_value z0
  extract_lets +onlyGivenNames z1; clear_value z1
  refine Moves.call (inSet_moves _ _ _ _) (by decide) ?_
  exact Moves.refl

theorem headVerdict_moves (s : State) (port : Nat) (vc : Nat) (ctrl : Nat) (data : Nat) (p : Packet) : Moves 139465528 s (headVerdict s port vc ctrl data p)
      := by
  unfold headVerdict
  refine Moves.ite (fun _ => ?_) (fun _ => ?_)
  · refine Moves.ite (fun _ => ?_) (fun _ => ?_)
    · refine Moves.call (headDrain_moves _ _ _ _) (by decide) ?_
      refine Moves.call (cntDiscard_moves _ _ _ _) (by decide) ?_
      exact Moves.refl
    · split
      extract_lets +onlyGivenNames z0
      have hz0 : Moves 139465528 s z0 := by
        unfold z0
        refine Moves.foldl (fun a1 _ => ?_) ?_
        · refine Moves.call (cntAdd_moves _ _ _ _ _) (by decide) ?_
          exact Moves.refl
        · exact Moves.refl
      clear_value z0
      refine Moves.ite (fun _ => ?_) (fun _ => ?_)
      · refine Moves.call (headDrain_moves _ _ _ _) (by decide) ?_
        refine Moves.call (cntAdd_moves _ _ _ _ _) (by decide) ?_
        exact hz0
      · refine Moves.call (wormBegin_moves _ _ _ _ _ _ _) (by decide) ?_
        exact hz0
  · split
    · extract_lets +onlyGivenNames z2
      have hz2 : Moves 139465528 s z2 := by
        unfold z2
        refine Moves.ite (fun _ => ?_) (fun _ => ?_)
        · refine Moves.call (twinTouch_moves _ _) (by decide) ?_
          exact Moves.refl
        · exact Moves.refl
      clear_value z2
      refine Moves.call (wormBegin_moves _ _ _ _ _ _ _) (by decide) ?_
      exact hz2
    · refine Moves.call (headDrain_moves _ _ _ _) (by decide) ?_
      refine Moves.call (refusePacket_moves _ _ _) (by decide) ?_
      refine Moves.call (cntAdd_moves _ _ _ _ _) (by decide) ?_
      exact Moves.refl
    · extract_lets +onlyGivenNames z3
      have hz3 : Moves 139465528 s z3 := by
        unfold z3
        refine Moves.ite (fun _ => ?_) (fun _ => ?_)
        · refine Moves.call (agentOutside_moves _ _) (by decide) ?_
          exact Moves.refl
        · exact Moves.refl
      clear_value z3
      extract_lets +onlyGivenNames z4
      have hz4 : Moves 139465528 s z4 := by
        unfold z4
        refine Moves.ite (fun _ => ?_) (fun _ => ?_)
        · refine Moves.call (logEvent_moves _ _ _ _ _ _) (by decide) ?_
          refine Moves.call (regSatAdd_moves _ _ _ _ _) (by decide) ?_
          exact hz3
        · exact hz3
      clear_value z4
      refine Moves.call (headDrain_moves _ _ _ _) (by decide) ?_
      refine Moves.call (cntDiscard_moves _ _ _ _) (by decide) ?_
      exact hz4
    · extract_lets +onlyGivenNames z5
      have hz5 : Moves 139465528 s z5 := by
        unfold z5
        refine Moves.call (cntDiscard_moves _ _ _ _) (by decide) ?_
        exact Moves.refl
      clear_value z5
      extract_lets +onlyGivenNames z6
      have hz6 : Moves 139465528 s z6 := by
        unfold z6
        refine Moves.ite (fun _ => ?_) (fun _ => ?_)
        · refine Moves.call (inject_moves _ _ _) (by decide) ?_
          exact hz5
        · exact hz5
      clear_value z6
      refine Moves.call (headDrain_moves _ _ _ _) (by decide) ?_
      exact hz6

theorem headArrive_moves (s : State) (port : Nat) (ctrl : Nat) (data : Nat) : Moves 139465528 s (headArrive s port ctrl data) := by
  unfold headArrive
  extract_lets +onlyGivenNames z0; clear_value z0
  extract_lets +onlyGivenNames z1
  have hz1 : Moves 139465528 s z1 := by
    unfold z1
    refine Moves.call (countRx_moves _ _ _ _) (by decide) ?_
    exact Moves.refl
  clear_value z1
  extract_lets +onlyGivenNames z2; clear_value z2
  extract_lets +onlyGivenNames z3
  have hz3 : Moves 139465528 s z3 := by
    unfold z3
    refine Moves.call (cntAdd_moves _ _ _ _ _) (by decide) ?_
    refine Moves.call (inSet_moves _ _ _ _) (by decide) ?_
    exact hz1
  clear_value z3
  extract_lets +onlyGivenNames z4; clear_value z4
  refine Moves.ite (fun _ => ?_) (fun _ => ?_)
  · refine Moves.call (orphanFlit_moves _ _ _ _) (by decide) ?_
    exact hz1
  · refine Moves.ite (fun _ => ?_) (fun _ => ?_)
    · refine Moves.call (headDrain_moves _ _ _ _) (by decide) ?_
      refine Moves.call (cntDiscard_moves _ _ _ _) (by decide) ?_
      exact hz3
    · refine Moves.ite (fun _ => ?_) (fun _ => ?_)
      · refine Moves.call (headDrain_moves _ _ _ _) (by decide) ?_
        refine Moves.call (cntDiscard_moves _ _ _ _) (by decide) ?_
        exact hz3
      · refine Moves.call (headVerdict_moves _ _ _ _ _ _) (by decide) ?_
        exact hz3

theorem latchHost_moves (s : State) (port : Nat) : Moves 1048576 s (latchHost s port) := by
  unfold latchHost
  extract_lets +onlyGivenNames z0
  extract_lets +onlyGivenNames z1
  have hz1 : Moves 1048576 s z1 := by
    unfold z1
    refine Moves.record ?_
    exact Moves.refl
  clear_value z1
  refine Moves.foldl (fun a2 _ => ?_) ?_
  · extract_lets +onlyGivenNames z3; clear_value z3
    refine Moves.call (inSet_moves _ _ _ _) (by decide) ?_
    exact Moves.refl
  · exact hz1

theorem fabSnapshot_moves (ports : Nat) (s : State) : Moves 1048576 s (fabSnapshot ports s) := by
  unfold fabSnapshot
  refine Moves.foldl (fun a0 _ => ?_) ?_
  · refine Moves.call (latchHost_moves _ _) (by decide) ?_
    exact Moves.refl
  · exact Moves.refl

theorem execFabSnapshot_moves (ports : Nat) (s : State) : MovesN 139461432 s (execFabSnapshot ports s) := by
  unfold execFabSnapshot
  refine MovesN.next ?_
  refine Moves.trans ?_ (hostWrite_moves (by decide) (fun a0 => ?_))
  · exact Moves.refl
  · refine Moves.call (fabSnapshot_moves _ _) (by decide) ?_
    exact Moves.refl

theorem execFlitArrival_moves (port : Nat) (ctrl : Nat) (data : Nat) (s : State) : MovesN 139461432 s (execFlitArrival port ctrl data s) := by
  unfold execFlitArrival
  refine MovesN.ite (fun _ => ?_) (fun _ => ?_)
  · refine MovesN.next ?_
    exact Moves.refl
  · refine MovesN.ite (fun _ => ?_) (fun _ => ?_)
    · refine MovesN.ite (fun _ => ?_) (fun _ => ?_)
      · refine MovesN.next ?_
        refine Moves.call (logEvent_moves _ _ _ _ _ _) (by decide) ?_
        exact Moves.refl
      · refine MovesN.next ?_
        exact Moves.refl
    · refine MovesN.next ?_
      refine Moves.call (flitArrive_moves _ _ _ _) (by decide) ?_
      exact Moves.refl

theorem pickVc_moves (s : State) (port : Nat) : MovesOR 1048576 s (pickVc s port) := by
  unfold pickVc
  extract_lets +onlyGivenNames z0; clear_value z0
  extract_lets +onlyGivenNames z1; clear_value z1
  extract_lets +onlyGivenNames z2
  extract_lets +onlyGivenNames z3
  have hz3 : ∀ x0, Moves 1048576 s (z3 x0) := by
    intro x0
    unfold z3
    refine Moves.record ?_
    exact Moves.refl
  clear_value z3
  extract_lets +onlyGivenNames z4; clear_value z4
  extract_lets +onlyGivenNames z5; clear_value z5
  refine MovesOR.ite (fun _ => ?_) (fun _ => ?_)
  · refine MovesOR.some ?_
    dsimp only
    exact hz3 _
  · refine MovesOR.ite (fun _ => ?_) (fun _ => ?_)
    · refine MovesOR.some ?_
      dsimp only
      exact hz3 _
    · refine MovesOR.ite (fun _ => ?_) (fun _ => ?_)
      · refine MovesOR.ite (fun _ => ?_) (fun _ => ?_)
        · refine MovesOR.some ?_
          dsimp only
          exact hz3 _
        · refine MovesOR.ite (fun _ => ?_) (fun _ => ?_)
          · refine MovesOR.some ?_
            dsimp only
            exact hz3 _
          · exact MovesOR.none
      · split
        · exact MovesOR.none
        · refine MovesOR.some ?_
          dsimp only
          refine Moves.foldl (fun a6 _ => ?_) ?_
          · refine Moves.call (outSet_moves _ _ _ _) (by decide) ?_
            exact Moves.refl
          · exact hz3 _

theorem sendFlit_moves (s : State) (port : Nat) (vc : Nat) : MovesOR 135266304 s (sendFlit s port vc) := by
  unfold sendFlit
  split
  · extract_lets +onlyGivenNames z0; clear_value z0
    extract_lets +onlyGivenNames z1; clear_value z1
    split
    · exact MovesOR.none
    · extract_lets +onlyGivenNames z2; clear_value z2
      extract_lets +onlyGivenNames z3; clear_value z3
      extract_lets +onlyGivenNames z4; clear_value z4
      extract_lets +onlyGivenNames z5; clear_value z5
      extract_lets +onlyGivenNames z6
      have hz6 : Moves 135266304 s z6 := by
        unfold z6
        refine Moves.call (inSet_moves _ _ _ _) (by decide) ?_
        exact Moves.refl
      clear_value z6
      extract_lets +onlyGivenNames z7; clear_value z7
      extract_lets +onlyGivenNames z8
      have hz8 : Moves 135266304 s z8 := by
        unfold z8
        refine Moves.call (outSet_moves _ _ _ _) (by decide) ?_
        exact hz6
      clear_value z8
      extract_lets +onlyGivenNames z9; clear_value z9
      extract_lets +onlyGivenNames z10
      extract_lets +onlyGivenNames z11
      have hz11 : Moves 135266304 s z11 := by
        unfold z11
        refine Moves.record ?_
        exact hz8
      clear_value z11
      extract_lets +onlyGivenNames z12
      have hz12 : Moves 135266304 s z12 := by
        unfold z12
        refine Moves.call (cntAdd_moves _ _ _ _ _) (by decide) ?_
        exact hz11
      clear_value z12
      extract_lets +onlyGivenNames z13
      have hz13 : Moves 135266304 s z13 := by
        unfold z13
        refine Moves.ite (fun _ => ?_) (fun _ => ?_)
        · refine Moves.call (cntAdd_moves _ _ _ _ _) (by decide) ?_
          exact hz12
        · exact hz12
      clear_value z13
      refine MovesOR.some ?_
      dsimp only
      refine Moves.call (wormDone_moves _ _ _) (by decide) ?_
      refine Moves.call (wormFree_moves _ _ _) (by decide) ?_
      exact hz13
  · exact MovesOR.none

theorem slotPass_moves (s : State) (port : Nat) : Moves 1048576 s (slotPass s port) := by
  unfold slotPass
  extract_lets +onlyGivenNames z0; clear_value z0
  extract_lets +onlyGivenNames z1
  refine Moves.record ?_
  exact Moves.refl

theorem execOutputAllocate_moves (port : Nat) (vc : Nat) (s : State) : MovesN 1048576 s (execOutputAllocate port vc s) := by
  unfold execOutputAllocate
  extract_lets +onlyGivenNames z0; clear_value z0
  refine MovesN.ite (fun _ => ?_) (fun _ => ?_)
  · refine MovesN.next ?_
    exact Moves.refl
  · split
    · refine MovesN.next ?_
      exact Moves.refl
    · extract_lets +onlyGivenNames z1; clear_value z1
      refine MovesN.next ?_
      refine Moves.call (inSet_moves _ _ _ _) (by decide) ?_
      refine Moves.call (outSet_moves _ _ _ _) (by decide) ?_
      exact Moves.refl

theorem execPacketHeadArrival_moves (port : Nat) (ctrl : Nat) (data : Nat) (s : State) : MovesN 139465528 s (execPacketHeadArrival port ctrl data s) := by
  unfold execPacketHeadArrival
  refine MovesN.ite (fun _ => ?_) (fun _ => ?_)
  · refine MovesN.next ?_
    exact Moves.refl
  · refine MovesN.ite (fun _ => ?_) (fun _ => ?_)
    · refine MovesN.ite (fun _ => ?_) (fun _ => ?_)
      · refine MovesN.next ?_
        refine Moves.call (logEvent_moves _ _ _ _ _ _) (by decide) ?_
        exact Moves.refl
      · refine MovesN.next ?_
        exact Moves.refl
    · refine MovesN.next ?_
      refine Moves.call (headArrive_moves _ _ _ _) (by decide) ?_
      exact Moves.refl

theorem latchSteward_moves (s : State) (port : Nat) : Moves 1048576 s (latchSteward s port) := by
  unfold latchSteward
  extract_lets +onlyGivenNames z0
  extract_lets +onlyGivenNames z1
  have hz1 : Moves 1048576 s z1 := by
    unfold z1
    refine Moves.record ?_
    exact Moves.refl
  clear_value z1
  refine Moves.foldl (fun a2 _ => ?_) ?_
  · extract_lets +onlyGivenNames z3; clear_value z3
    refine Moves.call (inSet_moves _ _ _ _) (by decide) ?_
    exact Moves.refl
  · exact hz1

theorem execStrictWindowEnd_moves (port : Nat) (s : State) : MovesN 1048576 s (execStrictWindowEnd port s) := by
  unfold execStrictWindowEnd
  extract_lets +onlyGivenNames z0
  refine MovesN.ite (fun _ => ?_) (fun _ => ?_)
  · refine MovesN.next ?_
    refine Moves.record ?_
    exact Moves.refl
  · refine MovesN.next ?_
    exact Moves.refl

theorem execTailTimeout_moves (port : Nat) (vc : Nat) (s : State) : MovesN 1048576 s (execTailTimeout port vc s) := by
  unfold execTailTimeout
  split
  · refine MovesN.ite (fun _ => ?_) (fun _ => ?_)
    · refine MovesN.next ?_
      refine Moves.call (cutHead_moves _ _ _) (by decide) ?_
      exact Moves.refl
    · refine MovesN.next ?_
      exact Moves.refl
  · refine MovesN.next ?_
    exact Moves.refl

end Sys2Proof.Laws
end

