-- ==== Sys2Proof/Laws/FrameLink.lean ====
section
/-! SUPPORT. What each function of Machine/Link.lean may change, and that it keeps the canonical form: its frame law. -/

namespace Sys2Proof.Laws

set_option Elab.async false

open Sys2Proof Sys2Proof.Machine Sys2Proof.Safety

theorem lpSet_moves (s : State) (p : Nat) (x : LinkPort) : Moves 2097152 s (lpSet s p x) := by
  unfold lpSet
  extract_lets +onlyGivenNames z0; clear_value z0
  refine Moves.record ?_
  exact Moves.refl

theorem sendFrame_moves (s : State) (p : Nat) (f : TxFrame) : Moves 2097160 s (sendFrame s p f) := by
  unfold sendFrame
  extract_lets +onlyGivenNames z0; clear_value z0
  extract_lets +onlyGivenNames z1; clear_value z1
  extract_lets +onlyGivenNames z2; clear_value z2
  extract_lets +onlyGivenNames z3; clear_value z3
  extract_lets +onlyGivenNames z4; clear_value z4
  extract_lets +onlyGivenNames z5; clear_value z5
  extract_lets +onlyGivenNames z6; clear_value z6
  refine Moves.call (emit_moves _ _) (by decide) ?_
  refine Moves.call (lpSet_moves _ _ _) (by decide) ?_
  exact Moves.refl

theorem takeReturns_moves (s : State) (p : Nat) : Moves 1048576 s (takeReturns s p).2 := by
  unfold takeReturns
  extract_lets +onlyGivenNames z0; clear_value z0
  dsimp only
  refine Moves.foldl (fun a1 _ => ?_) ?_
  · refine Moves.record ?_
    exact Moves.refl
  · exact Moves.refl

theorem newFrame_moves (s : State) (p : Nat) (ftype : Nat) (slots : List Flit) : Moves 3145736 s (newFrame s p ftype slots) := by
  unfold newFrame
  extract_lets +onlyGivenNames z0
  have hz0 : Moves 3145736 s z0.2 := by
    unfold z0
    refine Moves.call (takeReturns_moves _ _) (by decide) ?_
    exact Moves.refl
  clear_value z0
  extract_lets +onlyGivenNames z1; clear_value z1
  extract_lets +onlyGivenNames z2; clear_value z2
  refine Moves.call (sendFrame_moves _ _ _) (by decide) ?_
  refine Moves.call (lpSet_moves _ _ _) (by decide) ?_
  exact hz0

theorem addSlot_moves (s : State) (port : Nat) (f : Flit) : Moves 3145736 s (addSlot s port f) := by
  unfold addSlot
  extract_lets +onlyGivenNames z0; clear_value z0
  extract_lets +onlyGivenNames z1; clear_value z1
  refine Moves.ite (fun _ => ?_) (fun _ => ?_)
  · refine Moves.call (lpSet_moves _ _ _) (by decide) ?_
    exact Moves.refl
  · refine Moves.call (newFrame_moves _ _ _ _) (by decide) ?_
    refine Moves.call (lpSet_moves _ _ _) (by decide) ?_
    exact Moves.refl

theorem lpMod_moves (s : State) (p : Nat) (f : LinkPort → LinkPort) : Moves 2097152 s (lpMod s p f) := by
  unfold lpMod
  refine Moves.call (lpSet_moves _ _ _) (by decide) ?_
  exact Moves.refl

theorem showState_moves (s : State) (p : Nat) : Moves 568 s (showState s p) := by
  unfold showState
  refine Moves.call (setPortState_moves _ _ _) (by decide) ?_
  exact Moves.refl

theorem setPhase_moves (s : State) (p : Nat) (phase : Nat) : Moves 568 s (setPhase s p phase) := by
  unfold setPhase
  refine Moves.call (showState_moves _ _) (by decide) ?_
  refine Moves.call (regPut_moves _ _ _ _ _) (by decide) ?_
  exact Moves.refl

theorem sendBurst_moves (s : State) (p : Nat) (lanes : List Nat) : Moves 2097160 s (sendBurst s p lanes) := by
  unfold sendBurst
  extract_lets +onlyGivenNames z0; clear_value z0
  extract_lets +onlyGivenNames z1
  have hz1 : Moves 2097160 s z1 := by
    unfold z1
    refine Moves.call (lpMod_moves _ _ _) (by decide) ?_
    exact Moves.refl
  clear_value z1
  refine Moves.call (emit_moves _ _) (by decide) ?_
  exact hz1

theorem wakePort_moves (s : State) (p : Nat) : Moves 2097720 s (wakePort s p) := by
  unfold wakePort
  extract_lets +onlyGivenNames z0; clear_value z0
  extract_lets +onlyGivenNames z1
  have hz1 : Moves 2097720 s z1 := by
    unfold z1
    refine Moves.call (regAdd_moves _ _ _) (by decide) ?_
    exact Moves.refl
  clear_value z1
  extract_lets +onlyGivenNames z2
  have hz2 : Moves 2097720 s z2 := by
    unfold z2
    refine Moves.call (setPhase_moves _ _ _) (by decide) ?_
    refine Moves.call (lpSet_moves _ _ _) (by decide) ?_
    exact hz1
  clear_value z2
  refine Moves.ite (fun _ => ?_) (fun _ => ?_)
  · refine Moves.call (sendBurst_moves _ _ _) (by decide) ?_
    exact hz2
  · exact Moves.refl

theorem countCorrected_moves (s : State) (p : Nat) (errs : List Nat) : Moves 16 s (countCorrected s p errs) := by
  unfold countCorrected
  extract_lets +onlyGivenNames z0; clear_value z0
  refine Moves.foldl (fun a1 _ => ?_) ?_
  · refine Moves.call (regSatAdd_moves _ _ _ _ _) (by decide) ?_
    refine Moves.call (regAdd_moves _ _ _) (by decide) ?_
    exact Moves.refl
  · exact Moves.refl

theorem flitIn_moves (s : State) (port : Nat) (f : Flit) : Moves 141562680 s (flitIn s port f) := by
  unfold flitIn
  extract_lets +onlyGivenNames z0; clear_value z0
  extract_lets +onlyGivenNames z1; clear_value z1
  refine Moves.ite (fun _ => ?_) (fun _ => ?_)
  · refine Moves.call (lpMod_moves _ _ _) (by decide) ?_
    exact Moves.refl
  · refine Moves.ite (fun _ => ?_) (fun _ => ?_)
    · refine Moves.call (headArrive_moves _ _ _ _) (by decide) ?_
      exact Moves.refl
    · refine Moves.call (flitArrive_moves _ _ _ _) (by decide) ?_
      exact Moves.refl

theorem replayStart_moves (s : State) (p : Nat) (fseq : Nat) : Moves 2097176 s (replayStart s p fseq) := by
  unfold replayStart
  extract_lets +onlyGivenNames z0; clear_value z0
  extract_lets +onlyGivenNames z1; clear_value z1
  extract_lets +onlyGivenNames z2
  have hz2 : Moves 2097176 s z2 := by
    unfold z2
    refine Moves.call (regAdd_moves _ _ _) (by decide) ?_
    refine Moves.call (lpSet_moves _ _ _) (by decide) ?_
    exact Moves.refl
  clear_value z2
  extract_lets +onlyGivenNames z3; clear_value z3
  refine Moves.ite (fun _ => ?_) (fun _ => ?_)
  · exact Moves.refl
  · refine Moves.call (lpMod_moves _ _ _) (by decide) ?_
    refine Moves.foldl (fun a4 _ => ?_) ?_
    · refine Moves.call (sendFrame_moves _ _ _) (by decide) ?_
      exact Moves.refl
    · exact hz2

theorem takeAck_moves (s : State) (p : Nat) (aseq : Nat) : Moves 2097152 s (takeAck s p aseq) := by
  unfold takeAck
  extract_lets +onlyGivenNames z0; clear_value z0
  extract_lets +onlyGivenNames z1; clear_value z1
  refine Moves.ite (fun _ => ?_) (fun _ => ?_)
  · refine Moves.call (lpSet_moves _ _ _) (by decide) ?_
    exact Moves.refl
  · exact Moves.refl

theorem takeCredits_moves (s : State) (p : Nat) (rets : List (Nat × Nat)) : Moves 1048576 s (takeCredits s p rets) := by
  unfold takeCredits
  refine Moves.foldl (fun a0 _ => ?_) ?_
  · extract_lets +onlyGivenNames z1; clear_value z1
    extract_lets +onlyGivenNames z2
    refine Moves.record ?_
    exact Moves.refl
  · exact Moves.refl

theorem uncorrectable_moves (s : State) (p : Nat) : Moves 2097168 s (uncorrectable s p) := by
  unfold uncorrectable
  extract_lets +onlyGivenNames z0; clear_value z0
  extract_lets +onlyGivenNames z1; clear_value z1
  refine Moves.call (regAdd_moves _ _ _) (by decide) ?_
  refine Moves.call (lpSet_moves _ _ _) (by decide) ?_
  exact Moves.refl

theorem frameTake_moves (s : State) (p : Nat) (msg : Nat) (errs : List Nat) : Moves 3145752 s (frameTake s p msg errs).1 := by
  unfold frameTake
  extract_lets +onlyGivenNames z0; clear_value z0
  extract_lets +onlyGivenNames z1; clear_value z1
  extract_lets +onlyGivenNames z2
  have hz2 : Moves 3145752 s z2 := by
    unfold z2
    refine Moves.call (countCorrected_moves _ _ _) (by decide) ?_
    exact Moves.refl
  clear_value z2
  extract_lets +onlyGivenNames z3; clear_value z3
  extract_lets +onlyGivenNames z4; clear_value z4
  extract_lets +onlyGivenNames z5; clear_value z5
  extract_lets +onlyGivenNames z6
  have hz6 : Moves 3145752 s z6 := by
    unfold z6
    refine Moves.ite (fun _ => ?_) (fun _ => ?_)
    · refine Moves.call (takeCredits_moves _ _ _) (by decide) ?_
      refine Moves.call (lpSet_moves _ _ _) (by decide) ?_
      exact hz2
    · exact hz2
  clear_value z6
  extract_lets +onlyGivenNames z7
  have hz7 : Moves 3145752 s z7 := by
    unfold z7
    refine Moves.call (takeAck_moves _ _ _) (by decide) ?_
    exact hz6
  clear_value z7
  refine Moves.ite_of Prod.fst (fun _ => ?_) (fun _ => ?_)
  · dsimp only
    refine Moves.call (uncorrectable_moves _ _) (by decide) ?_
    exact Moves.refl
  · refine Moves.ite_of Prod.fst (fun _ => ?_) (fun _ => ?_)
    · dsimp only
      refine Moves.call (lpSet_moves _ _ _) (by decide) ?_
      exact hz2
    · dsimp only
      refine Moves.ite (fun _ => ?_) (fun _ => ?_)
      · refine Moves.call (replayStart_moves _ _ _) (by decide) ?_
        exact hz7
      · exact hz7

theorem execDataFrameReceive_moves (port : Nat) (msg : Nat) (errs : List Nat) (s : State) : MovesN 141562680 s (execDataFrameReceive port msg errs s) := by
  unfold execDataFrameReceive
  extract_lets +onlyGivenNames z0; clear_value z0
  refine MovesN.ite (fun _ => ?_) (fun _ => ?_)
  · refine MovesN.next ?_
    exact Moves.refl
  · split
    · extract_lets +onlyGivenNames z1
      have hz1 : Moves 141562680 s z1 := by
        unfold z1
        refine Moves.call (lpMod_moves _ _ _) (by decide) ?_
        refine Moves.call (Moves.of_fst (by assumption) (frameTake_moves _ _ _ _)) (by decide) ?_
        exact Moves.refl
      clear_value z1
      refine MovesN.next ?_
      beta_reduce
      refine Moves.foldl (fun a2 _ => ?_) ?_
      · refine Moves.call (flitIn_moves _ _ _) (by decide) ?_
        exact Moves.refl
      · exact hz1
    · refine MovesN.next ?_
      refine Moves.call (Moves.of_fst (by assumption) (frameTake_moves _ _ _ _)) (by decide) ?_
      exact Moves.refl

theorem sealFlit_moves (s : State) (port : Nat) (vc : Nat) (key : Nat) (head : Packet) (f : Flit) : Moves 2097152 s (sealFlit s port vc key head f).2 := by
  unfold sealFlit
  extract_lets +onlyGivenNames z0; clear_value z0
  extract_lets +onlyGivenNames z1; clear_value z1
  extract_lets +onlyGivenNames z2; clear_value z2
  extract_lets +onlyGivenNames z3
  extract_lets +onlyGivenNames z4; clear_value z4
  extract_lets +onlyGivenNames z5; clear_value z5
  extract_lets +onlyGivenNames z6; clear_value z6
  extract_lets +onlyGivenNames z7; clear_value z7
  extract_lets +onlyGivenNames z8; clear_value z8
  extract_lets +onlyGivenNames z9
  have hz9 : Moves 2097152 s z9 := by
    unfold z9
    refine Moves.ite (fun _ => ?_) (fun _ => ?_)
    · refine Moves.record ?_
      exact Moves.refl
    · exact Moves.refl
  clear_value z9
  refine Moves.ite_of Prod.snd (fun _ => ?_) (fun _ => ?_)
  · dsimp only
    refine Moves.call (lpMod_moves _ _ _) (by decide) ?_
    exact Moves.refl
  · dsimp only
    refine Moves.call (lpMod_moves _ _ _) (by decide) ?_
    exact hz9

theorem sendSeal_moves (s : State) (port : Nat) (vc : Nat) (t : SealTx) : MovesOR 3145728 s (sendSeal s port vc t) := by
  unfold sendSeal
  split
  · extract_lets +onlyGivenNames z0; clear_value z0
    extract_lets +onlyGivenNames z1
    extract_lets +onlyGivenNames z2
    have hz2 : Moves 3145728 s z2 := by
      unfold z2
      refine Moves.record ?_
      exact Moves.refl
    clear_value z2
    refine MovesOR.some ?_
    dsimp only
    refine Moves.call (cntAdd_moves _ _ _ _ _) (by decide) ?_
    refine Moves.call (lpMod_moves _ _ _) (by decide) ?_
    exact hz2
  · exact MovesOR.none

theorem slotFlit_moves (s : State) (port : Nat) : MovesOR 137363456 s (slotFlit s port) := by
  unfold slotFlit
  split
  · refine MovesOR.after ?_ (MovesOR.mono (sendSeal_moves _ _ _ _) (by decide))
    refine Moves.call (slotPass_moves _ _) (by decide) ?_
    exact Moves.refl
  · split
    · exact MovesOR.none
    · split
      · split
        · refine MovesOR.ite (fun _ => ?_) (fun _ => ?_)
          · refine MovesOR.some ?_
            refine Moves.call (sealFlit_moves _ _ _ _ _ _) (by decide) ?_
            refine Moves.call (sendFlit_moves _ _ _ _ _ (by assumption)) (by decide) ?_
            refine Moves.call (pickVc_moves _ _ _ _ (by assumption)) (by decide) ?_
            exact Moves.refl
          · refine MovesOR.some ?_
            dsimp only
            refine Moves.call (sendFlit_moves _ _ _ _ _ (by assumption)) (by decide) ?_
            refine Moves.call (pickVc_moves _ _ _ _ (by assumption)) (by decide) ?_
            exact Moves.refl
        · refine MovesOR.some ?_
          dsimp only
          refine Moves.call (sendFlit_moves _ _ _ _ _ (by assumption)) (by decide) ?_
          refine Moves.call (pickVc_moves _ _ _ _ (by assumption)) (by decide) ?_
          exact Moves.refl
      · exact MovesOR.none

theorem execFlitSlotSchedule_moves (port : Nat) (s : State) : MovesN 137363464 s (execFlitSlotSchedule port s) := by
  unfold execFlitSlotSchedule
  extract_lets +onlyGivenNames z0
  have hz0 : Moves 137363464 s z0 := by
    unfold z0
    refine Moves.call (countStalls_moves _ _) (by decide) ?_
    exact Moves.refl
  clear_value z0
  refine MovesN.ite (fun _ => ?_) (fun _ => ?_)
  · refine MovesN.next ?_
    exact Moves.refl
  · refine MovesN.ite (fun _ => ?_) (fun _ => ?_)
    · split
      · refine MovesN.next ?_
        refine Moves.call (slotPass_moves _ _) (by decide) ?_
        exact hz0
      · split
        · refine MovesN.next ?_
          refine Moves.call (emit_moves _ _) (by decide) ?_
          refine Moves.call (sendFlit_moves _ _ _ _ _ (by assumption)) (by decide) ?_
          refine Moves.call (pickVc_moves _ _ _ _ (by assumption)) (by decide) ?_
          exact hz0
        · refine MovesN.next ?_
          exact hz0
    · refine MovesN.ite (fun _ => ?_) (fun _ => ?_)
      · refine MovesN.next ?_
        exact Moves.refl
      · split
        · refine MovesN.next ?_
          refine Moves.call (addSlot_moves _ _ _) (by decide) ?_
          refine Moves.call (lpMod_moves _ _ _) (by decide) ?_
          refine Moves.call (slotFlit_moves _ _ _ _ (by assumption)) (by decide) ?_
          exact hz0
        · refine MovesN.next ?_
          refine Moves.call (addSlot_moves _ _ _) (by decide) ?_
          refine Moves.call (slotPass_moves _ _) (by decide) ?_
          exact hz0

theorem execIdleFrameReceive_moves (port : Nat) (msg : Nat) (errs : List Nat) (s : State) : MovesN 3145752 s (execIdleFrameReceive port msg errs s) := by
  unfold execIdleFrameReceive
  refine MovesN.ite (fun _ => ?_) (fun _ => ?_)
  · refine MovesN.next ?_
    exact Moves.refl
  · refine MovesN.next ?_
    refine Moves.call (frameTake_moves _ _ _ _) (by decide) ?_
    exact Moves.refl

theorem sendQuiet_moves (s : State) (p : Nat) : Moves 3145736 s (sendQuiet s p) := by
  unfold sendQuiet
  extract_lets +onlyGivenNames z0; clear_value z0
  refine Moves.call (lpMod_moves _ _ _) (by decide) ?_
  refine Moves.call (newFrame_moves _ _ _ _) (by decide) ?_
  exact Moves.refl

theorem execQuietEntryReceive_moves (port : Nat) (msg : Nat) (errs : List Nat) (s : State) : MovesN 3145752 s (execQuietEntryReceive port msg errs s) := by
  unfold execQuietEntryReceive
  refine MovesN.ite (fun _ => ?_) (fun _ => ?_)
  · refine MovesN.next ?_
    exact Moves.refl
  · split
    · extract_lets +onlyGivenNames z0
      have hz0 : Moves 3145752 s z0 := by
        unfold z0
        refine Moves.call (lpMod_moves _ _ _) (by decide) ?_
        refine Moves.call (Moves.of_fst (by assumption) (frameTake_moves _ _ _ _)) (by decide) ?_
        exact Moves.refl
      clear_value z0
      refine MovesN.next ?_
      refine Moves.ite (fun _ => ?_) (fun _ => ?_)
      · refine Moves.call (sendQuiet_moves _ _) (by decide) ?_
        exact hz0
      · exact hz0
    · refine MovesN.next ?_
      refine Moves.call (Moves.of_fst (by assumption) (frameTake_moves _ _ _ _)) (by decide) ?_
      exact Moves.refl

theorem execQuietIdleTimeout_moves (port : Nat) (s : State) : MovesN 3145736 s (execQuietIdleTimeout port s) := by
  unfold execQuietIdleTimeout
  refine MovesN.ite (fun _ => ?_) (fun _ => ?_)
  · refine MovesN.next ?_
    refine Moves.call (sendQuiet_moves _ _) (by decide) ?_
    exact Moves.refl
  · refine MovesN.next ?_
    exact Moves.refl

theorem execQuietPowerDown_moves (port : Nat) (s : State) : MovesN 2097720 s (execQuietPowerDown port s) := by
  unfold execQuietPowerDown
  extract_lets +onlyGivenNames z0; clear_value z0
  refine MovesN.ite (fun _ => ?_) (fun _ => ?_)
  · refine MovesN.next ?_
    refine Moves.call (setPhase_moves _ _ _) (by decide) ?_
    refine Moves.call (regAdd_moves _ _ _) (by decide) ?_
    refine Moves.call (lpSet_moves _ _ _) (by decide) ?_
    exact Moves.refl
  · refine MovesN.next ?_
    exact Moves.refl

theorem execQuietWake_moves (port : Nat) (s : State) : MovesN 2097720 s (execQuietWake port s) := by
  unfold execQuietWake
  refine MovesN.ite (fun _ => ?_) (fun _ => ?_)
  · refine MovesN.next ?_
    refine Moves.call (wakePort_moves _ _) (by decide) ?_
    exact Moves.refl
  · refine MovesN.next ?_
    exact Moves.refl

theorem execReplayBufferFull_moves (port : Nat) (s : State) : MovesN 2097176 s (execReplayBufferFull port s) := by
  unfold execReplayBufferFull
  split
  · refine MovesN.ite (fun _ => ?_) (fun _ => ?_)
    · refine MovesN.next ?_
      refine Moves.call (replayStart_moves _ _ _) (by decide) ?_
      exact Moves.refl
    · refine MovesN.next ?_
      exact Moves.refl
  · refine MovesN.next ?_
    exact Moves.refl

theorem takeFlit_moves (s : State) (port : Nat) (f : Flit) : Moves 1048576 s (takeFlit s port f) := by
  unfold takeFlit
  extract_lets +onlyGivenNames z0; clear_value z0
  extract_lets +onlyGivenNames z1; clear_value z1
  extract_lets +onlyGivenNames z2
  refine Moves.call (freeFlit_moves _ _ _ _) (by decide) ?_
  refine Moves.record ?_
  exact Moves.refl

theorem execSealedPacketCheck_moves (port : Nat) (vc : Nat) (s : State) : MovesN 141562680 s (execSealedPacketCheck port vc s) := by
  unfold execSealedPacketCheck
  split
  · refine MovesN.next ?_
    exact Moves.refl
  · extract_lets +onlyGivenNames z0; clear_value z0
    extract_lets +onlyGivenNames z1
    have hz1 : Moves 141562680 s z1 := by
      unfold z1
      refine Moves.call (lpMod_moves _ _ _) (by decide) ?_
      exact Moves.refl
    clear_value z1
    split
    · extract_lets +onlyGivenNames z2; clear_value z2
      extract_lets +onlyGivenNames z3; clear_value z3
      extract_lets +onlyGivenNames z4
      have hz4 : Moves 141562680 s z4 := by
        unfold z4
        refine Moves.record ?_
        exact hz1
      clear_value z4
      extract_lets +onlyGivenNames z5
      have hz5 : Moves 141562680 s z5 := by
        unfold z5
        refine Moves.foldl (fun a6 _ => ?_) ?_
        · refine Moves.ite (fun _ => ?_) (fun _ => ?_)
          · refine Moves.call (headArrive_moves _ _ _ _) (by decide) ?_
            exact Moves.refl
          · refine Moves.call (flitArrive_moves _ _ _ _) (by decide) ?_
            exact Moves.refl
        · exact hz4
      clear_value z5
      refine MovesN.next ?_
      split
      · refine Moves.call (takeFlit_moves _ _ _) (by decide) ?_
        exact hz5
      · exact hz5
    · extract_lets +onlyGivenNames z7
      have hz7 : Moves 141562680 s z7 := by
        unfold z7
        refine Moves.foldl (fun a8 _ => ?_) ?_
        · refine Moves.call (takeFlit_moves _ _ _) (by decide) ?_
          exact Moves.refl
        · exact hz1
      clear_value z7
      refine MovesN.next ?_
      refine Moves.call (logEvent_moves _ _ _ _ _ _) (by decide) ?_
      refine Moves.call (regAdd_moves _ _ _) (by decide) ?_
      exact hz7

end Sys2Proof.Laws
end

