-- ==== Sys2Proof/Laws/FramePower.lean ====
section
/-! SUPPORT. What each function of Machine/Power.lean may change, and that it keeps the canonical form: its frame law. -/

namespace Sys2Proof.Laws

set_option Elab.async false

open Sys2Proof Sys2Proof.Machine Sys2Proof.Safety

theorem forceFloor_moves (s : State) : Moves 8389176 s (forceFloor s) := by
  unfold forceFloor
  extract_lets +onlyGivenNames z0
  have hz0 : Moves 8389176 s z0 := by
    unfold z0
    unfold pwr
    refine Moves.record ?_ (cdies := by (try dsimp only); intro h; refine mapRising_foldl _ (fun m e hm => ?_) _ _ h; exact mapRising_mapSet _ _ _ _ hm) (cstks := by (try dsimp only); intro h; refine mapRising_foldl _ (fun m e hm => ?_) _ _ h; exact mapRising_mapSet _ _ _ _ hm)
    exact Moves.refl
  clear_value z0
  refine Moves.ite (fun _ => ?_) (fun _ => ?_)
  · exact hz0
  · refine Moves.call (eventAppend_moves _ _ _ _ _ _ _) (by decide) ?_
    exact hz0

theorem alertAssert_moves (s : State) : Moves 8389176 s (alertAssert s) := by
  unfold alertAssert
  extract_lets +onlyGivenNames z0
  have hz0 : Moves 8389176 s z0 := by
    unfold z0
    refine Moves.call (regSatAdd_moves _ _ _ _ _) (by decide) ?_
    unfold pwr
    refine Moves.record ?_
    exact Moves.refl
  clear_value z0
  refine Moves.ite (fun _ => ?_) (fun _ => ?_)
  · exact Moves.refl
  · refine Moves.call (forceFloor_moves _) (by decide) ?_
    refine Moves.ite (fun _ => ?_) (fun _ => ?_)
    · exact hz0
    · refine Moves.call (emit_moves _ _) (by decide) ?_
      exact hz0

theorem alertPinTick_moves (s : State) : Moves 8388616 s (alertPinTick s) := by
  unfold alertPinTick
  refine Moves.ite (fun _ => ?_) (fun _ => ?_)
  · refine Moves.call (emit_moves _ _) (by decide) ?_
    unfold pwr
    refine Moves.record ?_
    exact Moves.refl
  · exact Moves.refl

theorem dieMod_moves (s : State) (d : Nat) (f : DiePower → DiePower) : Moves 8388608 s (dieMod s d f) := by
  unfold dieMod
  unfold pwr
  refine Moves.record ?_ (cdies := fun h => mapRising_mapSet _ _ _ _ h)
  exact Moves.refl

theorem dieAllow_moves (s : State) (d : Nat) (w : Nat) : Moves 8388608 s (dieAllow s d w) := by
  unfold dieAllow
  refine Moves.call (dieMod_moves _ _ _) (by decide) ?_
  exact Moves.refl

theorem withdrawDies_moves (s : State) (n : Nat) : Moves 8388608 s (withdrawDies s n).1 := by
  unfold withdrawDies
  refine Moves.foldl_of Prod.fst (fun a0 _ => ?_) ?_
  · extract_lets +onlyGivenNames z1; clear_value z1
    dsimp only
    refine Moves.call (dieAllow_moves _ _ _) (by decide) ?_
    exact Moves.refl
  · exact Moves.refl

theorem withdrawLink_moves (s : State) (n : Nat) : Moves 8388608 s (withdrawLink s n).1 := by
  unfold withdrawLink
  extract_lets +onlyGivenNames z0; clear_value z0
  dsimp only
  unfold pwr
  refine Moves.record ?_
  exact Moves.refl

theorem stackMod_moves (s : State) (n : Nat) (f : StackPower → StackPower) : Moves 8388608 s (stackMod s n f) := by
  unfold stackMod
  unfold pwr
  refine Moves.record ?_ (cstks := fun h => mapRising_mapSet _ _ _ _ h)
  exact Moves.refl

theorem withdrawStacks_moves (s : State) (n : Nat) : Moves 8388608 s (withdrawStacks s n).1 := by
  unfold withdrawStacks
  refine Moves.foldl_of Prod.fst (fun a0 _ => ?_) ?_
  · extract_lets +onlyGivenNames z1; clear_value z1
    dsimp only
    refine Moves.call (stackMod_moves _ _ _) (by decide) ?_
    exact Moves.refl
  · exact Moves.refl

theorem withdraw_moves (s : State) (cap : Nat) : Moves 8388608 s (withdraw s cap) := by
  unfold withdraw
  extract_lets +onlyGivenNames z0; clear_value z0
  extract_lets +onlyGivenNames z1
  have hz1 : Moves 8388608 s z1.1 := by
    unfold z1
    refine Moves.ite_of Prod.fst (fun _ => ?_) (fun _ => ?_)
    · refine Moves.call (withdrawDies_moves _ _) (by decide) ?_
      exact Moves.refl
    · refine Moves.call (withdrawStacks_moves _ _) (by decide) ?_
      exact Moves.refl
  clear_value z1
  extract_lets +onlyGivenNames z2
  have hz2 : Moves 8388608 s z2.1 := by
    unfold z2
    refine Moves.ite_of Prod.fst (fun _ => ?_) (fun _ => ?_)
    · refine Moves.call (withdrawStacks_moves _ _) (by decide) ?_
      exact hz1
    · refine Moves.call (withdrawDies_moves _ _) (by decide) ?_
      exact hz1
  clear_value z2
  refine Moves.call (withdrawLink_moves _ _) (by decide) ?_
  exact hz2

theorem capChanged_moves (s : State) : Moves 8388608 s (capChanged s) := by
  unfold capChanged
  extract_lets +onlyGivenNames z0; clear_value z0
  refine Moves.ite (fun _ => ?_) (fun _ => ?_)
  · exact Moves.refl
  · refine Moves.ite (fun _ => ?_) (fun _ => ?_)
    · unfold pwr
      refine Moves.record ?_
      refine Moves.call (withdraw_moves _ _) (by decide) ?_
      exact Moves.refl
    · exact Moves.refl

theorem setPatternW_moves (s : State) (w : Nat) : Moves 8388608 s (setPatternW s w) := by
  unfold setPatternW
  refine Moves.call (capChanged_moves _) (by decide) ?_
  unfold pwr
  refine Moves.record ?_
  exact Moves.refl

theorem askPoint_moves (s : State) (d : Nat) (point : Nat) : Moves 8388608 s (askPoint s d point) := by
  unfold askPoint
  refine Moves.ite (fun _ => ?_) (fun _ => ?_)
  · exact Moves.refl
  · refine Moves.call (dieMod_moves _ _ _) (by decide) ?_
    exact Moves.refl

theorem reasonAdd_moves (s : State) (n : Nat) (ns : Nat) : Moves 8388608 s (reasonAdd s n ns) := by
  unfold reasonAdd
  unfold pwr
  refine Moves.record ?_
  exact Moves.refl

theorem droopCount_moves (s : State) : Moves 8388608 s (droopCount s) := by
  unfold droopCount
  extract_lets +onlyGivenNames z0
  have hz0 : Moves 8388608 s z0 := by
    unfold z0
    refine Moves.ite (fun _ => ?_) (fun _ => ?_)
    · refine Moves.call (reasonAdd_moves _ _ _) (by decide) ?_
      exact Moves.refl
    · exact Moves.refl
  clear_value z0
  unfold pwr
  refine Moves.record ?_
  exact hz0

theorem floorAllow_moves (s : State) : Moves 8388608 s (floorAllow s) := by
  unfold floorAllow
  extract_lets +onlyGivenNames z0
  have hz0 : Moves 8388608 s z0 := by
    unfold z0
    refine Moves.foldl (fun a1 _ => ?_) ?_
    · refine Moves.call (dieAllow_moves _ _ _) (by decide) ?_
      exact Moves.refl
    · exact Moves.refl
  clear_value z0
  extract_lets +onlyGivenNames z2
  have hz2 : Moves 8388608 s z2 := by
    unfold z2
    refine Moves.foldl (fun a3 _ => ?_) ?_
    · refine Moves.call (stackMod_moves _ _ _) (by decide) ?_
      exact Moves.refl
    · exact hz0
  clear_value z2
  unfold pwr
  refine Moves.record ?_
  exact hz2

theorem giveDies_moves (s : State) (n : Nat) : Moves 8388608 s (giveDies s n).1 := by
  unfold giveDies
  refine Moves.foldl_of Prod.fst (fun a0 _ => ?_) ?_
  · extract_lets +onlyGivenNames z1; clear_value z1
    dsimp only
    refine Moves.call (dieAllow_moves _ _ _) (by decide) ?_
    exact Moves.refl
  · exact Moves.refl

theorem giveLink_moves (s : State) (n : Nat) : Moves 8388608 s (giveLink s n).1 := by
  unfold giveLink
  extract_lets +onlyGivenNames z0; clear_value z0
  dsimp only
  unfold pwr
  refine Moves.record ?_
  exact Moves.refl

theorem giveRestDies_moves (s : State) (n : Nat) : Moves 8388608 s (giveRestDies s n) := by
  unfold giveRestDies
  refine Moves.foldl (fun a0 _ => ?_) ?_
  · refine Moves.call (dieMod_moves _ _ _) (by decide) ?_
    exact Moves.refl
  · exact Moves.refl

theorem giveRestStacks_moves (s : State) (n : Nat) : Moves 8388608 s (giveRestStacks s n) := by
  unfold giveRestStacks
  refine Moves.foldl (fun a0 _ => ?_) ?_
  · refine Moves.call (stackMod_moves _ _ _) (by decide) ?_
    exact Moves.refl
  · exact Moves.refl

theorem giveStacks_moves (s : State) (n : Nat) : Moves 8388608 s (giveStacks s n).1 := by
  unfold giveStacks
  refine Moves.foldl_of Prod.fst (fun a0 _ => ?_) ?_
  · extract_lets +onlyGivenNames z1; clear_value z1
    dsimp only
    refine Moves.call (stackMod_moves _ _ _) (by decide) ?_
    exact Moves.refl
  · exact Moves.refl

theorem execAllowanceGrant_moves (s : State) : MovesN 8389176 s (execAllowanceGrant s) := by
  unfold execAllowanceGrant
  extract_lets +onlyGivenNames z0; clear_value z0
  extract_lets +onlyGivenNames z1
  have hz1 : Moves 8389176 s z1 := by
    unfold z1
    refine Moves.call (floorAllow_moves _) (by decide) ?_
    unfold pwr
    refine Moves.record ?_
    exact Moves.refl
  clear_value z1
  extract_lets +onlyGivenNames z2; clear_value z2
  extract_lets +onlyGivenNames z3
  have hz3 : ∀ x0, Moves 8389176 x0 (z3 x0) := by
    intro x0
    unfold z3
    unfold pwr
    refine Moves.record ?_ (cdies := by (try dsimp only); intro h; refine mapRising_foldl _ (fun m e hm => ?_) _ _ h; exact mapRising_mapSet _ _ _ _ hm) (cstks := by (try dsimp only); intro h; refine mapRising_foldl _ (fun m e hm => ?_) _ _ h; exact mapRising_mapSet _ _ _ _ hm)
    exact Moves.refl
  clear_value z3
  extract_lets +onlyGivenNames z4
  have hz4 : Moves 8389176 s z4.1 := by
    unfold z4
    refine Moves.call (giveLink_moves _ _) (by decide) ?_
    exact hz1
  clear_value z4
  extract_lets +onlyGivenNames z5
  have hz5 : Moves 8389176 s z5.1 := by
    unfold z5
    refine Moves.call (giveStacks_moves _ _) (by decide) ?_
    exact hz4
  clear_value z5
  extract_lets +onlyGivenNames z6
  have hz6 : Moves 8389176 s z6.1 := by
    unfold z6
    refine Moves.call (giveDies_moves _ _) (by decide) ?_
    exact hz5
  clear_value z6
  extract_lets +onlyGivenNames z7
  have hz7 : Moves 8389176 s z7.1 := by
    unfold z7
    refine Moves.call (giveDies_moves _ _) (by decide) ?_
    exact hz4
  clear_value z7
  extract_lets +onlyGivenNames z8
  have hz8 : Moves 8389176 s z8.1 := by
    unfold z8
    refine Moves.call (giveStacks_moves _ _) (by decide) ?_
    exact hz7
  clear_value z8
  refine MovesN.ite (fun _ => ?_) (fun _ => ?_)
  · refine MovesN.next ?_
    exact Moves.refl
  · refine MovesN.ite (fun _ => ?_) (fun _ => ?_)
    · refine MovesN.next ?_
      refine Moves.trans ?_ (hz3 _)
      refine Moves.call (withdraw_moves _ _) (by decide) ?_
      refine Moves.call (forceFloor_moves _) (by decide) ?_
      exact hz1
    · refine MovesN.ite (fun _ => ?_) (fun _ => ?_)
      · refine MovesN.next ?_
        refine Moves.trans ?_ (hz3 _)
        exact hz1
      · refine MovesN.ite (fun _ => ?_) (fun _ => ?_)
        · refine MovesN.next ?_
          refine Moves.trans ?_ (hz3 _)
          refine Moves.call (giveRestDies_moves _ _) (by decide) ?_
          exact hz6
        · refine MovesN.next ?_
          refine Moves.trans ?_ (hz3 _)
          refine Moves.call (giveRestStacks_moves _ _) (by decide) ?_
          exact hz8

theorem stretchCount_moves (s : State) (d : Nat) : Moves 8388608 s (stretchCount s d) := by
  unfold stretchCount
  extract_lets +onlyGivenNames z0
  have hz0 : Moves 8388608 s z0 := by
    unfold z0
    refine Moves.call (droopCount_moves _) (by decide) ?_
    exact Moves.refl
  clear_value z0
  extract_lets +onlyGivenNames z1; clear_value z1
  refine Moves.ite (fun _ => ?_) (fun _ => ?_)
  · exact hz0
  · refine Moves.call (dieMod_moves _ _ _) (by decide) ?_
    exact hz0

theorem execDroopDetect_moves (die : Nat) (cluster : Nat) (deep : Bool) (s : State) : MovesN 8388608 s (execDroopDetect die cluster deep s) := by
  unfold execDroopDetect
  extract_lets +onlyGivenNames z0
  have hz0 : Moves 8388608 s z0 := by
    unfold z0
    refine Moves.call (stretchCount_moves _ _) (by decide) ?_
    exact Moves.refl
  clear_value z0
  refine MovesN.ite (fun _ => ?_) (fun _ => ?_)
  · refine MovesN.next ?_
    refine Moves.call (dieMod_moves _ _ _) (by decide) ?_
    exact hz0
  · refine MovesN.next ?_
    exact Moves.refl

theorem lowerPoint_moves (s : State) (d : Nat) : Moves 8388608 s (lowerPoint s d) := by
  unfold lowerPoint
  refine Moves.call (askPoint_moves _ _ _) (by decide) ?_
  exact Moves.refl

theorem execDroopStorm_moves (die : Nat) (s : State) : MovesN 8388624 s (execDroopStorm die s) := by
  unfold execDroopStorm
  extract_lets +onlyGivenNames z0
  have hz0 : Moves 8388624 s z0 := by
    unfold z0
    refine Moves.call (stretchCount_moves _ _) (by decide) ?_
    exact Moves.refl
  clear_value z0
  extract_lets +onlyGivenNames z1
  extract_lets +onlyGivenNames z2
  have hz2 : Moves 8388624 s z2 := by
    unfold z2
    refine Moves.call (dieMod_moves _ _ _) (by decide) ?_
    exact hz0
  clear_value z2
  extract_lets +onlyGivenNames z3
  have hz3 : Moves 8388624 s z3 := by
    unfold z3
    refine Moves.call (regSatAdd_moves _ _ _ _ _) (by decide) ?_
    refine Moves.call (lowerPoint_moves _ _) (by decide) ?_
    exact hz2
  clear_value z3
  refine MovesN.ite (fun _ => ?_) (fun _ => ?_)
  · refine MovesN.next ?_
    exact Moves.refl
  · refine MovesN.ite (fun _ => ?_) (fun _ => ?_)
    · refine MovesN.next ?_
      refine Moves.call (dieMod_moves _ _ _) (by decide) ?_
      exact hz3
    · refine MovesN.next ?_
      exact hz2

theorem execDroopStretchEnd_moves (die : Nat) (cluster : Nat) (s : State) : MovesN 8388608 s (execDroopStretchEnd die cluster s) := by
  unfold execDroopStretchEnd
  refine MovesN.ite (fun _ => ?_) (fun _ => ?_)
  · refine MovesN.next ?_
    refine Moves.call (dieMod_moves _ _ _) (by decide) ?_
    refine Moves.call (stretchCount_moves _ _) (by decide) ?_
    exact Moves.refl
  · refine MovesN.next ?_
    exact Moves.refl

theorem governDie_moves (s : State) (d : Nat) : Moves 8388608 s (governDie s d) := by
  unfold governDie
  extract_lets +onlyGivenNames z0; clear_value z0
  extract_lets +onlyGivenNames z1; clear_value z1
  refine Moves.ite (fun _ => ?_) (fun _ => ?_)
  · refine Moves.ite (fun _ => ?_) (fun _ => ?_)
    · refine Moves.call (lowerPoint_moves _ _) (by decide) ?_
      refine Moves.call (dieMod_moves _ _ _) (by decide) ?_
      exact Moves.refl
    · refine Moves.call (dieMod_moves _ _ _) (by decide) ?_
      exact Moves.refl
  · refine Moves.call (dieMod_moves _ _ _) (by decide) ?_
    exact Moves.refl

theorem governStack_moves (s : State) (n : Nat) : Moves 8388608 s (governStack s n) := by
  unfold governStack
  refine Moves.call (stackMod_moves _ _ _) (by decide) ?_
  exact Moves.refl

theorem execEstimatorWindow_moves (est : List Nat) (energy : List (Nat × Nat)) (s : State) : MovesN 8388608 s (execEstimatorWindow est energy s) := by
  unfold execEstimatorWindow
  extract_lets +onlyGivenNames z0; clear_value z0
  extract_lets +onlyGivenNames z1
  have hz1 : Moves 8388608 s z1 := by
    unfold z1
    refine Moves.foldl (fun a2 _ => ?_) ?_
    · refine Moves.call (dieMod_moves _ _ _) (by decide) ?_
      exact Moves.refl
    · exact Moves.refl
  clear_value z1
  extract_lets +onlyGivenNames z3
  have hz3 : Moves 8388608 s z3 := by
    unfold z3
    refine Moves.foldl (fun a4 _ => ?_) ?_
    · refine Moves.call (stackMod_moves _ _ _) (by decide) ?_
      exact Moves.refl
    · exact hz1
  clear_value z3
  extract_lets +onlyGivenNames z5
  have hz5 : Moves 8388608 s z5 := by
    unfold z5
    unfold pwr
    refine Moves.record ?_
    exact hz3
  clear_value z5
  extract_lets +onlyGivenNames z6
  have hz6 : Moves 8388608 s z6 := by
    unfold z6
    refine Moves.ite (fun _ => ?_) (fun _ => ?_)
    · exact hz5
    · refine Moves.foldl (fun a7 _ => ?_) ?_
      · refine Moves.call (governStack_moves _ _) (by decide) ?_
        exact Moves.refl
      · refine Moves.foldl (fun a8 _ => ?_) ?_
        · refine Moves.call (governDie_moves _ _) (by decide) ?_
          exact Moves.refl
        · exact hz5
  clear_value z6
  extract_lets +onlyGivenNames z9; clear_value z9
  refine MovesN.ite (fun _ => ?_) (fun _ => ?_)
  · refine MovesN.next ?_
    exact Moves.refl
  · refine MovesN.next ?_
    refine Moves.foldl (fun a10 _ => ?_) ?_
    · refine Moves.call (reasonAdd_moves _ _ _) (by decide) ?_
      exact Moves.refl
    · unfold pwr
      refine Moves.record ?_
      exact hz6

theorem execForcedFloorExitStep_moves (s : State) : MovesN 8388608 s (execForcedFloorExitStep s) := by
  unfold execForcedFloorExitStep
  extract_lets +onlyGivenNames z0; clear_value z0
  refine MovesN.ite (fun _ => ?_) (fun _ => ?_)
  · refine MovesN.next ?_
    exact Moves.refl
  · refine MovesN.ite (fun _ => ?_) (fun _ => ?_)
    · refine MovesN.next ?_
      unfold pwr
      refine Moves.record ?_ (cstks := by (try dsimp only); intro h; refine mapRising_foldl _ (fun m e hm => ?_) _ _ h; exact mapRising_mapSet _ _ _ _ hm)
      exact Moves.refl
    · refine MovesN.next ?_
      unfold pwr
      refine Moves.record ?_ (cdies := by (try dsimp only); intro h; refine mapRising_foldl _ (fun m e hm => ?_) _ _ h; exact mapRising_mapSet _ _ _ _ hm) (cstks := by (try dsimp only); intro h; refine mapRising_foldl _ (fun m e hm => ?_) _ _ h; exact mapRising_mapSet _ _ _ _ hm)
      exact Moves.refl

theorem raisePoint_moves (s : State) (d : Nat) : Moves 8388608 s (raisePoint s d) := by
  unfold raisePoint
  extract_lets +onlyGivenNames z0; clear_value z0
  refine Moves.call (askPoint_moves _ _ _) (by decide) ?_
  exact Moves.refl

theorem execGovernorRaise_moves (die : Nat) (s : State) : MovesN 8388608 s (execGovernorRaise die s) := by
  unfold execGovernorRaise
  refine MovesN.ite (fun _ => ?_) (fun _ => ?_)
  · refine MovesN.next ?_
    refine Moves.call (raisePoint_moves _ _) (by decide) ?_
    refine Moves.call (dieMod_moves _ _ _) (by decide) ?_
    exact Moves.refl
  · refine MovesN.next ?_
    exact Moves.refl

theorem muteArm_moves (s : State) : Moves 8388608 s (muteArm s) := by
  unfold muteArm
  refine Moves.ite (fun _ => ?_) (fun _ => ?_)
  · exact Moves.refl
  · unfold pwr
    refine Moves.record ?_
    exact Moves.refl

theorem muteReclaim_moves (s : State) : Moves 8388608 s (muteReclaim s) := by
  unfold muteReclaim
  extract_lets +onlyGivenNames z0
  have hz0 : Moves 8388608 s z0 := by
    unfold z0
    unfold pwr
    refine Moves.record ?_
    exact Moves.refl
  clear_value z0
  extract_lets +onlyGivenNames z1
  have hz1 : Moves 8388608 s z1 := by
    unfold z1
    refine Moves.ite (fun _ => ?_) (fun _ => ?_)
    · unfold pwr
      refine Moves.record ?_
      exact hz0
    · exact hz0
  clear_value z1
  refine Moves.ite (fun _ => ?_) (fun _ => ?_)
  · refine Moves.call (capChanged_moves _) (by decide) ?_
    exact hz1
  · exact Moves.refl

theorem setHostCap_moves (s : State) (w : Nat) : Moves 8388624 s (setHostCap s w) := by
  unfold setHostCap
  refine Moves.call (capChanged_moves _) (by decide) ?_
  refine Moves.call (regPut_moves _ _ _ _ _) (by decide) ?_
  exact Moves.refl

theorem leaseTray_moves (s : State) : Moves 8388608 s (leaseTray s) := by
  unfold leaseTray
  unfold pwr
  refine Moves.record ?_
  exact Moves.refl

theorem execMuteStepDown_moves (s : State) : MovesN 8388608 s (execMuteStepDown s) := by
  unfold execMuteStepDown
  split
  · refine MovesN.next ?_
    exact Moves.refl
  · extract_lets +onlyGivenNames z0; clear_value z0
    refine MovesN.ite (fun _ => ?_) (fun _ => ?_)
    · refine MovesN.next ?_
      exact Moves.refl
    · refine MovesN.next ?_
      unfold pwr
      refine Moves.record ?_ (cdies := by (try dsimp only); intro h; refine mapRising_foldl _ (fun m e hm => ?_) _ _ h; exact mapRising_mapSet _ _ _ _ hm) (cstks := by (try dsimp only); intro h; refine mapRising_foldl _ (fun m e hm => ?_) _ _ h; exact mapRising_mapSet _ _ _ _ hm)
      exact Moves.refl

theorem execOperatingPointChange_moves (die : Nat) (s : State) : MovesN 8388608 s (execOperatingPointChange die s) := by
  unfold execOperatingPointChange
  extract_lets +onlyGivenNames z0; clear_value z0
  refine MovesN.ite (fun _ => ?_) (fun _ => ?_)
  · refine MovesN.next ?_
    refine Moves.call (dieMod_moves _ _ _) (by decide) ?_
    exact Moves.refl
  · refine MovesN.next ?_
    exact Moves.refl

theorem execOvercurrent_moves (s : State) : MovesN 8389176 s (execOvercurrent s) := by
  unfold execOvercurrent
  refine MovesN.next ?_
  refine Moves.call (alertAssert_moves _) (by decide) ?_
  refine Moves.call (regSatAdd_moves _ _ _ _ _) (by decide) ?_
  exact Moves.refl

theorem execPointSwitch_moves (die : Nat) (s : State) : MovesN 8388608 s (execPointSwitch die s) := by
  unfold execPointSwitch
  extract_lets +onlyGivenNames z0; clear_value z0
  split
  · refine MovesN.ite (fun _ => ?_) (fun _ => ?_)
    · refine MovesN.next ?_
      refine Moves.call (dieMod_moves _ _ _) (by decide) ?_
      exact Moves.refl
    · refine MovesN.next ?_
      exact Moves.refl
  · refine MovesN.next ?_
    exact Moves.refl

theorem execPowerCalibration_moves (inputMw : Nat) (inputCv : Nat) (s : State) : MovesN 146801464 s (execPowerCalibration inputMw inputCv s) := by
  unfold execPowerCalibration
  extract_lets +onlyGivenNames z0
  extract_lets +onlyGivenNames z1
  have hz1 : Moves 146801464 s z1 := by
    unfold z1
    unfold pwr
    refine Moves.record ?_
    exact Moves.refl
  clear_value z1
  extract_lets +onlyGivenNames z2; clear_value z2
  extract_lets +onlyGivenNames z3; clear_value z3
  extract_lets +onlyGivenNames z4; clear_value z4
  extract_lets +onlyGivenNames z5
  have hz5 : Moves 146801464 s z5 := by
    unfold z5
    unfold pwr
    refine Moves.record ?_
    exact hz1
  clear_value z5
  refine MovesN.ite (fun _ => ?_) (fun _ => ?_)
  · refine MovesN.next ?_
    exact Moves.refl
  · refine MovesN.ite (fun _ => ?_) (fun _ => ?_)
    · refine MovesN.next ?_
      exact hz1
    · refine MovesN.ite (fun _ => ?_) (fun _ => ?_)
      · refine MovesN.next ?_
        refine Moves.call (logEvent_moves _ _ _ _ _ _) (by decide) ?_
        exact hz5
      · refine MovesN.next ?_
        exact hz5

theorem execRegulatorAlert_moves (s : State) : MovesN 8389176 s (execRegulatorAlert s) := by
  unfold execRegulatorAlert
  refine MovesN.next ?_
  refine Moves.call (alertAssert_moves _) (by decide) ?_
  exact Moves.refl

theorem execRegulatorAlertClear_moves (s : State) : MovesN 8388608 s (execRegulatorAlertClear s) := by
  unfold execRegulatorAlertClear
  refine MovesN.ite (fun _ => ?_) (fun _ => ?_)
  · refine MovesN.next ?_
    unfold pwr
    refine Moves.record ?_
    exact Moves.refl
  · refine MovesN.next ?_
    exact Moves.refl

theorem setThermal_moves (s : State) (w : Nat) : Moves 8388608 s (setThermal s w) := by
  unfold setThermal
  refine Moves.call (capChanged_moves _) (by decide) ?_
  unfold pwr
  refine Moves.record ?_
  exact Moves.refl

theorem setWarrantW_moves (s : State) (w : Nat) : Moves 8388608 s (setWarrantW s w) := by
  unfold setWarrantW
  refine Moves.call (capChanged_moves _) (by decide) ?_
  unfold pwr
  refine Moves.record ?_
  exact Moves.refl

theorem execStormReductionEnd_moves (die : Nat) (s : State) : MovesN 8388608 s (execStormReductionEnd die s) := by
  unfold execStormReductionEnd
  split
  · refine MovesN.ite (fun _ => ?_) (fun _ => ?_)
    · refine MovesN.next ?_
      refine Moves.call (raisePoint_moves _ _) (by decide) ?_
      refine Moves.call (dieMod_moves _ _ _) (by decide) ?_
      exact Moves.refl
    · refine MovesN.next ?_
      exact Moves.refl
  · refine MovesN.next ?_
    exact Moves.refl

theorem setTray_moves (s : State) (w : Nat) : Moves 8388608 s (setTray s w) := by
  unfold setTray
  refine Moves.call (capChanged_moves _) (by decide) ?_
  unfold pwr
  refine Moves.record ?_
  exact Moves.refl

theorem execTrayHold_moves (s : State) : MovesN 8389176 s (execTrayHold s) := by
  unfold execTrayHold
  refine MovesN.ite (fun _ => ?_) (fun _ => ?_)
  · refine MovesN.next ?_
    exact Moves.refl
  · refine MovesN.next ?_
    refine Moves.call (forceFloor_moves _) (by decide) ?_
    refine Moves.call (regSatAdd_moves _ _ _ _ _) (by decide) ?_
    unfold pwr
    refine Moves.record ?_
    exact Moves.refl

theorem execTrayHoldRelease_moves (s : State) : MovesN 8388608 s (execTrayHoldRelease s) := by
  unfold execTrayHoldRelease
  refine MovesN.ite (fun _ => ?_) (fun _ => ?_)
  · refine MovesN.next ?_
    unfold pwr
    refine Moves.record ?_
    exact Moves.refl
  · refine MovesN.next ?_
    exact Moves.refl

theorem execTrayLeaseExpiry_moves (s : State) : MovesN 8388608 s (execTrayLeaseExpiry s) := by
  unfold execTrayLeaseExpiry
  refine MovesN.ite (fun _ => ?_) (fun _ => ?_)
  · refine MovesN.next ?_
    refine Moves.call (setTray_moves _ _) (by decide) ?_
    unfold pwr
    refine Moves.record ?_
    exact Moves.refl
  · refine MovesN.next ?_
    exact Moves.refl

end Sys2Proof.Laws
end

