-- ==== Sys2Proof/Laws/FrameStocktake.lean ====
section
/-! SUPPORT. What each function of Machine/Stocktake.lean may change, and that it keeps the canonical form: its frame law. -/

namespace Sys2Proof.Laws

set_option Elab.async false

open Sys2Proof Sys2Proof.Machine Sys2Proof.Safety

theorem mkMod_moves (s : State) (p : Nat) (f : Marker → Marker) : Moves 1048576 s (mkMod s p f) := by
  unfold mkMod
  extract_lets +onlyGivenNames z0
  refine Moves.record ?_
  exact Moves.refl

theorem sendMarker_moves (s : State) (p : Nat) (requested : Bool) : Moves 3146296 s (sendMarker s p requested) := by
  unfold sendMarker
  extract_lets +onlyGivenNames z0
  have hz0 : Moves 3146296 s z0 := by
    unfold z0
    refine Moves.call (emit_moves _ _) (by decide) ?_
    exact Moves.refl
  clear_value z0
  extract_lets +onlyGivenNames z1
  have hz1 : Moves 3146296 s z1 := by
    unfold z1
    refine Moves.call (wakePort_moves _ _) (by decide) ?_
    exact Moves.refl
  clear_value z1
  extract_lets +onlyGivenNames z2
  have hz2 : Moves 3146296 s z2 := by
    unfold z2
    refine Moves.call (newFrame_moves _ _ _ _) (by decide) ?_
    exact hz1
  clear_value z2
  refine Moves.ite (fun _ => ?_) (fun _ => ?_)
  · refine Moves.call (mkMod_moves _ _ _) (by decide) ?_
    exact hz0
  · refine Moves.ite (fun _ => ?_) (fun _ => ?_)
    · refine Moves.call (mkMod_moves _ _ _) (by decide) ?_
      exact Moves.refl
    · refine Moves.call (mkMod_moves _ _ _) (by decide) ?_
      exact hz2

theorem fabStocktake_moves (ports : Nat) (s : State) : Moves 3146296 s (fabStocktake ports s) := by
  unfold fabStocktake
  refine Moves.foldl (fun a0 _ => ?_) ?_
  · refine Moves.call (sendMarker_moves _ _ _) (by decide) ?_
    exact Moves.refl
  · exact Moves.refl

theorem execFabStocktake_moves (mgmt : Bool) (ports : Nat) (s : State) : MovesN 141558584 s (execFabStocktake mgmt ports s) := by
  unfold execFabStocktake
  refine MovesN.next ?_
  refine Moves.trans ?_ (writeBy_moves (by decide) (fun a0 => ?_))
  · exact Moves.refl
  · refine Moves.call (fabStocktake_moves _ _) (by decide) ?_
    exact Moves.refl

theorem execLinkResetComplete_moves (port : Nat) (s : State) : MovesN 568 s (execLinkResetComplete port s) := by
  unfold execLinkResetComplete
  refine MovesN.ite (fun _ => ?_) (fun _ => ?_)
  · refine MovesN.next ?_
    exact Moves.refl
  · refine MovesN.ite (fun _ => ?_) (fun _ => ?_)
    · refine MovesN.next ?_
      refine Moves.call (setPortState_moves _ _ _) (by decide) ?_
      exact Moves.refl
    · refine MovesN.next ?_
      refine Moves.call (showState_moves _ _) (by decide) ?_
      exact Moves.refl

theorem linkReset_moves (s : State) (p : Nat) : Moves 137364024 s (linkReset s p) := by
  unfold linkReset
  extract_lets +onlyGivenNames z0
  have hz0 : Moves 137364024 s z0 := by
    unfold z0
    refine Moves.ite (fun _ => ?_) (fun _ => ?_)
    · exact Moves.refl
    · refine Moves.call (wakePort_moves _ _) (by decide) ?_
      exact Moves.refl
  clear_value z0
  extract_lets +onlyGivenNames z1
  have hz1 : Moves 137364024 s z1 := by
    unfold z1
    refine Moves.call (regAdd_moves _ _ _) (by decide) ?_
    refine Moves.call (setPortState_moves _ _ _) (by decide) ?_
    exact hz0
  clear_value z1
  extract_lets +onlyGivenNames z2
  have hz2 : Moves 137364024 s z2 := by
    unfold z2
    refine Moves.call (lpMod_moves _ _ _) (by decide) ?_
    refine Moves.call (portPurge_moves _ _) (by decide) ?_
    exact hz1
  clear_value z2
  refine Moves.ite (fun _ => ?_) (fun _ => ?_)
  · exact Moves.refl
  · refine Moves.call (mkMod_moves _ _ _) (by decide) ?_
    exact hz2

theorem execPacketIdentityCheck_moves (port : Nat) (s : State) : MovesN 141558584 s (execPacketIdentityCheck port s) := by
  unfold execPacketIdentityCheck
  extract_lets +onlyGivenNames z0; clear_value z0
  extract_lets +onlyGivenNames z1
  have hz1 : Moves 141558584 s z1 := by
    unfold z1
    refine Moves.foldl (fun a2 _ => ?_) ?_
    · refine Moves.call (logEvent_moves _ _ _ _ _ _) (by decide) ?_
      exact Moves.refl
    · exact Moves.refl
  clear_value z1
  refine MovesN.ite (fun _ => ?_) (fun _ => ?_)
  · refine MovesN.next ?_
    exact Moves.refl
  · refine MovesN.next ?_
    refine Moves.call (linkReset_moves _ _) (by decide) ?_
    refine Moves.call (regPut_moves _ _ _ _ _) (by decide) ?_
    exact hz1

theorem recordStocktake_moves (s : State) (p : Nat) (bad : Nat) : Moves 16 s (recordStocktake s p bad) := by
  unfold recordStocktake
  refine Moves.call (regPut_moves _ _ _ _ _) (by decide) ?_
  refine Moves.call (regPut_moves _ _ _ _ _) (by decide) ?_
  exact Moves.refl

theorem takeMarker_moves (s : State) (p : Nat) (bs : List Byte) : Moves 141558584 s (takeMarker s p bs) := by
  unfold takeMarker
  extract_lets +onlyGivenNames z0; clear_value z0
  extract_lets +onlyGivenNames z1; clear_value z1
  extract_lets +onlyGivenNames z2
  have hz2 : Moves 141558584 s z2 := by
    unfold z2
    refine Moves.call (regPut_moves _ _ _ _ _) (by decide) ?_
    refine Moves.call (recordStocktake_moves _ _ _) (by decide) ?_
    exact Moves.refl
  clear_value z2
  extract_lets +onlyGivenNames z3
  have hz3 : Moves 141558584 s z3 := by
    unfold z3
    refine Moves.call (latchSteward_moves _ _) (by decide) ?_
    refine Moves.call (mkMod_moves _ _ _) (by decide) ?_
    exact hz2
  clear_value z3
  extract_lets +onlyGivenNames z4
  have hz4 : Moves 141558584 s z4 := by
    unfold z4
    refine Moves.foldl (fun a5 _ => ?_) ?_
    · refine Moves.call (logEvent_moves _ _ _ _ _ _) (by decide) ?_
      exact Moves.refl
    · exact hz3
  clear_value z4
  extract_lets +onlyGivenNames z6; clear_value z6
  extract_lets +onlyGivenNames z7
  extract_lets +onlyGivenNames z8; clear_value z8
  extract_lets +onlyGivenNames z9
  have hz9 : Moves 141558584 s z9 := by
    unfold z9
    refine Moves.ite (fun _ => ?_) (fun _ => ?_)
    · refine Moves.call (recordStocktake_moves _ _ _) (by decide) ?_
      exact hz4
    · exact hz4
  clear_value z9
  extract_lets +onlyGivenNames z10; clear_value z10
  refine Moves.ite (fun _ => ?_) (fun _ => ?_)
  · refine Moves.ite (fun _ => ?_) (fun _ => ?_)
    · exact Moves.refl
    · refine Moves.call (regAdd_moves _ _ _) (by decide) ?_
      exact Moves.refl
  · refine Moves.ite (fun _ => ?_) (fun _ => ?_)
    · refine Moves.call (mkMod_moves _ _ _) (by decide) ?_
      refine Moves.call (linkReset_moves _ _) (by decide) ?_
      exact hz9
    · exact hz9

theorem execStocktakeMarkerReceive_moves (port : Nat) (msg : Nat) (errs : List Nat) (s : State) : MovesN 141558584 s (execStocktakeMarkerReceive port msg errs
      s) := by
  unfold execStocktakeMarkerReceive
  extract_lets +onlyGivenNames z0; clear_value z0
  refine MovesN.ite (fun _ => ?_) (fun _ => ?_)
  · refine MovesN.next ?_
    exact Moves.refl
  · refine MovesN.ite (fun _ => ?_) (fun _ => ?_)
    · refine MovesN.next ?_
      refine Moves.call (takeMarker_moves _ _ _) (by decide) ?_
      exact Moves.refl
    · refine MovesN.ite (fun _ => ?_) (fun _ => ?_)
      · refine MovesN.next ?_
        exact Moves.refl
      · split
        · refine MovesN.next ?_
          refine Moves.call (takeMarker_moves _ _ _) (by decide) ?_
          refine Moves.call (Moves.of_fst (by assumption) (frameTake_moves _ _ _ _)) (by decide) ?_
          exact Moves.refl
        · refine MovesN.next ?_
          refine Moves.call (Moves.of_fst (by assumption) (frameTake_moves _ _ _ _)) (by decide) ?_
          exact Moves.refl

theorem execStocktakeTimer_moves (port : Nat) (s : State) : MovesN 3146296 s (execStocktakeTimer port s) := by
  unfold execStocktakeTimer
  refine MovesN.ite (fun _ => ?_) (fun _ => ?_)
  · refine MovesN.next ?_
    refine Moves.call (sendMarker_moves _ _ _) (by decide) ?_
    exact Moves.refl
  · refine MovesN.next ?_
    exact Moves.refl

end Sys2Proof.Laws
end

