-- ==== Sys2Proof/Laws/FrameTraining.lean ====
section
/-! SUPPORT. What each function of Machine/Training.lean may change, and that it keeps the canonical form: its frame law. -/

namespace Sys2Proof.Laws

set_option Elab.async false

open Sys2Proof Sys2Proof.Machine Sys2Proof.Safety

theorem showStatus_moves (s : State) (p : Nat) (rung : Nat) (width : Nat) (rx : Nat) (tx : Nat) (failed : Nat) (reason : Nat) (bestR : Nat) (bestW : Nat) :
      Moves 16 s (showStatus s p rung width rx tx failed reason bestR bestW) := by
  unfold showStatus
  refine Moves.call (regSet_moves _ _ _) (by decide) ?_
  exact Moves.refl

theorem holdPort_moves (s : State) (p : Nat) (reason : Nat) : Moves 141558584 s (holdPort s p reason) := by
  unfold holdPort
  extract_lets +onlyGivenNames z0; clear_value z0
  extract_lets +onlyGivenNames z1; clear_value z1
  extract_lets +onlyGivenNames z2; clear_value z2
  extract_lets +onlyGivenNames z3
  have hz3 : Moves 141558584 s z3 := by
    unfold z3
    refine Moves.ite (fun _ => ?_) (fun _ => ?_)
    · refine Moves.call (wakePort_moves _ _) (by decide) ?_
      exact Moves.refl
    · exact Moves.refl
  clear_value z3
  extract_lets +onlyGivenNames z4
  have hz4 : Moves 141558584 s z4 := by
    unfold z4
    refine Moves.ite (fun _ => ?_) (fun _ => ?_)
    · refine Moves.call (lpMod_moves _ _ _) (by decide) ?_
      refine Moves.call (portPurge_moves _ _) (by decide) ?_
      exact hz3
    · exact hz3
  clear_value z4
  extract_lets +onlyGivenNames z5
  have hz5 : Moves 141558584 s z5 := by
    unfold z5
    refine Moves.call (lpMod_moves _ _ _) (by decide) ?_
    exact hz4
  clear_value z5
  extract_lets +onlyGivenNames z6; clear_value z6
  extract_lets +onlyGivenNames z7; clear_value z7
  extract_lets +onlyGivenNames z8
  have hz8 : Moves 141558584 s z8 := by
    unfold z8
    refine Moves.call (setPhase_moves _ _ _) (by decide) ?_
    refine Moves.call (showStatus_moves _ _ _ _ _ _ _ _ _ _) (by decide) ?_
    exact hz5
  clear_value z8
  refine Moves.ite (fun _ => ?_) (fun _ => ?_)
  · exact Moves.refl
  · refine Moves.call (logEvent_moves _ _ _ _ _ _) (by decide) ?_
    exact hz8

theorem showLanes_moves (s : State) (p : Nat) (rung : Nat) (use : Nat) : Moves 16 s (showLanes s p rung use) := by
  unfold showLanes
  extract_lets +onlyGivenNames z0; clear_value z0
  refine Moves.foldl (fun a1 _ => ?_) ?_
  · extract_lets +onlyGivenNames z2; clear_value z2
    extract_lets +onlyGivenNames z3; clear_value z3
    refine Moves.call (regPut_moves _ _ _ _ _) (by decide) ?_
    refine Moves.call (regPut_moves _ _ _ _ _) (by decide) ?_
    refine Moves.call (regPut_moves _ _ _ _ _) (by decide) ?_
    exact Moves.refl
  · exact Moves.refl

theorem decideRung_moves (s : State) (p : Nat) : Moves 141558584 s (decideRung s p) := by
  unfold decideRung
  split
  · refine Moves.call (holdPort_moves _ _ _) (by decide) ?_
    exact Moves.refl
  · extract_lets +onlyGivenNames z0; clear_value z0
    extract_lets +onlyGivenNames z1; clear_value z1
    extract_lets +onlyGivenNames z2; clear_value z2
    extract_lets +onlyGivenNames z3; clear_value z3
    extract_lets +onlyGivenNames z4; clear_value z4
    extract_lets +onlyGivenNames z5
    have hz5 : Moves 141558584 s z5 := by
      unfold z5
      refine Moves.call (setPhase_moves _ _ _) (by decide) ?_
      refine Moves.call (showStatus_moves _ _ _ _ _ _ _ _ _ _) (by decide) ?_
      exact Moves.refl
    clear_value z5
    refine Moves.call (sendBurst_moves _ _ _) (by decide) ?_
    refine Moves.call (showLanes_moves _ _ _ _) (by decide) ?_
    exact hz5

theorem nextPhase_moves (s : State) (p : Nat) (ph : Nat) : Moves 2097720 s (nextPhase s p ph) := by
  unfold nextPhase
  extract_lets +onlyGivenNames z0; clear_value z0
  extract_lets +onlyGivenNames z1; clear_value z1
  extract_lets +onlyGivenNames z2
  have hz2 : Moves 2097720 s z2 := by
    unfold z2
    refine Moves.call (lpMod_moves _ _ _) (by decide) ?_
    refine Moves.call (setPhase_moves _ _ _) (by decide) ?_
    refine Moves.call (regPut_moves _ _ _ _ _) (by decide) ?_
    exact Moves.refl
  clear_value z2
  refine Moves.ite (fun _ => ?_) (fun _ => ?_)
  · exact hz2
  · refine Moves.call (sendBurst_moves _ _ _) (by decide) ?_
    refine Moves.call (regPut_moves _ _ _ _ _) (by decide) ?_
    exact hz2

theorem reconsider_moves (s : State) (p : Nat) : Moves 141558584 s (reconsider s p) := by
  unfold reconsider
  extract_lets +onlyGivenNames z0; clear_value z0
  extract_lets +onlyGivenNames z1; clear_value z1
  refine Moves.ite (fun _ => ?_) (fun _ => ?_)
  · exact Moves.refl
  · refine Moves.ite (fun _ => ?_) (fun _ => ?_)
    · refine Moves.call (holdPort_moves _ _ _) (by decide) ?_
      exact Moves.refl
    · refine Moves.ite (fun _ => ?_) (fun _ => ?_)
      · refine Moves.call (nextPhase_moves _ _ _) (by decide) ?_
        exact Moves.refl
      · refine Moves.call (decideRung_moves _ _) (by decide) ?_
        exact Moves.refl

theorem recheck_moves (s : State) (p : Nat) : Moves 141558584 s (recheck s p) := by
  unfold recheck
  extract_lets +onlyGivenNames z0; clear_value z0
  extract_lets +onlyGivenNames z1; clear_value z1
  refine Moves.ite (fun _ => ?_) (fun _ => ?_)
  · refine Moves.call (reconsider_moves _ _) (by decide) ?_
    exact Moves.refl
  · refine Moves.ite (fun _ => ?_) (fun _ => ?_)
    · refine Moves.ite (fun _ => ?_) (fun _ => ?_)
      · exact Moves.refl
      · refine Moves.call (holdPort_moves _ _ _) (by decide) ?_
        exact Moves.refl
    · exact Moves.refl

theorem exchanged_moves (s : State) (p : Nat) : Moves 141558584 s (exchanged s p) := by
  unfold exchanged
  extract_lets +onlyGivenNames z0; clear_value z0
  extract_lets +onlyGivenNames z1; clear_value z1
  refine Moves.ite (fun _ => ?_) (fun _ => ?_)
  · refine Moves.ite (fun _ => ?_) (fun _ => ?_)
    · refine Moves.call (nextPhase_moves _ _ _) (by decide) ?_
      exact Moves.refl
    · refine Moves.call (holdPort_moves _ _ _) (by decide) ?_
      exact Moves.refl
  · refine Moves.call (nextPhase_moves _ _ _) (by decide) ?_
    exact Moves.refl

theorem execCkLockDone_moves (port : Nat) (s : State) : MovesN 2097720 s (execCkLockDone port s) := by
  unfold execCkLockDone
  extract_lets +onlyGivenNames z0
  have hz0 : Moves 2097720 s z0 := by
    unfold z0
    refine Moves.call (regPut_moves _ _ _ _ _) (by decide) ?_
    refine Moves.call (setPhase_moves _ _ _) (by decide) ?_
    exact Moves.refl
  clear_value z0
  refine MovesN.ite (fun _ => ?_) (fun _ => ?_)
  · refine MovesN.next ?_
    refine Moves.call (sendBurst_moves _ _ _) (by decide) ?_
    refine Moves.call (lpMod_moves _ _ _) (by decide) ?_
    exact hz0
  · refine MovesN.next ?_
    exact Moves.refl

theorem retrain_moves (s : State) (p : Nat) : Moves 137364024 s (retrain s p) := by
  unfold retrain
  extract_lets +onlyGivenNames z0; clear_value z0
  extract_lets +onlyGivenNames z1
  have hz1 : Moves 137364024 s z1 := by
    unfold z1
    refine Moves.ite (fun _ => ?_) (fun _ => ?_)
    · refine Moves.call (regAdd_moves _ _ _) (by decide) ?_
      exact Moves.refl
    · exact Moves.refl
  clear_value z1
  extract_lets +onlyGivenNames z2
  have hz2 : Moves 137364024 s z2 := by
    unfold z2
    refine Moves.call (lpMod_moves _ _ _) (by decide) ?_
    refine Moves.call (portPurge_moves _ _) (by decide) ?_
    exact hz1
  clear_value z2
  extract_lets +onlyGivenNames z3
  have hz3 : Moves 137364024 s z3 := by
    unfold z3
    refine Moves.call (mkMod_moves _ _ _) (by decide) ?_
    exact hz2
  clear_value z3
  extract_lets +onlyGivenNames z4
  have hz4 : Moves 137364024 s z4 := by
    unfold z4
    refine Moves.call (setPhase_moves _ _ _) (by decide) ?_
    refine Moves.call (showStatus_moves _ _ _ _ _ _ _ _ _ _) (by decide) ?_
    refine Moves.call (regAdd_moves _ _ _) (by decide) ?_
    exact hz3
  clear_value z4
  extract_lets +onlyGivenNames z5
  have hz5 : Moves 137364024 s z5 := by
    unfold z5
    refine Moves.ite (fun _ => ?_) (fun _ => ?_)
    · exact hz4
    · refine Moves.call (regPut_moves _ _ _ _ _) (by decide) ?_
      exact hz4
  clear_value z5
  refine Moves.foldl (fun a6 _ => ?_) ?_
  · refine Moves.call (regSet_moves _ _ _) (by decide) ?_
    exact Moves.refl
  · exact hz5

theorem execCkLoss_moves (port : Nat) (s : State) : MovesN 137364024 s (execCkLoss port s) := by
  unfold execCkLoss
  refine MovesN.ite (fun _ => ?_) (fun _ => ?_)
  · refine MovesN.next ?_
    refine Moves.call (retrain_moves _ _) (by decide) ?_
    refine Moves.call (lpMod_moves _ _ _) (by decide) ?_
    exact Moves.refl
  · refine MovesN.next ?_
    exact Moves.refl

theorem execCkReceived_moves (port : Nat) (s : State) : MovesN 2097720 s (execCkReceived port s) := by
  unfold execCkReceived
  extract_lets +onlyGivenNames z0; clear_value z0
  refine MovesN.ite (fun _ => ?_) (fun _ => ?_)
  · refine MovesN.next ?_
    refine Moves.call (setPhase_moves _ _ _) (by decide) ?_
    refine Moves.call (lpMod_moves _ _ _) (by decide) ?_
    exact Moves.refl
  · refine MovesN.next ?_
    exact Moves.refl

theorem storeRecord_moves (s : State) (p : Nat) (bs : List Byte) : Moves 2097168 s (storeRecord s p bs) := by
  unfold storeRecord
  extract_lets +onlyGivenNames z0
  have hz0 : Moves 2097168 s z0 := by
    unfold z0
    refine Moves.foldl (fun a1 _ => ?_) ?_
    · refine Moves.call (regSet_moves _ _ _) (by decide) ?_
      exact Moves.refl
    · exact Moves.refl
  clear_value z0
  extract_lets +onlyGivenNames z2; clear_value z2
  extract_lets +onlyGivenNames z3; clear_value z3
  refine Moves.call (regPut_moves _ _ _ _ _) (by decide) ?_
  refine Moves.call (regSet_moves _ _ _) (by decide) ?_
  refine Moves.call (lpMod_moves _ _ _) (by decide) ?_
  exact hz0

theorem execIdentityFrameReceive_moves (port : Nat) (msg : Nat) (errs : List Nat) (s : State) : MovesN 141558584 s (execIdentityFrameReceive port msg errs s)
      := by
  unfold execIdentityFrameReceive
  refine MovesN.ite (fun _ => ?_) (fun _ => ?_)
  · refine MovesN.next ?_
    exact Moves.refl
  · split
    · refine MovesN.next ?_
      refine Moves.call (Moves.of_fst (by assumption) (frameTake_moves _ _ _ _)) (by decide) ?_
      exact Moves.refl
    · extract_lets +onlyGivenNames z0; clear_value z0
      extract_lets +onlyGivenNames z1
      have hz1 : Moves 141558584 s z1 := by
        unfold z1
        refine Moves.call (storeRecord_moves _ _ _) (by decide) ?_
        refine Moves.call (Moves.of_fst (by assumption) (frameTake_moves _ _ _ _)) (by decide) ?_
        exact Moves.refl
      clear_value z1
      extract_lets +onlyGivenNames z2; clear_value z2
      refine MovesN.ite (fun _ => ?_) (fun _ => ?_)
      · refine MovesN.next ?_
        refine Moves.call (Moves.of_fst (by assumption) (frameTake_moves _ _ _ _)) (by decide) ?_
        exact Moves.refl
      · refine MovesN.ite (fun _ => ?_) (fun _ => ?_)
        · refine MovesN.next ?_
          refine Moves.ite (fun _ => ?_) (fun _ => ?_)
          · refine Moves.call (exchanged_moves _ _) (by decide) ?_
            exact hz1
          · exact hz1
        · refine MovesN.next ?_
          refine Moves.call (recheck_moves _ _) (by decide) ?_
          exact hz1

theorem sendIdentity_moves (s : State) (p : Nat) : Moves 3145736 s (sendIdentity s p) := by
  unfold sendIdentity
  refine Moves.ite (fun _ => ?_) (fun _ => ?_)
  · refine Moves.call (lpMod_moves _ _ _) (by decide) ?_
    refine Moves.call (newFrame_moves _ _ _ _) (by decide) ?_
    exact Moves.refl
  · exact Moves.refl

theorem execIdentityResend_moves (port : Nat) (s : State) : MovesN 3145736 s (execIdentityResend port s) := by
  unfold execIdentityResend
  refine MovesN.ite (fun _ => ?_) (fun _ => ?_)
  · refine MovesN.next ?_
    refine Moves.call (sendIdentity_moves _ _) (by decide) ?_
    exact Moves.refl
  · refine MovesN.next ?_
    exact Moves.refl

theorem execLaneAlignmentDone_moves (port : Nat) (slips : List Nat) (marks : List Nat) (s : State) : MovesN 2097720 s (execLaneAlignmentDone port slips marks
      s) := by
  unfold execLaneAlignmentDone
  extract_lets +onlyGivenNames z0; clear_value z0
  extract_lets +onlyGivenNames z1; clear_value z1
  extract_lets +onlyGivenNames z2; clear_value z2
  extract_lets +onlyGivenNames z3
  have hz3 : Moves 2097720 s z3 := by
    unfold z3
    refine Moves.call (lpSet_moves _ _ _) (by decide) ?_
    exact Moves.refl
  clear_value z3
  refine MovesN.ite (fun _ => ?_) (fun _ => ?_)
  · refine MovesN.next ?_
    refine Moves.call (showLanes_moves _ _ _ _) (by decide) ?_
    refine Moves.call (setPhase_moves _ _ _) (by decide) ?_
    exact hz3
  · refine MovesN.next ?_
    exact Moves.refl

theorem execNeighbourTraining_moves (port : Nat) (s : State) : MovesN 137364024 s (execNeighbourTraining port s) := by
  unfold execNeighbourTraining
  refine MovesN.ite (fun _ => ?_) (fun _ => ?_)
  · refine MovesN.next ?_
    refine Moves.call (retrain_moves _ _) (by decide) ?_
    exact Moves.refl
  · refine MovesN.next ?_
    exact Moves.refl

theorem execPortActive_moves (port : Nat) (s : State) : MovesN 3146296 s (execPortActive port s) := by
  unfold execPortActive
  extract_lets +onlyGivenNames z0
  have hz0 : Moves 3146296 s z0 := by
    unfold z0
    refine Moves.call (setPhase_moves _ _ _) (by decide) ?_
    refine Moves.call (lpMod_moves _ _ _) (by decide) ?_
    refine Moves.call (restorePools_moves _ _) (by decide) ?_
    exact Moves.refl
  clear_value z0
  refine MovesN.ite (fun _ => ?_) (fun _ => ?_)
  · refine MovesN.next ?_
    refine Moves.call (sendMarker_moves _ _ _) (by decide) ?_
    exact hz0
  · refine MovesN.next ?_
    exact Moves.refl

theorem execPortRelease_moves (mgmt : Bool) (port : Nat) (s : State) : MovesN 141558584 s (execPortRelease mgmt port s) := by
  unfold execPortRelease
  refine MovesN.ite (fun _ => ?_) (fun _ => ?_)
  · refine MovesN.next ?_
    refine Moves.trans ?_ (writeBy_moves (by decide) (fun a0 => ?_))
    · exact Moves.refl
    · refine Moves.call (reconsider_moves _ _) (by decide) ?_
      exact Moves.refl
  · refine MovesN.next ?_
    exact Moves.refl

theorem portRetrain_moves (port : Nat) (s : State) : Moves 137364024 s (portRetrain port s) := by
  unfold portRetrain
  refine Moves.ite (fun _ => ?_) (fun _ => ?_)
  · refine Moves.call (retrain_moves _ _) (by decide) ?_
    exact Moves.refl
  · exact Moves.refl

theorem execPortRetrain_moves (mgmt : Bool) (port : Nat) (s : State) : MovesN 141558584 s (execPortRetrain mgmt port s) := by
  unfold execPortRetrain
  refine MovesN.next ?_
  refine Moves.trans ?_ (writeBy_moves (by decide) (fun a0 => ?_))
  · exact Moves.refl
  · refine Moves.call (portRetrain_moves _ _) (by decide) ?_
    exact Moves.refl

theorem execRetrainTrigger_moves (port : Nat) (s : State) : MovesN 137364024 s (execRetrainTrigger port s) := by
  unfold execRetrainTrigger
  extract_lets +onlyGivenNames z0; clear_value z0
  refine MovesN.ite (fun _ => ?_) (fun _ => ?_)
  · refine MovesN.next ?_
    refine Moves.call (retrain_moves _ _) (by decide) ?_
    exact Moves.refl
  · refine MovesN.next ?_
    exact Moves.refl

theorem execRungDecision_moves (port : Nat) (s : State) : MovesN 141558584 s (execRungDecision port s) := by
  unfold execRungDecision
  refine MovesN.ite (fun _ => ?_) (fun _ => ?_)
  · refine MovesN.next ?_
    refine Moves.call (decideRung_moves _ _) (by decide) ?_
    exact Moves.refl
  · refine MovesN.next ?_
    exact Moves.refl

theorem execRungMeasureDone_moves (port : Nat) (symbols : Nat) (wrong : List Nat) (s : State) : MovesN 141558584 s (execRungMeasureDone port symbols wrong s)
      := by
  unfold execRungMeasureDone
  extract_lets +onlyGivenNames z0; clear_value z0
  extract_lets +onlyGivenNames z1; clear_value z1
  extract_lets +onlyGivenNames z2; clear_value z2
  extract_lets +onlyGivenNames z3; clear_value z3
  extract_lets +onlyGivenNames z4
  have hz4 : Moves 141558584 s z4 := by
    unfold z4
    refine Moves.call (lpSet_moves _ _ _) (by decide) ?_
    exact Moves.refl
  clear_value z4
  extract_lets +onlyGivenNames z5
  have hz5 : Moves 141558584 s z5 := by
    unfold z5
    refine Moves.call (sendIdentity_moves _ _) (by decide) ?_
    refine Moves.call (showLanes_moves _ _ _ _) (by decide) ?_
    exact hz4
  clear_value z5
  refine MovesN.ite (fun _ => ?_) (fun _ => ?_)
  · refine MovesN.next ?_
    refine Moves.ite (fun _ => ?_) (fun _ => ?_)
    · refine Moves.call (exchanged_moves _ _) (by decide) ?_
      exact hz5
    · exact hz5
  · refine MovesN.next ?_
    exact Moves.refl

theorem execWakeBurstDetect_moves (port : Nat) (isMatch : Bool) (slips : List Nat) (marks : List Nat) (s : State) : MovesN 137364024 s (execWakeBurstDetect
      port isMatch slips marks s) := by
  unfold execWakeBurstDetect
  extract_lets +onlyGivenNames z0
  have hz0 : Moves 137364024 s z0 := by
    unfold z0
    refine Moves.call (wakePort_moves _ _) (by decide) ?_
    exact Moves.refl
  clear_value z0
  extract_lets +onlyGivenNames z1; clear_value z1
  extract_lets +onlyGivenNames z2; clear_value z2
  refine MovesN.ite (fun _ => ?_) (fun _ => ?_)
  · refine MovesN.ite (fun _ => ?_) (fun _ => ?_)
    · refine MovesN.next ?_
      exact hz0
    · refine MovesN.ite (fun _ => ?_) (fun _ => ?_)
      · refine MovesN.next ?_
        refine Moves.call (showLanes_moves _ _ _ _) (by decide) ?_
        refine Moves.call (lpMod_moves _ _ _) (by decide) ?_
        exact hz0
      · refine MovesN.next ?_
        refine Moves.call (retrain_moves _ _) (by decide) ?_
        exact hz0
  · refine MovesN.next ?_
    exact Moves.refl

end Sys2Proof.Laws
end

