-- ==== Sys2Proof/Laws/FrameBringup.lean ====
section
/-! SUPPORT. What each function of Machine/Bringup.lean may change, and that it keeps the canonical form: its frame law. -/

namespace Sys2Proof.Laws

set_option Elab.async false

open Sys2Proof Sys2Proof.Machine Sys2Proof.Safety

theorem fwMod_moves (s : State) (f : FwSt → FwSt) : Moves 4194304 s (fwMod s f) := by
  unfold fwMod
  refine Moves.record ?_
  exact Moves.refl

theorem updState_moves (s : State) (st : Nat) (reason : Nat) : Moves 568 s (updState s st reason) := by
  unfold updState
  extract_lets +onlyGivenNames z0
  have hz0 : Moves 568 s z0 := by
    unfold z0
    refine Moves.call (regPut_moves _ _ _ _ _) (by decide) ?_
    refine Moves.call (regPut_moves _ _ _ _ _) (by decide) ?_
    exact Moves.refl
  clear_value z0
  refine Moves.ite (fun _ => ?_) (fun _ => ?_)
  · exact hz0
  · refine Moves.call (eventAppend_moves _ _ _ _ _ _ _) (by decide) ?_
    exact hz0

theorem assayLine_moves (s : State) (l : Nat × Nat) : Moves 138412984 s (assayLine s l) := by
  unfold assayLine
  extract_lets +onlyGivenNames z0
  have hz0 : Moves 138412984 s z0 := by
    unfold z0
    refine Moves.call (lineReadCount_moves _ _) (by decide) ?_
    refine Moves.call (upsetLine_moves _ _ _) (by decide) ?_
    exact Moves.refl
  clear_value z0
  refine Moves.record ?_ (clines := fun h => mapRising_mapDel _ _ h)
  exact hz0

theorem bootFrom_moves (s : State) (i : Nat) : Moves 4194320 s (bootFrom s i) := by
  unfold bootFrom
  extract_lets +onlyGivenNames z0; clear_value z0
  refine Moves.call (regPut_moves _ _ _ _ _) (by decide) ?_
  refine Moves.call (regPut_moves _ _ _ _ _) (by decide) ?_
  refine Moves.call (fwMod_moves _ _) (by decide) ?_
  exact Moves.refl

theorem slotSet_moves (s : State) (i : Nat) (x : FwSlot) : Moves 4194304 s (slotSet s i x) := by
  unfold slotSet
  refine Moves.call (fwMod_moves _ _) (by decide) ?_
  exact Moves.refl

theorem slotState_moves (s : State) (i : Nat) (st : Nat) : Moves 4194304 s (slotState s i st) := by
  unfold slotState
  extract_lets +onlyGivenNames z0; clear_value z0
  refine Moves.call (slotSet_moves _ _ _) (by decide) ?_
  exact Moves.refl

theorem bootOther_moves (s : State) (decayed : Nat) (i : Nat) : Moves 138412856 s (bootOther s decayed i) := by
  unfold bootOther
  extract_lets +onlyGivenNames z0
  have hz0 : Moves 138412856 s z0 := by
    unfold z0
    refine Moves.call (slotState_moves _ _ _) (by decide) ?_
    exact Moves.refl
  clear_value z0
  extract_lets +onlyGivenNames z1; clear_value z1
  extract_lets +onlyGivenNames z2; clear_value z2
  refine Moves.ite (fun _ => ?_) (fun _ => ?_)
  · refine Moves.call (fwMod_moves _ _) (by decide) ?_
    exact hz0
  · refine Moves.ite (fun _ => ?_) (fun _ => ?_)
    · refine Moves.call (bootFrom_moves _ _) (by decide) ?_
      refine Moves.call (slotState_moves _ _ _) (by decide) ?_
      exact hz0
    · refine Moves.call (fwMod_moves _ _) (by decide) ?_
      refine Moves.call (logEvent_moves _ _ _ _ _ _) (by decide) ?_
      refine Moves.call (slotState_moves _ _ _) (by decide) ?_
      exact hz0

theorem bring_moves (s : State) (f : BringSt → BringSt) : Moves 16777216 s (bring s f) := by
  unfold bring
  refine Moves.record ?_
  exact Moves.refl

theorem flashMod_moves (s : State) (f : Flash → Flash) : Moves 33554432 s (flashMod s f) := by
  unfold flashMod
  refine Moves.record ?_
  exact Moves.refl

theorem latchSlot_moves (s : State) (slot : Nat) : Moves 67108880 s (latchSlot s slot) := by
  unfold latchSlot
  extract_lets +onlyGivenNames z0; clear_value z0
  refine Moves.call (regPut_moves _ _ _ _ _) (by decide) ?_
  refine Moves.record ?_
  exact Moves.refl

theorem execAuxPowerGood_moves (slot : Nat) (s : State) : MovesN 117440528 s (execAuxPowerGood slot s) := by
  unfold execAuxPowerGood
  extract_lets +onlyGivenNames z0; clear_value z0
  extract_lets +onlyGivenNames z1
  have hz1 : Moves 117440528 s z1 := by
    unfold z1
    refine Moves.call (latchSlot_moves _ _) (by decide) ?_
    refine Moves.record ?_
    exact Moves.refl
  clear_value z1
  refine MovesN.ite (fun _ => ?_) (fun _ => ?_)
  · refine MovesN.next ?_
    exact Moves.refl
  · refine MovesN.next ?_
    refine Moves.call (flashMod_moves _ _) (by decide) ?_
    refine Moves.call (bring_moves _ _) (by decide) ?_
    exact hz1

theorem portsDark_moves (s : State) : Moves 137364024 s (portsDark s) := by
  unfold portsDark
  refine Moves.foldl (fun a0 _ => ?_) ?_
  · refine Moves.ite (fun _ => ?_) (fun _ => ?_)
    · refine Moves.call (retrain_moves _ _) (by decide) ?_
      refine Moves.call (lpMod_moves _ _ _) (by decide) ?_
      exact Moves.refl
    · exact Moves.refl
  · exact Moves.refl

theorem romBoot_moves (s : State) (decayed : Nat) (cold : Bool) : Moves 138412856 s (romBoot s decayed cold) := by
  unfold romBoot
  split
  · refine Moves.call (fwMod_moves _ _) (by decide) ?_
    exact Moves.refl
  · extract_lets +onlyGivenNames z0; clear_value z0
    extract_lets +onlyGivenNames z1
    have hz1 : Moves 138412856 s z1 := by
      unfold z1
      refine Moves.call (bootFrom_moves _ _) (by decide) ?_
      refine Moves.call (slotSet_moves _ _ _) (by decide) ?_
      exact Moves.refl
    clear_value z1
    refine Moves.ite (fun _ => ?_) (fun _ => ?_)
    · refine Moves.call (updState_moves _ _ _) (by decide) ?_
      refine Moves.call (logEvent_moves _ _ _ _ _ _) (by decide) ?_
      refine Moves.call (bootOther_moves _ _ _) (by decide) ?_
      exact Moves.refl
    · refine Moves.ite (fun _ => ?_) (fun _ => ?_)
      · refine Moves.ite (fun _ => ?_) (fun _ => ?_)
        · refine Moves.call (updState_moves _ _ _) (by decide) ?_
          refine Moves.call (fwMod_moves _ _) (by decide) ?_
          exact hz1
        · refine Moves.call (bootFrom_moves _ _) (by decide) ?_
          exact Moves.refl
      · refine Moves.call (bootOther_moves _ _ _) (by decide) ?_
        refine Moves.call (logEvent_moves _ _ _ _ _ _) (by decide) ?_
        exact Moves.refl

theorem setBoot_moves (s : State) (phase : Nat) : Moves 16 s (setBoot s phase) := by
  unfold setBoot
  refine Moves.call (regPut_moves _ _ _ _ _) (by decide) ?_
  refine Moves.call (regPut_moves _ _ _ _ _) (by decide) ?_
  exact Moves.refl

theorem settingsChoose_moves (s : State) (lost : Nat) : Moves 138412856 s (settingsChoose s lost) := by
  unfold settingsChoose
  extract_lets +onlyGivenNames z0; clear_value z0
  extract_lets +onlyGivenNames z1
  have hz1 : ∀ x0 x1, Moves 138412856 x0 (z1 x0 x1) := by
    intro x0 x1
    unfold z1
    refine Moves.call (fwMod_moves _ _) (by decide) ?_
    exact Moves.refl
  clear_value z1
  extract_lets +onlyGivenNames z2
  have hz2 : Moves 138412856 s z2 := by
    unfold z2
    refine Moves.trans ?_ (hz1 _ _)
    refine Moves.call (logEvent_moves _ _ _ _ _ _) (by decide) ?_
    exact Moves.refl
  clear_value z2
  split
  · exact hz2
  · extract_lets +onlyGivenNames z3; clear_value z3
    refine Moves.ite (fun _ => ?_) (fun _ => ?_)
    · exact hz1 _ _
    · refine Moves.ite (fun _ => ?_) (fun _ => ?_)
      · refine Moves.ite (fun _ => ?_) (fun _ => ?_)
        · exact hz1 _ _
        · refine Moves.trans ?_ (hz1 _ _)
          refine Moves.call (fwMod_moves _ _) (by decide) ?_
          exact Moves.refl
      · split
        · exact hz1 _ _
        · exact hz2

theorem execInputPowerGood_moves (s : State) : MovesN 83886080 s (execInputPowerGood s) := by
  unfold execInputPowerGood
  extract_lets +onlyGivenNames z0; clear_value z0
  extract_lets +onlyGivenNames z1
  have hz1 : Moves 83886080 s z1 := by
    unfold z1
    refine Moves.record ?_
    exact Moves.refl
  clear_value z1
  refine MovesN.ite (fun _ => ?_) (fun _ => ?_)
  · refine MovesN.next ?_
    refine Moves.call (bring_moves _ _) (by decide) ?_
    exact hz1
  · refine MovesN.next ?_
    exact hz1

theorem powerFloor_moves (s : State) : Moves 8388608 s (powerFloor s) := by
  unfold powerFloor
  extract_lets +onlyGivenNames z0
  have hz0 : Moves 8388608 s z0 := by
    unfold z0
    refine Moves.foldl (fun a1 _ => ?_) ?_
    · refine Moves.call (dieMod_moves _ _ _) (by decide) ?_
      exact Moves.refl
    · exact Moves.refl
  clear_value z0
  refine Moves.call (floorAllow_moves _) (by decide) ?_
  refine Moves.foldl (fun a2 _ => ?_) ?_
  · refine Moves.call (stackMod_moves _ _ _) (by decide) ?_
    exact Moves.refl
  · exact hz0

theorem execRailBringup_moves (s : State) : MovesN 8389176 s (execRailBringup s) := by
  unfold execRailBringup
  extract_lets +onlyGivenNames z0
  have hz0 : Moves 8389176 s z0 := by
    unfold z0
    refine Moves.call (powerFloor_moves _) (by decide) ?_
    exact Moves.refl
  clear_value z0
  refine MovesN.ite (fun _ => ?_) (fun _ => ?_)
  · refine MovesN.next ?_
    exact Moves.refl
  · refine MovesN.next ?_
    refine Moves.call (setBoot_moves _ _) (by decide) ?_
    refine Moves.ite (fun _ => ?_) (fun _ => ?_)
    · refine Moves.call (forceFloor_moves _) (by decide) ?_
      exact hz0
    · exact hz0

theorem setCorrections_moves (s : State) (mode : Nat) : Moves 16 s (setCorrections s mode) := by
  unfold setCorrections
  extract_lets +onlyGivenNames z0
  have hz0 : Moves 16 s z0 := by
    unfold z0
    refine Moves.foldl (fun a1 _ => ?_) ?_
    · refine Moves.call (regPut_moves _ _ _ _ _) (by decide) ?_
      exact Moves.refl
    · exact Moves.refl
  clear_value z0
  refine Moves.foldl (fun a2 _ => ?_) ?_
  · refine Moves.call (regPut_moves _ _ _ _ _) (by decide) ?_
    exact Moves.refl
  · exact hz0

theorem twinReturns_moves (s : State) : Moves 16 s (twinReturns s) := by
  unfold twinReturns
  refine Moves.ite (fun _ => ?_) (fun _ => ?_)
  · refine Moves.call (regPut_moves _ _ _ _ _) (by decide) ?_
    exact Moves.refl
  · exact Moves.refl

theorem execReadinessDecision_moves (s : State) : MovesN 568 s (execReadinessDecision s) := by
  unfold execReadinessDecision
  extract_lets +onlyGivenNames z0; clear_value z0
  extract_lets +onlyGivenNames z1
  have hz1 : Moves 568 s z1 := by
    unfold z1
    refine Moves.call (regSet_moves _ _ _) (by decide) ?_
    exact Moves.refl
  clear_value z1
  refine MovesN.ite (fun _ => ?_) (fun _ => ?_)
  · refine MovesN.next ?_
    exact Moves.refl
  · refine MovesN.ite (fun _ => ?_) (fun _ => ?_)
    · refine MovesN.next ?_
      refine Moves.call (eventAppend_moves _ _ _ _ _ _ _) (by decide) ?_
      refine Moves.call (twinReturns_moves _) (by decide) ?_
      refine Moves.call (setCorrections_moves _ _) (by decide) ?_
      refine Moves.call (setBoot_moves _ _) (by decide) ?_
      exact hz1
    · refine MovesN.next ?_
      refine Moves.call (setBoot_moves _ _) (by decide) ?_
      exact hz1

theorem mendLoad_moves (s : State) (lost : Nat) : Moves 155190072 s (mendLoad s lost) := by
  unfold mendLoad
  split
  · refine Moves.call (bring_moves _ _) (by decide) ?_
    exact Moves.refl
  · refine Moves.call (logEvent_moves _ _ _ _ _ _) (by decide) ?_
    refine Moves.call (bring_moves _ _) (by decide) ?_
    exact Moves.refl

theorem settingsApply_moves (s : State) : Moves 8388624 s (settingsApply s) := by
  unfold settingsApply
  split
  · exact Moves.refl
  · extract_lets +onlyGivenNames z0
    have hz0 : Moves 8388624 s z0 := by
      unfold z0
      unfold pwr
      refine Moves.record ?_
      exact Moves.refl
    clear_value z0
    refine Moves.foldl (fun a1 _ => ?_) ?_
    · refine Moves.call (regSet_moves _ _ _) (by decide) ?_
      exact Moves.refl
    · exact hz0

theorem showMend_moves (s : State) : Moves 16 s (showMend s) := by
  unfold showMend
  extract_lets +onlyGivenNames z0; clear_value z0
  refine Moves.call (regSet_moves _ _ _) (by decide) ?_
  exact Moves.refl

theorem showStacks_moves (s : State) (mask : Nat) : Moves 16 s (showStacks s mask) := by
  unfold showStacks
  extract_lets +onlyGivenNames z0; clear_value z0
  refine Moves.foldl (fun a1 _ => ?_) ?_
  · extract_lets +onlyGivenNames z2
    have hz2 : Moves 16 a1 z2 := by
      unfold z2
      refine Moves.call (regPut_moves _ _ _ _ _) (by decide) ?_
      refine Moves.call (regPut_moves _ _ _ _ _) (by decide) ?_
      exact Moves.refl
    clear_value z2
    refine Moves.call (regPut_moves _ _ _ _ _) (by decide) ?_
    exact hz2
  · exact Moves.refl

theorem warrantPending_moves (s : State) : Moves 16 s (warrantPending s) := by
  unfold warrantPending
  extract_lets +onlyGivenNames z0; clear_value z0
  refine Moves.call (regPut_moves _ _ _ _ _) (by decide) ?_
  refine Moves.call (regPut_moves _ _ _ _ _) (by decide) ?_
  exact Moves.refl

theorem warrantsEffect_moves (s : State) : Moves 16 s (warrantsEffect s) := by
  unfold warrantsEffect
  extract_lets +onlyGivenNames z0; clear_value z0
  extract_lets +onlyGivenNames z1; clear_value z1
  extract_lets +onlyGivenNames z2; clear_value z2
  extract_lets +onlyGivenNames z3; clear_value z3
  extract_lets +onlyGivenNames z4; clear_value z4
  extract_lets +onlyGivenNames z5
  have hz5 : Moves 16 s z5 := by
    unfold z5
    refine Moves.call (warrantPending_moves _) (by decide) ?_
    refine Moves.call (regSet_moves _ _ _) (by decide) ?_
    exact Moves.refl
  clear_value z5
  refine Moves.call (showStacks_moves _ _) (by decide) ?_
  exact hz5

theorem execRecordVerify_moves (puf : List (List Byte)) (lost : Nat) (s : State) : MovesN 163578680 s (execRecordVerify puf lost s) := by
  unfold execRecordVerify
  extract_lets +onlyGivenNames z0
  have hz0 : Moves 163578680 s z0 := by
    unfold z0
    refine Moves.foldl (fun a1 _ => ?_) ?_
    · refine Moves.ite (fun _ => ?_) (fun _ => ?_)
      · refine Moves.call (slotState_moves _ _ _) (by decide) ?_
        exact Moves.refl
      · exact Moves.refl
    · exact Moves.refl
  clear_value z0
  extract_lets +onlyGivenNames z2
  have hz2 : Moves 163578680 s z2 := by
    unfold z2
    refine Moves.call (settingsApply_moves _) (by decide) ?_
    refine Moves.call (settingsChoose_moves _ _) (by decide) ?_
    exact hz0
  clear_value z2
  extract_lets +onlyGivenNames z3
  have hz3 : Moves 163578680 s z3 := by
    unfold z3
    split
    · refine Moves.call (logEvent_moves _ _ _ _ _ _) (by decide) ?_
      refine Moves.call (bring_moves _ _) (by decide) ?_
      exact hz2
    · refine Moves.call (bring_moves _ _) (by decide) ?_
      exact hz2
  clear_value z3
  extract_lets +onlyGivenNames z4
  have hz4 : Moves 163578680 s z4 := by
    unfold z4
    refine Moves.call (warrantsEffect_moves _) (by decide) ?_
    refine Moves.call (mendLoad_moves _ _) (by decide) ?_
    exact hz3
  clear_value z4
  refine MovesN.ite (fun _ => ?_) (fun _ => ?_)
  · refine MovesN.next ?_
    exact Moves.refl
  · refine MovesN.next ?_
    refine Moves.call (setBoot_moves _ _) (by decide) ?_
    refine Moves.call (regPut_moves _ _ _ _ _) (by decide) ?_
    refine Moves.call (showMend_moves _) (by decide) ?_
    exact hz4

theorem memClear_moves (s : State) : Moves 224 s (memClear s) := by
  unfold memClear
  refine Moves.record ?_ (cmem := fun _ => rfl) (clines := fun _ => rfl)
  exact Moves.refl

theorem unpin_moves (s : State) : Moves 4194304 s (unpin s) := by
  unfold unpin
  split
  · refine Moves.ite (fun _ => ?_) (fun _ => ?_)
    · exact Moves.refl
    · refine Moves.call (slotState_moves _ _ _) (by decide) ?_
      exact Moves.refl
  · exact Moves.refl

theorem takeForce_moves (s : State) (cold : Bool) : Moves 4194304 s (takeForce s cold) := by
  unfold takeForce
  split
  · refine Moves.call (unpin_moves _) (by decide) ?_
    refine Moves.call (fwMod_moves _ _) (by decide) ?_
    exact Moves.refl
  · exact Moves.refl

theorem execRomBoot_moves (decayed : Nat) (s : State) : MovesN 141558584 s (execRomBoot decayed s) := by
  unfold execRomBoot
  extract_lets +onlyGivenNames z0
  have hz0 : Moves 141558584 s z0 := by
    unfold z0
    refine Moves.call (romBoot_moves _ _ _) (by decide) ?_
    exact Moves.refl
  clear_value z0
  refine MovesN.ite (fun _ => ?_) (fun _ => ?_)
  · refine MovesN.next ?_
    exact Moves.refl
  · refine MovesN.ite (fun _ => ?_) (fun _ => ?_)
    · refine MovesN.next ?_
      refine Moves.call (portsDark_moves _) (by decide) ?_
      refine Moves.call (setBoot_moves _ _) (by decide) ?_
      exact hz0
    · refine MovesN.next ?_
      refine Moves.call (setBoot_moves _ _) (by decide) ?_
      refine Moves.call (takeForce_moves _ _) (by decide) ?_
      exact hz0

theorem warrantPower_moves (s : State) : Moves 8388608 s (warrantPower s) := by
  unfold warrantPower
  refine Moves.call (setWarrantW_moves _ _) (by decide) ?_
  exact Moves.refl

theorem execServiceable_moves (s : State) : MovesN 162529848 s (execServiceable s) := by
  unfold execServiceable
  extract_lets +onlyGivenNames z0
  have hz0 : Moves 162529848 s z0 := by
    unfold z0
    refine Moves.call (showStacks_moves _ _) (by decide) ?_
    refine Moves.call (setBoot_moves _ _) (by decide) ?_
    refine Moves.call (setCorrections_moves _ _) (by decide) ?_
    exact Moves.refl
  clear_value z0
  extract_lets +onlyGivenNames z1
  have hz1 : Moves 162529848 s z1 := by
    unfold z1
    refine Moves.call (setPatternW_moves _ _) (by decide) ?_
    refine Moves.call (warrantPower_moves _) (by decide) ?_
    exact hz0
  clear_value z1
  refine MovesN.ite (fun _ => ?_) (fun _ => ?_)
  · refine MovesN.next ?_
    exact Moves.refl
  · refine MovesN.ite (fun _ => ?_) (fun _ => ?_)
    · refine MovesN.next ?_
      refine Moves.call (portsDark_moves _) (by decide) ?_
      refine Moves.call (setBoot_moves _ _) (by decide) ?_
      exact Moves.refl
    · refine MovesN.next ?_
      refine Moves.ite (fun _ => ?_) (fun _ => ?_)
      · refine Moves.call (bring_moves _ _) (by decide) ?_
        exact hz1
      · exact hz1

theorem execStackAssay_moves (lines : List (Nat × Nat)) (base : Nat) (s : State) : MovesN 155190264 s (execStackAssay lines base s) := by
  unfold execStackAssay
  extract_lets +onlyGivenNames z0
  have hz0 : Moves 155190264 s z0 := by
    unfold z0
    refine Moves.foldl (fun a1 _ => ?_) ?_
    · refine Moves.call (stackLogClear_moves _ _) (by decide) ?_
      refine Moves.call (regPut_moves _ _ _ _ _) (by decide) ?_
      exact Moves.refl
    · exact Moves.refl
  clear_value z0
  extract_lets +onlyGivenNames z2
  have hz2 : Moves 155190264 s z2 := by
    unfold z2
    refine Moves.call (memClear_moves _) (by decide) ?_
    refine Moves.foldl (fun a3 _ => ?_) ?_
    · refine Moves.call (assayLine_moves _ _) (by decide) ?_
      exact Moves.refl
    · exact hz0
  clear_value z2
  extract_lets +onlyGivenNames z4; clear_value z4
  extract_lets +onlyGivenNames z5; clear_value z5
  extract_lets +onlyGivenNames z6; clear_value z6
  refine MovesN.ite (fun _ => ?_) (fun _ => ?_)
  · refine MovesN.next ?_
    exact Moves.refl
  · refine MovesN.next ?_
    refine Moves.call (bring_moves _ _) (by decide) ?_
    exact hz2

theorem execStackTraining_moves (failed : Nat) (s : State) : MovesN 16777232 s (execStackTraining failed s) := by
  unfold execStackTraining
  extract_lets +onlyGivenNames z0
  have hz0 : Moves 16777232 s z0 := by
    unfold z0
    refine Moves.foldl (fun a1 _ => ?_) ?_
    · refine Moves.call (regPut_moves _ _ _ _ _) (by decide) ?_
      exact Moves.refl
    · exact Moves.refl
  clear_value z0
  refine MovesN.ite (fun _ => ?_) (fun _ => ?_)
  · refine MovesN.next ?_
    exact Moves.refl
  · refine MovesN.next ?_
    refine Moves.call (setBoot_moves _ _) (by decide) ?_
    refine Moves.call (bring_moves _ _) (by decide) ?_
    exact hz0

theorem mendWrite_moves (s : State) (es : List MendEntry) : Moves 50331648 s (mendWrite s es) := by
  unfold mendWrite
  extract_lets +onlyGivenNames z0; clear_value z0
  extract_lets +onlyGivenNames z1; clear_value z1
  refine Moves.call (flashMod_moves _ _) (by decide) ?_
  refine Moves.call (bring_moves _ _) (by decide) ?_
  exact Moves.refl

theorem execTileAssay_moves (cores : List (Nat × Nat × Nat × Nat)) (dies : Nat) (unsound : Bool) (s : State) : MovesN 50331664 s (execTileAssay cores dies
      unsound s) := by
  unfold execTileAssay
  extract_lets +onlyGivenNames z0
  have hz0 : Moves 50331664 s z0 := by
    unfold z0
    refine Moves.foldl (fun a1 _ => ?_) ?_
    · refine Moves.call (dieLogClear_moves _ _) (by decide) ?_
      refine Moves.call (regPut_moves _ _ _ _ _) (by decide) ?_
      exact Moves.refl
    · exact Moves.refl
  clear_value z0
  extract_lets +onlyGivenNames z2; clear_value z2
  extract_lets +onlyGivenNames z3
  have hz3 : Moves 50331664 s z3 := by
    unfold z3
    refine Moves.ite (fun _ => ?_) (fun _ => ?_)
    · exact hz0
    · refine Moves.call (mendWrite_moves _ _) (by decide) ?_
      exact hz0
  clear_value z3
  extract_lets +onlyGivenNames z4
  have hz4 : Moves 50331664 s z4 := by
    unfold z4
    refine Moves.call (flashMod_moves _ _) (by decide) ?_
    exact hz3
  clear_value z4
  refine MovesN.ite (fun _ => ?_) (fun _ => ?_)
  · refine MovesN.next ?_
    exact Moves.refl
  · refine MovesN.next ?_
    refine Moves.call (showMend_moves _) (by decide) ?_
    refine Moves.call (bring_moves _ _) (by decide) ?_
    exact hz4

end Sys2Proof.Laws
end

