-- ==== Sys2Proof/Laws/FrameConvert.lean ====
section
/-! SUPPORT. What each function of Machine/Convert.lean may change, and that it keeps the canonical form: its frame law. -/

namespace Sys2Proof.Laws

set_option Elab.async false

open Sys2Proof Sys2Proof.Machine Sys2Proof.Safety

theorem execVacr_moves (g : Nat) (slot : Slot) (f : VecFields) (s : State) : MovesN 156169208 s (execVacr g slot f s) := by
  unfold execVacr
  extract_lets +onlyGivenNames z0; clear_value z0
  extract_lets +onlyGivenNames z1; clear_value z1
  extract_lets +onlyGivenNames z2; clear_value z2
  extract_lets +onlyGivenNames z3; clear_value z3
  refine slotExec_moves (by decide) (fun a4 => ?_)
  refine Moves.call (slotRun_moves _ _ _ _ _ _ _) (by decide) ?_
  exact Moves.refl

theorem execVcvt_moves (g : Nat) (slot : Slot) (f : VecFields) (s : State) : MovesN 156169208 s (execVcvt g slot f s) := by
  unfold execVcvt
  extract_lets +onlyGivenNames z0; clear_value z0
  extract_lets +onlyGivenNames z1; clear_value z1
  extract_lets +onlyGivenNames z2; clear_value z2
  extract_lets +onlyGivenNames z3; clear_value z3
  extract_lets +onlyGivenNames z4; clear_value z4
  extract_lets +onlyGivenNames z5; clear_value z5
  extract_lets +onlyGivenNames z6; clear_value z6
  refine slotExec_moves (by decide) (fun a7 => ?_)
  refine Moves.call (slotRun_moves _ _ _ _ _ _ _) (by decide) ?_
  exact Moves.refl

theorem execVqbs_moves (g : Nat) (slot : Slot) (f : VecFields) (s : State) : MovesN 156169208 s (execVqbs g slot f s) := by
  unfold execVqbs
  extract_lets +onlyGivenNames z0; clear_value z0
  extract_lets +onlyGivenNames z1; clear_value z1
  extract_lets +onlyGivenNames z2; clear_value z2
  refine slotExec_moves (by decide) (fun a3 => ?_)
  refine Moves.call (slotRun_moves _ _ _ _ _ _ _) (by decide) ?_
  exact Moves.refl

end Sys2Proof.Laws
end

