-- ==== Sys2Proof/Laws/FrameDm.lean ====
section
/-! SUPPORT. What each function of Machine/Dm.lean may change, and that it keeps the canonical form: its frame law. -/

namespace Sys2Proof.Laws

set_option Elab.async false

open Sys2Proof Sys2Proof.Machine Sys2Proof.Safety

theorem descEffects_moves (s0 : State) (g : Nat) (f : DmFields) (s : State) : Moves 155194168 s (descEffects s0 g f s) := by
  unfold descEffects
  refine Moves.foldl (fun a0 _ => ?_) ?_
  · extract_lets +onlyGivenNames z1; clear_value z1
    extract_lets +onlyGivenNames z2; clear_value z2
    refine Moves.ite (fun _ => ?_) (fun _ => ?_)
    · refine Moves.call (padReadEffects_moves _ _ _ _) (by decide) ?_
      exact Moves.refl
    · exact Moves.refl
  · exact Moves.refl

theorem descExec_moves (op : Nat) (ok : Bool) (g : Nat) (f : DmFields) (out : State → Nat → Nat → Tile → SlotOut) (s : State) : MovesN 156169208 s (descExec
      op ok g f out s) := by
  unfold descExec
  refine slotExec_moves (by decide) (fun a0 => ?_)
  extract_lets +onlyGivenNames z1; clear_value z1
  refine Moves.call (commitIfDone_moves _ _) (by decide) ?_
  refine Moves.ite_fun (fun _ => ?_) (fun _ => ?_)
  · refine Moves.call (descEffects_moves _ _ _ _) (by decide) ?_
    refine Moves.call (slotPut_moves _ _ _ _) (by decide) ?_
    exact Moves.refl
  · unfold id
    refine Moves.call (slotPut_moves _ _ _ _) (by decide) ?_
    exact Moves.refl

theorem dmExec_moves (op : Nat) (ok : Bool) (g : Nat) (f : DmFields) (out : State → Nat → Nat → Tile → SlotOut) (s : State) : MovesN 156169208 s (dmExec op ok
      g f out s) := by
  unfold dmExec
  refine slotExec_moves (by decide) (fun a0 => ?_)
  refine Moves.call (slotRun_moves _ _ _ _ _ _ _) (by decide) ?_
  exact Moves.refl

theorem execColl_moves (g : Nat) (f : DmFields) (s : State) : MovesN 156169208 s (execColl g f s) := by
  unfold execColl
  exact MovesN.mono (descExec_moves _ _ _ _ _ _) (by decide)

theorem execDock_moves (g : Nat) (f : DmFields) (s : State) : MovesN 156169208 s (execDock g f s) := by
  unfold execDock
  exact MovesN.mono (descExec_moves _ _ _ _ _ _) (by decide)

theorem execFill_moves (g : Nat) (f : DmFields) (s : State) : MovesN 156169208 s (execFill g f s) := by
  unfold execFill
  refine slotExec_moves (by decide) (fun a0 => ?_)
  refine Moves.call (commitIfDone_moves _ _) (by decide) ?_
  refine Moves.call (slotPut_moves _ _ _ _) (by decide) ?_
  exact Moves.refl

theorem execGld_moves (g : Nat) (f : DmFields) (s : State) : MovesN 156169208 s (execGld g f s) := by
  unfold execGld
  exact MovesN.mono (dmExec_moves _ _ _ _ _ _) (by decide)

theorem execGst_moves (g : Nat) (f : DmFields) (s : State) : MovesN 156169208 s (execGst g f s) := by
  unfold execGst
  exact MovesN.mono (dmExec_moves _ _ _ _ _ _) (by decide)

theorem execRecv_moves (g : Nat) (f : DmFields) (s : State) : MovesN 156169208 s (execRecv g f s) := by
  unfold execRecv
  refine slotExec_moves (by decide) (fun a0 => ?_)
  extract_lets +onlyGivenNames z1; clear_value z1
  extract_lets +onlyGivenNames z2; clear_value z2
  refine Moves.call (commitIfDone_moves _ _) (by decide) ?_
  refine Moves.call (slotPut_moves _ _ _ _) (by decide) ?_
  exact Moves.refl

theorem execSend_moves (g : Nat) (f : DmFields) (s : State) : MovesN 156169208 s (execSend g f s) := by
  unfold execSend
  exact MovesN.mono (dmExec_moves _ _ _ _ _ _) (by decide)

end Sys2Proof.Laws
end

