-- ==== Sys2Proof/Laws/FrameDocketCore.lean ====
section
/-! SUPPORT. What each function of Machine/DocketCore.lean may change, and that it keeps the canonical form: its frame law. -/

namespace Sys2Proof.Laws

set_option Elab.async false

open Sys2Proof Sys2Proof.Machine Sys2Proof.Safety

theorem pieceWrite_moves (s : State) (tile : Nat) (pad : Bool) (off : Nat) (bs : List Byte) (mark : Nat → Bool) : Moves 138433528 s (pieceWrite s tile pad off
      bs mark).1 := by
  unfold pieceWrite
  extract_lets +onlyGivenNames z0; clear_value z0
  refine Moves.ite_of Prod.fst (fun _ => ?_) (fun _ => ?_)
  · dsimp only
    refine Moves.call (tileMod_moves _ _ _) (by decide) ?_
    exact Moves.refl
  · refine Moves.foldl_of Prod.fst (fun a1 _ => ?_) ?_
    · extract_lets +onlyGivenNames z2; clear_value z2
      extract_lets +onlyGivenNames z3; clear_value z3
      extract_lets +onlyGivenNames z4; clear_value z4
      refine Moves.ite_of Prod.fst (fun _ => ?_) (fun _ => ?_)
      · exact Moves.refl
      · dsimp only
        refine Moves.call (memStore_moves _ _ _ _) (by decide) ?_
        exact Moves.refl
    · exact Moves.refl

theorem pieceEffects_moves (s : State) (tile : Nat) (pad : Bool) (off : Nat) (n : Nat) : Moves 155210552 s (pieceEffects s tile pad off n) := by
  unfold pieceEffects
  refine Moves.ite (fun _ => ?_) (fun _ => ?_)
  · refine Moves.call (padReadEffects_moves _ _ _ _) (by decide) ?_
    exact Moves.refl
  · refine Moves.call (linesReadEffects_moves _ _) (by decide) ?_
    exact Moves.refl

end Sys2Proof.Laws
end

