-- ==== Sys2Proof/Laws/FrameDocket.lean ====
section
/-! SUPPORT. What each function of Machine/Docket.lean may change, and that it keeps the canonical form: its frame law. -/

namespace Sys2Proof.Laws

set_option Elab.async false

open Sys2Proof Sys2Proof.Machine Sys2Proof.Safety

theorem dkWrite_moves (s : State) (d : Docket) (pad : Bool) (off : Nat) (bs : List Byte) (mark : Nat → Bool) : Moves 138433528 s (dkWrite s d pad off bs
      mark).1 := by
  unfold dkWrite
  extract_lets +onlyGivenNames z0
  have hz0 : Moves 138433528 s z0.1 := by
    unfold z0
    refine Moves.call (pieceWrite_moves _ _ _ _ _ _) (by decide) ?_
    exact Moves.refl
  clear_value z0
  extract_lets +onlyGivenNames z1; clear_value z1
  extract_lets +onlyGivenNames z2
  have hz2 : Moves 138433528 s z2 := by
    unfold z2
    refine Moves.ite (fun _ => ?_) (fun _ => ?_)
    · exact hz0
    · refine Moves.foldl (fun a3 _ => ?_) ?_
      · refine Moves.call (twinLines_moves _ _ _ _ _ _) (by decide) ?_
        exact Moves.refl
      · exact hz0
  clear_value z2
  exact hz2

theorem addRow_moves (d : Docket) (f : Fmt) (a : Oper) (o : Oper) (s : State) (ra : Nat) (ro : Nat) : Moves 155210744 s (addRow d f a o s ra ro).state := by
  unfold addRow
  extract_lets +onlyGivenNames z0; clear_value z0
  extract_lets +onlyGivenNames z1; clear_value z1
  extract_lets +onlyGivenNames z2
  have hz2 : Moves 155210744 s z2 := by
    unfold z2
    refine Moves.call (pieceEffects_moves _ _ _ _ _) (by decide) ?_
    refine Moves.call (pieceEffects_moves _ _ _ _ _) (by decide) ?_
    exact Moves.refl
  clear_value z2
  split
  · exact hz2
  · extract_lets +onlyGivenNames z3; clear_value z3
    extract_lets +onlyGivenNames z4
    have hz4 : Moves 155210744 s z4.1 := by
      unfold z4
      refine Moves.call (dkWrite_moves _ _ _ _ _ _) (by decide) ?_
      exact hz2
    clear_value z4
    extract_lets +onlyGivenNames z5
    have hz5 : Moves 155210744 s z5 := by
      unfold z5
      refine Moves.ite (fun _ => ?_) (fun _ => ?_)
      · refine Moves.call (logResidue_moves _ _ _ _ _ _) (by decide) ?_
        exact hz4
      · exact hz4
    clear_value z5
    exact hz5

theorem dkPost_moves (s : State) (d : Docket) (code : Nat) : Moves 4096 s (dkPost s d code) := by
  unfold dkPost
  refine Moves.ite (fun _ => ?_) (fun _ => ?_)
  · split
    · refine Moves.call (postTicket_moves _ _ _ _) (by decide) ?_
      exact Moves.refl
    · exact Moves.refl
  · exact Moves.refl

theorem engFail_moves (s : State) (e : Nat) (d : Docket) (code : Nat) (where_ : Nat) : Moves 16 s (engFail s e d code where_) := by
  unfold engFail
  refine Moves.ite (fun _ => ?_) (fun _ => ?_)
  · refine Moves.call (regSet_moves _ _ _) (by decide) ?_
    exact Moves.refl
  · exact Moves.refl

theorem engHalt_moves (s : State) (e : Nat) (ctx : Nat) : Moves 36880 s (engHalt s e ctx) := by
  unfold engHalt
  extract_lets +onlyGivenNames z0; clear_value z0
  extract_lets +onlyGivenNames z1; clear_value z1
  refine Moves.foldl (fun a2 _ => ?_) ?_
  · refine Moves.call (engFail_moves _ _ _ _ _) (by decide) ?_
    refine Moves.call (dkPost_moves _ _ _) (by decide) ?_
    exact Moves.refl
  · refine Moves.call (engSet_moves _ _ _) (by decide) ?_
    exact Moves.refl

theorem dkRun_moves {w : Nat} {type : Nat} {run : State → Docket → DkOut} {eng : Nat} {s : State} (hw : 36880 ||| w = w)
    (hf : ∀ a d, Moves w a (run a d).state) : MovesN w s (dkRun type run eng s) := by
  unfold dkRun
  have h1 : ∀ a k n, Moves w a (regAdd a k n) := fun a k n => ((regAdd_moves ..).mono (v := 36880) (by decide)).mono hw
  have h2 : ∀ a e f, Moves w a (engMod a e f) := fun a e f => ((engMod_moves ..).mono (v := 36880) (by decide)).mono hw
  have h3 : ∀ a e d c p, Moves w a (engFail a e d c p) := fun a e d c p => ((engFail_moves ..).mono (v := 36880) (by decide)).mono hw
  have h4 : ∀ a e c, Moves w a (engHalt a e c) := fun a e c => ((engHalt_moves ..).mono (v := 36880) (by decide)).mono hw
  dsimp only
  split
  · refine MovesN.ite (fun _ => MovesN.next Moves.refl) (fun _ => MovesN.next ?_)
    refine Moves.ite (fun _ => Moves.trans (Moves.ite (fun _ => Moves.trans (Moves.trans ?_ (h2 ..)) (h3 ..)) (fun _ => Moves.trans ?_ (h2 ..)))
      (h4 ..)) (fun _ => Moves.ite (fun _ => Moves.trans (Moves.trans ?_ (h2 ..)) (h3 ..)) (fun _ => Moves.trans ?_ (h2 ..))) <;>
      exact ((hf ..).trans (h1 ..)).trans (h1 ..)
  · exact MovesN.next Moves.refl

theorem operRowsEffects_moves (tile : Nat) (o : Oper) (r : Nat) (n : Nat) (s : State) : Moves 155210552 s (operRowsEffects tile o r n s) := by
  unfold operRowsEffects
  refine Moves.foldl (fun a0 _ => ?_) ?_
  · refine Moves.call (pieceEffects_moves _ _ _ _ _) (by decide) ?_
    exact Moves.refl
  · exact Moves.refl

theorem operEffects_moves (tile : Nat) (o : Oper) (f : Fmt) (bs : Bool) (s : State) : Moves 155210552 s (operEffects tile o f bs s) := by
  unfold operEffects
  refine Moves.call (pieceEffects_moves _ _ _ _ _) (by decide) ?_
  refine Moves.call (operRowsEffects_moves _ _ _ _ _) (by decide) ?_
  exact Moves.refl

theorem opersEffects_moves (s : State) (tile : Nat) (os : List (Oper × Fmt × Bool)) : Moves 155210552 s (opersEffects s tile os) := by
  unfold opersEffects
  refine Moves.foldl (fun a0 _ => ?_) ?_
  · refine Moves.call (operEffects_moves _ _ _ _ _) (by decide) ?_
    exact Moves.refl
  · exact Moves.refl

theorem withOpers_moves {w : Nat} {s : State} {d : Docket} {os : List (Oper × Fmt × Bool)} {k : State → DkOut} (hw : 155210552 ||| w = w)
    (hf : ∀ a, Moves w a (k a).state) : Moves w s (withOpers s d os k).state := by
  unfold withOpers
  have h1 : Moves w s (opersEffects s d.tile os) := ((opersEffects_moves ..).mono (v := 155210552) (by decide)).mono hw
  dsimp only
  split
  · exact Moves.ite_of DkOut.state (fun _ => h1) (fun _ => h1.trans (hf _))
  · exact h1.trans (hf _)

theorem writeRows_moves (s : State) (d : Docket) (o : Oper) (w : Nat) (rows : List (List (Nat × Bool))) : Moves 138433528 s (writeRows s d o w rows).1 := by
  unfold writeRows
  refine Moves.foldl_of Prod.fst (fun a0 _ => ?_) ?_
  · extract_lets +onlyGivenNames z1; clear_value z1
    extract_lets +onlyGivenNames z2
    have hz2 : Moves 138433528 a0.1 z2.1 := by
      unfold z2
      refine Moves.call (dkWrite_moves _ _ _ _ _ _) (by decide) ?_
      exact Moves.refl
    clear_value z2
    exact hz2
  · exact Moves.refl

theorem runAttn_moves (s : State) (d : Docket) : Moves 155210744 s (runAttn s d).state := by
  unfold runAttn
  extract_lets +onlyGivenNames z0; clear_value z0
  extract_lets +onlyGivenNames z1; clear_value z1
  extract_lets +onlyGivenNames z2; clear_value z2
  extract_lets +onlyGivenNames z3; clear_value z3
  extract_lets +onlyGivenNames z4; clear_value z4
  extract_lets +onlyGivenNames z5; clear_value z5
  extract_lets +onlyGivenNames z6; clear_value z6
  refine Moves.trans ?_ (withOpers_moves (by decide) (fun a7 => ?_))
  · exact Moves.refl
  · extract_lets +onlyGivenNames z8; clear_value z8
    extract_lets +onlyGivenNames z9; clear_value z9
    extract_lets +onlyGivenNames z10; clear_value z10
    extract_lets +onlyGivenNames z11; clear_value z11
    extract_lets +onlyGivenNames z12
    have hz12 : Moves 155210744 a7 z12.1 := by
      unfold z12
      refine Moves.call (writeRows_moves _ _ _ _ _) (by decide) ?_
      exact Moves.refl
    clear_value z12
    exact hz12

theorem execAttn_moves (eng : Nat) (s : State) : MovesN 155243512 s (execAttn eng s) := by
  unfold execAttn
  refine dkRun_moves (by decide) (fun a0 _ => ?_)
  refine Moves.call (runAttn_moves _ _) (by decide) ?_
  exact Moves.refl

theorem spread_moves (s : State) (d : Docket) (o : Oper) (bs : List Byte) (mark : Nat → Bool) : Moves 138433528 s (spread s d o bs mark).1 := by
  unfold spread
  refine Moves.foldl_of Prod.fst (fun a0 _ => ?_) ?_
  · extract_lets +onlyGivenNames z1
    have hz1 : Moves 138433528 a0.1 z1.1 := by
      unfold z1
      refine Moves.call (dkWrite_moves _ _ _ _ _ _) (by decide) ?_
      exact Moves.refl
    clear_value z1
    exact hz1
  · exact Moves.refl

theorem runCopy_moves (s : State) (d : Docket) : Moves 155210744 s (runCopy s d).state := by
  unfold runCopy
  extract_lets +onlyGivenNames z0; clear_value z0
  extract_lets +onlyGivenNames z1; clear_value z1
  extract_lets +onlyGivenNames z2; clear_value z2
  refine Moves.trans ?_ (withOpers_moves (by decide) (fun a3 => ?_))
  · exact Moves.refl
  · extract_lets +onlyGivenNames z4; clear_value z4
    extract_lets +onlyGivenNames z5
    have hz5 : Moves 155210744 a3 z5.1 := by
      unfold z5
      refine Moves.call (spread_moves _ _ _ _ _) (by decide) ?_
      exact Moves.refl
    clear_value z5
    exact hz5

theorem execCopy_moves (eng : Nat) (s : State) : MovesN 155243512 s (execCopy eng s) := by
  unfold execCopy
  refine dkRun_moves (by decide) (fun a0 _ => ?_)
  refine Moves.call (runCopy_moves _ _) (by decide) ?_
  exact Moves.refl

theorem execDocketArrival_moves (tile : Nat) (tk : Nat) (s : State) : MovesN 36880 s (execDocketArrival tile tk s) := by
  unfold execDocketArrival
  split
  · extract_lets +onlyGivenNames z0; clear_value z0
    extract_lets +onlyGivenNames z1; clear_value z1
    extract_lets +onlyGivenNames z2; clear_value z2
    extract_lets +onlyGivenNames z3; clear_value z3
    refine MovesN.ite (fun _ => ?_) (fun _ => ?_)
    · refine MovesN.next ?_
      exact Moves.refl
    · refine MovesN.ite (fun _ => ?_) (fun _ => ?_)
      · refine MovesN.next ?_
        refine Moves.call (engFail_moves _ _ _ _ _) (by decide) ?_
        refine Moves.call (postTicket_moves _ _ _ _) (by decide) ?_
        exact Moves.refl
      · refine MovesN.ite (fun _ => ?_) (fun _ => ?_)
        · refine MovesN.next ?_
          refine Moves.call (engSet_moves _ _ _) (by decide) ?_
          refine Moves.call (tileMod_moves _ _ _) (by decide) ?_
          exact Moves.refl
        · refine MovesN.next ?_
          exact Moves.refl
  · refine MovesN.next ?_
    exact Moves.refl

theorem runFill_moves (s : State) (d : Docket) : Moves 138433528 s (runFill s d).state := by
  unfold runFill
  extract_lets +onlyGivenNames z0; clear_value z0
  extract_lets +onlyGivenNames z1
  have hz1 : Moves 138433528 s z1.1 := by
    unfold z1
    refine Moves.call (spread_moves _ _ _ _ _) (by decide) ?_
    exact Moves.refl
  clear_value z1
  exact hz1

theorem execDocketFill_moves (eng : Nat) (s : State) : MovesN 138466296 s (execDocketFill eng s) := by
  unfold execDocketFill
  refine dkRun_moves (by decide) (fun a0 _ => ?_)
  refine Moves.call (runFill_moves _ _) (by decide) ?_
  exact Moves.refl

theorem execDocketStart_moves (eng : Nat) (s : State) : MovesN 32784 s (execDocketStart eng s) := by
  unfold execDocketStart
  extract_lets +onlyGivenNames z0; clear_value z0
  refine MovesN.ite (fun _ => ?_) (fun _ => ?_)
  · refine MovesN.next ?_
    exact Moves.refl
  · split
    · refine MovesN.next ?_
      exact Moves.refl
    · split
      · refine MovesN.next ?_
        exact Moves.refl
      · extract_lets +onlyGivenNames z1; clear_value z1
        refine MovesN.ite (fun _ => ?_) (fun _ => ?_)
        · refine MovesN.next ?_
          refine Moves.call (engFail_moves _ _ _ _ _) (by decide) ?_
          refine Moves.call (engSet_moves _ _ _) (by decide) ?_
          exact Moves.refl
        · refine MovesN.next ?_
          refine Moves.call (engSet_moves _ _ _) (by decide) ?_
          exact Moves.refl

theorem execEngineClockUngate_moves (eng : Nat) (s : State) : MovesN 32784 s (execEngineClockUngate eng s) := by
  unfold execEngineClockUngate
  extract_lets +onlyGivenNames z0; clear_value z0
  extract_lets +onlyGivenNames z1; clear_value z1
  extract_lets +onlyGivenNames z2; clear_value z2
  refine MovesN.ite (fun _ => ?_) (fun _ => ?_)
  · refine MovesN.next ?_
    refine Moves.call (regAdd_moves _ _ _) (by decide) ?_
    refine Moves.call (engSet_moves _ _ _) (by decide) ?_
    exact Moves.refl
  · refine MovesN.next ?_
    exact Moves.refl

theorem execEngineStall_moves (eng : Nat) (s : State) : MovesN 138969912 s (execEngineStall eng s) := by
  unfold execEngineStall
  extract_lets +onlyGivenNames z0; clear_value z0
  split
  · refine MovesN.ite (fun _ => ?_) (fun _ => ?_)
    · refine MovesN.next ?_
      exact Moves.refl
    · refine MovesN.next ?_
      refine Moves.call (raiseTrigger_moves _ _ _) (by decide) ?_
      exact Moves.refl
  · refine MovesN.next ?_
    exact Moves.refl

theorem moveRow_moves (d : Docket) (a : Oper) (o : Oper) (s : State) (ra : Nat) (ro : Nat) : Moves 155210744 s (moveRow d a o s ra ro).state := by
  unfold moveRow
  extract_lets +onlyGivenNames z0; clear_value z0
  extract_lets +onlyGivenNames z1
  have hz1 : Moves 155210744 s z1 := by
    unfold z1
    refine Moves.call (pieceEffects_moves _ _ _ _ _) (by decide) ?_
    exact Moves.refl
  clear_value z1
  split
  · exact hz1
  · extract_lets +onlyGivenNames z2
    have hz2 : Moves 155210744 s z2.1 := by
      unfold z2
      refine Moves.call (dkWrite_moves _ _ _ _ _ _) (by decide) ?_
      exact hz1
    clear_value z2
    exact hz2

theorem walkOut_moves (w : Walk) : Moves 0 w.state (walkOut w).state := by
  unfold walkOut
  split <;> exact Moves.refl

theorem walkIndices_moves {w : Nat} {s : State} {idx : Piece} {limit : Nat} {body : State → Nat → Nat → Walk} {l : List Nat}
    (hf : ∀ a i x, Moves w a (body a i x).state) (x : Walk) (hx : Moves w s x.state) : Moves w s (walkIndices idx limit body l x).state := by
  induction l generalizing x with
  | nil => exact hx
  | cons i l ih =>
    unfold walkIndices
    refine Moves.ite_of Walk.state (fun _ => hx) (fun _ => ?_)
    have h1 := hx.trans (hf x.state i (indexAt idx i).1)
    dsimp only
    split
    · exact h1
    · exact ih _ h1

theorem withIndices_moves {w : Nat} {s : State} {d : Docket} {limit : Nat} {body : State → Nat → Nat → Walk} (hw : 155210552 ||| w = w)
    (hf : ∀ a i x, Moves w a (body a i x).state) : Moves w s (withIndices s d limit body).state := by
  unfold withIndices
  have h1 : ∀ o r n, Moves w s (operRowsEffects d.tile o r n s) := fun o r n => ((operRowsEffects_moves ..).mono (v := 155210552) (by decide)).mono hw
  dsimp only
  split
  · exact h1 ..
  · refine Moves.trans ?_ ((walkOut_moves _).mono (Nat.zero_or _))
    exact walkIndices_moves hf _ (h1 ..)

theorem runGather_moves (s : State) (d : Docket) : Moves 155210744 s (runGather s d).state := by
  unfold runGather
  extract_lets +onlyGivenNames z0; clear_value z0
  extract_lets +onlyGivenNames z1; clear_value z1
  refine Moves.trans ?_ (withIndices_moves (by decide) (fun a2 _ _ => ?_))
  · exact Moves.refl
  · refine Moves.call (moveRow_moves _ _ _ _ _ _) (by decide) ?_
    exact Moves.refl

theorem execGather_moves (eng : Nat) (s : State) : MovesN 155243512 s (execGather eng s) := by
  unfold execGather
  refine dkRun_moves (by decide) (fun a0 _ => ?_)
  refine Moves.call (runGather_moves _ _) (by decide) ?_
  exact Moves.refl

theorem runLoadv_moves (s : State) (d : Docket) : Moves 155243320 s (runLoadv s d).state := by
  unfold runLoadv
  extract_lets +onlyGivenNames z0; clear_value z0
  extract_lets +onlyGivenNames z1; clear_value z1
  extract_lets +onlyGivenNames z2; clear_value z2
  extract_lets +onlyGivenNames z3; clear_value z3
  extract_lets +onlyGivenNames z4; clear_value z4
  extract_lets +onlyGivenNames z5; clear_value z5
  refine Moves.trans ?_ (withOpers_moves (by decide) (fun a6 => ?_))
  · exact Moves.refl
  · extract_lets +onlyGivenNames z7; clear_value z7
    extract_lets +onlyGivenNames z8; clear_value z8
    extract_lets +onlyGivenNames z9; clear_value z9
    extract_lets +onlyGivenNames z10; clear_value z10
    extract_lets +onlyGivenNames z11; clear_value z11
    extract_lets +onlyGivenNames z12; clear_value z12
    extract_lets +onlyGivenNames z13
    have hz13 : Moves 155243320 a6 z13 := by
      unfold z13
      refine Moves.foldl (fun a14 _ => ?_) ?_
      · extract_lets +onlyGivenNames z15; clear_value z15
        refine Moves.ite (fun _ => ?_) (fun _ => ?_)
        · exact Moves.refl
        · refine Moves.call (engMod_moves _ _ _) (by decide) ?_
          exact Moves.refl
      · exact Moves.refl
    clear_value z13
    extract_lets +onlyGivenNames z16; clear_value z16
    extract_lets +onlyGivenNames z17; clear_value z17
    exact hz13

theorem execLoadv_moves (eng : Nat) (s : State) : MovesN 155243320 s (execLoadv eng s) := by
  unfold execLoadv
  refine dkRun_moves (by decide) (fun a0 _ => ?_)
  refine Moves.call (runLoadv_moves _ _) (by decide) ?_
  exact Moves.refl

theorem runMatv_moves (s : State) (d : Docket) : Moves 155210744 s (runMatv s d).state := by
  unfold runMatv
  extract_lets +onlyGivenNames z0; clear_value z0
  extract_lets +onlyGivenNames z1; clear_value z1
  extract_lets +onlyGivenNames z2; clear_value z2
  extract_lets +onlyGivenNames z3; clear_value z3
  extract_lets +onlyGivenNames z4; clear_value z4
  extract_lets +onlyGivenNames z5; clear_value z5
  refine Moves.trans ?_ (withOpers_moves (by decide) (fun a6 => ?_))
  · exact Moves.refl
  · extract_lets +onlyGivenNames z7; clear_value z7
    extract_lets +onlyGivenNames z8; clear_value z8
    extract_lets +onlyGivenNames z9
    have hz9 : Moves 155210744 a6 z9.1 := by
      unfold z9
      refine Moves.call (writeRows_moves _ _ _ _ _) (by decide) ?_
      exact Moves.refl
    clear_value z9
    exact hz9

theorem execMatv_moves (eng : Nat) (s : State) : MovesN 155243512 s (execMatv eng s) := by
  unfold execMatv
  refine dkRun_moves (by decide) (fun a0 _ => ?_)
  refine Moves.call (runMatv_moves _ _) (by decide) ?_
  exact Moves.refl

theorem runQuant_moves (s : State) (d : Docket) : Moves 155210744 s (runQuant s d).state := by
  unfold runQuant
  extract_lets +onlyGivenNames z0; clear_value z0
  extract_lets +onlyGivenNames z1; clear_value z1
  extract_lets +onlyGivenNames z2; clear_value z2
  extract_lets +onlyGivenNames z3; clear_value z3
  extract_lets +onlyGivenNames z4; clear_value z4
  extract_lets +onlyGivenNames z5; clear_value z5
  refine Moves.trans ?_ (withOpers_moves (by decide) (fun a6 => ?_))
  · exact Moves.refl
  · extract_lets +onlyGivenNames z7; clear_value z7
    extract_lets +onlyGivenNames z8; clear_value z8
    extract_lets +onlyGivenNames z9
    have hz9 : Moves 155210744 a6 z9.1 := by
      unfold z9
      refine Moves.call (writeRows_moves _ _ _ _ _) (by decide) ?_
      exact Moves.refl
    clear_value z9
    extract_lets +onlyGivenNames z10; clear_value z10
    extract_lets +onlyGivenNames z11
    have hz11 : Moves 155210744 a6 z11.1 := by
      unfold z11
      refine Moves.call (dkWrite_moves _ _ _ _ _ _) (by decide) ?_
      exact hz9
    clear_value z11
    exact hz11

theorem execQuant_moves (eng : Nat) (s : State) : MovesN 155243512 s (execQuant eng s) := by
  unfold execQuant
  refine dkRun_moves (by decide) (fun a0 _ => ?_)
  refine Moves.call (runQuant_moves _ _) (by decide) ?_
  exact Moves.refl

theorem runReduce_moves (s : State) (d : Docket) : Moves 155210744 s (runReduce s d).state := by
  unfold runReduce
  extract_lets +onlyGivenNames z0; clear_value z0
  extract_lets +onlyGivenNames z1; clear_value z1
  extract_lets +onlyGivenNames z2; clear_value z2
  extract_lets +onlyGivenNames z3; clear_value z3
  extract_lets +onlyGivenNames z4; clear_value z4
  refine Moves.trans ?_ (withOpers_moves (by decide) (fun a5 => ?_))
  · exact Moves.refl
  · extract_lets +onlyGivenNames z6; clear_value z6
    extract_lets +onlyGivenNames z7; clear_value z7
    extract_lets +onlyGivenNames z8; clear_value z8
    extract_lets +onlyGivenNames z9
    have hz9 : Moves 155210744 a5 z9.1 := by
      unfold z9
      refine Moves.call (writeRows_moves _ _ _ _ _) (by decide) ?_
      exact Moves.refl
    clear_value z9
    exact hz9

theorem execReduce_moves (eng : Nat) (s : State) : MovesN 155243512 s (execReduce eng s) := by
  unfold execReduce
  refine dkRun_moves (by decide) (fun a0 _ => ?_)
  refine Moves.call (runReduce_moves _ _) (by decide) ?_
  exact Moves.refl

theorem runScatter_moves (s : State) (d : Docket) : Moves 155210744 s (runScatter s d).state := by
  unfold runScatter
  extract_lets +onlyGivenNames z0; clear_value z0
  extract_lets +onlyGivenNames z1; clear_value z1
  refine Moves.trans ?_ (withIndices_moves (by decide) (fun a2 _ _ => ?_))
  · exact Moves.refl
  · refine Moves.ite_of Walk.state (fun _ => ?_) (fun _ => ?_)
    · refine Moves.call (moveRow_moves _ _ _ _ _ _) (by decide) ?_
      exact Moves.refl
    · refine Moves.call (addRow_moves _ _ _ _ _ _ _) (by decide) ?_
      exact Moves.refl

theorem execScatter_moves (eng : Nat) (s : State) : MovesN 155243512 s (execScatter eng s) := by
  unfold execScatter
  refine dkRun_moves (by decide) (fun a0 _ => ?_)
  refine Moves.call (runScatter_moves _ _) (by decide) ?_
  exact Moves.refl

theorem runZero_moves (s : State) (d : Docket) : Moves 138433528 s (runZero s d).state := by
  unfold runZero
  extract_lets +onlyGivenNames z0; clear_value z0
  extract_lets +onlyGivenNames z1
  have hz1 : Moves 138433528 s z1.1 := by
    unfold z1
    refine Moves.call (spread_moves _ _ _ _ _) (by decide) ?_
    exact Moves.refl
  clear_value z1
  exact hz1

theorem execZero_moves (eng : Nat) (s : State) : MovesN 138466296 s (execZero eng s) := by
  unfold execZero
  refine dkRun_moves (by decide) (fun a0 _ => ?_)
  refine Moves.call (runZero_moves _ _) (by decide) ?_
  exact Moves.refl

end Sys2Proof.Laws
end

