-- ==== Sys2Proof/Laws/FrameDrone.lean ====
section
/-! SUPPORT. What each function of Machine/Drone.lean may change, and that it keeps the canonical form: its frame law. -/

namespace Sys2Proof.Laws

set_option Elab.async false

open Sys2Proof Sys2Proof.Machine Sys2Proof.Safety

theorem becomeRoot_moves (s : State) : Moves 2064 s (becomeRoot s) := by
  unfold becomeRoot
  extract_lets +onlyGivenNames z0; clear_value z0
  extract_lets +onlyGivenNames z1
  have hz1 : Moves 2064 s z1 := by
    unfold z1
    refine Moves.record ?_
    exact Moves.refl
  clear_value z1
  extract_lets +onlyGivenNames z2
  have hz2 : Moves 2064 s z2 := by
    unfold z2
    refine Moves.call (regSet_moves _ _ _) (by decide) ?_
    refine Moves.call (regSet_moves _ _ _) (by decide) ?_
    exact hz1
  clear_value z2
  refine Moves.call (regPut_moves _ _ _ _ _) (by decide) ?_
  refine Moves.call (regPut_moves _ _ _ _ _) (by decide) ?_
  refine Moves.call (regPut_moves _ _ _ _ _) (by decide) ?_
  exact hz2

theorem droneApply_moves (s : State) (ctrl : Word) (asym : Word) : Moves 2064 s (droneApply s ctrl asym) := by
  unfold droneApply
  extract_lets +onlyGivenNames z0; clear_value z0
  extract_lets +onlyGivenNames z1; clear_value z1
  extract_lets +onlyGivenNames z2; clear_value z2
  extract_lets +onlyGivenNames z3
  have hz3 : Moves 2064 s z3 := by
    unfold z3
    refine Moves.call (regSet_moves _ _ _) (by decide) ?_
    refine Moves.call (regSet_moves _ _ _) (by decide) ?_
    exact Moves.refl
  clear_value z3
  extract_lets +onlyGivenNames z4; clear_value z4
  extract_lets +onlyGivenNames z5
  have hz5 : Moves 2064 s z5 := by
    unfold z5
    refine Moves.record ?_
    exact hz3
  clear_value z5
  extract_lets +onlyGivenNames z6; clear_value z6
  extract_lets +onlyGivenNames z7
  have hz7 : Moves 2064 s z7 := by
    unfold z7
    refine Moves.call (regPut_moves _ _ _ _ _) (by decide) ?_
    refine Moves.call (regPut_moves _ _ _ _ _) (by decide) ?_
    exact hz5
  clear_value z7
  refine Moves.ite (fun _ => ?_) (fun _ => ?_)
  · split
    · extract_lets +onlyGivenNames z8
      have hz8 : Moves 2064 s z8 := by
        unfold z8
        refine Moves.call (regPut_moves _ _ _ _ _) (by decide) ?_
        refine Moves.call (regPut_moves _ _ _ _ _) (by decide) ?_
        exact hz5
      clear_value z8
      refine Moves.ite (fun _ => ?_) (fun _ => ?_)
      · refine Moves.call (regPut_moves _ _ _ _ _) (by decide) ?_
        refine Moves.call (regPut_moves _ _ _ _ _) (by decide) ?_
        exact hz8
      · refine Moves.call (becomeRoot_moves _) (by decide) ?_
        exact hz5
    · refine Moves.call (becomeRoot_moves _) (by decide) ?_
      exact hz5
  · refine Moves.ite (fun _ => ?_) (fun _ => ?_)
    · exact hz7
    · refine Moves.call (regPut_moves _ _ _ _ _) (by decide) ?_
      exact hz7

theorem droneSteer_moves (s : State) (theta : Int) : Moves 2064 s (droneSteer s theta) := by
  unfold droneSteer
  extract_lets +onlyGivenNames z0; clear_value z0
  extract_lets +onlyGivenNames z1
  have hz1 : Moves 2064 s z1 := by
    unfold z1
    refine Moves.record ?_
    exact Moves.refl
  clear_value z1
  extract_lets +onlyGivenNames z2; clear_value z2
  extract_lets +onlyGivenNames z3; clear_value z3
  extract_lets +onlyGivenNames z4; clear_value z4
  extract_lets +onlyGivenNames z5
  have hz5 : Moves 2064 s z5 := by
    unfold z5
    refine Moves.record ?_
    exact Moves.refl
  clear_value z5
  extract_lets +onlyGivenNames z6
  have hz6 : Moves 2064 s z6 := by
    unfold z6
    refine Moves.call (regSet_moves _ _ _) (by decide) ?_
    exact hz5
  clear_value z6
  extract_lets +onlyGivenNames z7
  have hz7 : Moves 2064 s z7 := by
    unfold z7
    refine Moves.call (regPut_moves _ _ _ _ _) (by decide) ?_
    exact hz6
  clear_value z7
  refine Moves.ite (fun _ => ?_) (fun _ => ?_)
  · refine Moves.call (regSet_moves _ _ _) (by decide) ?_
    refine Moves.call (regPut_moves _ _ _ _ _) (by decide) ?_
    exact hz1
  · refine Moves.call (regPut_moves _ _ _ _ _) (by decide) ?_
    refine Moves.call (regPut_moves _ _ _ _ _) (by decide) ?_
    exact hz7

theorem edgeSet_moves (s : State) (backup : Bool) (e : TimeEdge) : Moves 2048 s (edgeSet s backup e) := by
  unfold edgeSet
  extract_lets +onlyGivenNames z0; clear_value z0
  refine Moves.ite (fun _ => ?_) (fun _ => ?_)
  · refine Moves.record ?_
    exact Moves.refl
  · refine Moves.record ?_
    exact Moves.refl

theorem skipExchange_moves (s : State) (backup : Bool) : Moves 2064 s (skipExchange s backup) := by
  unfold skipExchange
  extract_lets +onlyGivenNames z0; clear_value z0
  refine Moves.call (regAdd_moves _ _ _) (by decide) ?_
  refine Moves.call (edgeSet_moves _ _ _) (by decide) ?_
  exact Moves.refl

theorem execExchangeTimeout_moves (port : Nat) (s : State) : MovesN 2064 s (execExchangeTimeout port s) := by
  unfold execExchangeTimeout
  split
  · refine MovesN.ite (fun _ => ?_) (fun _ => ?_)
    · refine MovesN.next ?_
      refine Moves.call (skipExchange_moves _ _) (by decide) ?_
      exact Moves.refl
    · refine MovesN.next ?_
      exact Moves.refl
  · refine MovesN.next ?_
    exact Moves.refl

theorem execHoldoverEntry_moves (s : State) : MovesN 2064 s (execHoldoverEntry s) := by
  unfold execHoldoverEntry
  extract_lets +onlyGivenNames z0; clear_value z0
  extract_lets +onlyGivenNames z1; clear_value z1
  extract_lets +onlyGivenNames z2
  have hz2 : Moves 2064 s z2 := by
    unfold z2
    refine Moves.ite (fun _ => ?_) (fun _ => ?_)
    · refine Moves.record ?_
      exact Moves.refl
    · exact Moves.refl
  clear_value z2
  extract_lets +onlyGivenNames z3
  have hz3 : Moves 2064 s z3 := by
    unfold z3
    refine Moves.call (regPut_moves _ _ _ _ _) (by decide) ?_
    exact hz2
  clear_value z3
  refine MovesN.ite (fun _ => ?_) (fun _ => ?_)
  · refine MovesN.ite (fun _ => ?_) (fun _ => ?_)
    · refine MovesN.next ?_
      refine Moves.call (regPut_moves _ _ _ _ _) (by decide) ?_
      refine Moves.call (regPut_moves _ _ _ _ _) (by decide) ?_
      exact hz3
    · refine MovesN.next ?_
      exact hz3
  · refine MovesN.next ?_
    exact Moves.refl

theorem execHoldoverLong_moves (s : State) : MovesN 16 s (execHoldoverLong s) := by
  unfold execHoldoverLong
  refine MovesN.ite (fun _ => ?_) (fun _ => ?_)
  · refine MovesN.next ?_
    refine Moves.call (regPut_moves _ _ _ _ _) (by decide) ?_
    exact Moves.refl
  · refine MovesN.next ?_
    exact Moves.refl

theorem execStandbyRootTakeover_moves (s : State) : MovesN 2064 s (execStandbyRootTakeover s) := by
  unfold execStandbyRootTakeover
  refine MovesN.ite (fun _ => ?_) (fun _ => ?_)
  · refine MovesN.next ?_
    refine Moves.call (becomeRoot_moves _) (by decide) ?_
    exact Moves.refl
  · refine MovesN.next ?_
    exact Moves.refl

theorem noteLocked_moves (s : State) (port : Nat) (bs : List Byte) : Moves 2048 s (noteLocked s port bs) := by
  unfold noteLocked
  extract_lets +onlyGivenNames z0; clear_value z0
  extract_lets +onlyGivenNames z1; clear_value z1
  refine Moves.ite (fun _ => ?_) (fun _ => ?_)
  · refine Moves.record ?_
    exact Moves.refl
  · exact Moves.refl

theorem timeFrame_moves (s : State) (port : Nat) (msg : Nat) (errs : List Nat) : Moves 3145752 s (timeFrame s port msg errs).1 := by
  unfold timeFrame
  extract_lets +onlyGivenNames z0; clear_value z0
  split
  · dsimp only
    refine Moves.call (Moves.of_fst (by assumption) (frameTake_moves _ _ _ _)) (by decide) ?_
    exact Moves.refl
  · dsimp only
    refine Moves.call (Moves.of_fst (by assumption) (frameTake_moves _ _ _ _)) (by decide) ?_
    exact Moves.refl

theorem validExchange_moves (s : State) (backup : Bool) (bs : List Byte) (t4 : Nat) : Moves 2064 s (validExchange s backup bs t4) := by
  unfold validExchange
  extract_lets +onlyGivenNames z0; clear_value z0
  extract_lets +onlyGivenNames z1; clear_value z1
  extract_lets +onlyGivenNames z2; clear_value z2
  extract_lets +onlyGivenNames z3; clear_value z3
  extract_lets +onlyGivenNames z4; clear_value z4
  extract_lets +onlyGivenNames z5; clear_value z5
  extract_lets +onlyGivenNames z6; clear_value z6
  extract_lets +onlyGivenNames z7; clear_value z7
  extract_lets +onlyGivenNames z8
  have hz8 : Moves 2064 s z8 := by
    unfold z8
    refine Moves.call (regAdd_moves _ _ _) (by decide) ?_
    refine Moves.call (edgeSet_moves _ _ _) (by decide) ?_
    exact Moves.refl
  clear_value z8
  extract_lets +onlyGivenNames z9
  have hz9 : Moves 2064 s z9 := by
    unfold z9
    refine Moves.call (regSet_moves _ _ _) (by decide) ?_
    exact hz8
  clear_value z9
  extract_lets +onlyGivenNames z10
  have hz10 : Moves 2064 s z10 := by
    unfold z10
    refine Moves.call (regPut_moves _ _ _ _ _) (by decide) ?_
    refine Moves.call (regPut_moves _ _ _ _ _) (by decide) ?_
    exact hz9
  clear_value z10
  refine Moves.ite (fun _ => ?_) (fun _ => ?_)
  · refine Moves.call (droneSteer_moves _ _) (by decide) ?_
    refine Moves.call (regPut_moves _ _ _ _ _) (by decide) ?_
    exact hz10
  · exact hz9

theorem execTimeReplyReceive_moves (port : Nat) (msg : Nat) (errs : List Nat) (part : Nat) (s : State) : MovesN 3147800 s (execTimeReplyReceive port msg errs
      part s) := by
  unfold execTimeReplyReceive
  extract_lets +onlyGivenNames z0; clear_value z0
  refine MovesN.ite (fun _ => ?_) (fun _ => ?_)
  · refine MovesN.next ?_
    exact Moves.refl
  · split
    · refine MovesN.next ?_
      refine Moves.call (Moves.of_fst (by assumption) (timeFrame_moves _ _ _ _)) (by decide) ?_
      exact Moves.refl
    · split
      · refine MovesN.next ?_
        refine Moves.call (Moves.of_fst (by assumption) (timeFrame_moves _ _ _ _)) (by decide) ?_
        exact Moves.refl
      · extract_lets +onlyGivenNames z1; clear_value z1
        extract_lets +onlyGivenNames z2; clear_value z2
        refine MovesN.ite (fun _ => ?_) (fun _ => ?_)
        · refine MovesN.next ?_
          refine Moves.call (Moves.of_fst (by assumption) (timeFrame_moves _ _ _ _)) (by decide) ?_
          exact Moves.refl
        · refine MovesN.ite (fun _ => ?_) (fun _ => ?_)
          · refine MovesN.next ?_
            refine Moves.call (skipExchange_moves _ _) (by decide) ?_
            refine Moves.call (Moves.of_fst (by assumption) (timeFrame_moves _ _ _ _)) (by decide) ?_
            exact Moves.refl
          · refine MovesN.next ?_
            refine Moves.call (validExchange_moves _ _ _ _) (by decide) ?_
            refine Moves.call (noteLocked_moves _ _ _) (by decide) ?_
            refine Moves.call (Moves.of_fst (by assumption) (timeFrame_moves _ _ _ _)) (by decide) ?_
            exact Moves.refl

theorem execTimeRequestReceive_moves (port : Nat) (msg : Nat) (errs : List Nat) (part : Nat) (s : State) : MovesN 3148344 s (execTimeRequestReceive port msg
      errs part s) := by
  unfold execTimeRequestReceive
  extract_lets +onlyGivenNames z0; clear_value z0
  refine MovesN.ite (fun _ => ?_) (fun _ => ?_)
  · refine MovesN.next ?_
    exact Moves.refl
  · split
    · refine MovesN.next ?_
      refine Moves.call (Moves.of_fst (by assumption) (timeFrame_moves _ _ _ _)) (by decide) ?_
      exact Moves.refl
    · extract_lets +onlyGivenNames z1
      have hz1 : Moves 3148344 s z1 := by
        unfold z1
        refine Moves.call (wakePort_moves _ _) (by decide) ?_
        refine Moves.call (noteLocked_moves _ _ _) (by decide) ?_
        refine Moves.call (Moves.of_fst (by assumption) (timeFrame_moves _ _ _ _)) (by decide) ?_
        exact Moves.refl
      clear_value z1
      extract_lets +onlyGivenNames z2; clear_value z2
      refine MovesN.ite (fun _ => ?_) (fun _ => ?_)
      · refine MovesN.next ?_
        refine Moves.call (Moves.of_fst (by assumption) (timeFrame_moves _ _ _ _)) (by decide) ?_
        exact Moves.refl
      · refine MovesN.next ?_
        refine Moves.call (newFrame_moves _ _ _ _) (by decide) ?_
        exact hz1

theorem execTimeTransferTimer_moves (port : Nat) (part : Nat) (s : State) : MovesN 3148344 s (execTimeTransferTimer port part s) := by
  unfold execTimeTransferTimer
  split
  · refine MovesN.next ?_
    exact Moves.refl
  · extract_lets +onlyGivenNames z0; clear_value z0
    extract_lets +onlyGivenNames z1
    have hz1 : Moves 3148344 s z1 := by
      unfold z1
      refine Moves.ite (fun _ => ?_) (fun _ => ?_)
      · refine Moves.call (skipExchange_moves _ _) (by decide) ?_
        exact Moves.refl
      · exact Moves.refl
    clear_value z1
    extract_lets +onlyGivenNames z2; clear_value z2
    extract_lets +onlyGivenNames z3; clear_value z3
    extract_lets +onlyGivenNames z4; clear_value z4
    extract_lets +onlyGivenNames z5
    have hz5 : Moves 3148344 s z5 := by
      unfold z5
      refine Moves.call (edgeSet_moves _ _ _) (by decide) ?_
      exact hz1
    clear_value z5
    extract_lets +onlyGivenNames z6
    have hz6 : Moves 3148344 s z6 := by
      unfold z6
      refine Moves.call (lpMod_moves _ _ _) (by decide) ?_
      refine Moves.call (wakePort_moves _ _) (by decide) ?_
      exact hz5
    clear_value z6
    refine MovesN.ite (fun _ => ?_) (fun _ => ?_)
    · refine MovesN.next ?_
      exact Moves.refl
    · refine MovesN.next ?_
      refine Moves.call (newFrame_moves _ _ _ _) (by decide) ?_
      exact hz6

end Sys2Proof.Laws
end

