-- ==== Sys2Proof/Laws/FrameGangOps.lean ====
section
/-! SUPPORT. What each function of Machine/GangOps.lean may change, and that it keeps the canonical form: its frame law. -/

namespace Sys2Proof.Laws

set_option Elab.async false

open Sys2Proof Sys2Proof.Machine Sys2Proof.Safety

theorem execGbc_moves (g : Nat) (slot : Slot) (f : VecFields) (s : State) : MovesN 156169208 s (execGbc g slot f s) := by
  unfold execGbc
  refine slotExec_moves (by decide) (fun a0 => ?_)
  extract_lets +onlyGivenNames z1; clear_value z1
  extract_lets +onlyGivenNames z2; clear_value z2
  refine Moves.call (slotRun_moves _ _ _ _ _ _ _) (by decide) ?_
  exact Moves.refl

theorem execGred_moves (g : Nat) (slot : Slot) (f : VecFields) (s : State) : MovesN 156169208 s (execGred g slot f s) := by
  unfold execGred
  refine slotExec_moves (by decide) (fun a0 => ?_)
  extract_lets +onlyGivenNames z1; clear_value z1
  extract_lets +onlyGivenNames z2; clear_value z2
  extract_lets +onlyGivenNames z3; clear_value z3
  extract_lets +onlyGivenNames z4; clear_value z4
  extract_lets +onlyGivenNames z5; clear_value z5
  refine Moves.call (slotRun_moves _ _ _ _ _ _ _) (by decide) ?_
  exact Moves.refl

end Sys2Proof.Laws
end

