-- ==== Sys2Proof/Laws/FramePlanCore.lean ====
section
/-! SUPPORT. What each function of Machine/PlanCore.lean may change, and that it keeps the canonical form: its frame law. -/

namespace Sys2Proof.Laws

set_option Elab.async false

open Sys2Proof Sys2Proof.Machine Sys2Proof.Safety

theorem contribute_moves (s : State) (g : Nat) (v : Nat) : Moves 138543928 s (contribute s g v).1 := by
  unfold contribute
  refine Moves.foldl_of Prod.fst (fun a0 _ => ?_) ?_
  · split
    refine Moves.call (strumContribute_moves _ _ _ _ _ _ _) (by decide) ?_
    exact Moves.refl
  · exact Moves.refl

theorem mirrorSend_moves (s : State) (type : Nat) (ctx : Nat) (ext : List Word) (payload : List Byte) : Moves 134217736 s (mirrorSend s type ctx ext payload)
      := by
  unfold mirrorSend
  extract_lets +onlyGivenNames z0
  have hz0 : Moves 134217736 s z0 := by
    unfold z0
    refine Moves.call (inject_moves _ _ _) (by decide) ?_
    exact Moves.refl
  clear_value z0
  extract_lets +onlyGivenNames z1; clear_value z1
  refine Moves.record ?_
  exact hz0

theorem resyncCopy_moves (s : State) (c : Nat) (ranges : List (Nat × Nat)) : Moves 134217740 s (resyncCopy s c ranges) := by
  unfold resyncCopy
  extract_lets +onlyGivenNames z0
  have hz0 : ∀ x0 x1 x2, Moves 134217740 x0 (z0 x0 x1 x2) := by
    intro x0 x1 x2
    unfold z0
    extract_lets +onlyGivenNames z1; clear_value z1
    extract_lets +onlyGivenNames z2; clear_value z2
    extract_lets +onlyGivenNames z3
    have hz3 : Moves 134217740 x0 z3 := by
      unfold z3
      refine Moves.call (inject_moves _ _ _) (by decide) ?_
      exact Moves.refl
    clear_value z3
    extract_lets +onlyGivenNames z4; clear_value z4
    refine Moves.record ?_
    exact hz3
  clear_value z0
  extract_lets +onlyGivenNames z5
  have hz5 : Moves 134217740 s z5 := by
    unfold z5
    refine Moves.foldl (fun a6 _ => ?_) ?_
    · refine Moves.foldl (fun a7 _ => ?_) ?_
      · exact hz0 _ _ _
      · exact Moves.refl
    · exact Moves.refl
  clear_value z5
  split
  extract_lets +onlyGivenNames z8; clear_value z8
  refine Moves.call (mirrorSend_moves _ _ _ _ _) (by decide) ?_
  refine Moves.record ?_
  refine Moves.call (Moves.of_snd (by assumption) (freshFree_moves _)) (by decide) ?_
  exact hz5

theorem resyncAfter_moves (s : State) (c : Nat) (step : Nat) : Moves 134217740 s (resyncAfter s c step) := by
  unfold resyncAfter
  split
  · refine Moves.ite (fun _ => ?_) (fun _ => ?_)
    · refine Moves.call (resyncCopy_moves _ _ _) (by decide) ?_
      exact Moves.refl
    · exact Moves.refl
  · exact Moves.refl

theorem planSet_moves (s : State) (c : Nat) (x : CtxPlan) : Moves 1024 s (planSet s c x) := by
  unfold planSet
  extract_lets +onlyGivenNames z0; clear_value z0
  refine Moves.record ?_
  exact Moves.refl

theorem stepPut_moves (s : State) (c : Nat) (r : StepRun) : Moves 1024 s (stepPut s c r) := by
  unfold stepPut
  extract_lets +onlyGivenNames z0; clear_value z0
  refine Moves.call (planSet_moves _ _ _) (by decide) ?_
  exact Moves.refl

theorem contributeDone_moves (s : State) (c : Nat) (r : StepRun) : Moves 138544956 s (contributeDone s c r) := by
  unfold contributeDone
  extract_lets +onlyGivenNames z0; clear_value z0
  split
  extract_lets +onlyGivenNames z1
  have hz1 : Moves 138544956 s z1 := by
    unfold z1
    refine Moves.call (stepPut_moves _ _ _) (by decide) ?_
    refine Moves.call (Moves.of_fst (by assumption) (contribute_moves _ _ _)) (by decide) ?_
    exact Moves.refl
  clear_value z1
  extract_lets +onlyGivenNames z2; clear_value z2
  extract_lets +onlyGivenNames z3
  have hz3 : Moves 138544956 s z3 := by
    unfold z3
    refine Moves.call (mirrorSend_moves _ _ _ _ _) (by decide) ?_
    refine Moves.record ?_
    exact hz1
  clear_value z3
  extract_lets +onlyGivenNames z4; clear_value z4
  refine Moves.ite (fun _ => ?_) (fun _ => ?_)
  · refine Moves.call (resyncAfter_moves _ _ _) (by decide) ?_
    refine Moves.record ?_
    exact hz3
  · exact hz1

theorem stepFail_moves (s : State) (c : Nat) (r : StepRun) (fault : Nat) (detail : Nat) : Moves 138544956 s (stepFail s c r fault detail) := by
  unfold stepFail
  refine Moves.call (contributeDone_moves _ _ _) (by decide) ?_
  exact Moves.refl

theorem twinOut_moves (s : State) : Moves 134217744 s (twinOut s) := by
  unfold twinOut
  extract_lets +onlyGivenNames z0; clear_value z0
  refine Moves.ite (fun _ => ?_) (fun _ => ?_)
  · refine Moves.call (regPut_moves _ _ _ _ _) (by decide) ?_
    refine Moves.record ?_
    exact Moves.refl
  · exact Moves.refl

theorem stepEvent_moves (s : State) (c : Nat) (r : StepRun) (state : Nat) (fault : Nat) (detail : Nat) : Moves 134218296 s (stepEvent s c r state fault
      detail) := by
  unfold stepEvent
  extract_lets +onlyGivenNames z0
  have hz0 : Moves 134218296 s z0 := by
    unfold z0
    refine Moves.call (eventAppend_moves _ _ _ _ _ _ _) (by decide) ?_
    exact Moves.refl
  clear_value z0
  extract_lets +onlyGivenNames z1; clear_value z1
  refine Moves.ite (fun _ => ?_) (fun _ => ?_)
  · exact Moves.refl
  · refine Moves.ite (fun _ => ?_) (fun _ => ?_)
    · refine Moves.record ?_
      exact hz0
    · exact hz0

theorem twinBoundary_moves (s : State) : Moves 134217744 s (twinBoundary s) := by
  unfold twinBoundary
  extract_lets +onlyGivenNames z0; clear_value z0
  extract_lets +onlyGivenNames z1
  have hz1 : Moves 134217744 s z1 := by
    unfold z1
    refine Moves.record ?_
    exact Moves.refl
  clear_value z1
  refine Moves.ite (fun _ => ?_) (fun _ => ?_)
  · refine Moves.call (regPut_moves _ _ _ _ _) (by decide) ?_
    exact hz1
  · exact Moves.refl

theorem writeWord_moves (s : State) (c : Nat) (r : StepRun) (state : Nat) (fault : Nat) (detail : Nat) : Moves 138429432 s (writeWord s c r state fault
      detail) := by
  unfold writeWord
  refine Moves.call (memStoreClean_moves _ _ _) (by decide) ?_
  exact Moves.refl

theorem stepEnd_moves (s : State) (c : Nat) (r : StepRun) (state : Nat) (fault : Nat) (detail : Nat) : Moves 138434552 s (stepEnd s c r state fault detail) :=
      by
  unfold stepEnd
  extract_lets +onlyGivenNames z0
  have hz0 : Moves 138434552 s z0 := by
    unfold z0
    refine Moves.call (writeWord_moves _ _ _ _ _ _) (by decide) ?_
    exact Moves.refl
  clear_value z0
  extract_lets +onlyGivenNames z1; clear_value z1
  extract_lets +onlyGivenNames z2
  have hz2 : Moves 138434552 s z2 := by
    unfold z2
    refine Moves.call (planSet_moves _ _ _) (by decide) ?_
    exact hz0
  clear_value z2
  extract_lets +onlyGivenNames z3
  have hz3 : Moves 138434552 s z3 := by
    unfold z3
    refine Moves.call (tilesMod_moves _ _ _) (by decide) ?_
    exact hz2
  clear_value z3
  refine Moves.call (twinBoundary_moves _) (by decide) ?_
  refine Moves.call (stepEvent_moves _ _ _ _ _ _) (by decide) ?_
  exact hz3

theorem finishIfDone_moves (s : State) (c : Nat) : Moves 138544956 s (finishIfDone s c) := by
  unfold finishIfDone
  split
  · refine Moves.ite (fun _ => ?_) (fun _ => ?_)
    · refine Moves.call (contributeDone_moves _ _ _) (by decide) ?_
      exact Moves.refl
    · exact Moves.refl
  · exact Moves.refl

theorem partnerLost_moves (s : State) : Moves 134218296 s (partnerLost s) := by
  unfold partnerLost
  extract_lets +onlyGivenNames z0; clear_value z0
  extract_lets +onlyGivenNames z1
  have hz1 : Moves 134218296 s z1 := by
    unfold z1
    refine Moves.call (regSatAdd_moves _ _ _ _ _) (by decide) ?_
    refine Moves.call (regPut_moves _ _ _ _ _) (by decide) ?_
    refine Moves.call (regPut_moves _ _ _ _ _) (by decide) ?_
    exact Moves.refl
  clear_value z1
  refine Moves.ite (fun _ => ?_) (fun _ => ?_)
  · exact hz1
  · refine Moves.foldl (fun a2 _ => ?_) ?_
    · refine Moves.foldl (fun a3 _ => ?_) ?_
      · extract_lets +onlyGivenNames z4; clear_value z4
        extract_lets +onlyGivenNames z5; clear_value z5
        extract_lets +onlyGivenNames z6; clear_value z6
        extract_lets +onlyGivenNames z7
        have hz7 : Moves 134218296 a3 z7 := by
          unfold z7
          refine Moves.call (eventAppend_moves _ _ _ _ _ _ _) (by decide) ?_
          exact Moves.refl
        clear_value z7
        extract_lets +onlyGivenNames z8; clear_value z8
        refine Moves.ite (fun _ => ?_) (fun _ => ?_)
        · refine Moves.record ?_
          exact hz7
        · exact Moves.refl
      · exact Moves.refl
    · exact hz1

theorem digestDecide_moves (s : State) (c : Nat) (r : StepRun) (outcome : Nat) (v : Nat) : Moves 138544956 s (digestDecide s c r outcome v) := by
  unfold digestDecide
  extract_lets +onlyGivenNames z0
  have hz0 : Moves 138544956 s z0 := by
    unfold z0
    refine Moves.call (regPut_moves _ _ _ _ _) (by decide) ?_
    exact Moves.refl
  clear_value z0
  extract_lets +onlyGivenNames z1
  have hz1 : Moves 138544956 s z1 := by
    unfold z1
    refine Moves.call (logEvent_moves _ _ _ _ _ _) (by decide) ?_
    refine Moves.call (regSatAdd_moves _ _ _ _ _) (by decide) ?_
    exact hz0
  clear_value z1
  extract_lets +onlyGivenNames z2; clear_value z2
  extract_lets +onlyGivenNames z3; clear_value z3
  extract_lets +onlyGivenNames z4
  have hz4 : Moves 138544956 s z4 := by
    unfold z4
    refine Moves.ite (fun _ => ?_) (fun _ => ?_)
    · refine Moves.call (twinOut_moves _) (by decide) ?_
      refine Moves.call (regPut_moves _ _ _ _ _) (by decide) ?_
      exact hz1
    · refine Moves.ite (fun _ => ?_) (fun _ => ?_)
      · refine Moves.call (regPut_moves _ _ _ _ _) (by decide) ?_
        refine Moves.call (partnerLost_moves _) (by decide) ?_
        exact hz1
      · refine Moves.call (regPut_moves _ _ _ _ _) (by decide) ?_
        refine Moves.call (regPut_moves _ _ _ _ _) (by decide) ?_
        exact hz1
  clear_value z4
  refine Moves.ite (fun _ => ?_) (fun _ => ?_)
  · refine Moves.call (contributeDone_moves _ _ _) (by decide) ?_
    refine Moves.call (partnerLost_moves _) (by decide) ?_
    exact hz0
  · refine Moves.ite (fun _ => ?_) (fun _ => ?_)
    · refine Moves.call (contributeDone_moves _ _ _) (by decide) ?_
      exact hz0
    · refine Moves.call (stepFail_moves _ _ _ _ _) (by decide) ?_
      exact hz4

theorem digestResult_moves (s : State) (num : Nat) (outcome : Nat) (v : Nat) : Moves 138544956 s (digestResult s num outcome v) := by
  unfold digestResult
  refine Moves.foldl (fun a0 _ => ?_) ?_
  · split
    · refine Moves.call (digestDecide_moves _ _ _ _ _) (by decide) ?_
      exact Moves.refl
    · exact Moves.refl
  · exact Moves.refl

theorem doneDecide_moves (s : State) (c : Nat) (r : StepRun) (outcome : Nat) (v : Nat) (lost : Nat) : Moves 138434552 s (doneDecide s c r outcome v lost) :=
      by
  unfold doneDecide
  refine Moves.ite (fun _ => ?_) (fun _ => ?_)
  · refine Moves.call (stepEnd_moves _ _ _ _ _ _) (by decide) ?_
    exact Moves.refl
  · refine Moves.ite (fun _ => ?_) (fun _ => ?_)
    · refine Moves.call (stepEnd_moves _ _ _ _ _ _) (by decide) ?_
      exact Moves.refl
    · split
      · refine Moves.call (stepEnd_moves _ _ _ _ _ _) (by decide) ?_
        exact Moves.refl
      · refine Moves.call (stepEnd_moves _ _ _ _ _ _) (by decide) ?_
        exact Moves.refl

theorem writeReport_moves (s : State) (c : Nat) (r : StepRun) (started : Nat) : Moves 138429432 s (writeReport s c r started) := by
  unfold writeReport
  refine Moves.call (memStoreClean_moves _ _ _) (by decide) ?_
  exact Moves.refl

theorem readyDecide_moves (s : State) (c : Nat) (r : StepRun) (outcome : Nat) (v : Nat) (lost : Nat) : Moves 138434552 s (readyDecide s c r outcome v lost) :=
      by
  unfold readyDecide
  extract_lets +onlyGivenNames z0; clear_value z0
  extract_lets +onlyGivenNames z1; clear_value z1
  extract_lets +onlyGivenNames z2
  have hz2 : Moves 138434552 s z2 := by
    unfold z2
    refine Moves.call (writeReport_moves _ _ _ _) (by decide) ?_
    refine Moves.call (stepPut_moves _ _ _) (by decide) ?_
    exact Moves.refl
  clear_value z2
  extract_lets +onlyGivenNames z3; clear_value z3
  refine Moves.ite (fun _ => ?_) (fun _ => ?_)
  · refine Moves.call (stepEnd_moves _ _ _ _ _ _) (by decide) ?_
    exact Moves.refl
  · refine Moves.ite (fun _ => ?_) (fun _ => ?_)
    · refine Moves.call (stepEnd_moves _ _ _ _ _ _) (by decide) ?_
      exact Moves.refl
    · refine Moves.ite (fun _ => ?_) (fun _ => ?_)
      · refine Moves.call (writeWord_moves _ _ _ _ _ _) (by decide) ?_
        refine Moves.call (stepPut_moves _ _ _) (by decide) ?_
        exact Moves.refl
      · refine Moves.ite (fun _ => ?_) (fun _ => ?_)
        · refine Moves.call (stepEnd_moves _ _ _ _ _ _) (by decide) ?_
          exact Moves.refl
        · refine Moves.call (logEvent_moves _ _ _ _ _ _) (by decide) ?_
          refine Moves.call (planSet_moves _ _ _) (by decide) ?_
          exact hz2

theorem voteResult_moves (s : State) (g : Nat) (num : Nat) (outcome : Nat) (v : Nat) (lost : Nat) : Moves 138434552 s (voteResult s g num outcome v lost) :=
      by
  unfold voteResult
  refine Moves.foldl (fun a0 _ => ?_) ?_
  · split
    · exact Moves.refl
    · split
      · refine Moves.ite (fun _ => ?_) (fun _ => ?_)
        · refine Moves.call (readyDecide_moves _ _ _ _ _ _) (by decide) ?_
          exact Moves.refl
        · refine Moves.call (doneDecide_moves _ _ _ _ _ _) (by decide) ?_
          exact Moves.refl
      · exact Moves.refl
  · exact Moves.refl

theorem deadlinePass_moves (s : State) (g : Nat) (m : Nat) : Moves 138827772 s (deadlinePass s g m) := by
  unfold deadlinePass
  extract_lets +onlyGivenNames z0; clear_value z0
  split
  extract_lets +onlyGivenNames z1
  have hz1 : Moves 138827772 s z1 := by
    unfold z1
    refine Moves.foldl (fun a2 _ => ?_) ?_
    · refine Moves.ite (fun _ => ?_) (fun _ => ?_)
      · refine Moves.call (collEnd_moves _ _ _ _) (by decide) ?_
        exact Moves.refl
      · exact Moves.refl
    · refine Moves.call (Moves.of_fst (by assumption) (strumDeadline_moves _ _ _)) (by decide) ?_
      exact Moves.refl
  clear_value z1
  refine Moves.ite (fun _ => ?_) (fun _ => ?_)
  · refine Moves.call (Moves.of_fst (by assumption) (strumDeadline_moves _ _ _)) (by decide) ?_
    exact Moves.refl
  · refine Moves.ite (fun _ => ?_) (fun _ => ?_)
    · refine Moves.call (digestResult_moves _ _ _ _) (by decide) ?_
      refine Moves.call (Moves.of_fst (by assumption) (strumDeadline_moves _ _ _)) (by decide) ?_
      exact Moves.refl
    · refine Moves.call (voteResult_moves _ _ _ _ _ _) (by decide) ?_
      exact hz1

theorem resultArrive_moves (s : State) (p : Packet) : Moves 138827772 s (resultArrive s p) := by
  unfold resultArrive
  split
  · refine Moves.ite (fun _ => ?_) (fun _ => ?_)
    · refine Moves.call (strumDiscard_moves _ _) (by decide) ?_
      exact Moves.refl
    · refine Moves.call (resultStray_moves _ _) (by decide) ?_
      exact Moves.refl
  · extract_lets +onlyGivenNames z0
    have hz0 : Moves 138827772 s z0 := by
      unfold z0
      refine Moves.foldl (fun a1 _ => ?_) ?_
      · refine Moves.call (collGuardResult_moves _ _ _ _ _) (by decide) ?_
        exact Moves.refl
      · refine Moves.call (strumResult_moves _ _ _ (by assumption)) (by decide) ?_
        exact Moves.refl
    clear_value z0
    refine Moves.ite (fun _ => ?_) (fun _ => ?_)
    · refine Moves.call (strumResult_moves _ _ _ (by assumption)) (by decide) ?_
      exact Moves.refl
    · refine Moves.ite (fun _ => ?_) (fun _ => ?_)
      · refine Moves.call (digestResult_moves _ _ _ _) (by decide) ?_
        refine Moves.call (strumResult_moves _ _ _ (by assumption)) (by decide) ?_
        exact Moves.refl
      · refine Moves.call (voteResult_moves _ _ _ _ _ _) (by decide) ?_
        exact hz0

theorem resyncVote_moves (s : State) (step : Nat) : Moves 134217744 s (resyncVote s step) := by
  unfold resyncVote
  split
  · extract_lets +onlyGivenNames z0; clear_value z0
    refine Moves.ite (fun _ => ?_) (fun _ => ?_)
    · refine Moves.record ?_
      exact Moves.refl
    · exact Moves.refl
  · refine Moves.ite (fun _ => ?_) (fun _ => ?_)
    · refine Moves.call (regPut_moves _ _ _ _ _) (by decide) ?_
      exact Moves.refl
    · exact Moves.refl

theorem resyncStart_moves (s : State) (step : Nat) : Moves 134217744 s (resyncStart s step) := by
  unfold resyncStart
  extract_lets +onlyGivenNames z0; clear_value z0
  extract_lets +onlyGivenNames z1
  have hz1 : ∀ x0, Moves 134217744 s (z1 x0) := by
    intro x0
    unfold z1
    refine Moves.call (regSatAdd_moves _ _ _ _ _) (by decide) ?_
    refine Moves.call (regPut_moves _ _ _ _ _) (by decide) ?_
    refine Moves.call (regPut_moves _ _ _ _ _) (by decide) ?_
    refine Moves.record ?_
    exact Moves.refl
  clear_value z1
  refine Moves.ite (fun _ => ?_) (fun _ => ?_)
  · exact Moves.refl
  · split
    · refine Moves.ite (fun _ => ?_) (fun _ => ?_)
      · exact hz1 _
      · exact Moves.refl
    · refine Moves.ite (fun _ => ?_) (fun _ => ?_)
      · exact hz1 _
      · exact Moves.refl

end Sys2Proof.Laws
end

