-- ==== Sys2Proof/Laws/FramePurge.lean ====
section
/-! SUPPORT. What each function of Machine/Purge.lean may change, and that it keeps the canonical form: its frame law. -/

namespace Sys2Proof.Laws

set_option Elab.async false

open Sys2Proof Sys2Proof.Machine Sys2Proof.Safety

theorem chansEmpty_moves (s : State) (p : ChanRec → Bool) : Moves 134221832 s (chansEmpty s p) := by
  unfold chansEmpty
  split
  · exact Moves.refl
  · refine Moves.foldl (fun a0 _ => ?_) ?_
    · extract_lets +onlyGivenNames z1
      have hz1 : Moves 134221832 a0 z1 := by
        unfold z1
        refine Moves.call (tileMod_moves _ _ _) (by decide) ?_
        exact Moves.refl
      clear_value z1
      refine Moves.call (inject_moves _ _ _) (by decide) ?_
      exact hz1
    · exact Moves.refl

theorem collPurge_moves (s : State) (c : Nat) : Moves 262144 s (collPurge s c) := by
  unfold collPurge
  refine Moves.record ?_
  exact Moves.refl

theorem enginesPurge_moves (s : State) (c : Nat) : Moves 32768 s (enginesPurge s c) := by
  unfold enginesPurge
  refine Moves.foldl (fun a0 _ => ?_) ?_
  · extract_lets +onlyGivenNames z1; clear_value z1
    refine Moves.ite (fun _ => ?_) (fun _ => ?_)
    · refine Moves.call (engMod_moves _ _ _) (by decide) ?_
      exact Moves.refl
    · exact Moves.refl
  · exact Moves.refl

theorem reloadInstr_moves (s : State) (t : Nat) : Moves 4096 s (reloadInstr s t) := by
  unfold reloadInstr
  split
  · refine Moves.call (tileMod_moves _ _ _) (by decide) ?_
    exact Moves.refl
  · exact Moves.refl

theorem enginesClear_moves (s : State) : Moves 32768 s (enginesClear s) := by
  unfold enginesClear
  refine Moves.record ?_ (cengs := fun h => mapRising_map _ (by intro _; rfl) _ h)
  exact Moves.refl

theorem imageCount_moves (s : State) : Moves 16 s (imageCount s) := by
  unfold imageCount
  extract_lets +onlyGivenNames z0; clear_value z0
  extract_lets +onlyGivenNames z1; clear_value z1
  refine Moves.call (regPut_moves _ _ _ _ _) (by decide) ?_
  refine Moves.call (regPut_moves _ _ _ _ _) (by decide) ?_
  exact Moves.refl

end Sys2Proof.Laws
end

