-- ==== Sys2Proof/Laws/FramePlan.lean ====
section
/-! SUPPORT. What each function of Machine/Plan.lean may change, and that it keeps the canonical form: its frame law. -/

namespace Sys2Proof.Laws

set_option Elab.async false

open Sys2Proof Sys2Proof.Machine Sys2Proof.Safety

theorem abortLose_moves (s : State) (c : Nat) (gs : List Nat) : Moves 138543928 s (abortLose s c gs) := by
  unfold abortLose
  split
  · refine Moves.foldl (fun a0 _ => ?_) ?_
    · refine Moves.ite (fun _ => ?_) (fun _ => ?_)
      · exact Moves.refl
      · refine Moves.call (groupLose_moves _ _ _ _) (by decide) ?_
        exact Moves.refl
    · exact Moves.refl
  · exact Moves.refl

theorem collDrop_moves (s : State) (g : Nat) : Moves 266240 s (collDrop s g) := by
  unfold collDrop
  extract_lets +onlyGivenNames z0
  have hz0 : Moves 266240 s z0 := by
    unfold z0
    refine Moves.call (tilesMod_moves _ _ _) (by decide) ?_
    exact Moves.refl
  clear_value z0
  refine Moves.record ?_
  exact hz0

theorem gangStop_moves (s : State) (g : Nat) : Moves 274432 s (gangStop s g) := by
  unfold gangStop
  extract_lets +onlyGivenNames z0; clear_value z0
  extract_lets +onlyGivenNames z1
  have hz1 : Moves 274432 s z1 := by
    unfold z1
    refine Moves.call (tilesMod_moves _ _ _) (by decide) ?_
    exact Moves.refl
  clear_value z1
  refine Moves.call (gangSet_moves _ _ _) (by decide) ?_
  refine Moves.call (collDrop_moves _ _) (by decide) ?_
  exact hz1

theorem abortStop_moves (s : State) (c : Nat) (r : StepRun) : Moves 138819388 s (abortStop s c r) := by
  unfold abortStop
  extract_lets +onlyGivenNames z0
  have hz0 : Moves 138819388 s z0 := by
    unfold z0
    refine Moves.foldl (fun a1 _ => ?_) ?_
    · refine Moves.call (gangStop_moves _ _) (by decide) ?_
      exact Moves.refl
    · exact Moves.refl
  clear_value z0
  extract_lets +onlyGivenNames z2
  have hz2 : Moves 138819388 s z2 := by
    unfold z2
    refine Moves.call (abortLose_moves _ _ _) (by decide) ?_
    exact hz0
  clear_value z2
  refine Moves.call (contributeDone_moves _ _ _) (by decide) ?_
  exact hz2

theorem drainGang_moves (s : State) (g : Nat) : Moves 8192 s (drainGang s g) := by
  unfold drainGang
  extract_lets +onlyGivenNames z0; clear_value z0
  refine Moves.ite (fun _ => ?_) (fun _ => ?_)
  · refine Moves.call (gangSet_moves _ _ _) (by decide) ?_
    exact Moves.refl
  · exact Moves.refl

theorem abortRunning_moves (s : State) (c : Nat) (r : StepRun) : Moves 138819388 s (abortRunning s c r) := by
  unfold abortRunning
  extract_lets +onlyGivenNames z0; clear_value z0
  extract_lets +onlyGivenNames z1
  have hz1 : Moves 138819388 s z1 := by
    unfold z1
    refine Moves.foldl (fun a2 _ => ?_) ?_
    · refine Moves.call (drainGang_moves _ _) (by decide) ?_
      exact Moves.refl
    · exact Moves.refl
  clear_value z1
  extract_lets +onlyGivenNames z3; clear_value z3
  extract_lets +onlyGivenNames z4; clear_value z4
  refine Moves.ite (fun _ => ?_) (fun _ => ?_)
  · refine Moves.call (abortStop_moves _ _ _) (by decide) ?_
    exact Moves.refl
  · refine Moves.record ?_
    exact hz1

theorem abortStatus_moves (s : State) (c : Nat) (result : Nat) : Moves 16 s (abortStatus s c result) := by
  unfold abortStatus
  refine Moves.call (regSet_moves _ _ _) (by decide) ?_
  exact Moves.refl

theorem acceptRecord_moves (s : State) (c : Nat) (slot : Nat) (bs : List Byte) : Moves 138430456 s (acceptRecord s c slot bs) := by
  unfold acceptRecord
  extract_lets +onlyGivenNames z0; clear_value z0
  extract_lets +onlyGivenNames z1; clear_value z1
  refine Moves.call (memStoreClean_moves _ _ _) (by decide) ?_
  refine Moves.call (planSet_moves _ _ _) (by decide) ?_
  exact Moves.refl

theorem freezeGangs_moves (s : State) (c : Nat) : Moves 12288 s (freezeGangs s c) := by
  unfold freezeGangs
  refine Moves.foldl (fun a0 _ => ?_) ?_
  · extract_lets +onlyGivenNames z1; clear_value z1
    refine Moves.ite (fun _ => ?_) (fun _ => ?_)
    · refine Moves.call (gangSet_moves _ _ _) (by decide) ?_
      refine Moves.call (tilesMod_moves _ _ _) (by decide) ?_
      exact Moves.refl
    · exact Moves.refl
  · exact Moves.refl

theorem gangBegin_moves (s : State) (r : StepRun) (g : Nat) (entry : Nat) : Moves 12288 s (gangBegin s r g entry) := by
  unfold gangBegin
  extract_lets +onlyGivenNames z0
  have hz0 : Moves 12288 s z0 := by
    unfold z0
    refine Moves.call (tilesMod_moves _ _ _) (by decide) ?_
    exact Moves.refl
  clear_value z0
  refine Moves.call (gangSet_moves _ _ _) (by decide) ?_
  exact hz0

theorem classBegin_moves (s : State) (c : Nat) (r : StepRun) (k : Nat) : Moves 138557244 s (classBegin s c r k) := by
  unfold classBegin
  extract_lets +onlyGivenNames z0
  have hz0 : Moves 138557244 s z0 := by
    unfold z0
    refine Moves.foldl (fun a1 _ => ?_) ?_
    · refine Moves.call (gangBegin_moves _ _ _ _) (by decide) ?_
      exact Moves.refl
    · exact Moves.refl
  clear_value z0
  refine Moves.call (finishIfDone_moves _ _) (by decide) ?_
  refine Moves.call (stepPut_moves _ _ _) (by decide) ?_
  exact hz0

theorem execExceptionNotification_moves (g : Nat) (s : State) : MovesN 139114300 s (execExceptionNotification g s) := by
  unfold execExceptionNotification
  extract_lets +onlyGivenNames z0; clear_value z0
  split
  extract_lets +onlyGivenNames z1; clear_value z1
  split
  · extract_lets +onlyGivenNames z2
    have hz2 : Moves 139114300 s z2 := by
      unfold z2
      refine Moves.call (stepFail_moves _ _ _ _ _) (by decide) ?_
      refine Moves.call (freezeGangs_moves _ _) (by decide) ?_
      exact Moves.refl
    clear_value z2
    refine MovesN.ite (fun _ => ?_) (fun _ => ?_)
    · refine MovesN.next ?_
      refine Moves.call (raiseTrigger_moves _ _ _) (by decide) ?_
      exact hz2
    · refine MovesN.next ?_
      exact Moves.refl
  · refine MovesN.next ?_
    exact Moves.refl

theorem execGangEndReport_moves (g : Nat) (s : State) : MovesN 138557244 s (execGangEndReport g s) := by
  unfold execGangEndReport
  extract_lets +onlyGivenNames z0
  have hz0 : Moves 138557244 s z0 := by
    unfold z0
    refine Moves.call (tilesMod_moves _ _ _) (by decide) ?_
    exact Moves.refl
  clear_value z0
  refine MovesN.ite (fun _ => ?_) (fun _ => ?_)
  · refine MovesN.next ?_
    refine Moves.call (finishIfDone_moves _ _) (by decide) ?_
    refine Moves.call (gangSet_moves _ _ _) (by decide) ?_
    exact hz0
  · refine MovesN.next ?_
    exact Moves.refl

theorem refuseRecord_moves (s : State) (c : Nat) (slot : Nat) (reason : Nat) (detail : Nat) : Moves 138430456 s (refuseRecord s c slot reason detail) := by
  unfold refuseRecord
  extract_lets +onlyGivenNames z0; clear_value z0
  extract_lets +onlyGivenNames z1
  have hz1 : Moves 138430456 s z1 := by
    unfold z1
    refine Moves.call (planSet_moves _ _ _) (by decide) ?_
    exact Moves.refl
  clear_value z1
  refine Moves.call (memStoreClean_moves _ _ _) (by decide) ?_
  refine Moves.call (memStoreClean_moves _ _ _) (by decide) ?_
  exact hz1

theorem scanCtx_moves (s : State) (c : Nat) : Moves 138430456 s (scanCtx s c) := by
  unfold scanCtx
  extract_lets +onlyGivenNames z0; clear_value z0
  extract_lets +onlyGivenNames z1; clear_value z1
  extract_lets +onlyGivenNames z2; clear_value z2
  extract_lets +onlyGivenNames z3
  have hz3 : Moves 138430456 s z3 := by
    unfold z3
    refine Moves.call (linesReadEffects_moves _ _) (by decide) ?_
    exact Moves.refl
  clear_value z3
  extract_lets +onlyGivenNames z4
  have hz4 : Moves 138430456 s z4 := by
    unfold z4
    split
    · refine Moves.call (refuseRecord_moves _ _ _ _ _) (by decide) ?_
      exact hz3
    · refine Moves.call (acceptRecord_moves _ _ _ _) (by decide) ?_
      exact hz3
  clear_value z4
  extract_lets +onlyGivenNames z5; clear_value z5
  refine Moves.ite (fun _ => ?_) (fun _ => ?_)
  · exact Moves.refl
  · refine Moves.ite (fun _ => ?_) (fun _ => ?_)
    · exact hz3
    · refine Moves.call (planSet_moves _ _ _) (by decide) ?_
      exact hz4

theorem planScan_moves (s : State) : Moves 138430456 s (planScan s) := by
  unfold planScan
  extract_lets +onlyGivenNames z0
  have hz0 : Moves 138430456 s z0 := by
    unfold z0
    refine Moves.foldl (fun a1 _ => ?_) ?_
    · refine Moves.call (scanCtx_moves _ _) (by decide) ?_
      exact Moves.refl
    · exact Moves.refl
  clear_value z0
  extract_lets +onlyGivenNames z2; clear_value z2
  refine Moves.record ?_
  exact hz0

theorem execImageBlockArrival_moves (p : Packet) (s : State) : MovesN 4096 s (execImageBlockArrival p s) := by
  unfold execImageBlockArrival
  extract_lets +onlyGivenNames z0; clear_value z0
  extract_lets +onlyGivenNames z1; clear_value z1
  extract_lets +onlyGivenNames z2; clear_value z2
  refine MovesN.ite (fun _ => ?_) (fun _ => ?_)
  · refine MovesN.next ?_
    exact Moves.refl
  · refine MovesN.next ?_
    refine Moves.foldl (fun a3 _ => ?_) ?_
    · split
      · refine Moves.ite (fun _ => ?_) (fun _ => ?_)
        · refine Moves.call (tileMod_moves _ _ _) (by decide) ?_
          exact Moves.refl
        · exact Moves.refl
      · exact Moves.refl
    · exact Moves.refl

theorem execImageBlockPull_moves (tile : Nat) (lost : List Nat) (s : State) : MovesN 138416952 s (execImageBlockPull tile lost s) := by
  unfold execImageBlockPull
  split
  · refine MovesN.next ?_
    exact Moves.refl
  · extract_lets +onlyGivenNames z0; clear_value z0
    extract_lets +onlyGivenNames z1
    have hz1 : Moves 138416952 s z1 := by
      unfold z1
      refine Moves.call (tileMod_moves _ _ _) (by decide) ?_
      exact Moves.refl
    clear_value z1
    extract_lets +onlyGivenNames z2
    have hz2 : Moves 138416952 s z2 := by
      unfold z2
      refine Moves.call (regSatAdd_moves _ _ _ _ _) (by decide) ?_
      exact hz1
    clear_value z2
    extract_lets +onlyGivenNames z3; clear_value z3
    extract_lets +onlyGivenNames z4
    have hz4 : Moves 138416952 s z4 := by
      unfold z4
      refine Moves.call (regPut_moves _ _ _ _ _) (by decide) ?_
      exact hz2
    clear_value z4
    refine MovesN.ite (fun _ => ?_) (fun _ => ?_)
    · refine MovesN.next ?_
      exact Moves.refl
    · refine MovesN.ite (fun _ => ?_) (fun _ => ?_)
      · refine MovesN.next ?_
        refine Moves.call (imageCount_moves _) (by decide) ?_
        refine Moves.call (tileMod_moves _ _ _) (by decide) ?_
        exact hz2
      · refine MovesN.next ?_
        refine Moves.call (logEvent_moves _ _ _ _ _ _) (by decide) ?_
        exact hz4

theorem execImageDelivery_moves (s : State) : MovesN 134218776 s (execImageDelivery s) := by
  unfold execImageDelivery
  split
  · refine MovesN.next ?_
    exact Moves.refl
  · extract_lets +onlyGivenNames z0
    have hz0 : Moves 134218776 s z0 := by
      unfold z0
      refine Moves.foldl (fun a1 _ => ?_) ?_
      · split
        refine Moves.foldl (fun a2 _ => ?_) ?_
        · refine Moves.foldl (fun a3 _ => ?_) ?_
          · refine Moves.call (inject_moves _ _ _) (by decide) ?_
            exact Moves.refl
          · exact Moves.refl
        · exact Moves.refl
      · exact Moves.refl
    clear_value z0
    extract_lets +onlyGivenNames z4; clear_value z4
    refine MovesN.ite (fun _ => ?_) (fun _ => ?_)
    · refine MovesN.next ?_
      exact Moves.refl
    · refine MovesN.next ?_
      refine Moves.call (imageCount_moves _) (by decide) ?_
      refine Moves.record ?_
      exact hz0

theorem execPlanScan_moves (s : State) : MovesN 138430456 s (execPlanScan s) := by
  unfold execPlanScan
  refine MovesN.ite (fun _ => ?_) (fun _ => ?_)
  · refine MovesN.next ?_
    refine Moves.call (planScan_moves _) (by decide) ?_
    exact Moves.refl
  · refine MovesN.next ?_
    exact Moves.refl

theorem execPreemptionBoundExpiry_moves (set : Nat) (gang : Nat) (s : State) : MovesN 139867964 s (execPreemptionBoundExpiry set gang s) := by
  unfold execPreemptionBoundExpiry
  split
  · extract_lets +onlyGivenNames z0; clear_value z0
    extract_lets +onlyGivenNames z1
    extract_lets +onlyGivenNames z2
    have hz2 : Moves 139867964 s z2 := by
      unfold z2
      refine Moves.ite (fun _ => ?_) (fun _ => ?_)
      · exact Moves.refl
      · refine Moves.call (routerCtxReset_moves _ _) (by decide) ?_
        refine Moves.call (regAdd_moves _ _ _) (by decide) ?_
        exact Moves.refl
    clear_value z2
    refine MovesN.ite (fun _ => ?_) (fun _ => ?_)
    · refine MovesN.next ?_
      exact Moves.refl
    · split
      · refine MovesN.next ?_
        refine Moves.call (abortStop_moves _ _ _) (by decide) ?_
        exact hz2
      · refine MovesN.next ?_
        refine Moves.call (collDrop_moves _ _) (by decide) ?_
        exact hz2
  · refine MovesN.next ?_
    exact Moves.refl

theorem execRampFillStart_moves (ctx : Nat) (s : State) : MovesN 1024 s (execRampFillStart ctx s) := by
  unfold execRampFillStart
  split
  · extract_lets +onlyGivenNames z0; clear_value z0
    refine MovesN.ite (fun _ => ?_) (fun _ => ?_)
    · refine MovesN.next ?_
      refine Moves.call (stepPut_moves _ _ _) (by decide) ?_
      exact Moves.refl
    · refine MovesN.next ?_
      exact Moves.refl
  · refine MovesN.next ?_
    exact Moves.refl

theorem execReadinessResultTimeout_moves (ctx : Nat) (s : State) : MovesN 138434552 s (execReadinessResultTimeout ctx s) := by
  unfold execReadinessResultTimeout
  split
  · refine MovesN.ite (fun _ => ?_) (fun _ => ?_)
    · refine MovesN.next ?_
      refine Moves.call (readyDecide_moves _ _ _ _ _ _) (by decide) ?_
      exact Moves.refl
    · refine MovesN.next ?_
      exact Moves.refl
  · refine MovesN.next ?_
    exact Moves.refl

theorem execReadinessVote_moves (ctx : Nat) (s : State) : MovesN 138544952 s (execReadinessVote ctx s) := by
  unfold execReadinessVote
  split
  · extract_lets +onlyGivenNames z0; clear_value z0
    refine MovesN.ite (fun _ => ?_) (fun _ => ?_)
    · refine MovesN.next ?_
      exact Moves.refl
    · split
      refine MovesN.next ?_
      refine Moves.call (stepPut_moves _ _ _) (by decide) ?_
      refine Moves.call (Moves.of_fst (by assumption) (contribute_moves _ _ _)) (by decide) ?_
      refine Moves.call (resyncVote_moves _ _) (by decide) ?_
      exact Moves.refl
  · refine MovesN.next ?_
    exact Moves.refl

theorem stepAbort_moves (c : Nat) (step : Nat) (s : State) : Moves 138819388 s (stepAbort c step s) := by
  unfold stepAbort
  split
  · extract_lets +onlyGivenNames z0; clear_value z0
    extract_lets +onlyGivenNames z1
    have hz1 : Moves 138819388 s z1 := by
      unfold z1
      refine Moves.call (abortStatus_moves _ _ _) (by decide) ?_
      refine Moves.call (stepPut_moves _ _ _) (by decide) ?_
      exact Moves.refl
    clear_value z1
    refine Moves.ite (fun _ => ?_) (fun _ => ?_)
    · refine Moves.call (abortStatus_moves _ _ _) (by decide) ?_
      exact Moves.refl
    · refine Moves.ite (fun _ => ?_) (fun _ => ?_)
      · refine Moves.call (abortRunning_moves _ _ _) (by decide) ?_
        exact hz1
      · exact hz1
  · refine Moves.call (abortStatus_moves _ _ _) (by decide) ?_
    exact Moves.refl

theorem execStaggerClassStart_moves (ctx : Nat) (s : State) : MovesN 138557244 s (execStaggerClassStart ctx s) := by
  unfold execStaggerClassStart
  split
  · refine MovesN.ite (fun _ => ?_) (fun _ => ?_)
    · refine MovesN.next ?_
      refine Moves.call (classBegin_moves _ _ _ _) (by decide) ?_
      exact Moves.refl
    · refine MovesN.next ?_
      exact Moves.refl
  · refine MovesN.next ?_
    exact Moves.refl

theorem execStepAbort_moves (ctx : Nat) (s : State) : MovesN 138819388 s (execStepAbort ctx s) := by
  unfold execStepAbort
  refine MovesN.next ?_
  refine Moves.trans ?_ (hostWrite_moves (by decide) (fun a0 => ?_))
  · exact Moves.refl
  · refine Moves.call (stepAbort_moves _ _ _) (by decide) ?_
    exact Moves.refl

theorem execStepDeadline_moves (ctx : Nat) (s : State) : MovesN 139114300 s (execStepDeadline ctx s) := by
  unfold execStepDeadline
  split
  · extract_lets +onlyGivenNames z0
    have hz0 : Moves 139114300 s z0 := by
      unfold z0
      refine Moves.call (stepFail_moves _ _ _ _ _) (by decide) ?_
      refine Moves.call (freezeGangs_moves _ _) (by decide) ?_
      exact Moves.refl
    clear_value z0
    refine MovesN.ite (fun _ => ?_) (fun _ => ?_)
    · refine MovesN.next ?_
      refine Moves.call (raiseTrigger_moves _ _ _) (by decide) ?_
      exact hz0
    · refine MovesN.next ?_
      exact Moves.refl
  · refine MovesN.next ?_
    exact Moves.refl

theorem stepClear_moves (s : State) (c : Nat) : Moves 4096 s (stepClear s c) := by
  unfold stepClear
  refine Moves.call (tilesMod_moves _ _ _) (by decide) ?_
  exact Moves.refl

theorem execStepStart_moves (ctx : Nat) (s : State) : MovesN 139130876 s (execStepStart ctx s) := by
  unfold execStepStart
  split
  · refine MovesN.ite (fun _ => ?_) (fun _ => ?_)
    · refine MovesN.next ?_
      exact Moves.refl
    · split
      · extract_lets +onlyGivenNames z0
        have hz0 : Moves 139130876 s z0 := by
          unfold z0
          refine Moves.call (stepFail_moves _ _ _ _ _) (by decide) ?_
          exact Moves.refl
        clear_value z0
        refine MovesN.next ?_
        refine Moves.call (raiseTrigger_moves _ _ _) (by decide) ?_
        exact hz0
      · extract_lets +onlyGivenNames z1; clear_value z1
        refine MovesN.ite (fun _ => ?_) (fun _ => ?_)
        · refine MovesN.next ?_
          refine Moves.call (contributeDone_moves _ _ _) (by decide) ?_
          exact Moves.refl
        · refine MovesN.next ?_
          refine Moves.call (classBegin_moves _ _ _ _) (by decide) ?_
          refine Moves.call (resyncStart_moves _ _) (by decide) ?_
          refine Moves.call (writeReport_moves _ _ _ _) (by decide) ?_
          refine Moves.call (stepClear_moves _ _) (by decide) ?_
          refine Moves.call (stepPut_moves _ _ _) (by decide) ?_
          exact Moves.refl
  · refine MovesN.next ?_
    exact Moves.refl

theorem execStepWake_moves (ctx : Nat) (s : State) : MovesN 5120 s (execStepWake ctx s) := by
  unfold execStepWake
  split
  · extract_lets +onlyGivenNames z0
    have hz0 : Moves 5120 s z0 := by
      unfold z0
      refine Moves.call (stepPut_moves _ _ _) (by decide) ?_
      exact Moves.refl
    clear_value z0
    refine MovesN.next ?_
    refine Moves.call (tilesMod_moves _ _ _) (by decide) ?_
    exact hz0
  · refine MovesN.next ?_
    exact Moves.refl

theorem execStrumDeadline_moves (group : Nat) (member : Nat) (s : State) : MovesN 138827772 s (execStrumDeadline group member s) := by
  unfold execStrumDeadline
  refine MovesN.next ?_
  refine Moves.call (deadlinePass_moves _ _ _) (by decide) ?_
  exact Moves.refl

theorem execStrumResultArrival_moves (p : Packet) (s : State) : MovesN 138827772 s (execStrumResultArrival p s) := by
  unfold execStrumResultArrival
  refine MovesN.ite (fun _ => ?_) (fun _ => ?_)
  · refine MovesN.next ?_
    exact Moves.refl
  · refine MovesN.next ?_
    refine Moves.call (resultArrive_moves _ _) (by decide) ?_
    exact Moves.refl

theorem execTilePllLock_moves (tile : Nat) (s : State) : MovesN 4096 s (execTilePllLock tile s) := by
  unfold execTilePllLock
  refine MovesN.next ?_
  refine Moves.call (tileMod_moves _ _ _) (by decide) ?_
  exact Moves.refl

end Sys2Proof.Laws
end

