-- ==== Sys2Proof/Laws/FrameRecords.lean ====
section
/-! SUPPORT. What each function of Machine/Records.lean may change, and that it keeps the canonical form: its frame law. -/

namespace Sys2Proof.Laws

set_option Elab.async false

open Sys2Proof Sys2Proof.Machine Sys2Proof.Safety

theorem mgmt_moves (s : State) (f : MgmtSt → MgmtSt) : Moves 268435456 s (mgmt s f) := by
  unfold mgmt
  refine Moves.record ?_
  exact Moves.refl

theorem dropFrame_moves (s : State) : Moves 16 s (dropFrame s) := by
  unfold dropFrame
  refine Moves.call (regAdd_moves _ _ _) (by decide) ?_
  exact Moves.refl

theorem reply_moves (s : State) (r : Request) (cmd : Nat) (status : Nat) (body : List Byte) : Moves 8 s (reply s r cmd status body) := by
  unfold reply
  refine Moves.call (emit_moves _ _) (by decide) ?_
  exact Moves.refl

theorem sessionTouch_moves (s : State) (id : Nat) : Moves 268435456 s (sessionTouch s id) := by
  unfold sessionTouch
  refine Moves.call (mgmt_moves _ _) (by decide) ?_
  exact Moves.refl

theorem plovcoRequest_moves {w : Nat} {s : State} {r : Request} {cmd : Nat} {formed : List Byte → Bool} {f : State → State} (hw : 268435480 ||| w = w)
    (hf : ∀ a, Moves w a (f a)) : Moves w s (plovcoRequest s r cmd formed f) := by
  unfold plovcoRequest
  refine Moves.ite (fun _ => Moves.refl) (fun _ => ?_)
  extract_lets who
  clear_value who
  split
  · exact ((dropFrame_moves ..).mono (v := 268435480) (by decide)).mono hw
  · have h1 : Moves w s (sessionTouch s r.session) := ((sessionTouch_moves ..).mono (v := 268435480) (by decide)).mono hw
    have h2 : ∀ a c b, Moves w a (reply a r cmd c b) := fun a c b => ((reply_moves ..).mono (v := 268435480) (by decide)).mono hw
    exact Moves.ite (fun _ => h1.trans (h2 ..)) (fun _ => Moves.ite (fun _ => h1.trans (h2 ..)) (fun _ => h1.trans (hf _)))

theorem pieceArrive_moves (s : State) (r : Request) (cmd : Nat) : Moves 268435456 s (pieceArrive s r cmd).2 := by
  unfold pieceArrive
  extract_lets +onlyGivenNames z0; clear_value z0
  extract_lets +onlyGivenNames z1; clear_value z1
  extract_lets +onlyGivenNames z2; clear_value z2
  extract_lets +onlyGivenNames z3; clear_value z3
  refine Moves.ite_of Prod.snd (fun _ => ?_) (fun _ => ?_)
  · dsimp only
    refine Moves.call (mgmt_moves _ _) (by decide) ?_
    exact Moves.refl
  · dsimp only
    refine Moves.call (mgmt_moves _ _) (by decide) ?_
    exact Moves.refl

theorem secStatus_moves (s : State) (state : Nat) (reason : Nat) : Moves 16 s (secStatus s state reason) := by
  unfold secStatus
  refine Moves.call (regSet_moves _ _ _) (by decide) ?_
  exact Moves.refl

theorem recordTake_moves {w : Nat} {s : State} {bs : List Byte} {take : State → List Byte → Except Nat State} (hw : 16 ||| w = w)
    (hf : ∀ a b, MovesE w a (take a b)) : Moves w s (recordTake s bs take) := by
  unfold recordTake
  split
  · exact (hf _ _ _ (by assumption)).trans (((secStatus_moves ..).mono (v := 16) (by decide)).mono hw)
  · exact ((secStatus_moves ..).mono (v := 16) (by decide)).mono hw

theorem recordJudge_moves {w : Nat} {op : Nat} {take : State → List Byte → Except Nat State} {s : State} (hw : 138429240 ||| w = w)
    (hf : ∀ a b, MovesE w a (take a b)) : Moves w s (recordJudge op take s) := by
  unfold recordJudge
  have h1 : ∀ a b, Moves w s (secStatus s a b) := fun a b => ((secStatus_moves ..).mono (v := 138429240) (by decide)).mono hw
  refine Moves.ite (fun _ => h1 ..) (fun _ => Moves.ite (fun _ => ?_) (fun _ => h1 ..))
  refine Moves.trans ?_ (recordTake_moves (Moves.sub (v := 138429240) (by decide) hw) hf)
  exact ((linesReadEffects_moves ..).mono (v := 138429240) (by decide)).mono hw

theorem recordRequest_moves {w : Nat} {o : Origin} {op cmd : Nat} {take : State → List Byte → Except Nat State} {s : State} (hw : 406864696 ||| w = w)
    (hf : ∀ a b, MovesE w a (take a b)) : Moves w s (recordRequest o op cmd take s) := by
  unfold recordRequest
  split
  · exact hostWrite_moves (Moves.sub (v := 406864696) (by decide) hw) (fun a => recordJudge_moves (Moves.sub (v := 406864696) (by decide) hw) hf)
  · refine plovcoRequest_moves (Moves.sub (v := 406864696) (by decide) hw) (fun a => ?_)
    have h1 : ∀ r c, Moves w a (pieceArrive a r c).2 := fun r c => ((pieceArrive_moves ..).mono (v := 406864696) (by decide)).mono hw
    have h2 : ∀ a r c d b, Moves w a (reply a r c d b) := fun a r c d b => ((reply_moves ..).mono (v := 406864696) (by decide)).mono hw
    dsimp only
    split
    · exact (h1 ..).trans (h2 ..)
    · exact ((h1 ..).trans (recordTake_moves (Moves.sub (v := 406864696) (by decide) hw) hf)).trans (h2 ..)

end Sys2Proof.Laws
end

