-- ==== Sys2Proof/Laws/FrameUpdate.lean ====
section
/-! SUPPORT. What each function of Machine/Update.lean may change, and that it keeps the canonical form: its frame law. -/

namespace Sys2Proof.Laws

set_option Elab.async false

open Sys2Proof Sys2Proof.Machine Sys2Proof.Safety

theorem updEmergency_moves (s : State) (e : Nat) : Moves 16 s (updEmergency s e) := by
  unfold updEmergency
  refine Moves.call (regPut_moves _ _ _ _ _) (by decide) ?_
  exact Moves.refl

theorem activateTry_moves (s : State) (asked : Nat) (i : Nat) : Moves 4194872 s (activateTry s asked i) := by
  unfold activateTry
  split
  · refine Moves.call (updState_moves _ _ _) (by decide) ?_
    refine Moves.call (updEmergency_moves _ _) (by decide) ?_
    refine Moves.call (fwMod_moves _ _) (by decide) ?_
    exact Moves.refl
  · extract_lets +onlyGivenNames z0; clear_value z0
    extract_lets +onlyGivenNames z1
    have hz1 : Moves 4194872 s z1 := by
      unfold z1
      refine Moves.call (updEmergency_moves _ _) (by decide) ?_
      refine Moves.call (fwMod_moves _ _) (by decide) ?_
      exact Moves.refl
    clear_value z1
    refine Moves.ite (fun _ => ?_) (fun _ => ?_)
    · refine Moves.call (updState_moves _ _ _) (by decide) ?_
      exact hz1
    · refine Moves.call (updState_moves _ _ _) (by decide) ?_
      refine Moves.call (fwMod_moves _ _) (by decide) ?_
      exact hz1

theorem activate_moves (s : State) : Moves 4194872 s (activate s) := by
  unfold activate
  refine Moves.ite (fun _ => ?_) (fun _ => ?_)
  · refine Moves.call (updState_moves _ _ _) (by decide) ?_
    exact Moves.refl
  · split
    · refine Moves.call (activateTry_moves _ _ _) (by decide) ?_
      exact Moves.refl
    · exact Moves.refl

theorem updBlock_moves (s : State) (n : Nat) : Moves 16 s (updBlock s n) := by
  unfold updBlock
  refine Moves.call (regPut_moves _ _ _ _ _) (by decide) ?_
  exact Moves.refl

theorem bundleWrite_moves (s : State) (placed : Bool) (b : List Byte) (n : Nat) : Moves 4194872 s (bundleWrite s placed b n) := by
  unfold bundleWrite
  split
  · refine Moves.call (updState_moves _ _ _) (by decide) ?_
    exact Moves.refl
  · extract_lets +onlyGivenNames z0
    have hz0 : Moves 4194872 s z0 := by
      unfold z0
      refine Moves.call (updState_moves _ _ _) (by decide) ?_
      refine Moves.call (updBlock_moves _ _) (by decide) ?_
      refine Moves.call (slotSet_moves _ _ _) (by decide) ?_
      exact Moves.refl
    clear_value z0
    split
    · refine Moves.call (updState_moves _ _ _) (by decide) ?_
      refine Moves.call (updBlock_moves _ _) (by decide) ?_
      refine Moves.call (slotState_moves _ _ _) (by decide) ?_
      exact hz0
    · refine Moves.call (updState_moves _ _ _) (by decide) ?_
      refine Moves.call (slotSet_moves _ _ _) (by decide) ?_
      exact hz0

theorem cancelActivation_moves (s : State) : Moves 4194872 s (cancelActivation s) := by
  unfold cancelActivation
  split
  · refine Moves.call (updState_moves _ _ _) (by decide) ?_
    refine Moves.call (updEmergency_moves _ _) (by decide) ?_
    refine Moves.call (fwMod_moves _ _) (by decide) ?_
    exact Moves.refl
  · exact Moves.refl

theorem chunkBundle_moves (n : Nat) (s : State) : Moves 4194872 s (chunkBundle n s) := by
  unfold chunkBundle
  refine Moves.ite (fun _ => ?_) (fun _ => ?_)
  · refine Moves.call (bundleWrite_moves _ _ _ _) (by decide) ?_
    exact Moves.refl
  · refine Moves.call (bundleWrite_moves _ _ _ _) (by decide) ?_
    exact Moves.refl

theorem updateAsk_moves {w : Nat} {o : Origin} {hostOp plovcoOp : Nat} {f : State → State} {s : State} (hw : 406848312 ||| w = w)
    (hf : ∀ a, Moves w a (f a)) : Moves w s (updateAsk o hostOp plovcoOp f s) := by
  unfold updateAsk
  split
  · exact hostWrite_moves (Moves.sub (v := 406848312) (by decide) hw) hf
  · refine plovcoRequest_moves (Moves.sub (v := 406848312) (by decide) hw) (fun a => (hf a).trans ?_)
    exact ((reply_moves ..).mono (v := 406848312) (by decide)).mono hw

theorem execActivate_moves (o : Origin) (s : State) : MovesN 406848312 s (execActivate o s) := by
  unfold execActivate
  refine MovesN.next ?_
  refine Moves.trans ?_ (updateAsk_moves (by decide) (fun a0 => ?_))
  · exact Moves.refl
  · refine Moves.call (activate_moves _) (by decide) ?_
    exact Moves.refl

theorem execActivationAbandon_moves (s : State) : MovesN 4194872 s (execActivationAbandon s) := by
  unfold execActivationAbandon
  split
  · refine MovesN.ite (fun _ => ?_) (fun _ => ?_)
    · refine MovesN.next ?_
      refine Moves.call (updState_moves _ _ _) (by decide) ?_
      refine Moves.call (fwMod_moves _ _) (by decide) ?_
      exact Moves.refl
    · refine MovesN.next ?_
      exact Moves.refl
  · refine MovesN.next ?_
    exact Moves.refl

theorem execActivationRetry_moves (s : State) : MovesN 4194872 s (execActivationRetry s) := by
  unfold execActivationRetry
  split
  · refine MovesN.ite (fun _ => ?_) (fun _ => ?_)
    · refine MovesN.next ?_
      refine Moves.call (activateTry_moves _ _ _) (by decide) ?_
      exact Moves.refl
    · refine MovesN.next ?_
      exact Moves.refl
  · refine MovesN.next ?_
    exact Moves.refl

theorem hostBundle_moves (s : State) : Moves 138429240 s (hostBundle s) := by
  unfold hostBundle
  extract_lets +onlyGivenNames z0; clear_value z0
  extract_lets +onlyGivenNames z1; clear_value z1
  refine Moves.ite (fun _ => ?_) (fun _ => ?_)
  · refine Moves.call (bundleWrite_moves _ _ _ _) (by decide) ?_
    refine Moves.call (linesReadEffects_moves _ _) (by decide) ?_
    exact Moves.refl
  · refine Moves.call (bundleWrite_moves _ _ _ _) (by decide) ?_
    exact Moves.refl

theorem execBundleWrite_moves (o : Origin) (s : State) : MovesN 406864696 s (execBundleWrite o s) := by
  unfold execBundleWrite
  refine MovesN.next ?_
  split
  · refine Moves.trans ?_ (updateAsk_moves (by decide) (fun a0 => ?_))
    · exact Moves.refl
    · refine Moves.call (hostBundle_moves _) (by decide) ?_
      exact Moves.refl
  · refine Moves.trans ?_ (updateAsk_moves (by decide) (fun a1 => ?_))
    · exact Moves.refl
    · refine Moves.call (chunkBundle_moves _ _) (by decide) ?_
      exact Moves.refl

theorem execCancelActivation_moves (o : Origin) (s : State) : MovesN 406848312 s (execCancelActivation o s) := by
  unfold execCancelActivation
  refine MovesN.next ?_
  refine Moves.trans ?_ (updateAsk_moves (by decide) (fun a0 => ?_))
  · exact Moves.refl
  · refine Moves.call (cancelActivation_moves _) (by decide) ?_
    exact Moves.refl

theorem execUpdateChunk_moves (r : Request) (s : State) : MovesN 406864888 s (execUpdateChunk r s) := by
  unfold execUpdateChunk
  refine MovesN.next ?_
  refine Moves.trans ?_ (plovcoRequest_moves (by decide) (fun a0 => ?_))
  · exact Moves.refl
  · extract_lets +onlyGivenNames z1; clear_value z1
    extract_lets +onlyGivenNames z2; clear_value z2
    extract_lets +onlyGivenNames z3
    have hz3 : Moves 406864888 a0 z3 := by
      unfold z3
      refine Moves.call (memStoreClean_moves _ _ _) (by decide) ?_
      exact Moves.refl
    clear_value z3
    refine Moves.ite (fun _ => ?_) (fun _ => ?_)
    · refine Moves.call (reply_moves _ _ _ _ _) (by decide) ?_
      exact hz3
    · refine Moves.call (reply_moves _ _ _ _ _) (by decide) ?_
      exact Moves.refl

theorem execUpdateStatus_moves (r : Request) (s : State) : MovesN 268435480 s (execUpdateStatus r s) := by
  unfold execUpdateStatus
  refine MovesN.next ?_
  refine Moves.trans ?_ (plovcoRequest_moves (by decide) (fun a0 => ?_))
  · exact Moves.refl
  · refine Moves.call (reply_moves _ _ _ _ _) (by decide) ?_
    exact Moves.refl

end Sys2Proof.Laws
end

