-- ==== Sys2Proof/Laws/FrameHandover.lean ====
section
/-! SUPPORT. What each function of Machine/Handover.lean may change, and that it keeps the canonical form: its frame law. -/

namespace Sys2Proof.Laws

set_option Elab.async false

open Sys2Proof Sys2Proof.Machine Sys2Proof.Safety

theorem confirm_moves (s : State) (i : Nat) : Moves 138412856 s (confirm s i) := by
  unfold confirm
  extract_lets +onlyGivenNames z0; clear_value z0
  extract_lets +onlyGivenNames z1
  have hz1 : Moves 138412856 s z1 := by
    unfold z1
    refine Moves.call (slotSet_moves _ _ _) (by decide) ?_
    exact Moves.refl
  clear_value z1
  extract_lets +onlyGivenNames z2; clear_value z2
  extract_lets +onlyGivenNames z3
  have hz3 : Moves 138412856 s z3 := by
    unfold z3
    refine Moves.ite (fun _ => ?_) (fun _ => ?_)
    · refine Moves.call (slotState_moves _ _ _) (by decide) ?_
      exact hz1
    · exact hz1
  clear_value z3
  extract_lets +onlyGivenNames z4; clear_value z4
  extract_lets +onlyGivenNames z5
  have hz5 : Moves 138412856 s z5 := by
    unfold z5
    refine Moves.call (fwMod_moves _ _) (by decide) ?_
    exact hz3
  clear_value z5
  refine Moves.call (updState_moves _ _ _) (by decide) ?_
  refine Moves.call (logEvent_moves _ _ _ _ _ _) (by decide) ?_
  exact hz5

theorem recordWrite_moves (s : State) : Moves 4194304 s (recordWrite s) := by
  unfold recordWrite
  extract_lets +onlyGivenNames z0
  refine Moves.call (fwMod_moves _ _) (by decide) ?_
  exact Moves.refl

theorem stewardAway_moves (s : State) (st : Nat) : Moves 12582928 s (stewardAway s st) := by
  unfold stewardAway
  refine Moves.call (fwMod_moves _ _) (by decide) ?_
  refine Moves.call (muteArm_moves _) (by decide) ?_
  refine Moves.call (regPut_moves _ _ _ _ _) (by decide) ?_
  exact Moves.refl

theorem quiesce_moves (s : State) : Moves 12582928 s (quiesce s) := by
  unfold quiesce
  extract_lets +onlyGivenNames z0; clear_value z0
  extract_lets +onlyGivenNames z1; clear_value z1
  extract_lets +onlyGivenNames z2
  have hz2 : Moves 12582928 s z2 := by
    unfold z2
    refine Moves.call (slotState_moves _ _ _) (by decide) ?_
    refine Moves.call (slotSet_moves _ _ _) (by decide) ?_
    exact Moves.refl
  clear_value z2
  extract_lets +onlyGivenNames z3
  have hz3 : Moves 12582928 s z3 := by
    unfold z3
    refine Moves.call (recordWrite_moves _) (by decide) ?_
    refine Moves.call (fwMod_moves _ _) (by decide) ?_
    exact hz2
  clear_value z3
  refine Moves.call (stewardAway_moves _ _) (by decide) ?_
  exact hz3

theorem execHandoverDrainDone_moves (s : State) : MovesN 12583480 s (execHandoverDrainDone s) := by
  unfold execHandoverDrainDone
  extract_lets +onlyGivenNames z0; clear_value z0
  refine MovesN.ite (fun _ => ?_) (fun _ => ?_)
  · refine MovesN.next ?_
    exact Moves.refl
  · refine MovesN.ite (fun _ => ?_) (fun _ => ?_)
    · refine MovesN.next ?_
      refine Moves.call (updState_moves _ _ _) (by decide) ?_
      refine Moves.call (updEmergency_moves _ _) (by decide) ?_
      refine Moves.call (fwMod_moves _ _) (by decide) ?_
      exact Moves.refl
    · refine MovesN.next ?_
      refine Moves.call (quiesce_moves _) (by decide) ?_
      exact Moves.refl

theorem execHandoverLoad_moves (decayed : Nat) (s : State) : MovesN 141558584 s (execHandoverLoad decayed s) := by
  unfold execHandoverLoad
  extract_lets +onlyGivenNames z0
  have hz0 : Moves 141558584 s z0 := by
    unfold z0
    refine Moves.call (romBoot_moves _ _ _) (by decide) ?_
    exact Moves.refl
  clear_value z0
  extract_lets +onlyGivenNames z1
  have hz1 : Moves 141558584 s z1 := by
    unfold z1
    split
    · refine Moves.ite (fun _ => ?_) (fun _ => ?_)
      · refine Moves.call (updState_moves _ _ _) (by decide) ?_
        refine Moves.call (logEvent_moves _ _ _ _ _ _) (by decide) ?_
        exact hz0
      · exact hz0
    · exact hz0
  clear_value z1
  refine MovesN.ite (fun _ => ?_) (fun _ => ?_)
  · refine MovesN.next ?_
    exact Moves.refl
  · refine MovesN.ite (fun _ => ?_) (fun _ => ?_)
    · refine MovesN.next ?_
      refine Moves.call (portsDark_moves _) (by decide) ?_
      refine Moves.call (setBoot_moves _ _) (by decide) ?_
      exact hz1
    · refine MovesN.next ?_
      refine Moves.call (fwMod_moves _ _) (by decide) ?_
      exact hz1

theorem execHandoverReclaim_moves (s : State) : MovesN 147343352 s (execHandoverReclaim s) := by
  unfold execHandoverReclaim
  extract_lets +onlyGivenNames z0
  have hz0 : Moves 147343352 s z0 := by
    unfold z0
    refine Moves.call (muteReclaim_moves _) (by decide) ?_
    refine Moves.call (regPut_moves _ _ _ _ _) (by decide) ?_
    refine Moves.call (fwMod_moves _ _) (by decide) ?_
    exact Moves.refl
  clear_value z0
  extract_lets +onlyGivenNames z1; clear_value z1
  extract_lets +onlyGivenNames z2
  have hz2 : Moves 147343352 s z2 := by
    unfold z2
    refine Moves.record ?_
    exact hz0
  clear_value z2
  extract_lets +onlyGivenNames z3
  have hz3 : Moves 147343352 s z3 := by
    unfold z3
    refine Moves.ite (fun _ => ?_) (fun _ => ?_)
    · refine Moves.call (planScan_moves _) (by decide) ?_
      exact hz2
    · exact hz2
  clear_value z3
  refine MovesN.ite (fun _ => ?_) (fun _ => ?_)
  · refine MovesN.next ?_
    exact Moves.refl
  · refine MovesN.next ?_
    refine Moves.ite (fun _ => ?_) (fun _ => ?_)
    · refine Moves.call (updState_moves _ _ _) (by decide) ?_
      refine Moves.call (fwMod_moves _ _) (by decide) ?_
      exact hz3
    · exact hz3

theorem execHandoverRecordWrite_moves (s : State) : MovesN 4194304 s (execHandoverRecordWrite s) := by
  unfold execHandoverRecordWrite
  refine MovesN.ite (fun _ => ?_) (fun _ => ?_)
  · refine MovesN.next ?_
    refine Moves.call (recordWrite_moves _) (by decide) ?_
    exact Moves.refl
  · refine MovesN.next ?_
    exact Moves.refl

theorem recordRead_moves (s : State) : Moves 8388608 s (recordRead s) := by
  unfold recordRead
  extract_lets +onlyGivenNames z0; clear_value z0
  refine Moves.ite (fun _ => ?_) (fun _ => ?_)
  · exact Moves.refl
  · unfold pwr
    refine Moves.record ?_
    exact Moves.refl

theorem execHandoverRestore_moves (lost : Nat) (s : State) : MovesN 146801464 s (execHandoverRestore lost s) := by
  unfold execHandoverRestore
  refine MovesN.ite (fun _ => ?_) (fun _ => ?_)
  · refine MovesN.next ?_
    exact Moves.refl
  · refine MovesN.next ?_
    refine Moves.call (fwMod_moves _ _) (by decide) ?_
    refine Moves.call (settingsChoose_moves _ _) (by decide) ?_
    refine Moves.call (recordRead_moves _) (by decide) ?_
    exact Moves.refl

theorem fallBack_moves (s : State) (reason : Nat) : Moves 146801464 s (fallBack s reason) := by
  unfold fallBack
  split
  · exact Moves.refl
  · extract_lets +onlyGivenNames z0
    have hz0 : Moves 146801464 s z0 := by
      unfold z0
      refine Moves.call (slotState_moves _ _ _) (by decide) ?_
      exact Moves.refl
    clear_value z0
    extract_lets +onlyGivenNames z1
    have hz1 : Moves 146801464 s z1 := by
      unfold z1
      refine Moves.ite (fun _ => ?_) (fun _ => ?_)
      · refine Moves.call (slotState_moves _ _ _) (by decide) ?_
        exact hz0
      · exact hz0
    clear_value z1
    extract_lets +onlyGivenNames z2
    have hz2 : Moves 146801464 s z2 := by
      unfold z2
      refine Moves.call (updState_moves _ _ _) (by decide) ?_
      refine Moves.call (logEvent_moves _ _ _ _ _ _) (by decide) ?_
      exact hz1
    clear_value z2
    extract_lets +onlyGivenNames z3
    have hz3 : Moves 146801464 s z3 := by
      unfold z3
      refine Moves.ite (fun _ => ?_) (fun _ => ?_)
      · refine Moves.call (recordWrite_moves _) (by decide) ?_
        exact hz2
      · exact hz2
    clear_value z3
    refine Moves.call (stewardAway_moves _ _) (by decide) ?_
    refine Moves.call (fwMod_moves _ _) (by decide) ?_
    exact hz3

theorem execReject_moves (o : Origin) (s : State) : MovesN 415236920 s (execReject o s) := by
  unfold execReject
  refine MovesN.next ?_
  refine Moves.trans ?_ (updateAsk_moves (by decide) (fun a0 => ?_))
  · exact Moves.refl
  · refine Moves.call (fallBack_moves _ _) (by decide) ?_
    exact Moves.refl

theorem execStewardRestart_moves (s : State) : MovesN 12583480 s (execStewardRestart s) := by
  unfold execStewardRestart
  extract_lets +onlyGivenNames z0
  have hz0 : Moves 12583480 s z0 := by
    unfold z0
    refine Moves.ite (fun _ => ?_) (fun _ => ?_)
    · refine Moves.call (updState_moves _ _ _) (by decide) ?_
      exact Moves.refl
    · exact Moves.refl
  clear_value z0
  refine MovesN.ite (fun _ => ?_) (fun _ => ?_)
  · refine MovesN.next ?_
    exact Moves.refl
  · refine MovesN.next ?_
    refine Moves.call (stewardAway_moves _ _) (by decide) ?_
    refine Moves.call (fwMod_moves _ _) (by decide) ?_
    refine Moves.call (regSatAdd_moves _ _ _ _ _) (by decide) ?_
    exact hz0

theorem execTrialConfirm_moves (s : State) : MovesN 138412856 s (execTrialConfirm s) := by
  unfold execTrialConfirm
  split
  · refine MovesN.ite (fun _ => ?_) (fun _ => ?_)
    · refine MovesN.next ?_
      refine Moves.call (confirm_moves _ _) (by decide) ?_
      exact Moves.refl
    · refine MovesN.next ?_
      exact Moves.refl
  · refine MovesN.next ?_
    exact Moves.refl

theorem execTrialTimeout_moves (s : State) : MovesN 146801464 s (execTrialTimeout s) := by
  unfold execTrialTimeout
  refine MovesN.ite (fun _ => ?_) (fun _ => ?_)
  · refine MovesN.next ?_
    refine Moves.call (fallBack_moves _ _) (by decide) ?_
    exact Moves.refl
  · refine MovesN.next ?_
    exact Moves.refl

end Sys2Proof.Laws
end

