-- ==== Sys2Proof/Laws/FrameHost.lean ====
section
/-! SUPPORT. What each function of Machine/Host.lean may change, and that it keeps the canonical form: its frame law. -/

namespace Sys2Proof.Laws

set_option Elab.async false

open Sys2Proof Sys2Proof.Machine Sys2Proof.Safety

theorem hostMod_moves (s : State) (f : HostSt → HostSt) : Moves 512 s (hostMod s f) := by
  unfold hostMod
  refine Moves.record ?_
  exact Moves.refl

theorem adoptEvents_moves (adopt reset : Nat → Bool) (es : List HostEvent) (s : State) : Moves 568 s (adoptEvents adopt reset es s) := by
  induction es generalizing s with
  | nil => exact Moves.refl
  | cons e es ih =>
    unfold adoptEvents
    refine Moves.trans ?_ (ih ..)
    refine Moves.ite (fun _ => Moves.refl) (fun _ => Moves.ite (fun _ => ?_) (fun _ => ?_))
    · exact (ringAppend_moves ..).mono (by decide)
    · exact (hostMod_moves ..).mono (by decide)

theorem adoptWrite_moves (s : State) (resets : Nat) (adopts : Nat) : Moves 138969912 s (adoptWrite s resets adopts) := by
  unfold adoptWrite
  extract_lets +onlyGivenNames z0; clear_value z0
  extract_lets +onlyGivenNames z1; clear_value z1
  extract_lets +onlyGivenNames z2; clear_value z2
  extract_lets +onlyGivenNames z3
  have hz3 : Moves 138969912 s z3 := by
    unfold z3
    refine Moves.call (adoptEvents_moves _ _ _ _) (by decide) ?_
    refine Moves.call (hostMod_moves _ _) (by decide) ?_
    exact Moves.refl
  clear_value z3
  extract_lets +onlyGivenNames z4
  have hz4 : Moves 138969912 s z4 := by
    unfold z4
    refine Moves.call (hostMod_moves _ _) (by decide) ?_
    exact hz3
  clear_value z4
  refine Moves.foldl (fun a5 _ => ?_) ?_
  · refine Moves.call (raiseTrigger_moves _ _ _) (by decide) ?_
    exact Moves.refl
  · exact hz4

theorem bar2Warn_moves (s : State) (seg : Nat) (off : Nat) (cause : Nat) : Moves 138412856 s (bar2Warn s seg off cause) := by
  unfold bar2Warn
  extract_lets +onlyGivenNames z0; clear_value z0
  extract_lets +onlyGivenNames z1; clear_value z1
  refine Moves.ite (fun _ => ?_) (fun _ => ?_)
  · exact Moves.refl
  · refine Moves.call (logEvent_moves _ _ _ _ _ _) (by decide) ?_
    refine Moves.record ?_
    exact Moves.refl

theorem leaseStart_moves (s : State) : Moves 512 s (leaseStart s) := by
  unfold leaseStart
  refine Moves.call (hostMod_moves _ _) (by decide) ?_
  exact Moves.refl

theorem contractCheck_moves (s : State) : Moves 784 s (contractCheck s) := by
  unfold contractCheck
  extract_lets +onlyGivenNames z0; clear_value z0
  extract_lets +onlyGivenNames z1
  have hz1 : Moves 784 s z1 := by
    unfold z1
    refine Moves.call (regPut_moves _ _ _ _ _) (by decide) ?_
    refine Moves.call (regPut_moves _ _ _ _ _) (by decide) ?_
    exact Moves.refl
  clear_value z1
  extract_lets +onlyGivenNames z2; clear_value z2
  extract_lets +onlyGivenNames z3; clear_value z3
  refine Moves.ite (fun _ => ?_) (fun _ => ?_)
  · refine Moves.call (leaseStart_moves _) (by decide) ?_
    refine Moves.record ?_
    exact hz1
  · refine Moves.call (regSatAdd_moves _ _ _ _ _) (by decide) ?_
    exact hz1

theorem execAdoptContext_moves (ctx : Nat) (s : State) : MovesN 138969912 s (execAdoptContext ctx s) := by
  unfold execAdoptContext
  refine MovesN.next ?_
  refine Moves.trans ?_ (hostWrite_moves (by decide) (fun a0 => ?_))
  · exact Moves.refl
  · refine Moves.call (adoptWrite_moves _ _ _) (by decide) ?_
    exact Moves.refl

theorem execAdoptReset_moves (ctx : Nat) (s : State) : MovesN 138969912 s (execAdoptReset ctx s) := by
  unfold execAdoptReset
  refine MovesN.next ?_
  refine Moves.trans ?_ (hostWrite_moves (by decide) (fun a0 => ?_))
  · exact Moves.refl
  · refine Moves.call (adoptWrite_moves _ _ _) (by decide) ?_
    exact Moves.refl

theorem hostPoison_moves (s : State) (l : Nat) : Moves 138544956 s (hostPoison s l) := by
  unfold hostPoison
  extract_lets +onlyGivenNames z0; clear_value z0
  extract_lets +onlyGivenNames z1
  have hz1 : Moves 138544956 s z1 := by
    unfold z1
    refine Moves.call (logEvent_moves _ _ _ _ _ _) (by decide) ?_
    exact Moves.refl
  clear_value z1
  extract_lets +onlyGivenNames z2; clear_value z2
  extract_lets +onlyGivenNames z3
  have hz3 : Moves 138544956 s z3 := by
    unfold z3
    refine Moves.call (planSet_moves _ _ _) (by decide) ?_
    exact hz1
  clear_value z3
  refine Moves.ite (fun _ => ?_) (fun _ => ?_)
  · exact Moves.refl
  · refine Moves.ite (fun _ => ?_) (fun _ => ?_)
    · exact hz1
    · split
      · refine Moves.call (eventAppend_moves _ _ _ _ _ _ _) (by decide) ?_
        refine Moves.call (stepFail_moves _ _ _ _ _) (by decide) ?_
        exact hz3
      · refine Moves.call (eventAppend_moves _ _ _ _ _ _ _) (by decide) ?_
        exact hz3

theorem execBar2Read_moves (seg : Nat) (off : Nat) (n : Nat) (s : State) : MovesN 138561340 s (execBar2Read seg off n s) := by
  unfold execBar2Read
  refine MovesN.ite (fun _ => ?_) (fun _ => ?_)
  · refine MovesN.next ?_
    exact Moves.refl
  · split
    · refine MovesN.next ?_
      refine Moves.call (emit_moves _ _) (by decide) ?_
      refine Moves.call (bar2Warn_moves _ _ _ _) (by decide) ?_
      refine Moves.call (regSatAdd_moves _ _ _ _ _) (by decide) ?_
      exact Moves.refl
    · extract_lets +onlyGivenNames z0; clear_value z0
      extract_lets +onlyGivenNames z1; clear_value z1
      extract_lets +onlyGivenNames z2; clear_value z2
      extract_lets +onlyGivenNames z3; clear_value z3
      refine MovesN.next ?_
      refine Moves.call (emit_moves _ _) (by decide) ?_
      refine Moves.foldl (fun a4 _ => ?_) ?_
      · refine Moves.call (hostPoison_moves _ _) (by decide) ?_
        exact Moves.refl
      · refine Moves.call (linesReadEffects_moves _ _) (by decide) ?_
        exact Moves.refl

theorem execBar2Write_moves (seg : Nat) (off : Nat) (bytes : List Byte) (s : State) : MovesN 138429432 s (execBar2Write seg off bytes s) := by
  unfold execBar2Write
  refine MovesN.ite (fun _ => ?_) (fun _ => ?_)
  · refine MovesN.next ?_
    exact Moves.refl
  · split
    · refine MovesN.next ?_
      refine Moves.call (bar2Warn_moves _ _ _ _) (by decide) ?_
      refine Moves.call (regSatAdd_moves _ _ _ _ _) (by decide) ?_
      exact Moves.refl
    · refine MovesN.next ?_
      refine Moves.call (memStoreClean_moves _ _ _) (by decide) ?_
      exact Moves.refl

theorem execContractCheck_moves (s : State) : MovesN 138412856 s (execContractCheck s) := by
  unfold execContractCheck
  refine MovesN.next ?_
  refine Moves.trans ?_ (hostWrite_moves (by decide) (fun a0 => ?_))
  · exact Moves.refl
  · refine Moves.call (contractCheck_moves _) (by decide) ?_
    exact Moves.refl

theorem execD3hot_moves (on : Bool) (s : State) : MovesN 512 s (execD3hot on s) := by
  unfold execD3hot
  refine MovesN.ite (fun _ => ?_) (fun _ => ?_)
  · refine MovesN.next ?_
    exact Moves.refl
  · refine MovesN.next ?_
    refine Moves.call (hostMod_moves _ _) (by decide) ?_
    exact Moves.refl

theorem leaseEnds_moves (s : State) : Moves 512 s (leaseEnds s) := by
  unfold leaseEnds
  refine Moves.ite (fun _ => ?_) (fun _ => ?_)
  · refine Moves.call (hostMod_moves _ _) (by decide) ?_
    exact Moves.refl
  · exact Moves.refl

theorem execDriverLeaseExpiry_moves (s : State) : MovesN 512 s (execDriverLeaseExpiry s) := by
  unfold execDriverLeaseExpiry
  refine MovesN.ite (fun _ => ?_) (fun _ => ?_)
  · refine MovesN.next ?_
    refine Moves.call (leaseEnds_moves _) (by decide) ?_
    exact Moves.refl
  · refine MovesN.next ?_
    exact Moves.refl

theorem execHeartbeat_moves (v : Word) (s : State) : MovesN 138412856 s (execHeartbeat v s) := by
  unfold execHeartbeat
  refine MovesN.ite (fun _ => ?_) (fun _ => ?_)
  · refine MovesN.next ?_
    exact Moves.refl
  · refine MovesN.ite (fun _ => ?_) (fun _ => ?_)
    · refine MovesN.next ?_
      refine Moves.call (leaseStart_moves _) (by decide) ?_
      exact Moves.refl
    · refine MovesN.next ?_
      refine Moves.trans ?_ (hostWrite_moves (by decide) (fun a0 => ?_))
      · exact Moves.refl
      · unfold id
        exact Moves.refl

theorem execHostCapWrite_moves (watts : Nat) (s : State) : MovesN 146801464 s (execHostCapWrite watts s) := by
  unfold execHostCapWrite
  refine MovesN.next ?_
  refine Moves.trans ?_ (hostWrite_moves (by decide) (fun a0 => ?_))
  · exact Moves.refl
  · refine Moves.call (setHostCap_moves _ _) (by decide) ?_
    exact Moves.refl

theorem execLeaseRelease_moves (s : State) : MovesN 138412856 s (execLeaseRelease s) := by
  unfold execLeaseRelease
  refine MovesN.next ?_
  refine Moves.trans ?_ (hostWrite_moves (by decide) (fun a0 => ?_))
  · exact Moves.refl
  · refine Moves.call (leaseEnds_moves _) (by decide) ?_
    exact Moves.refl

theorem execPerstAssert_moves (s : State) : MovesN 75498000 s (execPerstAssert s) := by
  unfold execPerstAssert
  extract_lets +onlyGivenNames z0
  have hz0 : Moves 75498000 s z0 := by
    unfold z0
    refine Moves.call (leaseEnds_moves _) (by decide) ?_
    exact Moves.refl
  clear_value z0
  extract_lets +onlyGivenNames z1
  have hz1 : Moves 75498000 s z1 := by
    unfold z1
    refine Moves.call (hostMod_moves _ _) (by decide) ?_
    refine Moves.call (regRestore_moves _ _) (by decide) ?_
    exact hz0
  clear_value z1
  extract_lets +onlyGivenNames z2; clear_value z2
  refine MovesN.next ?_
  refine Moves.call (capChanged_moves _) (by decide) ?_
  refine Moves.record ?_
  exact hz1

theorem execPerstDeassert_moves (s : State) : MovesN 67109376 s (execPerstDeassert s) := by
  unfold execPerstDeassert
  extract_lets +onlyGivenNames z0; clear_value z0
  refine MovesN.ite (fun _ => ?_) (fun _ => ?_)
  · refine MovesN.next ?_
    refine Moves.call (hostMod_moves _ _) (by decide) ?_
    refine Moves.record ?_
    exact Moves.refl
  · refine MovesN.next ?_
    exact Moves.refl

end Sys2Proof.Laws
end

