-- ==== Sys2Proof/Laws/FrameScrubber.lean ====
section
/-! SUPPORT. What each function of Machine/Scrubber.lean may change, and that it keeps the canonical form: its frame law. -/

namespace Sys2Proof.Laws

set_option Elab.async false

open Sys2Proof Sys2Proof.Machine Sys2Proof.Safety

theorem scbState_moves (s : State) (x : Nat) : Moves 16 s (scbState s x) := by
  unfold scbState
  refine Moves.call (regPut_moves _ _ _ _ _) (by decide) ?_
  exact Moves.refl

theorem scrubEnd_moves (s : State) (x : Scrub) (code : Nat) : Moves 65560 s (scrubEnd s x code) := by
  unfold scrubEnd
  extract_lets +onlyGivenNames z0; clear_value z0
  extract_lets +onlyGivenNames z1
  have hz1 : Moves 65560 s z1 := by
    unfold z1
    refine Moves.foldl (fun a2 _ => ?_) ?_
    · refine Moves.call (regSet_moves _ _ _) (by decide) ?_
      exact Moves.refl
    · refine Moves.call (scbState_moves _ _) (by decide) ?_
      refine Moves.record ?_
      exact Moves.refl
  clear_value z1
  split
  · refine Moves.call (emit_moves _ _) (by decide) ?_
    exact hz1
  · exact hz1

theorem scrubInterrupt_moves (s : State) : Moves 98328 s (scrubInterrupt s) := by
  unfold scrubInterrupt
  split
  · extract_lets +onlyGivenNames z0
    have hz0 : Moves 98328 s z0 := by
      unfold z0
      refine Moves.call (scrubEnd_moves _ _ _) (by decide) ?_
      exact Moves.refl
    clear_value z0
    refine Moves.record ?_ (cengs := fun h => mapRising_map _ (by intro _; rfl) _ h)
    exact hz0
  · exact Moves.refl

theorem execDocketComplete_moves (eng : Nat) (s : State) : MovesN 102416 s (execDocketComplete eng s) := by
  unfold execDocketComplete
  extract_lets +onlyGivenNames z0; clear_value z0
  split
  · extract_lets +onlyGivenNames z1
    have hz1 : Moves 102416 s z1 := by
      unfold z1
      refine Moves.call (engSet_moves _ _ _) (by decide) ?_
      refine Moves.call (dkPost_moves _ _ _) (by decide) ?_
      exact Moves.refl
    clear_value z1
    extract_lets +onlyGivenNames z2
    have hz2 : Moves 102416 s z2 := by
      unfold z2
      refine Moves.call (regAdd_moves _ _ _) (by decide) ?_
      exact hz1
    clear_value z2
    refine MovesN.next ?_
    split
    · refine Moves.ite (fun _ => ?_) (fun _ => ?_)
      · refine Moves.record ?_
        exact hz2
      · exact hz2
    · exact hz2
  · refine MovesN.next ?_
    exact Moves.refl

theorem scrubLine_moves (a : State × Scrub) (l : Nat) : Moves 138429432 a.1 (scrubLine a l).1 := by
  obtain ⟨s, x⟩ := a
  unfold scrubLine
  dsimp only
  have h1 : Moves 138429432 s (lineReadCount s l) := (lineReadCount_moves ..).mono (by decide)
  refine Moves.ite_of Prod.fst (fun _ => ?_) (fun _ => h1)
  exact Moves.call (chanSet_moves ..) (by decide) (Moves.call (writeBackLine_moves ..) (by decide) h1)

theorem execDocketScrub_moves (eng : Nat) (n : Nat) (s : State) : MovesN 138527736 s (execDocketScrub eng n s) := by
  unfold execDocketScrub
  extract_lets +onlyGivenNames z0; clear_value z0
  split
  · extract_lets +onlyGivenNames z1; clear_value z1
    extract_lets +onlyGivenNames z2; clear_value z2
    extract_lets +onlyGivenNames z3; clear_value z3
    extract_lets +onlyGivenNames z4; clear_value z4
    extract_lets +onlyGivenNames z5; clear_value z5
    extract_lets +onlyGivenNames z6
    have hz6 : Moves 138527736 s z6.1 := by
      unfold z6
      refine Moves.foldl_of Prod.fst (fun a7 _ => ?_) ?_
      · refine Moves.call (scrubLine_moves _ _) (by decide) ?_
        exact Moves.refl
      · exact Moves.refl
    clear_value z6
    extract_lets +onlyGivenNames z8
    have hz8 : Moves 138527736 s z8 := by
      unfold z8
      exact hz6
    clear_value z8
    extract_lets +onlyGivenNames z9; clear_value z9
    extract_lets +onlyGivenNames z10
    have hz10 : Moves 138527736 s z10 := by
      unfold z10
      refine Moves.record ?_
      exact hz8
    clear_value z10
    extract_lets +onlyGivenNames z11
    have hz11 : Moves 138527736 s z11 := by
      unfold z11
      refine Moves.call (regAdd_moves _ _ _) (by decide) ?_
      exact hz10
    clear_value z11
    refine MovesN.ite (fun _ => ?_) (fun _ => ?_)
    · refine MovesN.next ?_
      exact Moves.refl
    · refine MovesN.next ?_
      refine Moves.call (engMod_moves _ _ _) (by decide) ?_
      exact hz11
  · refine MovesN.next ?_
    exact Moves.refl

theorem scrubAbort_moves (s : State) : Moves 65536 s (scrubAbort s) := by
  unfold scrubAbort
  split
  · refine Moves.record ?_
    exact Moves.refl
  · exact Moves.refl

theorem scrubRequest_moves (s : State) (first : Nat) (last : Nat) (from_ : Option (Nat × Nat)) : Moves 98320 s (scrubRequest s first last from_) := by
  unfold scrubRequest
  extract_lets +onlyGivenNames z0; clear_value z0
  extract_lets +onlyGivenNames z1
  have hz1 : Moves 98320 s z1 := by
    unfold z1
    refine Moves.foldl (fun a2 _ => ?_) ?_
    · refine Moves.call (engMod_moves _ _ _) (by decide) ?_
      exact Moves.refl
    · exact Moves.refl
  clear_value z1
  extract_lets +onlyGivenNames z3
  have hz3 : Moves 98320 s z3 := by
    unfold z3
    refine Moves.call (scbState_moves _ _) (by decide) ?_
    refine Moves.call (regPut_moves _ _ _ _ _) (by decide) ?_
    exact hz1
  clear_value z3
  refine Moves.ite (fun _ => ?_) (fun _ => ?_)
  · refine Moves.call (scbState_moves _ _) (by decide) ?_
    exact Moves.refl
  · refine Moves.ite (fun _ => ?_) (fun _ => ?_)
    · refine Moves.call (scbState_moves _ _) (by decide) ?_
      exact Moves.refl
    · refine Moves.record ?_
      exact hz3

theorem execScrubAbort_moves (s : State) : MovesN 138478392 s (execScrubAbort s) := by
  unfold execScrubAbort
  refine MovesN.next ?_
  refine Moves.trans ?_ (hostWrite_moves (by decide) (fun a0 => ?_))
  · exact Moves.refl
  · refine Moves.call (scrubAbort_moves _) (by decide) ?_
    exact Moves.refl

theorem execScrubDone_moves (s : State) : MovesN 65560 s (execScrubDone s) := by
  unfold execScrubDone
  split
  · refine MovesN.ite (fun _ => ?_) (fun _ => ?_)
    · refine MovesN.next ?_
      refine Moves.call (scrubEnd_moves _ _ _) (by decide) ?_
      exact Moves.refl
    · refine MovesN.next ?_
      exact Moves.refl
  · refine MovesN.next ?_
    exact Moves.refl

theorem execScrubStart_moves (s : State) : MovesN 138511160 s (execScrubStart s) := by
  unfold execScrubStart
  refine MovesN.next ?_
  refine Moves.trans ?_ (hostWrite_moves (by decide) (fun a0 => ?_))
  · exact Moves.refl
  · refine Moves.call (scrubRequest_moves _ _ _ _) (by decide) ?_
    exact Moves.refl

end Sys2Proof.Laws
end

