-- ==== Sys2Proof/Laws/FrameThermal.lean ====
section
/-! SUPPORT. What each function of Machine/Thermal.lean may change, and that it keeps the canonical form: its frame law. -/

namespace Sys2Proof.Laws

set_option Elab.async false

open Sys2Proof Sys2Proof.Machine Sys2Proof.Safety

theorem baseAdjust_moves (s : State) (n : Nat) : Moves 8388608 s (baseAdjust s n) := by
  unfold baseAdjust
  extract_lets +onlyGivenNames z0; clear_value z0
  refine Moves.ite (fun _ => ?_) (fun _ => ?_)
  · refine Moves.call (stackMod_moves _ _ _) (by decide) ?_
    exact Moves.refl
  · refine Moves.ite (fun _ => ?_) (fun _ => ?_)
    · refine Moves.call (stackMod_moves _ _ _) (by decide) ?_
      exact Moves.refl
    · exact Moves.refl

theorem coolantReport_moves (s : State) (inlet : Int) (outlet : Int) (mlMin : Nat) : Moves 8389176 s (coolantReport s inlet outlet mlMin) := by
  unfold coolantReport
  extract_lets +onlyGivenNames z0
  have hz0 : Moves 8389176 s z0 := by
    unfold z0
    unfold pwr
    refine Moves.record ?_
    exact Moves.refl
  clear_value z0
  extract_lets +onlyGivenNames z1; clear_value z1
  refine Moves.ite (fun _ => ?_) (fun _ => ?_)
  · refine Moves.call (forceFloor_moves _) (by decide) ?_
    unfold pwr
    refine Moves.record ?_
    exact hz0
  · refine Moves.ite (fun _ => ?_) (fun _ => ?_)
    · refine Moves.ite (fun _ => ?_) (fun _ => ?_)
      · unfold pwr
        refine Moves.record ?_
        exact hz0
      · unfold pwr
        refine Moves.record ?_
        exact hz0
    · exact hz0

theorem dramAdjust_moves (s : State) (n : Nat) : Moves 8388608 s (dramAdjust s n) := by
  unfold dramAdjust
  extract_lets +onlyGivenNames z0; clear_value z0
  extract_lets +onlyGivenNames z1
  have hz1 : Moves 8388608 s z1 := by
    unfold z1
    refine Moves.call (stackMod_moves _ _ _) (by decide) ?_
    exact Moves.refl
  clear_value z1
  refine Moves.call (stackMod_moves _ _ _) (by decide) ?_
  exact hz1

theorem execCoolantReportTimeout_moves (s : State) : MovesN 146801464 s (execCoolantReportTimeout s) := by
  unfold execCoolantReportTimeout
  split
  · refine MovesN.ite (fun _ => ?_) (fun _ => ?_)
    · refine MovesN.next ?_
      refine Moves.call (logEvent_moves _ _ _ _ _ _) (by decide) ?_
      unfold pwr
      refine Moves.record ?_
      exact Moves.refl
    · refine MovesN.next ?_
      exact Moves.refl
  · refine MovesN.ite (fun _ => ?_) (fun _ => ?_)
    · refine MovesN.next ?_
      refine Moves.call (logEvent_moves _ _ _ _ _ _) (by decide) ?_
      unfold pwr
      refine Moves.record ?_
      exact Moves.refl
    · refine MovesN.next ?_
      exact Moves.refl

theorem execCoolantSlopeTrigger_moves (s : State) : MovesN 8389176 s (execCoolantSlopeTrigger s) := by
  unfold execCoolantSlopeTrigger
  extract_lets +onlyGivenNames z0; clear_value z0
  extract_lets +onlyGivenNames z1; clear_value z1
  extract_lets +onlyGivenNames z2; clear_value z2
  extract_lets +onlyGivenNames z3; clear_value z3
  refine MovesN.ite (fun _ => ?_) (fun _ => ?_)
  · refine MovesN.next ?_
    refine Moves.call (forceFloor_moves _) (by decide) ?_
    unfold pwr
    refine Moves.record ?_
    exact Moves.refl
  · refine MovesN.next ?_
    exact Moves.refl

theorem execCriticalTemperature_moves (s : State) : MovesN 8389176 s (execCriticalTemperature s) := by
  unfold execCriticalTemperature
  extract_lets +onlyGivenNames z0; clear_value z0
  extract_lets +onlyGivenNames z1; clear_value z1
  refine MovesN.ite (fun _ => ?_) (fun _ => ?_)
  · refine MovesN.next ?_
    refine Moves.call (forceFloor_moves _) (by decide) ?_
    unfold pwr
    refine Moves.record ?_
    exact Moves.refl
  · refine MovesN.ite (fun _ => ?_) (fun _ => ?_)
    · refine MovesN.ite (fun _ => ?_) (fun _ => ?_)
      · refine MovesN.next ?_
        unfold pwr
        refine Moves.record ?_
        exact Moves.refl
      · refine MovesN.next ?_
        unfold pwr
        refine Moves.record ?_
        exact Moves.refl
    · refine MovesN.next ?_
      exact Moves.refl

theorem siteMod_moves (s : State) (i : Nat) (f : Site → Site) : Moves 8388608 s (siteMod s i f) := by
  unfold siteMod
  unfold pwr
  refine Moves.record ?_
  exact Moves.refl

theorem regionAdjust_moves (s : State) (i : Nat) : Moves 8388608 s (regionAdjust s i) := by
  unfold regionAdjust
  extract_lets +onlyGivenNames z0; clear_value z0
  extract_lets +onlyGivenNames z1
  extract_lets +onlyGivenNames z2; clear_value z2
  extract_lets +onlyGivenNames z3; clear_value z3
  extract_lets +onlyGivenNames z4; clear_value z4
  extract_lets +onlyGivenNames z5
  have hz5 : Moves 8388608 s z5 := by
    unfold z5
    refine Moves.call (siteMod_moves _ _ _) (by decide) ?_
    exact Moves.refl
  clear_value z5
  refine Moves.ite (fun _ => ?_) (fun _ => ?_)
  · refine Moves.call (lowerPoint_moves _ _) (by decide) ?_
    exact hz5
  · exact hz5

theorem execHotspotAdjust_moves (s : State) : MovesN 8388608 s (execHotspotAdjust s) := by
  unfold execHotspotAdjust
  extract_lets +onlyGivenNames z0
  have hz0 : Moves 8388608 s z0 := by
    unfold z0
    refine Moves.foldl (fun a1 _ => ?_) ?_
    · refine Moves.call (regionAdjust_moves _ _) (by decide) ?_
      exact Moves.refl
    · unfold pwr
      refine Moves.record ?_
      exact Moves.refl
  clear_value z0
  refine MovesN.ite (fun _ => ?_) (fun _ => ?_)
  · refine MovesN.next ?_
    exact Moves.refl
  · refine MovesN.next ?_
    refine Moves.foldl (fun a2 _ => ?_) ?_
    · refine Moves.call (dramAdjust_moves _ _) (by decide) ?_
      exact Moves.refl
    · refine Moves.foldl (fun a3 _ => ?_) ?_
      · refine Moves.call (baseAdjust_moves _ _) (by decide) ?_
        exact Moves.refl
      · exact hz0

theorem execRthUpdate_moves (inputMw : Nat) (s : State) : MovesN 8388608 s (execRthUpdate inputMw s) := by
  unfold execRthUpdate
  extract_lets +onlyGivenNames z0; clear_value z0
  extract_lets +onlyGivenNames z1; clear_value z1
  extract_lets +onlyGivenNames z2; clear_value z2
  extract_lets +onlyGivenNames z3; clear_value z3
  refine MovesN.ite (fun _ => ?_) (fun _ => ?_)
  · refine MovesN.next ?_
    exact Moves.refl
  · refine MovesN.ite (fun _ => ?_) (fun _ => ?_)
    · refine MovesN.next ?_
      unfold pwr
      refine Moves.record ?_
      exact Moves.refl
    · refine MovesN.next ?_
      refine Moves.call (setThermal_moves _ _) (by decide) ?_
      unfold pwr
      refine Moves.record ?_
      exact Moves.refl

theorem siteTake_moves (s : State) (i : Nat) (r : Int × Int) : Moves 146801464 s (siteTake s i r) := by
  unfold siteTake
  extract_lets +onlyGivenNames z0; clear_value z0
  extract_lets +onlyGivenNames z1; clear_value z1
  extract_lets +onlyGivenNames z2; clear_value z2
  extract_lets +onlyGivenNames z3; clear_value z3
  extract_lets +onlyGivenNames z4; clear_value z4
  extract_lets +onlyGivenNames z5; clear_value z5
  extract_lets +onlyGivenNames z6
  have hz6 : Moves 146801464 s z6 := by
    unfold z6
    refine Moves.call (siteMod_moves _ _ _) (by decide) ?_
    exact Moves.refl
  clear_value z6
  refine Moves.ite (fun _ => ?_) (fun _ => ?_)
  · refine Moves.call (logEvent_moves _ _ _ _ _ _) (by decide) ?_
    exact hz6
  · exact hz6

theorem execSensorSample_moves (readings : List (Int × Int)) (dram : List Nat) (s : State) : MovesN 146801464 s (execSensorSample readings dram s) := by
  unfold execSensorSample
  extract_lets +onlyGivenNames z0
  have hz0 : Moves 146801464 s z0 := by
    unfold z0
    refine Moves.foldl (fun a1 _ => ?_) ?_
    · refine Moves.call (siteTake_moves _ _ _) (by decide) ?_
      exact Moves.refl
    · exact Moves.refl
  clear_value z0
  extract_lets +onlyGivenNames z2
  have hz2 : Moves 146801464 s z2 := by
    unfold z2
    refine Moves.foldl (fun a3 _ => ?_) ?_
    · extract_lets +onlyGivenNames z4; clear_value z4
      refine Moves.call (regPut_moves _ _ _ _ _) (by decide) ?_
      refine Moves.call (regPut_moves _ _ _ _ _) (by decide) ?_
      exact Moves.refl
    · exact hz0
  clear_value z2
  extract_lets +onlyGivenNames z5
  have hz5 : Moves 146801464 s z5 := by
    unfold z5
    unfold pwr
    refine Moves.record ?_
    exact hz2
  clear_value z5
  refine MovesN.ite (fun _ => ?_) (fun _ => ?_)
  · refine MovesN.next ?_
    exact Moves.refl
  · refine MovesN.ite (fun _ => ?_) (fun _ => ?_)
    · refine MovesN.next ?_
      exact hz5
    · refine MovesN.next ?_
      refine Moves.foldl (fun a6 _ => ?_) ?_
      · refine Moves.call (siteMod_moves _ _ _) (by decide) ?_
        exact Moves.refl
      · unfold pwr
        refine Moves.record ?_
        exact hz5

theorem execThermalTrip_moves (s : State) : MovesN 8389176 s (execThermalTrip s) := by
  unfold execThermalTrip
  refine MovesN.ite (fun _ => ?_) (fun _ => ?_)
  · refine MovesN.next ?_
    refine Moves.call (emit_moves _ _) (by decide) ?_
    refine Moves.call (forceFloor_moves _) (by decide) ?_
    unfold pwr
    refine Moves.record ?_
    exact Moves.refl
  · refine MovesN.next ?_
    exact Moves.refl

end Sys2Proof.Laws
end

