-- ==== Sys2Proof/Laws/FrameMgmt.lean ====
section
/-! SUPPORT. What each function of Machine/Mgmt.lean may change, and that it keeps the canonical form: its frame law. -/

namespace Sys2Proof.Laws

set_option Elab.async false

open Sys2Proof Sys2Proof.Machine Sys2Proof.Safety

theorem coolantTake_moves (s : State) (b : List Byte) : Moves 8389176 s (coolantTake s b) := by
  unfold coolantTake
  extract_lets +onlyGivenNames z0; clear_value z0
  extract_lets +onlyGivenNames z1; clear_value z1
  extract_lets +onlyGivenNames z2; clear_value z2
  refine Moves.ite (fun _ => ?_) (fun _ => ?_)
  · refine Moves.call (coolantReport_moves _ _ _ _) (by decide) ?_
    exact Moves.refl
  · unfold pwr
    refine Moves.record ?_
    exact Moves.refl

theorem sessionsEnd_moves (s : State) (p : Session → Bool) : Moves 268435456 s (sessionsEnd s p) := by
  unfold sessionsEnd
  refine Moves.call (mgmt_moves _ _) (by decide) ?_
  exact Moves.refl

theorem execBeaconLoss_moves (s : State) : MovesN 268435456 s (execBeaconLoss s) := by
  unfold execBeaconLoss
  refine MovesN.next ?_
  refine Moves.call (mgmt_moves _ _) (by decide) ?_
  exact Moves.refl

theorem execCoolant_moves (r : Request) (s : State) : MovesN 276824632 s (execCoolant r s) := by
  unfold execCoolant
  refine MovesN.next ?_
  refine Moves.trans ?_ (plovcoRequest_moves (by decide) (fun a0 => ?_))
  · exact Moves.refl
  · refine Moves.call (reply_moves _ _ _ _ _) (by decide) ?_
    refine Moves.call (coolantTake_moves _ _) (by decide) ?_
    exact Moves.refl

theorem execDaybook_moves (r : Request) (s : State) : MovesN 268435484 s (execDaybook r s) := by
  unfold execDaybook
  refine MovesN.next ?_
  refine Moves.trans ?_ (plovcoRequest_moves (by decide) (fun a0 => ?_))
  · exact Moves.refl
  · extract_lets +onlyGivenNames z1; clear_value z1
    split
    extract_lets +onlyGivenNames z2; clear_value z2
    refine Moves.call (reply_moves _ _ _ _ _) (by decide) ?_
    refine Moves.call (Moves.of_snd (by assumption) (freshFree_moves _)) (by decide) ?_
    exact Moves.refl

theorem execDaybookMirrorSecond_moves (s : State) : MovesN 272 s (execDaybookMirrorSecond s) := by
  unfold execDaybookMirrorSecond
  extract_lets +onlyGivenNames z0; clear_value z0
  extract_lets +onlyGivenNames z1; clear_value z1
  extract_lets +onlyGivenNames z2
  have hz2 : Moves 272 s z2 := by
    unfold z2
    refine Moves.call (mirrorWrite_moves _ _) (by decide) ?_
    refine Moves.call (bookWrite_moves _ _) (by decide) ?_
    exact Moves.refl
  clear_value z2
  extract_lets +onlyGivenNames z3; clear_value z3
  refine MovesN.ite (fun _ => ?_) (fun _ => ?_)
  · refine MovesN.next ?_
    exact Moves.refl
  · refine MovesN.next ?_
    refine Moves.record ?_
    exact hz2

theorem strangerAsk_moves {w : Nat} {s : State} {src : Nat} {f : State → State} (hw : 268435472 ||| w = w)
    (hf : ∀ a, Moves w a (f a)) : Moves w s (strangerAsk s src f) := by
  unfold strangerAsk
  have h1 : ∀ f, Moves w s (Machine.mgmt s f) := fun f => ((mgmt_moves ..).mono (v := 268435472) (by decide)).mono hw
  refine Moves.ite (fun _ => ?_) (fun _ => (h1 _).trans (hf _))
  exact (h1 _).trans (((dropFrame_moves ..).mono (v := 268435472) (by decide)).mono hw)

theorem openRequest_moves {w : Nat} {s : State} {src : Nat} {r : Request} {cmd : Nat} {formed : List Byte → Bool} {f : State → State} (hw : 268435480 ||| w = w)
    (hf : ∀ a, Moves w a (f a)) : Moves w s (openRequest s src r cmd formed f) := by
  unfold openRequest
  refine Moves.ite (fun _ => Moves.refl) (fun _ => Moves.ite (fun _ => plovcoRequest_moves hw hf) (fun _ => Moves.ite (fun _ => ?_) (fun _ => ?_)))
  · exact strangerAsk_moves (Moves.sub (v := 268435480) (by decide) hw) hf
  · exact ((dropFrame_moves ..).mono (v := 268435480) (by decide)).mono hw

theorem execDiscover_moves (src : Nat) (r : Request) (s : State) : MovesN 268435480 s (execDiscover src r s) := by
  unfold execDiscover
  refine MovesN.next ?_
  refine Moves.trans ?_ (openRequest_moves (by decide) (fun a0 => ?_))
  · exact Moves.refl
  · refine Moves.call (reply_moves _ _ _ _ _) (by decide) ?_
    exact Moves.refl

theorem execGetMeasurements_moves (doe : Bool) (session : Nat) (nonce : List Byte) (s : State) : MovesN 268435484 s (execGetMeasurements doe session nonce s)
      := by
  unfold execGetMeasurements
  refine MovesN.ite (fun _ => ?_) (fun _ => ?_)
  · refine MovesN.next ?_
    exact Moves.refl
  · refine MovesN.ite (fun _ => ?_) (fun _ => ?_)
    · split
      extract_lets +onlyGivenNames z0; clear_value z0
      refine MovesN.next ?_
      refine Moves.call (emit_moves _ _) (by decide) ?_
      refine Moves.call (Moves.of_snd (by assumption) (freshFree_moves _)) (by decide) ?_
      refine Moves.call (sessionTouch_moves _ _) (by decide) ?_
      exact Moves.refl
    · refine MovesN.next ?_
      refine Moves.call (dropFrame_moves _) (by decide) ?_
      exact Moves.refl

theorem execIdentity_moves (src : Nat) (r : Request) (s : State) : MovesN 268435480 s (execIdentity src r s) := by
  unfold execIdentity
  refine MovesN.next ?_
  refine Moves.trans ?_ (openRequest_moves (by decide) (fun a0 => ?_))
  · exact Moves.refl
  · refine Moves.call (reply_moves _ _ _ _ _) (by decide) ?_
    exact Moves.refl

theorem execLeaseRenew_moves (r : Request) (s : State) : MovesN 276824088 s (execLeaseRenew r s) := by
  unfold execLeaseRenew
  refine MovesN.next ?_
  refine Moves.trans ?_ (plovcoRequest_moves (by decide) (fun a0 => ?_))
  · exact Moves.refl
  · extract_lets +onlyGivenNames z1
    have hz1 : Moves 276824088 a0 z1 := by
      unfold z1
      refine Moves.call (leaseTray_moves _) (by decide) ?_
      exact Moves.refl
    clear_value z1
    refine Moves.call (reply_moves _ _ _ _ _) (by decide) ?_
    exact hz1

theorem execOrphanCap_moves (r : Request) (s : State) : MovesN 276824088 s (execOrphanCap r s) := by
  unfold execOrphanCap
  refine MovesN.next ?_
  refine Moves.trans ?_ (plovcoRequest_moves (by decide) (fun a0 => ?_))
  · exact Moves.refl
  · extract_lets +onlyGivenNames z1
    have hz1 : Moves 276824088 a0 z1 := by
      unfold z1
      unfold pwr
      refine Moves.record ?_
      exact Moves.refl
    clear_value z1
    refine Moves.call (reply_moves _ _ _ _ _) (by decide) ?_
    exact hz1

theorem execPowerStatus_moves (r : Request) (s : State) : MovesN 268435480 s (execPowerStatus r s) := by
  unfold execPowerStatus
  refine MovesN.next ?_
  refine Moves.trans ?_ (plovcoRequest_moves (by decide) (fun a0 => ?_))
  · exact Moves.refl
  · refine Moves.call (reply_moves _ _ _ _ _) (by decide) ?_
    exact Moves.refl

theorem execReceipt_moves (r : Request) (s : State) : MovesN 268435480 s (execReceipt r s) := by
  unfold execReceipt
  refine MovesN.next ?_
  refine Moves.trans ?_ (plovcoRequest_moves (by decide) (fun a0 => ?_))
  · exact Moves.refl
  · refine Moves.call (reply_moves _ _ _ _ _) (by decide) ?_
    exact Moves.refl

theorem execScrub_moves (r : Request) (s : State) : MovesN 268533784 s (execScrub r s) := by
  unfold execScrub
  refine MovesN.next ?_
  refine Moves.trans ?_ (plovcoRequest_moves (by decide) (fun a0 => ?_))
  · exact Moves.refl
  · extract_lets +onlyGivenNames z1
    have hz1 : Moves 268533784 a0 z1 := by
      unfold z1
      refine Moves.ite (fun _ => ?_) (fun _ => ?_)
      · refine Moves.call (scrubRequest_moves _ _ _ _) (by decide) ?_
        exact Moves.refl
      · refine Moves.call (scrubAbort_moves _) (by decide) ?_
        exact Moves.refl
    clear_value z1
    extract_lets +onlyGivenNames z2; clear_value z2
    extract_lets +onlyGivenNames z3; clear_value z3
    refine Moves.call (reply_moves _ _ _ _ _) (by decide) ?_
    exact hz1

theorem execSessionTimeout_moves (session : Nat) (s : State) : MovesN 268435456 s (execSessionTimeout session s) := by
  unfold execSessionTimeout
  refine MovesN.next ?_
  refine Moves.call (sessionsEnd_moves _ _) (by decide) ?_
  exact Moves.refl

theorem spdmReply_moves (s : State) (session : Nat) : Moves 12 s (spdmReply s session) := by
  unfold spdmReply
  split
  refine Moves.call (emit_moves _ _) (by decide) ?_
  refine Moves.call (Moves.of_snd (by assumption) (freshFree_moves _)) (by decide) ?_
  exact Moves.refl

theorem shakeBegin_moves (s : State) (src : Nat) (doe : Bool) (id : Nat) : Moves 268435484 s (shakeBegin s src doe id) := by
  unfold shakeBegin
  refine Moves.ite (fun _ => ?_) (fun _ => ?_)
  · refine Moves.call (dropFrame_moves _) (by decide) ?_
    exact Moves.refl
  · refine Moves.call (spdmReply_moves _ _) (by decide) ?_
    refine Moves.call (mgmt_moves _ _) (by decide) ?_
    exact Moves.refl

theorem shakeEnd_moves (s : State) (src : Nat) (doe : Bool) (id : Nat) (root : List Byte) (role : Role) (ok : Bool) : Moves 268435484 s (shakeEnd s src doe id
      root role ok) := by
  unfold shakeEnd
  split
  · refine Moves.call (dropFrame_moves _) (by decide) ?_
    exact Moves.refl
  · extract_lets +onlyGivenNames z0
    have hz0 : Moves 268435484 s z0 := by
      unfold z0
      refine Moves.call (mgmt_moves _ _) (by decide) ?_
      exact Moves.refl
    clear_value z0
    extract_lets +onlyGivenNames z1; clear_value z1
    extract_lets +onlyGivenNames z2
    have hz2 : Moves 268435484 s z2 := by
      unfold z2
      refine Moves.ite (fun _ => ?_) (fun _ => ?_)
      · refine Moves.call (mgmt_moves _ _) (by decide) ?_
        exact hz0
      · exact hz0
    clear_value z2
    refine Moves.call (spdmReply_moves _ _) (by decide) ?_
    exact hz2

theorem spdmTake_moves (s : State) (src : Nat) (doe : Bool) (session : Nat) (ask : SpdmAsk) : Moves 268435484 s (spdmTake s src doe session ask) := by
  unfold spdmTake
  split
  · refine Moves.ite (fun _ => ?_) (fun _ => ?_)
    · refine Moves.call (shakeBegin_moves _ _ _ _) (by decide) ?_
      exact Moves.refl
    · refine Moves.call (spdmReply_moves _ _) (by decide) ?_
      exact Moves.refl
  · refine Moves.ite (fun _ => ?_) (fun _ => ?_)
    · refine Moves.call (shakeEnd_moves _ _ _ _ _ _ _) (by decide) ?_
      exact Moves.refl
    · refine Moves.call (spdmReply_moves _ _) (by decide) ?_
      exact Moves.refl
  · refine Moves.call (spdmReply_moves _ _) (by decide) ?_
    exact Moves.refl
  · refine Moves.ite (fun _ => ?_) (fun _ => ?_)
    · refine Moves.call (dropFrame_moves _) (by decide) ?_
      exact Moves.refl
    · refine Moves.call (sessionsEnd_moves _ _) (by decide) ?_
      refine Moves.call (spdmReply_moves _ _) (by decide) ?_
      exact Moves.refl

theorem execSpdm_moves (src : Nat) (doe : Bool) (session : Nat) (ask : SpdmAsk) (s : State) : MovesN 268435484 s (execSpdm src doe session ask s) := by
  unfold execSpdm
  refine MovesN.ite (fun _ => ?_) (fun _ => ?_)
  · refine MovesN.next ?_
    exact Moves.refl
  · refine MovesN.ite (fun _ => ?_) (fun _ => ?_)
    · refine MovesN.next ?_
      refine Moves.ite (fun _ => ?_) (fun _ => ?_)
      · refine Moves.call (spdmTake_moves _ _ _ _ _) (by decide) ?_
        exact Moves.refl
      · refine Moves.trans ?_ (strangerAsk_moves (by decide) (fun a0 => ?_))
        · exact Moves.refl
        · refine Moves.call (spdmTake_moves _ _ _ _ _) (by decide) ?_
          exact Moves.refl
    · split
      · refine MovesN.ite (fun _ => ?_) (fun _ => ?_)
        · refine MovesN.next ?_
          refine Moves.call (spdmTake_moves _ _ _ _ _) (by decide) ?_
          refine Moves.call (sessionTouch_moves _ _) (by decide) ?_
          exact Moves.refl
        · refine MovesN.next ?_
          refine Moves.call (dropFrame_moves _) (by decide) ?_
          exact Moves.refl
      · refine MovesN.next ?_
        refine Moves.call (dropFrame_moves _) (by decide) ?_
        exact Moves.refl

theorem execStatus_moves (r : Request) (s : State) : MovesN 268435480 s (execStatus r s) := by
  unfold execStatus
  refine MovesN.next ?_
  refine Moves.trans ?_ (plovcoRequest_moves (by decide) (fun a0 => ?_))
  · exact Moves.refl
  · refine Moves.call (reply_moves _ _ _ _ _) (by decide) ?_
    exact Moves.refl

theorem execStrangerFrame_moves (s : State) : MovesN 16 s (execStrangerFrame s) := by
  unfold execStrangerFrame
  refine MovesN.ite (fun _ => ?_) (fun _ => ?_)
  · refine MovesN.next ?_
    refine Moves.call (dropFrame_moves _) (by decide) ?_
    exact Moves.refl
  · refine MovesN.next ?_
    exact Moves.refl

theorem execTrace_moves (r : Request) (s : State) : MovesN 268435480 s (execTrace r s) := by
  unfold execTrace
  refine MovesN.next ?_
  refine Moves.trans ?_ (plovcoRequest_moves (by decide) (fun a0 => ?_))
  · exact Moves.refl
  · extract_lets +onlyGivenNames z1
    have hz1 : Moves 268435480 a0 z1 := by
      unfold z1
      refine Moves.foldl (fun a2 _ => ?_) ?_
      · refine Moves.call (regSet_moves _ _ _) (by decide) ?_
        exact Moves.refl
      · exact Moves.refl
    clear_value z1
    refine Moves.call (reply_moves _ _ _ _ _) (by decide) ?_
    exact hz1

theorem execTrayCap_moves (r : Request) (s : State) : MovesN 276824088 s (execTrayCap r s) := by
  unfold execTrayCap
  refine MovesN.next ?_
  refine Moves.trans ?_ (plovcoRequest_moves (by decide) (fun a0 => ?_))
  · exact Moves.refl
  · extract_lets +onlyGivenNames z1
    have hz1 : Moves 276824088 a0 z1 := by
      unfold z1
      refine Moves.call (leaseTray_moves _) (by decide) ?_
      refine Moves.call (setTray_moves _ _) (by decide) ?_
      exact Moves.refl
    clear_value z1
    refine Moves.call (reply_moves _ _ _ _ _) (by decide) ?_
    exact hz1

theorem execUnknownCommand_moves (cmd : Nat) (r : Request) (s : State) : MovesN 268435480 s (execUnknownCommand cmd r s) := by
  unfold execUnknownCommand
  refine MovesN.ite (fun _ => ?_) (fun _ => ?_)
  · refine MovesN.next ?_
    exact Moves.refl
  · split
    · refine MovesN.next ?_
      refine Moves.call (reply_moves _ _ _ _ _) (by decide) ?_
      refine Moves.call (sessionTouch_moves _ _) (by decide) ?_
      exact Moves.refl
    · refine MovesN.next ?_
      refine Moves.call (dropFrame_moves _) (by decide) ?_
      exact Moves.refl

end Sys2Proof.Laws
end

