-- ==== Sys2Proof/Laws/FrameStore.lean ====
section
/-! SUPPORT. What each function of Machine/Store.lean may change, and that it keeps the canonical form: its frame law. -/

namespace Sys2Proof.Laws

set_option Elab.async false

open Sys2Proof Sys2Proof.Machine Sys2Proof.Safety

theorem regWrite_moves (s : State) (k : Nat) (v : Word) : Moves 16 s (regWrite s k v) := by
  unfold regWrite
  split
  · refine Moves.call (regSet_moves _ _ _) (by decide) ?_
    exact Moves.refl
  · exact Moves.refl

theorem setMode_moves (s : State) (v : Word) : Moves 16 s (setMode s v) := by
  unfold setMode
  refine Moves.foldl (fun a0 _ => ?_) ?_
  · refine Moves.call (regWrite_moves _ _ _) (by decide) ?_
    exact Moves.refl
  · exact Moves.refl

theorem storeReg_moves (s : State) (k : Nat) (v : Word) : Moves 2064 s (storeReg s k v) := by
  unfold storeReg
  refine Moves.ite (fun _ => ?_) (fun _ => ?_)
  · refine Moves.call (setMode_moves _ _) (by decide) ?_
    exact Moves.refl
  · refine Moves.ite (fun _ => ?_) (fun _ => ?_)
    · refine Moves.call (droneApply_moves _ _ _) (by decide) ?_
      exact Moves.refl
    · refine Moves.call (regWrite_moves _ _ _) (by decide) ?_
      exact Moves.refl

end Sys2Proof.Laws
end

