-- ==== Sys2Proof/Laws/FramePattern.lean ====
section
/-! SUPPORT. What each function of Machine/Pattern.lean may change, and that it keeps the canonical form: its frame law. -/

namespace Sys2Proof.Laws

set_option Elab.async false

open Sys2Proof Sys2Proof.Machine Sys2Proof.Safety

theorem applyArb_moves (s : State) (b : List Byte) : Moves 16 s (applyArb s b) := by
  unfold applyArb
  extract_lets +onlyGivenNames z0
  have hz0 : ∀ x0 x1 x2, Moves 16 x0 (z0 x0 x1 x2) := by
    intro x0 x1 x2
    unfold z0
    refine Moves.call (regWrite_moves _ _ _) (by decide) ?_
    exact Moves.refl
  clear_value z0
  extract_lets +onlyGivenNames z1
  have hz1 : Moves 16 s z1 := by
    unfold z1
    refine Moves.foldl (fun a2 _ => ?_) ?_
    · split
      extract_lets +onlyGivenNames z3
      have hz3 : Moves 16 a2 z3 := by
        unfold z3
        refine Moves.foldl (fun a4 _ => ?_) ?_
        · exact hz0 _ _ _
        · exact Moves.refl
      clear_value z3
      extract_lets +onlyGivenNames z5
      have hz5 : Moves 16 a2 z5 := by
        unfold z5
        refine Moves.foldl (fun a6 _ => ?_) ?_
        · exact hz0 _ _ _
        · exact hz3
      clear_value z5
      refine Moves.foldl (fun a7 _ => ?_) ?_
      · exact hz0 _ _ _
      · exact hz5
    · exact Moves.refl
  clear_value z1
  refine Moves.foldl (fun a8 _ => ?_) ?_
  · split
    refine Moves.call (regWrite_moves _ _ _) (by decide) ?_
    exact Moves.refl
  · exact hz1

theorem applyFabric_moves (s : State) (p : Pattern) (sec : Nat → List Byte) : Moves 3145744 s (applyFabric s p sec) := by
  unfold applyFabric
  extract_lets +onlyGivenNames z0; clear_value z0
  extract_lets +onlyGivenNames z1; clear_value z1
  extract_lets +onlyGivenNames z2
  extract_lets +onlyGivenNames z3
  have hz3 : Moves 3145744 s z3 := by
    unfold z3
    refine Moves.record ?_
    exact Moves.refl
  clear_value z3
  extract_lets +onlyGivenNames z4
  have hz4 : Moves 3145744 s z4 := by
    unfold z4
    refine Moves.call (regWrite_moves _ _ _) (by decide) ?_
    exact hz3
  clear_value z4
  extract_lets +onlyGivenNames z5
  have hz5 : Moves 3145744 s z5 := by
    unfold z5
    refine Moves.foldl (fun a6 _ => ?_) ?_
    · split
      refine Moves.call (regWrite_moves _ _ _) (by decide) ?_
      refine Moves.call (regSet_moves _ _ _) (by decide) ?_
      exact Moves.refl
    · exact hz4
  clear_value z5
  extract_lets +onlyGivenNames z7
  have hz7 : Moves 3145744 s z7 := by
    unfold z7
    refine Moves.call (regPut_moves _ _ _ _ _) (by decide) ?_
    exact hz5
  clear_value z7
  extract_lets +onlyGivenNames z8; clear_value z8
  extract_lets +onlyGivenNames z9; clear_value z9
  refine Moves.record ?_
  exact hz7

theorem applyGroups_moves (s : State) (p : Pattern) : Moves 16 s (applyGroups s p) := by
  unfold applyGroups
  extract_lets +onlyGivenNames z0
  have hz0 : Moves 16 s z0 := by
    unfold z0
    refine Moves.call (regRestore_moves _ _) (by decide) ?_
    exact Moves.refl
  clear_value z0
  refine Moves.foldl (fun a1 _ => ?_) ?_
  · refine Moves.call (regSet_moves _ _ _) (by decide) ?_
    exact Moves.refl
  · exact hz0

theorem applyPower_moves (s : State) (p : Pattern) : Moves 8388624 s (applyPower s p) := by
  unfold applyPower
  extract_lets +onlyGivenNames z0; clear_value z0
  extract_lets +onlyGivenNames z1; clear_value z1
  refine Moves.call (setPatternW_moves _ _) (by decide) ?_
  refine Moves.call (regSet_moves _ _ _) (by decide) ?_
  exact Moves.refl

theorem applyTiles_moves (s : State) : Moves 405504 s (applyTiles s) := by
  unfold applyTiles
  extract_lets +onlyGivenNames z0
  have hz0 : Moves 405504 s z0 := by
    unfold z0
    refine Moves.call (tilesMod_moves _ _ _) (by decide) ?_
    refine Moves.record ?_ (cgangs := fun _ => rfl)
    exact Moves.refl
  clear_value z0
  refine Moves.record ?_
  exact hz0

theorem applyTwin_moves (s : State) (p : Pattern) : Moves 134217744 s (applyTwin s p) := by
  unfold applyTwin
  extract_lets +onlyGivenNames z0; clear_value z0
  extract_lets +onlyGivenNames z1
  have hz1 : Moves 134217744 s z1 := by
    unfold z1
    refine Moves.call (regSet_moves _ _ _) (by decide) ?_
    exact Moves.refl
  clear_value z1
  refine Moves.record ?_
  exact hz1

theorem recordSerial_moves (s : State) (p : Pattern) : Moves 33554432 s (recordSerial s p) := by
  unfold recordSerial
  extract_lets +onlyGivenNames z0; clear_value z0
  extract_lets +onlyGivenNames z1; clear_value z1
  refine Moves.record ?_
  exact Moves.refl

theorem reseedAll_moves (s : State) : Moves 16384 s (reseedAll s) := by
  unfold reseedAll
  refine Moves.foldl (fun a0 _ => ?_) ?_
  · extract_lets +onlyGivenNames z1; clear_value z1
    refine Moves.call (chanSet_moves _ _ _) (by decide) ?_
    exact Moves.refl
  · exact Moves.refl

theorem showApplied_moves (s : State) (p : Pattern) : Moves 138412856 s (showApplied s p) := by
  unfold showApplied
  extract_lets +onlyGivenNames z0
  have hz0 : Moves 138412856 s z0 := by
    unfold z0
    refine Moves.call (regSet_moves _ _ _) (by decide) ?_
    exact Moves.refl
  clear_value z0
  extract_lets +onlyGivenNames z1
  have hz1 : Moves 138412856 s z1 := by
    unfold z1
    refine Moves.foldl (fun a2 _ => ?_) ?_
    · refine Moves.call (regSet_moves _ _ _) (by decide) ?_
      exact Moves.refl
    · exact hz0
  clear_value z1
  extract_lets +onlyGivenNames z3
  have hz3 : Moves 138412856 s z3 := by
    unfold z3
    refine Moves.call (regSet_moves _ _ _) (by decide) ?_
    exact hz1
  clear_value z3
  extract_lets +onlyGivenNames z4
  have hz4 : Moves 138412856 s z4 := by
    unfold z4
    refine Moves.call (imageCount_moves _) (by decide) ?_
    refine Moves.call (regSet_moves _ _ _) (by decide) ?_
    exact hz3
  clear_value z4
  extract_lets +onlyGivenNames z5
  have hz5 : Moves 138412856 s z5 := by
    unfold z5
    refine Moves.call (regPut_moves _ _ _ _ _) (by decide) ?_
    refine Moves.call (regPut_moves _ _ _ _ _) (by decide) ?_
    exact hz4
  clear_value z5
  extract_lets +onlyGivenNames z6
  have hz6 : Moves 138412856 s z6 := by
    unfold z6
    refine Moves.call (logEvent_moves _ _ _ _ _ _) (by decide) ?_
    exact hz5
  clear_value z6
  refine Moves.call (eventAppend_moves _ _ _ _ _ _ _) (by decide) ?_
  exact hz6

theorem writeIds_moves (s : State) (p : Pattern) : Moves 5120 s (writeIds s p) := by
  unfold writeIds
  extract_lets +onlyGivenNames z0; clear_value z0
  refine Moves.foldl (fun a1 _ => ?_) ?_
  · refine Moves.call (tileMod_moves _ _ _) (by decide) ?_
    exact Moves.refl
  · refine Moves.record ?_
    exact Moves.refl

theorem applyPattern_moves (s : State) (p0 : Pattern) (secs : SMap (List Byte)) : Moves 184483640 s (applyPattern s p0 secs) := by
  unfold applyPattern
  extract_lets +onlyGivenNames z0; clear_value z0
  extract_lets +onlyGivenNames z1; clear_value z1
  extract_lets +onlyGivenNames z2
  have hz2 : Moves 184483640 s z2 := by
    unfold z2
    refine Moves.call (applyTiles_moves _) (by decide) ?_
    exact Moves.refl
  clear_value z2
  extract_lets +onlyGivenNames z3; clear_value z3
  extract_lets +onlyGivenNames z4
  have hz4 : Moves 184483640 s z4 := by
    unfold z4
    refine Moves.record ?_
    exact hz2
  clear_value z4
  extract_lets +onlyGivenNames z5
  have hz5 : Moves 184483640 s z5 := by
    unfold z5
    refine Moves.call (applyTiles_moves _) (by decide) ?_
    exact hz4
  clear_value z5
  extract_lets +onlyGivenNames z6
  have hz6 : Moves 184483640 s z6 := by
    unfold z6
    refine Moves.call (setMode_moves _ _) (by decide) ?_
    refine Moves.call (applyFabric_moves _ _ _) (by decide) ?_
    exact hz5
  clear_value z6
  extract_lets +onlyGivenNames z7
  have hz7 : Moves 184483640 s z7 := by
    unfold z7
    refine Moves.call (applyGroups_moves _ _) (by decide) ?_
    refine Moves.call (reseedAll_moves _) (by decide) ?_
    refine Moves.call (applyArb_moves _ _) (by decide) ?_
    exact hz6
  clear_value z7
  extract_lets +onlyGivenNames z8
  have hz8 : Moves 184483640 s z8 := by
    unfold z8
    refine Moves.call (applyTwin_moves _ _) (by decide) ?_
    refine Moves.call (droneApply_moves _ _ _) (by decide) ?_
    exact hz7
  clear_value z8
  extract_lets +onlyGivenNames z9
  have hz9 : Moves 184483640 s z9 := by
    unfold z9
    refine Moves.call (applyPower_moves _ _) (by decide) ?_
    refine Moves.call (writeIds_moves _ _) (by decide) ?_
    exact hz8
  clear_value z9
  extract_lets +onlyGivenNames z10
  have hz10 : Moves 184483640 s z10 := by
    unfold z10
    refine Moves.call (chansEmpty_moves _ _) (by decide) ?_
    refine Moves.call (enginesClear_moves _) (by decide) ?_
    exact hz9
  clear_value z10
  extract_lets +onlyGivenNames z11
  have hz11 : Moves 184483640 s z11 := by
    unfold z11
    refine Moves.foldl (fun a12 _ => ?_) ?_
    · refine Moves.call (regPut_moves _ _ _ _ _) (by decide) ?_
      exact Moves.refl
    · exact hz10
  clear_value z11
  extract_lets +onlyGivenNames z13
  have hz13 : Moves 184483640 s z13 := by
    unfold z13
    refine Moves.foldl (fun a14 _ => ?_) ?_
    · refine Moves.call (recheck_moves _ _) (by decide) ?_
      exact Moves.refl
    · exact hz11
  clear_value z13
  refine Moves.call (showApplied_moves _ _) (by decide) ?_
  refine Moves.call (recordSerial_moves _ _) (by decide) ?_
  exact hz13

theorem refusePattern_moves (s : State) (r : Refused) : Moves 138412856 s (refusePattern s r) := by
  unfold refusePattern
  extract_lets +onlyGivenNames z0; clear_value z0
  extract_lets +onlyGivenNames z1; clear_value z1
  extract_lets +onlyGivenNames z2; clear_value z2
  refine Moves.call (eventAppend_moves _ _ _ _ _ _ _) (by decide) ?_
  refine Moves.call (logEvent_moves _ _ _ _ _ _) (by decide) ?_
  refine Moves.call (regSet_moves _ _ _) (by decide) ?_
  exact Moves.refl

theorem patternApply_moves (lpkg : Nat) (s : State) : Moves 184483640 s (patternApply lpkg s) := by
  unfold patternApply
  extract_lets +onlyGivenNames z0
  have hz0 : Moves 184483640 s z0 := by
    unfold z0
    refine Moves.ite (fun _ => ?_) (fun _ => ?_)
    · exact Moves.refl
    · refine Moves.call (linesReadEffects_moves _ _) (by decide) ?_
      exact Moves.refl
  clear_value z0
  split
  · refine Moves.call (refusePattern_moves _ _) (by decide) ?_
    exact hz0
  · refine Moves.call (applyPattern_moves _ _ _) (by decide) ?_
    exact hz0

theorem execPatternApply_moves (lpkg : Nat) (s : State) : MovesN 184483640 s (execPatternApply lpkg s) := by
  unfold execPatternApply
  refine MovesN.next ?_
  refine Moves.trans ?_ (hostWrite_moves (by decide) (fun a0 => ?_))
  · exact Moves.refl
  · refine Moves.call (patternApply_moves _ _) (by decide) ?_
    exact Moves.refl

end Sys2Proof.Laws
end

