-- ==== Sys2Proof/Laws/FrameWarm.lean ====
section
/-! SUPPORT. What each function of Machine/Warm.lean may change, and that it keeps the canonical form: its frame law. -/

namespace Sys2Proof.Laws

set_option Elab.async false

open Sys2Proof Sys2Proof.Machine Sys2Proof.Safety

theorem cycleSend_moves (s : State) (reason : Nat) : Moves 268435464 s (cycleSend s reason) := by
  unfold cycleSend
  extract_lets +onlyGivenNames z0
  have hz0 : Moves 268435464 s z0 := by
    unfold z0
    refine Moves.call (mgmt_moves _ _) (by decide) ?_
    exact Moves.refl
  clear_value z0
  split
  · exact hz0
  · extract_lets +onlyGivenNames z1; clear_value z1
    refine Moves.call (emit_moves _ _) (by decide) ?_
    refine Moves.call (mgmt_moves _ _) (by decide) ?_
    exact hz0

theorem resetNotices_moves (s : State) (level : Nat) : Moves 134742024 s (resetNotices s level) := by
  unfold resetNotices
  refine Moves.foldl (fun a0 _ => ?_) ?_
  · extract_lets +onlyGivenNames z1; clear_value z1
    extract_lets +onlyGivenNames z2; clear_value z2
    extract_lets +onlyGivenNames z3; clear_value z3
    extract_lets +onlyGivenNames z4; clear_value z4
    refine Moves.ite (fun _ => ?_) (fun _ => ?_)
    · refine Moves.call (inject_moves _ _ _) (by decide) ?_
      refine Moves.record ?_
      exact Moves.refl
    · exact Moves.refl
  · exact Moves.refl

theorem askCycle_moves (s : State) (trigger : Nat) : Moves 415793976 s (askCycle s trigger) := by
  unfold askCycle
  extract_lets +onlyGivenNames z0
  have hz0 : Moves 415793976 s z0 := by
    unfold z0
    refine Moves.call (raiseTrigger_moves _ _ _) (by decide) ?_
    refine Moves.call (resetNotices_moves _ _) (by decide) ?_
    exact Moves.refl
  clear_value z0
  refine Moves.call (cycleSend_moves _ _) (by decide) ?_
  refine Moves.call (forceFloor_moves _) (by decide) ?_
  exact hz0

theorem levelEnd_moves (s : State) (q : RcvReq) (result : Nat) : Moves 524304 s (levelEnd s q result) := by
  unfold levelEnd
  extract_lets +onlyGivenNames z0; clear_value z0
  extract_lets +onlyGivenNames z1
  have hz1 : Moves 524304 s z1 := by
    unfold z1
    refine Moves.record ?_
    exact Moves.refl
  clear_value z1
  extract_lets +onlyGivenNames z2; clear_value z2
  extract_lets +onlyGivenNames z3
  have hz3 : Moves 524304 s z3 := by
    unfold z3
    refine Moves.call (regSet_moves _ _ _) (by decide) ?_
    exact hz1
  clear_value z3
  refine Moves.ite (fun _ => ?_) (fun _ => ?_)
  · refine Moves.call (regAdd_moves _ _ _) (by decide) ?_
    exact hz3
  · exact hz3

theorem execCycleRequest_moves (s : State) : MovesN 268435464 s (execCycleRequest s) := by
  unfold execCycleRequest
  split
  · refine MovesN.ite (fun _ => ?_) (fun _ => ?_)
    · refine MovesN.next ?_
      refine Moves.call (cycleSend_moves _ _) (by decide) ?_
      exact Moves.refl
    · refine MovesN.next ?_
      exact Moves.refl
  · refine MovesN.ite (fun _ => ?_) (fun _ => ?_)
    · refine MovesN.next ?_
      refine Moves.call (cycleSend_moves _ _) (by decide) ?_
      exact Moves.refl
    · refine MovesN.next ?_
      exact Moves.refl

theorem execCycleRequestAnswer_moves (s : State) : MovesN 268435456 s (execCycleRequestAnswer s) := by
  unfold execCycleRequestAnswer
  refine MovesN.next ?_
  refine Moves.call (mgmt_moves _ _) (by decide) ?_
  exact Moves.refl

theorem warrantPut_moves (s : State) (w : Warrant) : Moves 50331664 s (warrantPut s w) := by
  unfold warrantPut
  extract_lets +onlyGivenNames z0
  have hz0 : Moves 50331664 s z0 := by
    unfold z0
    refine Moves.call (flashMod_moves _ _) (by decide) ?_
    exact Moves.refl
  clear_value z0
  extract_lets +onlyGivenNames z1
  have hz1 : Moves 50331664 s z1 := by
    unfold z1
    refine Moves.call (warrantPending_moves _) (by decide) ?_
    exact hz0
  clear_value z1
  refine Moves.ite (fun _ => ?_) (fun _ => ?_)
  · refine Moves.call (bring_moves _ _) (by decide) ?_
    exact hz1
  · exact hz1

theorem warrantTake_moves (s : State) (bs : List Byte) : MovesE 50331664 s (warrantTake s bs) := by
  unfold warrantTake
  extract_lets +onlyGivenNames z0; clear_value z0
  refine MovesE.ite (fun _ => ?_) (fun _ => ?_)
  · exact MovesE.error
  · refine MovesE.ite (fun _ => ?_) (fun _ => ?_)
    · exact MovesE.error
    · refine MovesE.ite (fun _ => ?_) (fun _ => ?_)
      · exact MovesE.error
      · refine MovesE.ite (fun _ => ?_) (fun _ => ?_)
        · exact MovesE.error
        · refine MovesE.ite (fun _ => ?_) (fun _ => ?_)
          · exact MovesE.error
          · refine MovesE.ok ?_
            refine Moves.call (warrantPut_moves _ _) (by decide) ?_
            exact Moves.refl

theorem warmStacks_moves (s : State) : Moves 49168 s (warmStacks s) := by
  unfold warmStacks
  extract_lets +onlyGivenNames z0; clear_value z0
  extract_lets +onlyGivenNames z1
  have hz1 : Moves 49168 s z1 := by
    unfold z1
    refine Moves.call (showStacks_moves _ _) (by decide) ?_
    refine Moves.call (regRestore_moves _ _) (by decide) ?_
    refine Moves.record ?_ (cengs := fun _ => rfl)
    exact Moves.refl
  clear_value z1
  extract_lets +onlyGivenNames z2
  have hz2 : Moves 49168 s z2 := by
    unfold z2
    split
    · refine Moves.call (applyArb_moves _ _) (by decide) ?_
      refine Moves.call (setMode_moves _ _) (by decide) ?_
      exact hz1
    · exact hz1
  clear_value z2
  refine Moves.foldl (fun a3 _ => ?_) ?_
  · refine Moves.call (chanRestart_moves _ _) (by decide) ?_
    exact Moves.refl
  · exact hz2

theorem warmTiles_moves (s : State) : Moves 13328 s (warmTiles s) := by
  unfold warmTiles
  extract_lets +onlyGivenNames z0
  have hz0 : Moves 13328 s z0 := by
    unfold z0
    refine Moves.call (regRestore_moves _ _) (by decide) ?_
    refine Moves.record ?_ (ctiles := fun h => mapRising_map _ (by intro _; rfl) _ h) (cgangs := fun _ => rfl)
    exact Moves.refl
  clear_value z0
  split
  · refine Moves.call (writeIds_moves _ _) (by decide) ?_
    exact hz0
  · extract_lets +onlyGivenNames z1; clear_value z1
    refine Moves.record ?_
    exact hz0

theorem warmDone_moves (s : State) (lost : Nat) : Moves 164296504 s (warmDone s lost) := by
  unfold warmDone
  extract_lets +onlyGivenNames z0
  have hz0 : Moves 164296504 s z0 := by
    unfold z0
    refine Moves.call (warrantPower_moves _) (by decide) ?_
    refine Moves.call (warrantsEffect_moves _) (by decide) ?_
    refine Moves.call (takeForce_moves _ _) (by decide) ?_
    refine Moves.call (mendLoad_moves _ _) (by decide) ?_
    exact Moves.refl
  clear_value z0
  extract_lets +onlyGivenNames z1
  have hz1 : Moves 164296504 s z1 := by
    unfold z1
    refine Moves.call (warmStacks_moves _) (by decide) ?_
    refine Moves.call (warmTiles_moves _) (by decide) ?_
    exact hz0
  clear_value z1
  extract_lets +onlyGivenNames z2; clear_value z2
  extract_lets +onlyGivenNames z3; clear_value z3
  extract_lets +onlyGivenNames z4
  have hz4 : Moves 164296504 s z4 := by
    unfold z4
    refine Moves.call (imageCount_moves _) (by decide) ?_
    refine Moves.record ?_
    exact hz1
  clear_value z4
  extract_lets +onlyGivenNames z5
  have hz5 : Moves 164296504 s z5 := by
    unfold z5
    refine Moves.call (regSatAdd_moves _ _ _ _ _) (by decide) ?_
    refine Moves.call (regPut_moves _ _ _ _ _) (by decide) ?_
    exact hz4
  clear_value z5
  extract_lets +onlyGivenNames z6
  have hz6 : Moves 164296504 s z6 := by
    unfold z6
    refine Moves.call (showMend_moves _) (by decide) ?_
    refine Moves.call (setBoot_moves _ _) (by decide) ?_
    refine Moves.call (bring_moves _ _) (by decide) ?_
    exact hz5
  clear_value z6
  split
  · refine Moves.call (levelEnd_moves _ _ _) (by decide) ?_
    exact hz6
  · exact hz6

theorem warmFailed_moves (s : State) : Moves 432571192 s (warmFailed s) := by
  unfold warmFailed
  extract_lets +onlyGivenNames z0
  have hz0 : Moves 432571192 s z0 := by
    unfold z0
    refine Moves.call (bring_moves _ _) (by decide) ?_
    exact Moves.refl
  clear_value z0
  extract_lets +onlyGivenNames z1
  have hz1 : Moves 432571192 s z1 := by
    unfold z1
    split
    · refine Moves.call (levelEnd_moves _ _ _) (by decide) ?_
      exact hz0
    · exact hz0
  clear_value z1
  refine Moves.call (askCycle_moves _ _) (by decide) ?_
  exact hz1

theorem execWarmPath_moves (failed : Nat) (lost : Nat) (s : State) : MovesN 432731960 s (execWarmPath failed lost s) := by
  unfold execWarmPath
  refine MovesN.ite (fun _ => ?_) (fun _ => ?_)
  · refine MovesN.next ?_
    exact Moves.refl
  · refine MovesN.ite (fun _ => ?_) (fun _ => ?_)
    · refine MovesN.next ?_
      refine Moves.call (warmFailed_moves _) (by decide) ?_
      exact Moves.refl
    · refine MovesN.next ?_
      refine Moves.call (warmDone_moves _ _) (by decide) ?_
      exact Moves.refl

theorem execWarrantInstall_moves (o : Origin) (s : State) : MovesN 457196344 s (execWarrantInstall o s) := by
  unfold execWarrantInstall
  refine MovesN.next ?_
  refine Moves.trans ?_ (recordRequest_moves (by decide) (fun a0 _ => ?_))
  · exact Moves.refl
  · exact MovesE.mono (warrantTake_moves _ _) (by decide)

end Sys2Proof.Laws
end

