-- ==== Sys2Proof/Laws/FrameRecovery.lean ====
section
/-! SUPPORT. What each function of Machine/Recovery.lean may change, and that it keeps the canonical form: its frame law. -/

namespace Sys2Proof.Laws

set_option Elab.async false

open Sys2Proof Sys2Proof.Machine Sys2Proof.Safety

theorem ctxFreeze_moves (s : State) (c : Nat) (fault : Nat) (detail : Nat) : Moves 138557244 s (ctxFreeze s c fault detail) := by
  unfold ctxFreeze
  extract_lets +onlyGivenNames z0
  have hz0 : Moves 138557244 s z0 := by
    unfold z0
    refine Moves.call (freezeGangs_moves _ _) (by decide) ?_
    exact Moves.refl
  clear_value z0
  extract_lets +onlyGivenNames z1
  have hz1 : Moves 138557244 s z1 := by
    unfold z1
    split
    · refine Moves.call (stepFail_moves _ _ _ _ _) (by decide) ?_
      exact hz0
    · exact hz0
  clear_value z1
  extract_lets +onlyGivenNames z2
  have hz2 : Moves 138557244 s z2 := by
    unfold z2
    refine Moves.call (strumLose_moves _ _) (by decide) ?_
    exact hz1
  clear_value z2
  refine Moves.call (twinOut_moves _) (by decide) ?_
  exact hz2

theorem ctxClear_moves (s : State) (c : Nat) : Moves 135589896 s (ctxClear s c) := by
  unfold ctxClear
  extract_lets +onlyGivenNames z0; clear_value z0
  extract_lets +onlyGivenNames z1
  have hz1 : Moves 135589896 s z1 := by
    unfold z1
    refine Moves.call (collPurge_moves _ _) (by decide) ?_
    refine Moves.call (enginesPurge_moves _ _) (by decide) ?_
    refine Moves.call (chansPurge_moves _ _) (by decide) ?_
    refine Moves.call (routerCtxReset_moves _ _) (by decide) ?_
    exact Moves.refl
  clear_value z1
  extract_lets +onlyGivenNames z2
  have hz2 : Moves 135589896 s z2 := by
    unfold z2
    refine Moves.call (tilesMod_moves _ _ _) (by decide) ?_
    exact hz1
  clear_value z2
  extract_lets +onlyGivenNames z3
  have hz3 : Moves 135589896 s z3 := by
    unfold z3
    refine Moves.foldl (fun a4 _ => ?_) ?_
    · refine Moves.call (reloadInstr_moves _ _) (by decide) ?_
      exact Moves.refl
    · exact hz2
  clear_value z3
  extract_lets +onlyGivenNames z5
  have hz5 : Moves 135589896 s z5 := by
    unfold z5
    refine Moves.record ?_ (cgangs := by (try dsimp only); intro h; refine mapRising_foldl _ (fun m e hm => ?_) _ _ h; exact mapRising_mapDel _ _ hm)
    exact hz3
  clear_value z5
  refine Moves.call (chansEmpty_moves _ _) (by decide) ?_
  exact hz5

theorem recordsEnd_moves (s : State) (c : Nat) (fault : Nat) : Moves 138434552 s (recordsEnd s c fault) := by
  unfold recordsEnd
  refine Moves.foldl (fun a0 _ => ?_) ?_
  · split
    · refine Moves.call (stepEnd_moves _ _ _ _ _ _) (by decide) ?_
      exact Moves.refl
    · exact Moves.refl
  · exact Moves.refl

theorem ctxResetBody_moves (s : State) (c : Nat) (fault : Nat) : Moves 139786232 s (ctxResetBody s c fault) := by
  unfold ctxResetBody
  extract_lets +onlyGivenNames z0
  have hz0 : Moves 139786232 s z0 := by
    unfold z0
    refine Moves.call (ctxClear_moves _ _) (by decide) ?_
    refine Moves.call (recordsEnd_moves _ _ _) (by decide) ?_
    exact Moves.refl
  clear_value z0
  extract_lets +onlyGivenNames z1; clear_value z1
  extract_lets +onlyGivenNames z2
  have hz2 : Moves 139786232 s z2 := by
    unfold z2
    refine Moves.call (planSet_moves _ _ _) (by decide) ?_
    exact hz0
  clear_value z2
  refine Moves.call (eventAppend_moves _ _ _ _ _ _ _) (by decide) ?_
  exact hz2

theorem ctxsReset_moves (s : State) (cs : List Nat) (fault : Nat) : Moves 140310520 s (ctxsReset s cs fault) := by
  unfold ctxsReset
  extract_lets +onlyGivenNames z0
  have hz0 : Moves 140310520 s z0 := by
    unfold z0
    refine Moves.foldl (fun a1 _ => ?_) ?_
    · refine Moves.call (ctxResetBody_moves _ _ _) (by decide) ?_
      exact Moves.refl
    · exact Moves.refl
  clear_value z0
  extract_lets +onlyGivenNames z2; clear_value z2
  refine Moves.record ?_
  exact hz0

theorem allReset_moves (s : State) (fault : Nat) : Moves 140441596 s (allReset s fault) := by
  unfold allReset
  extract_lets +onlyGivenNames z0; clear_value z0
  refine Moves.call (ctxsReset_moves _ _ _) (by decide) ?_
  refine Moves.foldl (fun a1 _ => ?_) ?_
  · refine Moves.call (ctxFreeze_moves _ _ _ _) (by decide) ?_
    exact Moves.refl
  · exact Moves.refl

theorem capture_moves (s : State) (q : RcvReq) (sc : Scope) : Moves 138953720 s (capture s q sc) := by
  unfold capture
  extract_lets +onlyGivenNames z0; clear_value z0
  extract_lets +onlyGivenNames z1; clear_value z1
  extract_lets +onlyGivenNames z2; clear_value z2
  extract_lets +onlyGivenNames z3; clear_value z3
  extract_lets +onlyGivenNames z4; clear_value z4
  extract_lets +onlyGivenNames z5; clear_value z5
  extract_lets +onlyGivenNames z6
  have hz6 : Moves 138953720 s z6 := by
    unfold z6
    refine Moves.call (memStoreClean_moves _ _ _) (by decide) ?_
    exact Moves.refl
  clear_value z6
  extract_lets +onlyGivenNames z7; clear_value z7
  extract_lets +onlyGivenNames z8
  have hz8 : Moves 138953720 s z8 := by
    unfold z8
    refine Moves.record ?_
    exact hz6
  clear_value z8
  refine Moves.call (logEvent_moves _ _ _ _ _ _) (by decide) ?_
  refine Moves.call (regSet_moves _ _ _) (by decide) ?_
  exact hz8

theorem engineReset_moves (s : State) (e : Nat) (poison : Bool) : Moves 102424 s (engineReset s e poison) := by
  unfold engineReset
  extract_lets +onlyGivenNames z0
  have hz0 : Moves 102424 s z0 := by
    unfold z0
    refine Moves.ite (fun _ => ?_) (fun _ => ?_)
    · refine Moves.call (scrubInterrupt_moves _) (by decide) ?_
      exact Moves.refl
    · exact Moves.refl
  clear_value z0
  extract_lets +onlyGivenNames z1; clear_value z1
  extract_lets +onlyGivenNames z2
  have hz2 : Moves 102424 s z2 := by
    unfold z2
    refine Moves.foldl (fun a3 _ => ?_) ?_
    · refine Moves.call (engFail_moves _ _ _ _ _) (by decide) ?_
      refine Moves.call (dkPost_moves _ _ _) (by decide) ?_
      exact Moves.refl
    · exact hz0
  clear_value z2
  extract_lets +onlyGivenNames z4; clear_value z4
  refine Moves.call (engSet_moves _ _ _) (by decide) ?_
  exact hz2

theorem chipReset_moves (s : State) (q : RcvReq) : Moves 157284348 s (chipReset s q) := by
  unfold chipReset
  extract_lets +onlyGivenNames z0; clear_value z0
  extract_lets +onlyGivenNames z1
  have hz1 : Moves 157284348 s z1 := by
    unfold z1
    refine Moves.foldl (fun a2 _ => ?_) ?_
    · refine Moves.call (ctxFreeze_moves _ _ _ _) (by decide) ?_
      exact Moves.refl
    · refine Moves.call (resetNotices_moves _ _) (by decide) ?_
      exact Moves.refl
  clear_value z1
  extract_lets +onlyGivenNames z3; clear_value z3
  extract_lets +onlyGivenNames z4
  have hz4 : Moves 157284348 s z4 := by
    unfold z4
    refine Moves.record ?_
    exact hz1
  clear_value z4
  extract_lets +onlyGivenNames z5
  have hz5 : Moves 157284348 s z5 := by
    unfold z5
    refine Moves.call (capture_moves _ _ _) (by decide) ?_
    exact hz4
  clear_value z5
  extract_lets +onlyGivenNames z6
  have hz6 : Moves 157284348 s z6 := by
    unfold z6
    refine Moves.call (scrubInterrupt_moves _) (by decide) ?_
    refine Moves.call (routerChipReset_moves _) (by decide) ?_
    exact hz5
  clear_value z6
  extract_lets +onlyGivenNames z7
  have hz7 : Moves 157284348 s z7 := by
    unfold z7
    refine Moves.call (regRestore_moves _ _) (by decide) ?_
    exact hz6
  clear_value z7
  extract_lets +onlyGivenNames z8
  have hz8 : Moves 157284348 s z8 := by
    unfold z8
    refine Moves.ite (fun _ => ?_) (fun _ => ?_)
    · refine Moves.call (scbState_moves _ _) (by decide) ?_
      exact hz7
    · exact hz7
  clear_value z8
  extract_lets +onlyGivenNames z9
  have hz9 : Moves 157284348 s z9 := by
    unfold z9
    refine Moves.foldl (fun a10 _ => ?_) ?_
    · refine Moves.call (engineReset_moves _ _ _) (by decide) ?_
      exact Moves.refl
    · exact hz8
  clear_value z9
  extract_lets +onlyGivenNames z11
  have hz11 : Moves 157284348 s z11 := by
    unfold z11
    refine Moves.foldl (fun a12 _ => ?_) ?_
    · extract_lets +onlyGivenNames z13
      have hz13 : Moves 157284348 a12 z13 := by
        unfold z13
        refine Moves.foldl (fun a14 _ => ?_) ?_
        · refine Moves.ite (fun _ => ?_) (fun _ => ?_)
          · exact Moves.refl
          · refine Moves.call (stepEnd_moves _ _ _ _ _ _) (by decide) ?_
            exact Moves.refl
        · exact Moves.refl
      clear_value z13
      extract_lets +onlyGivenNames z15; clear_value z15
      refine Moves.call (eventAppend_moves _ _ _ _ _ _ _) (by decide) ?_
      refine Moves.call (planSet_moves _ _ _) (by decide) ?_
      refine Moves.call (ctxClear_moves _ _) (by decide) ?_
      exact hz13
    · exact hz9
  clear_value z11
  extract_lets +onlyGivenNames z16; clear_value z16
  extract_lets +onlyGivenNames z17
  have hz17 : Moves 157284348 s z17 := by
    unfold z17
    refine Moves.call (regPut_moves _ _ _ _ _) (by decide) ?_
    exact hz11
  clear_value z17
  extract_lets +onlyGivenNames z18
  have hz18 : Moves 157284348 s z18 := by
    unfold z18
    refine Moves.call (bring_moves _ _) (by decide) ?_
    exact hz17
  clear_value z18
  extract_lets +onlyGivenNames z19; clear_value z19
  extract_lets +onlyGivenNames z20
  have hz20 : Moves 157284348 s z20 := by
    unfold z20
    refine Moves.record ?_
    exact hz18
  clear_value z20
  extract_lets +onlyGivenNames z21
  have hz21 : Moves 157284348 s z21 := by
    unfold z21
    refine Moves.ite (fun _ => ?_) (fun _ => ?_)
    · refine Moves.call (eventAppend_moves _ _ _ _ _ _ _) (by decide) ?_
      exact hz20
    · exact hz20
  clear_value z21
  refine Moves.call (twinOut_moves _) (by decide) ?_
  exact hz21

theorem copyDossier_moves (s : State) : Moves 138412856 s (copyDossier s) := by
  unfold copyDossier
  extract_lets +onlyGivenNames z0; clear_value z0
  refine Moves.foldl (fun a1 _ => ?_) ?_
  · refine Moves.call (logEvent_moves _ _ _ _ _ _) (by decide) ?_
    exact Moves.refl
  · exact Moves.refl

theorem ctxReset_moves (s : State) (q : RcvReq) (c : Nat) : Moves 140441596 s (ctxReset s q c) := by
  unfold ctxReset
  refine Moves.call (ctxResetBody_moves _ _ _) (by decide) ?_
  refine Moves.call (capture_moves _ _ _) (by decide) ?_
  refine Moves.call (ctxFreeze_moves _ _ _ _) (by decide) ?_
  exact Moves.refl

theorem engineReqsDrop_moves (s : State) (inside : Bool → Nat → Bool) : Moves 524288 s (engineReqsDrop s inside) := by
  unfold engineReqsDrop
  extract_lets +onlyGivenNames z0; clear_value z0
  refine Moves.record ?_
  exact Moves.refl

theorem unitMode_moves (s : State) (k : Nat) : Moves 16 s (unitMode s k) := by
  unfold unitMode
  refine Moves.ite (fun _ => ?_) (fun _ => ?_)
  · refine Moves.call (regPut_moves _ _ _ _ _) (by decide) ?_
    exact Moves.refl
  · exact Moves.refl

theorem dieReset_moves (s : State) (q : RcvReq) (d : Nat) : Moves 140441596 s (dieReset s q d) := by
  unfold dieReset
  extract_lets +onlyGivenNames z0; clear_value z0
  extract_lets +onlyGivenNames z1; clear_value z1
  extract_lets +onlyGivenNames z2
  have hz2 : Moves 140441596 s z2 := by
    unfold z2
    refine Moves.foldl (fun a3 _ => ?_) ?_
    · refine Moves.call (ctxFreeze_moves _ _ _ _) (by decide) ?_
      exact Moves.refl
    · refine Moves.call (resetNotices_moves _ _) (by decide) ?_
      exact Moves.refl
  clear_value z2
  extract_lets +onlyGivenNames z4
  have hz4 : Moves 140441596 s z4 := by
    unfold z4
    refine Moves.call (capture_moves _ _ _) (by decide) ?_
    exact hz2
  clear_value z4
  extract_lets +onlyGivenNames z5
  have hz5 : Moves 140441596 s z5 := by
    unfold z5
    refine Moves.call (tilesMod_moves _ _ _) (by decide) ?_
    refine Moves.call (engineReqsDrop_moves _ _) (by decide) ?_
    refine Moves.call (ctxsReset_moves _ _ _) (by decide) ?_
    exact hz4
  clear_value z5
  extract_lets +onlyGivenNames z6
  have hz6 : Moves 140441596 s z6 := by
    unfold z6
    refine Moves.call (regRestore_moves _ _) (by decide) ?_
    exact hz5
  clear_value z6
  extract_lets +onlyGivenNames z7; clear_value z7
  extract_lets +onlyGivenNames z8
  have hz8 : Moves 140441596 s z8 := by
    unfold z8
    refine Moves.record ?_
    exact hz6
  clear_value z8
  extract_lets +onlyGivenNames z9
  have hz9 : Moves 140441596 s z9 := by
    unfold z9
    split
    · refine Moves.foldl (fun a10 _ => ?_) ?_
      · refine Moves.call (tileMod_moves _ _ _) (by decide) ?_
        exact Moves.refl
      · exact hz8
    · exact hz8
  clear_value z9
  refine Moves.call (twinOut_moves _) (by decide) ?_
  refine Moves.call (unitMode_moves _ _) (by decide) ?_
  refine Moves.call (imageCount_moves _) (by decide) ?_
  exact hz9

theorem execChipReset_moves (s : State) : MovesN 157284348 s (execChipReset s) := by
  unfold execChipReset
  split
  · refine MovesN.ite (fun _ => ?_) (fun _ => ?_)
    · refine MovesN.next ?_
      refine Moves.call (chipReset_moves _ _) (by decide) ?_
      exact Moves.refl
    · refine MovesN.next ?_
      exact Moves.refl
  · refine MovesN.next ?_
    exact Moves.refl

theorem execContextReset_moves (ctx : Nat) (s : State) : MovesN 140441596 s (execContextReset ctx s) := by
  unfold execContextReset
  split
  · refine MovesN.ite (fun _ => ?_) (fun _ => ?_)
    · refine MovesN.next ?_
      refine Moves.call (levelEnd_moves _ _ _) (by decide) ?_
      refine Moves.call (ctxReset_moves _ _ _) (by decide) ?_
      exact Moves.refl
    · refine MovesN.next ?_
      exact Moves.refl
  · refine MovesN.next ?_
    exact Moves.refl

theorem execDieLinkDown_moves (die : Nat) (s : State) : MovesN 138969912 s (execDieLinkDown die s) := by
  unfold execDieLinkDown
  refine MovesN.ite (fun _ => ?_) (fun _ => ?_)
  · refine MovesN.next ?_
    refine Moves.call (raiseTrigger_moves _ _ _) (by decide) ?_
    exact Moves.refl
  · refine MovesN.next ?_
    exact Moves.refl

theorem execDiePartitionReset_moves (die : Nat) (s : State) : MovesN 140441596 s (execDiePartitionReset die s) := by
  unfold execDiePartitionReset
  split
  · refine MovesN.ite (fun _ => ?_) (fun _ => ?_)
    · refine MovesN.next ?_
      refine Moves.call (levelEnd_moves _ _ _) (by decide) ?_
      refine Moves.call (dieReset_moves _ _ _) (by decide) ?_
      exact Moves.refl
    · refine MovesN.next ?_
      exact Moves.refl
  · refine MovesN.next ?_
    exact Moves.refl

theorem tileReset_moves (s : State) (q : RcvReq) (t : Nat) : Moves 140441596 s (tileReset s q t) := by
  unfold tileReset
  extract_lets +onlyGivenNames z0; clear_value z0
  extract_lets +onlyGivenNames z1
  have hz1 : Moves 140441596 s z1 := by
    unfold z1
    refine Moves.foldl (fun a2 _ => ?_) ?_
    · refine Moves.call (ctxFreeze_moves _ _ _ _) (by decide) ?_
      exact Moves.refl
    · exact Moves.refl
  clear_value z1
  extract_lets +onlyGivenNames z3
  have hz3 : Moves 140441596 s z3 := by
    unfold z3
    refine Moves.call (capture_moves _ _ _) (by decide) ?_
    exact hz1
  clear_value z3
  extract_lets +onlyGivenNames z4
  have hz4 : Moves 140441596 s z4 := by
    unfold z4
    refine Moves.call (tileMod_moves _ _ _) (by decide) ?_
    refine Moves.call (ctxsReset_moves _ _ _) (by decide) ?_
    exact hz3
  clear_value z4
  split
  · refine Moves.call (imageCount_moves _) (by decide) ?_
    refine Moves.call (tileMod_moves _ _ _) (by decide) ?_
    exact hz4
  · exact hz4

theorem execEngineReset_moves (stack : Bool) (index : Nat) (s : State) : MovesN 140507132 s (execEngineReset stack index s) := by
  unfold execEngineReset
  split
  · extract_lets +onlyGivenNames z0; clear_value z0
    refine MovesN.ite (fun _ => ?_) (fun _ => ?_)
    · refine MovesN.next ?_
      exact Moves.refl
    · refine MovesN.ite (fun _ => ?_) (fun _ => ?_)
      · refine MovesN.next ?_
        refine Moves.call (levelEnd_moves _ _ _) (by decide) ?_
        refine Moves.call (engineReset_moves _ _ _) (by decide) ?_
        refine Moves.call (capture_moves _ _ _) (by decide) ?_
        exact Moves.refl
      · refine MovesN.next ?_
        refine Moves.call (levelEnd_moves _ _ _) (by decide) ?_
        refine Moves.call (tileReset_moves _ _ _) (by decide) ?_
        exact Moves.refl
  · refine MovesN.next ?_
    exact Moves.refl

theorem execMeshLivenessFail_moves (die : Nat) (s : State) : MovesN 138969912 s (execMeshLivenessFail die s) := by
  unfold execMeshLivenessFail
  refine MovesN.ite (fun _ => ?_) (fun _ => ?_)
  · refine MovesN.next ?_
    refine Moves.call (raiseTrigger_moves _ _ _) (by decide) ?_
    exact Moves.refl
  · refine MovesN.next ?_
    exact Moves.refl

theorem rcvResult_moves (s : State) (r : Nat) : Moves 16 s (rcvResult s r) := by
  unfold rcvResult
  refine Moves.call (regPut_moves _ _ _ _ _) (by decide) ?_
  exact Moves.refl

theorem rcvRequest_moves (s : State) (level : Nat) (stack : Bool) (index : Nat) : Moves 434042876 s (rcvRequest s level stack index) := by
  unfold rcvRequest
  refine Moves.ite (fun _ => ?_) (fun _ => ?_)
  · refine Moves.call (bring_moves _ _) (by decide) ?_
    exact Moves.refl
  · refine Moves.ite (fun _ => ?_) (fun _ => ?_)
    · refine Moves.call (rcvResult_moves _ _) (by decide) ?_
      exact Moves.refl
    · refine Moves.ite (fun _ => ?_) (fun _ => ?_)
      · refine Moves.call (rcvResult_moves _ _) (by decide) ?_
        exact Moves.refl
      · refine Moves.ite (fun _ => ?_) (fun _ => ?_)
        · refine Moves.call (askCycle_moves _ _) (by decide) ?_
          refine Moves.call (allReset_moves _ _) (by decide) ?_
          refine Moves.call (copyDossier_moves _) (by decide) ?_
          refine Moves.call (rcvResult_moves _ _) (by decide) ?_
          exact Moves.refl
        · refine Moves.call (raiseTrigger_moves _ _ _) (by decide) ?_
          refine Moves.call (rcvResult_moves _ _) (by decide) ?_
          exact Moves.refl

theorem rcvCmd_moves (s : State) (v : Nat) : Moves 434042876 s (rcvCmd s v) := by
  unfold rcvCmd
  extract_lets +onlyGivenNames z0; clear_value z0
  extract_lets +onlyGivenNames z1; clear_value z1
  refine Moves.ite (fun _ => ?_) (fun _ => ?_)
  · refine Moves.call (rcvRequest_moves _ _ _ _) (by decide) ?_
    exact Moves.refl
  · exact Moves.refl

theorem resetAsk_moves (o : Origin) (level : Nat) (stack : Bool) (index : Nat) (s : State) : Moves 434042876 s (resetAsk o level stack index s) := by
  unfold resetAsk
  extract_lets +onlyGivenNames z0; clear_value z0
  split
  · refine Moves.trans ?_ (hostWrite_moves (by decide) (fun a1 => ?_))
    · exact Moves.refl
    · refine Moves.call (rcvCmd_moves _ _) (by decide) ?_
      exact Moves.refl
  · refine Moves.trans ?_ (plovcoRequest_moves (by decide) (fun a2 => ?_))
    · exact Moves.refl
    · extract_lets +onlyGivenNames z3
      have hz3 : Moves 434042876 a2 z3 := by
        unfold z3
        refine Moves.ite (fun _ => ?_) (fun _ => ?_)
        · refine Moves.call (rcvCmd_moves _ _) (by decide) ?_
          exact Moves.refl
        · refine Moves.call (rcvResult_moves _ _) (by decide) ?_
          exact Moves.refl
      clear_value z3
      refine Moves.call (reply_moves _ _ _ _ _) (by decide) ?_
      exact hz3

theorem execResetChip_moves (o : Origin) (s : State) : MovesN 434042876 s (execResetChip o s) := by
  unfold execResetChip
  refine MovesN.next ?_
  refine Moves.call (resetAsk_moves _ _ _ _ _) (by decide) ?_
  exact Moves.refl

theorem execResetContext_moves (o : Origin) (ctx : Nat) (s : State) : MovesN 434042876 s (execResetContext o ctx s) := by
  unfold execResetContext
  refine MovesN.next ?_
  refine Moves.call (resetAsk_moves _ _ _ _ _) (by decide) ?_
  exact Moves.refl

theorem execResetEngine_moves (o : Origin) (stack : Bool) (index : Nat) (s : State) : MovesN 434042876 s (execResetEngine o stack index s) := by
  unfold execResetEngine
  refine MovesN.next ?_
  refine Moves.call (resetAsk_moves _ _ _ _ _) (by decide) ?_
  exact Moves.refl

theorem execResetPartition_moves (o : Origin) (stack : Bool) (index : Nat) (s : State) : MovesN 434042876 s (execResetPartition o stack index s) := by
  unfold execResetPartition
  refine MovesN.next ?_
  refine Moves.call (resetAsk_moves _ _ _ _ _) (by decide) ?_
  exact Moves.refl

theorem execResetPowerCycle_moves (o : Origin) (s : State) : MovesN 434042876 s (execResetPowerCycle o s) := by
  unfold execResetPowerCycle
  refine MovesN.next ?_
  refine Moves.call (resetAsk_moves _ _ _ _ _) (by decide) ?_
  exact Moves.refl

theorem levelPart_moves (s : State) (q : RcvReq) (units : List (Bool × Nat)) : Moves 140441596 s (levelPart s q units) := by
  unfold levelPart
  refine Moves.ite (fun _ => ?_) (fun _ => ?_)
  · refine Moves.call (ctxReset_moves _ _ _) (by decide) ?_
    exact Moves.refl
  · exact Moves.refl

theorem execResetTimerExpiry_moves (level : Nat) (stack : Bool) (index : Nat) (units : List (Bool × Nat)) (s : State) : MovesN 434042876 s
      (execResetTimerExpiry level stack index units s) := by
  unfold execResetTimerExpiry
  split
  · extract_lets +onlyGivenNames z0
    have hz0 : Moves 434042876 s z0 := by
      unfold z0
      refine Moves.call (copyDossier_moves _) (by decide) ?_
      refine Moves.call (levelEnd_moves _ _ _) (by decide) ?_
      exact Moves.refl
    clear_value z0
    refine MovesN.ite (fun _ => ?_) (fun _ => ?_)
    · refine MovesN.next ?_
      exact Moves.refl
    · refine MovesN.ite (fun _ => ?_) (fun _ => ?_)
      · refine MovesN.next ?_
        refine Moves.call (askCycle_moves _ _) (by decide) ?_
        refine Moves.ite (fun _ => ?_) (fun _ => ?_)
        · refine Moves.call (bring_moves _ _) (by decide) ?_
          exact hz0
        · refine Moves.call (allReset_moves _ _) (by decide) ?_
          exact hz0
      · refine MovesN.next ?_
        refine Moves.foldl (fun a1 _ => ?_) ?_
        · refine Moves.call (raiseTrigger_moves _ _ _) (by decide) ?_
          exact Moves.refl
        · refine Moves.call (levelEnd_moves _ _ _) (by decide) ?_
          refine Moves.call (levelPart_moves _ _ _) (by decide) ?_
          exact Moves.refl
  · refine MovesN.next ?_
    exact Moves.refl

theorem execStackControllerWatchdog_moves (stack : Nat) (s : State) : MovesN 138969912 s (execStackControllerWatchdog stack s) := by
  unfold execStackControllerWatchdog
  refine MovesN.ite (fun _ => ?_) (fun _ => ?_)
  · refine MovesN.next ?_
    refine Moves.call (raiseTrigger_moves _ _ _) (by decide) ?_
    exact Moves.refl
  · refine MovesN.next ?_
    exact Moves.refl

theorem stackRewrite_moves (s : State) (n : Nat) : Moves 16400 s (stackRewrite s n) := by
  unfold stackRewrite
  extract_lets +onlyGivenNames z0
  have hz0 : Moves 16400 s z0 := by
    unfold z0
    split
    · refine Moves.call (applyArb_moves _ _) (by decide) ?_
      refine Moves.call (setMode_moves _ _) (by decide) ?_
      exact Moves.refl
    · exact Moves.refl
  clear_value z0
  refine Moves.foldl (fun a1 _ => ?_) ?_
  · refine Moves.call (chanRestart_moves _ _) (by decide) ?_
    exact Moves.refl
  · exact hz0

theorem stackReset_moves (s : State) (q : RcvReq) (n : Nat) : Moves 139056120 s (stackReset s q n) := by
  unfold stackReset
  extract_lets +onlyGivenNames z0; clear_value z0
  extract_lets +onlyGivenNames z1; clear_value z1
  extract_lets +onlyGivenNames z2
  have hz2 : Moves 139056120 s z2 := by
    unfold z2
    refine Moves.call (capture_moves _ _ _) (by decide) ?_
    refine Moves.call (resetNotices_moves _ _) (by decide) ?_
    exact Moves.refl
  clear_value z2
  extract_lets +onlyGivenNames z3
  have hz3 : Moves 139056120 s z3 := by
    unfold z3
    refine Moves.call (engineReqsDrop_moves _ _) (by decide) ?_
    refine Moves.foldl (fun a4 _ => ?_) ?_
    · refine Moves.call (engineReset_moves _ _ _) (by decide) ?_
      exact Moves.refl
    · exact hz2
  clear_value z3
  extract_lets +onlyGivenNames z5; clear_value z5
  extract_lets +onlyGivenNames z6
  have hz6 : Moves 139056120 s z6 := by
    unfold z6
    refine Moves.call (showStacks_moves _ _) (by decide) ?_
    refine Moves.call (regRestore_moves _ _) (by decide) ?_
    exact hz3
  clear_value z6
  refine Moves.call (unitMode_moves _ _) (by decide) ?_
  refine Moves.call (stackRewrite_moves _ _) (by decide) ?_
  exact hz6

theorem execStackPartitionReset_moves (stack : Nat) (failed : Bool) (s : State) : MovesN 139056120 s (execStackPartitionReset stack failed s) := by
  unfold execStackPartitionReset
  split
  · extract_lets +onlyGivenNames z0
    have hz0 : Moves 139056120 s z0 := by
      unfold z0
      refine Moves.call (levelEnd_moves _ _ _) (by decide) ?_
      refine Moves.call (stackReset_moves _ _ _) (by decide) ?_
      exact Moves.refl
    clear_value z0
    refine MovesN.ite (fun _ => ?_) (fun _ => ?_)
    · refine MovesN.next ?_
      exact Moves.refl
    · refine MovesN.ite (fun _ => ?_) (fun _ => ?_)
      · refine MovesN.next ?_
        refine Moves.call (raiseTrigger_moves _ _ _) (by decide) ?_
        refine Moves.call (levelEnd_moves _ _ _) (by decide) ?_
        exact Moves.refl
      · refine MovesN.next ?_
        refine Moves.call (twinOut_moves _) (by decide) ?_
        exact hz0
  · refine MovesN.next ?_
    exact Moves.refl

end Sys2Proof.Laws
end

