-- ==== Sys2Proof/Laws/FrameKeys.lean ====
section
/-! SUPPORT. What each function of Machine/Keys.lean may change, and that it keeps the canonical form: its frame law. -/

namespace Sys2Proof.Laws

set_option Elab.async false

open Sys2Proof Sys2Proof.Machine Sys2Proof.Safety

theorem recAccept_moves (s : State) (b : List Byte) (f : Flash → Flash) : Moves 33554432 s (recAccept s b f) := by
  unfold recAccept
  refine Moves.call (flashMod_moves _ _) (by decide) ?_
  exact Moves.refl

theorem setCustodian_moves (s : State) (b : List Byte) (key : Option (List Byte)) : Moves 301989888 s (setCustodian s b key) := by
  unfold setCustodian
  refine Moves.call (sessionsEnd_moves _ _) (by decide) ?_
  refine Moves.call (recAccept_moves _ _ _) (by decide) ?_
  exact Moves.refl

theorem custodianTake_moves (s : State) (b : List Byte) : MovesE 301989888 s (custodianTake s b) := by
  unfold custodianTake
  extract_lets +onlyGivenNames z0; clear_value z0
  extract_lets +onlyGivenNames z1; clear_value z1
  split
  · exact MovesE.error
  · refine MovesE.ok ?_
    refine Moves.call (setCustodian_moves _ _ _) (by decide) ?_
    exact Moves.refl

theorem enrolTake_moves (s : State) (b : List Byte) : MovesE 33554432 s (enrolTake s b) := by
  unfold enrolTake
  extract_lets +onlyGivenNames z0; clear_value z0
  split
  · exact MovesE.error
  · refine MovesE.ite (fun _ => ?_) (fun _ => ?_)
    · exact MovesE.error
    · refine MovesE.ok ?_
      refine Moves.call (recAccept_moves _ _ _) (by decide) ?_
      exact Moves.refl

theorem execCustodianRecord_moves (o : Origin) (s : State) : MovesN 440419128 s (execCustodianRecord o s) := by
  unfold execCustodianRecord
  refine MovesN.next ?_
  refine Moves.trans ?_ (recordRequest_moves (by decide) (fun a0 _ => ?_))
  · exact Moves.refl
  · exact MovesE.mono (custodianTake_moves _ _) (by decide)

theorem removeTake_moves (s : State) (b : List Byte) : MovesE 33554432 s (removeTake s b) := by
  unfold removeTake
  extract_lets +onlyGivenNames z0; clear_value z0
  split
  · exact MovesE.error
  · refine MovesE.ite (fun _ => ?_) (fun _ => ?_)
    · exact MovesE.error
    · refine MovesE.ok ?_
      refine Moves.call (recAccept_moves _ _ _) (by decide) ?_
      exact Moves.refl

theorem ownerTake_moves (s : State) (b : List Byte) : MovesE 33554432 s (ownerTake s b) := by
  unfold ownerTake
  refine MovesE.ite (fun _ => ?_) (fun _ => ?_)
  · exact MovesE.mono (removeTake_moves _ _) (by decide)
  · exact MovesE.mono (enrolTake_moves _ _) (by decide)

theorem execOwnerEnrol_moves (o : Origin) (s : State) : MovesN 440419128 s (execOwnerEnrol o s) := by
  unfold execOwnerEnrol
  refine MovesN.next ?_
  split
  · refine Moves.trans ?_ (recordRequest_moves (by decide) (fun a0 _ => ?_))
    · exact Moves.refl
    · exact MovesE.mono (enrolTake_moves _ _) (by decide)
  · refine Moves.trans ?_ (recordRequest_moves (by decide) (fun a1 _ => ?_))
    · exact Moves.refl
    · exact MovesE.mono (ownerTake_moves _ _) (by decide)

theorem execOwnerRemove_moves (o : Origin) (s : State) : MovesN 440419128 s (execOwnerRemove o s) := by
  unfold execOwnerRemove
  refine MovesN.next ?_
  split
  · refine Moves.trans ?_ (recordRequest_moves (by decide) (fun a0 _ => ?_))
    · exact Moves.refl
    · exact MovesE.mono (removeTake_moves _ _) (by decide)
  · refine Moves.trans ?_ (recordRequest_moves (by decide) (fun a1 _ => ?_))
    · exact Moves.refl
    · exact MovesE.mono (ownerTake_moves _ _) (by decide)

theorem serviceTake_moves (s : State) (b : List Byte) : MovesE 301989888 s (serviceTake s b) := by
  unfold serviceTake
  extract_lets +onlyGivenNames z0; clear_value z0
  split
  · exact MovesE.error
  · refine MovesE.ite (fun _ => ?_) (fun _ => ?_)
    · refine MovesE.ok ?_
      refine Moves.call (setCustodian_moves _ _ _) (by decide) ?_
      exact Moves.refl
    · refine MovesE.ite (fun _ => ?_) (fun _ => ?_)
      · exact MovesE.error
      · refine MovesE.ok ?_
        refine Moves.call (recAccept_moves _ _ _) (by decide) ?_
        exact Moves.refl

theorem tearContexts_moves (s : State) : Moves 140507132 s (tearContexts s) := by
  unfold tearContexts
  extract_lets +onlyGivenNames z0; clear_value z0
  extract_lets +onlyGivenNames z1
  have hz1 : Moves 140507132 s z1 := by
    unfold z1
    refine Moves.call (ctxsReset_moves _ _ _) (by decide) ?_
    refine Moves.foldl (fun a2 _ => ?_) ?_
    · refine Moves.call (ctxFreeze_moves _ _ _ _) (by decide) ?_
      exact Moves.refl
    · exact Moves.refl
  clear_value z1
  split
  · extract_lets +onlyGivenNames z3
    have hz3 : Moves 140507132 s z3 := by
      unfold z3
      refine Moves.call (scrubEnd_moves _ _ _) (by decide) ?_
      exact hz1
    clear_value z3
    refine Moves.record ?_ (cengs := fun h => mapRising_map _ (by intro _; rfl) _ h)
    exact hz3
  · exact hz1

theorem tearErase_moves (s : State) : Moves 439008 s (tearErase s) := by
  unfold tearErase
  extract_lets +onlyGivenNames z0
  have hz0 : Moves 439008 s z0 := by
    unfold z0
    refine Moves.call (memClear_moves _) (by decide) ?_
    exact Moves.refl
  clear_value z0
  extract_lets +onlyGivenNames z1; clear_value z1
  refine Moves.record ?_ (ctiles := fun h => mapRising_map _ (by intro _; rfl) _ h) (cgangs := fun _ => rfl) (cengs := fun _ => rfl)
  exact hz0

theorem tearTables_moves (s : State) : Moves 145770040 s (tearTables s) := by
  unfold tearTables
  extract_lets +onlyGivenNames z0; clear_value z0
  extract_lets +onlyGivenNames z1; clear_value z1
  extract_lets +onlyGivenNames z2
  extract_lets +onlyGivenNames z3; clear_value z3
  extract_lets +onlyGivenNames z4
  have hz4 : Moves 145770040 s z4 := by
    unfold z4
    refine Moves.record ?_
    exact Moves.refl
  clear_value z4
  extract_lets +onlyGivenNames z5
  have hz5 : Moves 145770040 s z5 := by
    unfold z5
    refine Moves.call (reseedAll_moves _) (by decide) ?_
    refine Moves.call (showStacks_moves _ _) (by decide) ?_
    refine Moves.call (regRestore_moves _ _) (by decide) ?_
    exact hz4
  clear_value z5
  extract_lets +onlyGivenNames z6; clear_value z6
  extract_lets +onlyGivenNames z7
  have hz7 : Moves 145770040 s z7 := by
    unfold z7
    refine Moves.call (setPatternW_moves _ _) (by decide) ?_
    refine Moves.call (regPut_moves _ _ _ _ _) (by decide) ?_
    refine Moves.call (regPut_moves _ _ _ _ _) (by decide) ?_
    exact hz5
  clear_value z7
  extract_lets +onlyGivenNames z8
  have hz8 : Moves 145770040 s z8 := by
    unfold z8
    refine Moves.call (eventAppend_moves _ _ _ _ _ _ _) (by decide) ?_
    exact hz7
  clear_value z8
  refine Moves.ite (fun _ => ?_) (fun _ => ?_)
  · refine Moves.call (eventAppend_moves _ _ _ _ _ _ _) (by decide) ?_
    exact hz8
  · exact hz8

theorem tearDown_moves (s : State) (nonce : List Byte) (residue : Nat) (at_ : Option Nat) : Moves 184547324 s (tearDown s nonce residue at_) := by
  unfold tearDown
  split
  extract_lets +onlyGivenNames z0; clear_value z0
  extract_lets +onlyGivenNames z1
  have hz1 : Moves 184547324 s z1 := by
    unfold z1
    refine Moves.call (flashMod_moves _ _) (by decide) ?_
    refine Moves.call (tearTables_moves _) (by decide) ?_
    refine Moves.call (tearErase_moves _) (by decide) ?_
    refine Moves.call (tearContexts_moves _) (by decide) ?_
    refine Moves.call (Moves.of_snd (by assumption) (freshFree_moves _)) (by decide) ?_
    exact Moves.refl
  clear_value z1
  split
  · refine Moves.call (memStoreClean_moves _ _ _) (by decide) ?_
    exact hz1
  · exact hz1

theorem teardownTake_moves (residue : Nat) (at_ : Option Nat) (s : State) (b : List Byte) : MovesE 184547324 s (teardownTake residue at_ s b) := by
  unfold teardownTake
  extract_lets +onlyGivenNames z0; clear_value z0
  extract_lets +onlyGivenNames z1; clear_value z1
  extract_lets +onlyGivenNames z2; clear_value z2
  split
  · exact MovesE.error
  · refine MovesE.ite (fun _ => ?_) (fun _ => ?_)
    · refine MovesE.ok ?_
      refine Moves.call (tearDown_moves _ _ _ _) (by decide) ?_
      refine Moves.call (recAccept_moves _ _ _) (by decide) ?_
      exact Moves.refl
    · exact MovesE.error

theorem execServiceCommand_moves (o : Origin) (s : State) : MovesN 440419128 s (execServiceCommand o s) := by
  unfold execServiceCommand
  refine MovesN.next ?_
  refine Moves.trans ?_ (recordRequest_moves (by decide) (fun a0 _ => ?_))
  · exact Moves.refl
  · exact MovesE.mono (serviceTake_moves _ _) (by decide)

theorem execTeardown_moves (o : Origin) (residue : Nat) (s : State) : MovesN 452982780 s (execTeardown o residue s) := by
  unfold execTeardown
  refine MovesN.next ?_
  refine Moves.trans ?_ (recordRequest_moves (by decide) (fun a0 _ => ?_))
  · exact Moves.refl
  · exact MovesE.mono (teardownTake_moves _ _ _ _) (by decide)

end Sys2Proof.Laws
end

