-- ==== Sys2Proof/Laws/FrameLoadStore.lean ====
section
/-! SUPPORT. What each function of Machine/LoadStore.lean may change, and that it keeps the canonical form: its frame law. -/

namespace Sys2Proof.Laws

set_option Elab.async false

open Sys2Proof Sys2Proof.Machine Sys2Proof.Safety

theorem loadEffects_moves (s0 : State) (g : Nat) (size : Nat) (f : MemFields) (s : State) : Moves 155194168 s (loadEffects s0 g size f s) := by
  unfold loadEffects
  refine Moves.foldl (fun a0 _ => ?_) ?_
  · extract_lets +onlyGivenNames z1; clear_value z1
    extract_lets +onlyGivenNames z2; clear_value z2
    refine Moves.ite (fun _ => ?_) (fun _ => ?_)
    · refine Moves.call (padReadEffects_moves _ _ _ _) (by decide) ?_
      exact Moves.refl
    · exact Moves.refl
  · exact Moves.refl

theorem loadExec_moves (op : Nat) (size : Nat) (ok : Bool) (mk : List (Nat × Bool) → Res) (g : Nat) (sl : Slot) (f : MemFields) (us : Upsets) (s : State) :
      MovesN 156169208 s (loadExec op size ok mk g sl f us s) := by
  unfold loadExec
  refine slotExec_moves (by decide) (fun a0 => ?_)
  extract_lets +onlyGivenNames z1
  have hz1 : Moves 156169208 a0 z1 := by
    unfold z1
    refine Moves.call (upsetTiles_moves _ _) (by decide) ?_
    exact Moves.refl
  clear_value z1
  extract_lets +onlyGivenNames z2; clear_value z2
  extract_lets +onlyGivenNames z3; clear_value z3
  refine Moves.call (commitIfDone_moves _ _) (by decide) ?_
  refine Moves.ite_fun (fun _ => ?_) (fun _ => ?_)
  · refine Moves.call (loadEffects_moves _ _ _ _ _) (by decide) ?_
    refine Moves.call (slotPut_moves _ _ _ _) (by decide) ?_
    exact hz1
  · unfold id
    refine Moves.call (slotPut_moves _ _ _ _) (by decide) ?_
    exact hz1

theorem execLdbc_moves (g : Nat) (slot : Slot) (f : MemFields) (us : Upsets) (s : State) : MovesN 156169208 s (execLdbc g slot f us s) := by
  unfold execLdbc
  exact MovesN.mono (loadExec_moves _ _ _ _ _ _ _ _ _) (by decide)

theorem execLds_moves (g : Nat) (slot : Slot) (f : MemFields) (us : Upsets) (s : State) : MovesN 156169208 s (execLds g slot f us s) := by
  unfold execLds
  exact MovesN.mono (loadExec_moves _ _ _ _ _ _ _ _ _) (by decide)

theorem execLdt_moves (g : Nat) (slot : Slot) (f : MemFields) (us : Upsets) (s : State) : MovesN 156169208 s (execLdt g slot f us s) := by
  unfold execLdt
  exact MovesN.mono (loadExec_moves _ _ _ _ _ _ _ _ _) (by decide)

theorem execLdv_moves (g : Nat) (slot : Slot) (f : MemFields) (us : Upsets) (s : State) : MovesN 156169208 s (execLdv g slot f us s) := by
  unfold execLdv
  exact MovesN.mono (loadExec_moves _ _ _ _ _ _ _ _ _) (by decide)

theorem execSts_moves (g : Nat) (f : MemFields) (s : State) : MovesN 156169208 s (execSts g f s) := by
  unfold execSts
  refine slotExec_moves (by decide) (fun a0 => ?_)
  refine Moves.call (slotRun_moves _ _ _ _ _ _ _) (by decide) ?_
  exact Moves.refl

theorem execStv_moves (g : Nat) (f : MemFields) (s : State) : MovesN 156169208 s (execStv g f s) := by
  unfold execStv
  refine slotExec_moves (by decide) (fun a0 => ?_)
  refine Moves.call (slotRun_moves _ _ _ _ _ _ _) (by decide) ?_
  exact Moves.refl

end Sys2Proof.Laws
end

