-- ==== Sys2Proof/Laws/FrameMatrix.lean ====
section
/-! SUPPORT. What each function of Machine/Matrix.lean may change, and that it keeps the canonical form: its frame law. -/

namespace Sys2Proof.Laws

set_option Elab.async false

open Sys2Proof Sys2Proof.Machine Sys2Proof.Safety

theorem execMclr_moves (g : Nat) (f : MxFields) (s : State) : MovesN 156169208 s (execMclr g f s) := by
  unfold execMclr
  refine slotExec_moves (by decide) (fun a0 => ?_)
  refine Moves.call (slotRun_moves _ _ _ _ _ _ _) (by decide) ?_
  exact Moves.refl

theorem mxExec_moves (op : Nat) (clear : Bool) (g : Nat) (f : MxFields) (s : State) : MovesN 156169208 s (mxExec op clear g f s) := by
  unfold mxExec
  refine slotExec_moves (by decide) (fun a0 => ?_)
  refine Moves.call (slotRun_moves _ _ _ _ _ _ _) (by decide) ?_
  exact Moves.refl

theorem execMma_moves (g : Nat) (f : MxFields) (s : State) : MovesN 156169208 s (execMma g f s) := by
  unfold execMma
  exact MovesN.mono (mxExec_moves _ _ _ _ _) (by decide)

theorem execMmaz_moves (g : Nat) (f : MxFields) (s : State) : MovesN 156169208 s (execMmaz g f s) := by
  unfold execMmaz
  exact MovesN.mono (mxExec_moves _ _ _ _ _) (by decide)

end Sys2Proof.Laws
end

