-- ==== Sys2Proof/Laws/FrameMessages.lean ====
section
/-! SUPPORT. What each function of Machine/Messages.lean may change, and that it keeps the canonical form: its frame law. -/

namespace Sys2Proof.Laws

set_option Elab.async false

open Sys2Proof Sys2Proof.Machine Sys2Proof.Safety

theorem execChannelCreditArrival_moves (p : Packet) (s : State) : MovesN 4096 s (execChannelCreditArrival p s) := by
  unfold execChannelCreditArrival
  extract_lets +onlyGivenNames z0; clear_value z0
  extract_lets +onlyGivenNames z1; clear_value z1
  refine MovesN.ite (fun _ => ?_) (fun _ => ?_)
  · refine MovesN.next ?_
    exact Moves.refl
  · refine MovesN.next ?_
    refine Moves.call (tileMod_moves _ _ _) (by decide) ?_
    exact Moves.refl

theorem execChannelMessageArrival_moves (p : Packet) (s : State) : MovesN 134221832 s (execChannelMessageArrival p s) := by
  unfold execChannelMessageArrival
  extract_lets +onlyGivenNames z0; clear_value z0
  refine MovesN.ite (fun _ => ?_) (fun _ => ?_)
  · refine MovesN.next ?_
    exact Moves.refl
  · split
    · refine MovesN.next ?_
      refine Moves.call (refusePacket_moves _ _ _) (by decide) ?_
      exact Moves.refl
    · extract_lets +onlyGivenNames z1; clear_value z1
      extract_lets +onlyGivenNames z2; clear_value z2
      extract_lets +onlyGivenNames z3
      have hz3 : Moves 134221832 s z3 := by
        unfold z3
        refine Moves.call (tileMod_moves _ _ _) (by decide) ?_
        exact Moves.refl
      clear_value z3
      extract_lets +onlyGivenNames z4
      have hz4 : Moves 134221832 s z4 := by
        unfold z4
        refine Moves.call (tileMod_moves _ _ _) (by decide) ?_
        exact hz3
      clear_value z4
      refine MovesN.ite (fun _ => ?_) (fun _ => ?_)
      · refine MovesN.next ?_
        refine Moves.call (refusePacket_moves _ _ _) (by decide) ?_
        exact Moves.refl
      · refine MovesN.ite (fun _ => ?_) (fun _ => ?_)
        · refine MovesN.next ?_
          refine Moves.call (refusePacket_moves _ _ _) (by decide) ?_
          exact Moves.refl
        · refine MovesN.next ?_
          refine Moves.call (inject_moves _ _ _) (by decide) ?_
          exact hz4

theorem execChunkArrival_moves (p : Packet) (s : State) : MovesN 138695672 s (execChunkArrival p s) := by
  unfold execChunkArrival
  refine MovesN.ite (fun _ => ?_) (fun _ => ?_)
  · refine MovesN.next ?_
    exact Moves.refl
  · refine MovesN.next ?_
    refine Moves.call (collArrive_moves _ _) (by decide) ?_
    exact Moves.refl

theorem execChunkSend_moves (set : Nat) (gang : Nat) (s : State) : MovesN 134479880 s (execChunkSend set gang s) := by
  unfold execChunkSend
  refine MovesN.next ?_
  refine Moves.call (collSend_moves _ _ _) (by decide) ?_
  exact Moves.refl

theorem execCollQueuedStart_moves (set : Nat) (gang : Nat) (s : State) : MovesN 138695672 s (execCollQueuedStart set gang s) := by
  unfold execCollQueuedStart
  refine MovesN.next ?_
  refine Moves.call (collQueued_moves _ _ _) (by decide) ?_
  exact Moves.refl

theorem execCollectiveDeadline_moves (set : Nat) (gang : Nat) (s : State) : MovesN 138806072 s (execCollectiveDeadline set gang s) := by
  unfold execCollectiveDeadline
  split
  · refine MovesN.ite (fun _ => ?_) (fun _ => ?_)
    · refine MovesN.next ?_
      refine Moves.call (collStop_moves _ _ _) (by decide) ?_
      exact Moves.refl
    · refine MovesN.next ?_
      exact Moves.refl
  · refine MovesN.next ?_
    exact Moves.refl

theorem execEchoReply_moves (_p : Packet) (s : State) : MovesN 0 s (execEchoReply _p s) := by
  unfold execEchoReply
  refine MovesN.next ?_
  exact Moves.refl

theorem execEchoRequest_moves (p : Packet) (s : State) : MovesN 134217736 s (execEchoRequest p s) := by
  unfold execEchoRequest
  refine MovesN.ite (fun _ => ?_) (fun _ => ?_)
  · refine MovesN.next ?_
    refine Moves.call (inject_moves _ _ _) (by decide) ?_
    exact Moves.refl
  · refine MovesN.next ?_
    exact Moves.refl

theorem execGuardContribution_moves (set : Nat) (gang : Nat) (s : State) : MovesN 138806072 s (execGuardContribution set gang s) := by
  unfold execGuardContribution
  split
  · refine MovesN.ite (fun _ => ?_) (fun _ => ?_)
    · refine MovesN.next ?_
      refine Moves.call (collGuard_moves _ _) (by decide) ?_
      exact Moves.refl
    · refine MovesN.next ?_
      exact Moves.refl
  · refine MovesN.next ?_
    exact Moves.refl

theorem execMemoryReadRequest_moves (p : Packet) (s : State) : MovesN 138429240 s (execMemoryReadRequest p s) := by
  unfold execMemoryReadRequest
  refine MovesN.ite (fun _ => ?_) (fun _ => ?_)
  · refine MovesN.next ?_
    exact Moves.refl
  · refine MovesN.next ?_
    refine Moves.call (inject_moves _ _ _) (by decide) ?_
    refine Moves.call (linesReadEffects_moves _ _) (by decide) ?_
    exact Moves.refl

theorem writeLines_moves (mark : Nat → Bool) (n : Nat) (s : State) (t o : Nat) (bs : List Byte) :
    Moves 138429432 s (writeLines mark n s t o bs) := by
  induction n generalizing s t o bs with
  | zero => exact Moves.refl
  | succ n ih =>
    unfold writeLines
    refine Moves.ite (fun _ => Moves.refl) (fun _ => ?_)
    refine Moves.trans ?_ (ih ..)
    exact Moves.ite (fun _ => Moves.refl) (fun _ => (memStore_moves ..).mono (by decide))

theorem execMemoryWriteArrival_moves (p : Packet) (s : State) : MovesN 138429432 s (execMemoryWriteArrival p s) := by
  unfold execMemoryWriteArrival
  extract_lets +onlyGivenNames z0
  have hz0 : Moves 138429432 s z0 := by
    unfold z0
    refine Moves.call (writeLines_moves _ _ _ _ _ _) (by decide) ?_
    exact Moves.refl
  clear_value z0
  refine MovesN.ite (fun _ => ?_) (fun _ => ?_)
  · refine MovesN.next ?_
    exact Moves.refl
  · refine MovesN.next ?_
    refine Moves.call (inject_moves _ _ _) (by decide) ?_
    exact hz0

theorem execReadResponseArrival_moves (p : Packet) (s : State) : MovesN 138974008 s (execReadResponseArrival p s) := by
  unfold execReadResponseArrival
  extract_lets +onlyGivenNames z0; clear_value z0
  extract_lets +onlyGivenNames z1; clear_value z1
  extract_lets +onlyGivenNames z2; clear_value z2
  refine MovesN.ite (fun _ => ?_) (fun _ => ?_)
  · refine MovesN.next ?_
    exact Moves.refl
  · split
    · extract_lets +onlyGivenNames z3
      have hz3 : Moves 138974008 s z3 := by
        unfold z3
        refine Moves.call (tileMod_moves _ _ _) (by decide) ?_
        exact Moves.refl
      clear_value z3
      refine MovesN.ite (fun _ => ?_) (fun _ => ?_)
      · refine MovesN.next ?_
        refine Moves.call (strictHalt_moves _ _ _) (by decide) ?_
        exact Moves.refl
      · refine MovesN.next ?_
        refine Moves.call (answerPiece_moves _ _ _ _) (by decide) ?_
        exact hz3
    · extract_lets +onlyGivenNames z4; clear_value z4
      extract_lets +onlyGivenNames z5; clear_value z5
      refine MovesN.ite (fun _ => ?_) (fun _ => ?_)
      · refine MovesN.next ?_
        refine Moves.call (strictHalt_moves _ _ _) (by decide) ?_
        refine Moves.call (tileMod_moves _ _ _) (by decide) ?_
        exact Moves.refl
      · refine MovesN.next ?_
        refine Moves.call (answerPiece_moves _ _ _ _) (by decide) ?_
        refine Moves.call (tileMod_moves _ _ _) (by decide) ?_
        exact Moves.refl
    · refine MovesN.next ?_
      exact Moves.refl

theorem refusedChunks_moves (s : State) (t : Nat) (chip : Nat) : Moves 138806072 s (refusedChunks s t chip) := by
  unfold refusedChunks
  split
  · exact Moves.refl
  · refine Moves.foldl (fun a0 _ => ?_) ?_
    · refine Moves.call (collStop_moves _ _ _) (by decide) ?_
      exact Moves.refl
    · exact Moves.refl

theorem execRefusalArrival_moves (p : Packet) (s : State) : MovesN 138810168 s (execRefusalArrival p s) := by
  unfold execRefusalArrival
  extract_lets +onlyGivenNames z0; clear_value z0
  extract_lets +onlyGivenNames z1; clear_value z1
  extract_lets +onlyGivenNames z2
  have hz2 : Moves 138810168 s z2 := by
    unfold z2
    split
    · refine Moves.ite (fun _ => ?_) (fun _ => ?_)
      · refine Moves.call (tileMod_moves _ _ _) (by decide) ?_
        exact Moves.refl
      · exact Moves.refl
    · exact Moves.refl
  clear_value z2
  refine MovesN.ite (fun _ => ?_) (fun _ => ?_)
  · refine MovesN.next ?_
    exact Moves.refl
  · refine MovesN.ite (fun _ => ?_) (fun _ => ?_)
    · refine MovesN.next ?_
      refine Moves.ite (fun _ => ?_) (fun _ => ?_)
      · exact Moves.refl
      · refine Moves.call (refusedChunks_moves _ _ _) (by decide) ?_
        exact Moves.refl
    · refine MovesN.next ?_
      refine Moves.call (answerPiece_moves _ _ _ _) (by decide) ?_
      exact hz2

theorem execResetNotice_moves (p : Packet) (s : State) : MovesN 138412856 s (execResetNotice p s) := by
  unfold execResetNotice
  refine MovesN.ite (fun _ => ?_) (fun _ => ?_)
  · refine MovesN.next ?_
    refine Moves.call (logEvent_moves _ _ _ _ _ _) (by decide) ?_
    exact Moves.refl
  · refine MovesN.next ?_
    exact Moves.refl

theorem execSlotCreditArrival_moves (p : Packet) (s : State) : MovesN 262144 s (execSlotCreditArrival p s) := by
  unfold execSlotCreditArrival
  refine MovesN.ite (fun _ => ?_) (fun _ => ?_)
  · refine MovesN.next ?_
    exact Moves.refl
  · refine MovesN.next ?_
    refine Moves.call (collCredit_moves _ _) (by decide) ?_
    exact Moves.refl

theorem execStrumPartialArrival_moves (p : Packet) (s : State) : MovesN 138543928 s (execStrumPartialArrival p s) := by
  unfold execStrumPartialArrival
  refine MovesN.ite (fun _ => ?_) (fun _ => ?_)
  · refine MovesN.next ?_
    exact Moves.refl
  · refine MovesN.next ?_
    refine Moves.call (strumPartial_moves _ _) (by decide) ?_
    exact Moves.refl

theorem execStrumWaitExpiry_moves (group : Nat) (s : State) : MovesN 138543928 s (execStrumWaitExpiry group s) := by
  unfold execStrumWaitExpiry
  refine MovesN.next ?_
  refine Moves.call (strumExpire_moves _ _) (by decide) ?_
  exact Moves.refl

theorem execUnknownSystemMessage_moves (p : Packet) (s : State) : MovesN 138412856 s (execUnknownSystemMessage p s) := by
  unfold execUnknownSystemMessage
  refine MovesN.ite (fun _ => ?_) (fun _ => ?_)
  · refine MovesN.next ?_
    refine Moves.call (logEvent_moves _ _ _ _ _ _) (by decide) ?_
    exact Moves.refl
  · refine MovesN.next ?_
    exact Moves.refl

theorem execWriteAckArrival_moves (p : Packet) (s : State) : MovesN 4096 s (execWriteAckArrival p s) := by
  unfold execWriteAckArrival
  extract_lets +onlyGivenNames z0; clear_value z0
  refine MovesN.ite (fun _ => ?_) (fun _ => ?_)
  · refine MovesN.next ?_
    exact Moves.refl
  · split
    · refine MovesN.next ?_
      refine Moves.call (answerPiece_moves _ _ _ _) (by decide) ?_
      exact Moves.refl
    · refine MovesN.next ?_
      refine Moves.call (answerPiece_moves _ _ _ _) (by decide) ?_
      exact Moves.refl
    · refine MovesN.next ?_
      exact Moves.refl

end Sys2Proof.Laws
end

