-- ==== Sys2Proof/Laws/FramePins.lean ====
section
/-! SUPPORT. What each function of Machine/Pins.lean may change, and that it keeps the canonical form: its frame law. -/

namespace Sys2Proof.Laws

set_option Elab.async false

open Sys2Proof Sys2Proof.Machine Sys2Proof.Safety

theorem powerLost_moves (s : State) : Moves 536870910 s (powerLost s) := by
  refine ⟨fun _ => ⟨rfl, ?_, rfl, rfl, rfl, rfl, rfl, rfl, rfl, rfl⟩, fun p hp => ?_⟩
  · show mapRising State.reset.regs = true
    decide
  · cases p <;> first | rfl | exact absurd hp (by decide)

theorem execAuxLoss_moves (s : State) : MovesN 536870910 s (execAuxLoss s) := by
  unfold execAuxLoss
  extract_lets +onlyGivenNames z0
  have hz0 : Moves 536870910 s z0 := by
    unfold z0
    refine Moves.call (powerLost_moves _) (by decide) ?_
    exact Moves.refl
  clear_value z0
  extract_lets +onlyGivenNames z1
  have hz1 : Moves 536870910 s z1 := by
    unfold z1
    refine Moves.record ?_
    exact hz0
  clear_value z1
  extract_lets +onlyGivenNames z2
  have hz2 : Moves 536870910 s z2 := by
    unfold z2
    refine Moves.ite (fun _ => ?_) (fun _ => ?_)
    · refine Moves.call (emit_moves _ _) (by decide) ?_
      exact hz1
    · exact hz1
  clear_value z2
  refine MovesN.next ?_
  refine Moves.ite (fun _ => ?_) (fun _ => ?_)
  · refine Moves.call (emit_moves _ _) (by decide) ?_
    exact hz2
  · exact hz2

theorem execInputAlert_moves (s : State) : MovesN 8389176 s (execInputAlert s) := by
  unfold execInputAlert
  refine MovesN.next ?_
  refine Moves.call (alertAssert_moves _) (by decide) ?_
  exact Moves.refl

theorem heldReset_moves (s : State) (p : PinSt) : Moves 536870910 s (heldReset s p) := by
  unfold heldReset
  extract_lets +onlyGivenNames z0
  have hz0 : Moves 536870910 s z0 := by
    unfold z0
    refine Moves.call (powerLost_moves _) (by decide) ?_
    exact Moves.refl
  clear_value z0
  refine Moves.call (latchSlot_moves _ _) (by decide) ?_
  refine Moves.record ?_ (cdies := fun _ => rfl) (cstks := fun _ => rfl)
  exact hz0

theorem execInputLoss_moves (s : State) : MovesN 536870910 s (execInputLoss s) := by
  unfold execInputLoss
  extract_lets +onlyGivenNames z0; clear_value z0
  refine MovesN.ite (fun _ => ?_) (fun _ => ?_)
  · refine MovesN.next ?_
    refine Moves.record ?_
    exact Moves.refl
  · split
    extract_lets +onlyGivenNames z1; clear_value z1
    refine MovesN.next ?_
    refine Moves.call (heldReset_moves _ _) (by decide) ?_
    refine Moves.call (mirrorWrite_moves _ _) (by decide) ?_
    refine Moves.call (bookWrite_moves _ _) (by decide) ?_
    refine Moves.call (Moves.of_snd (by assumption) (freshFree_moves _)) (by decide) ?_
    exact Moves.refl

theorem execSlotIdChange_moves (observed : Nat) (s : State) : MovesN 138412856 s (execSlotIdChange observed s) := by
  unfold execSlotIdChange
  refine MovesN.ite (fun _ => ?_) (fun _ => ?_)
  · refine MovesN.next ?_
    refine Moves.call (logEvent_moves _ _ _ _ _ _) (by decide) ?_
    exact Moves.refl
  · refine MovesN.next ?_
    exact Moves.refl

theorem execTripBackstop_moves (s : State) : MovesN 536870910 s (execTripBackstop s) := by
  unfold execTripBackstop
  extract_lets +onlyGivenNames z0; clear_value z0
  refine MovesN.ite (fun _ => ?_) (fun _ => ?_)
  · refine MovesN.next ?_
    refine Moves.call (heldReset_moves _ _) (by decide) ?_
    exact Moves.refl
  · refine MovesN.next ?_
    exact Moves.refl

end Sys2Proof.Laws
end

