-- ==== Sys2Proof/Laws/FrameTwin.lean ====
section
/-! SUPPORT. What each function of Machine/Twin.lean may change, and that it keeps the canonical form: its frame law. -/

namespace Sys2Proof.Laws

set_option Elab.async false

open Sys2Proof Sys2Proof.Machine Sys2Proof.Safety

theorem execDigestExchange_moves (ctx : Nat) (s : State) : MovesN 138544956 s (execDigestExchange ctx s) := by
  unfold execDigestExchange
  split
  · extract_lets +onlyGivenNames z0
    have hz0 : Moves 138544956 s z0 := by
      unfold z0
      refine Moves.call (mirrorSend_moves _ _ _ _ _) (by decide) ?_
      exact Moves.refl
    clear_value z0
    refine MovesN.ite (fun _ => ?_) (fun _ => ?_)
    · refine MovesN.next ?_
      exact Moves.refl
    · refine MovesN.ite (fun _ => ?_) (fun _ => ?_)
      · refine MovesN.next ?_
        refine Moves.call (contributeDone_moves _ _ _) (by decide) ?_
        exact Moves.refl
      · split
        refine MovesN.next ?_
        refine Moves.call (stepPut_moves _ _ _) (by decide) ?_
        refine Moves.call (Moves.of_fst (by assumption) (strumContribute_moves _ _ _ _ _ _ _)) (by decide) ?_
        exact hz0
  · refine MovesN.next ?_
    exact Moves.refl

theorem execDigestResult_moves (p : Packet) (s : State) : MovesN 138827772 s (execDigestResult p s) := by
  unfold execDigestResult
  refine MovesN.ite (fun _ => ?_) (fun _ => ?_)
  · refine MovesN.next ?_
    exact Moves.refl
  · refine MovesN.next ?_
    refine Moves.call (resultArrive_moves _ _) (by decide) ?_
    exact Moves.refl

theorem execJoinRecord_moves (p : Packet) (s : State) : MovesN 134217736 s (execJoinRecord p s) := by
  unfold execJoinRecord
  extract_lets +onlyGivenNames z0; clear_value z0
  refine MovesN.ite (fun _ => ?_) (fun _ => ?_)
  · refine MovesN.next ?_
    exact Moves.refl
  · refine MovesN.ite (fun _ => ?_) (fun _ => ?_)
    · refine MovesN.next ?_
      refine Moves.call (mirrorSend_moves _ _ _ _ _) (by decide) ?_
      refine Moves.record ?_
      exact Moves.refl
    · refine MovesN.ite (fun _ => ?_) (fun _ => ?_)
      · refine MovesN.next ?_
        refine Moves.record ?_
        exact Moves.refl
      · refine MovesN.next ?_
        exact Moves.refl

theorem mirrorFirst_moves (s : State) (p : Packet) (digest : Nat) : Moves 138412856 s (mirrorFirst s p digest) := by
  unfold mirrorFirst
  extract_lets +onlyGivenNames z0; clear_value z0
  extract_lets +onlyGivenNames z1
  have hz1 : Moves 138412856 s z1 := by
    unfold z1
    refine Moves.record ?_
    exact Moves.refl
  clear_value z1
  extract_lets +onlyGivenNames z2; clear_value z2
  refine Moves.ite (fun _ => ?_) (fun _ => ?_)
  · exact Moves.refl
  · refine Moves.ite (fun _ => ?_) (fun _ => ?_)
    · refine Moves.call (regPut_moves _ _ _ _ _) (by decide) ?_
      exact hz1
    · refine Moves.call (logEvent_moves _ _ _ _ _ _) (by decide) ?_
      exact hz1

theorem mirrorTake_moves (s : State) (p : Packet) (digest : Nat) : Moves 138412856 s (mirrorTake s p digest) := by
  unfold mirrorTake
  extract_lets +onlyGivenNames z0
  have hz0 : Moves 138412856 s z0 := by
    unfold z0
    refine Moves.call (mirrorFirst_moves _ _ _) (by decide) ?_
    exact Moves.refl
  clear_value z0
  extract_lets +onlyGivenNames z1; clear_value z1
  refine Moves.record ?_
  exact hz0

theorem execMirrorHeartbeat_moves (p : Packet) (digest : Nat) (s : State) : MovesN 138412856 s (execMirrorHeartbeat p digest s) := by
  unfold execMirrorHeartbeat
  refine MovesN.ite (fun _ => ?_) (fun _ => ?_)
  · refine MovesN.next ?_
    refine Moves.call (mirrorTake_moves _ _ _) (by decide) ?_
    exact Moves.refl
  · refine MovesN.next ?_
    exact Moves.refl

theorem execMirrorHeartbeatTimer_moves (s : State) : MovesN 134217736 s (execMirrorHeartbeatTimer s) := by
  unfold execMirrorHeartbeatTimer
  refine MovesN.ite (fun _ => ?_) (fun _ => ?_)
  · refine MovesN.next ?_
    refine Moves.call (mirrorSend_moves _ _ _ _ _) (by decide) ?_
    exact Moves.refl
  · refine MovesN.next ?_
    exact Moves.refl

theorem execMirrorStep_moves (p : Packet) (digest : Nat) (s : State) : MovesN 138412856 s (execMirrorStep p digest s) := by
  unfold execMirrorStep
  refine MovesN.ite (fun _ => ?_) (fun _ => ?_)
  · refine MovesN.next ?_
    refine Moves.call (mirrorTake_moves _ _ _) (by decide) ?_
    exact Moves.refl
  · refine MovesN.next ?_
    exact Moves.refl

theorem execPartnerLoss_moves (s : State) : MovesN 134218296 s (execPartnerLoss s) := by
  unfold execPartnerLoss
  extract_lets +onlyGivenNames z0; clear_value z0
  refine MovesN.ite (fun _ => ?_) (fun _ => ?_)
  · refine MovesN.next ?_
    exact Moves.refl
  · refine MovesN.ite (fun _ => ?_) (fun _ => ?_)
    · refine MovesN.next ?_
      refine Moves.call (partnerLost_moves _) (by decide) ?_
      exact Moves.refl
    · refine MovesN.ite (fun _ => ?_) (fun _ => ?_)
      · refine MovesN.next ?_
        refine Moves.record ?_
        exact Moves.refl
      · refine MovesN.next ?_
        exact Moves.refl

theorem twinResync_moves (s : State) : Moves 134217736 s (twinResync s) := by
  unfold twinResync
  extract_lets +onlyGivenNames z0; clear_value z0
  extract_lets +onlyGivenNames z1; clear_value z1
  refine Moves.ite (fun _ => ?_) (fun _ => ?_)
  · exact Moves.refl
  · refine Moves.call (mirrorSend_moves _ _ _ _ _) (by decide) ?_
    refine Moves.record ?_
    exact Moves.refl

theorem twinSwap_moves (s : State) : Moves 134217728 s (twinSwap s) := by
  unfold twinSwap
  extract_lets +onlyGivenNames z0; clear_value z0
  refine Moves.ite (fun _ => ?_) (fun _ => ?_)
  · refine Moves.record ?_
    exact Moves.refl
  · exact Moves.refl

theorem twinCmd_moves (s : State) (v : Nat) : Moves 134217752 s (twinCmd s v) := by
  unfold twinCmd
  extract_lets +onlyGivenNames z0
  have hz0 : Moves 134217752 s z0 := by
    unfold z0
    refine Moves.ite (fun _ => ?_) (fun _ => ?_)
    · refine Moves.call (twinOut_moves _) (by decide) ?_
      exact Moves.refl
    · exact Moves.refl
  clear_value z0
  extract_lets +onlyGivenNames z1
  have hz1 : Moves 134217752 s z1 := by
    unfold z1
    refine Moves.ite (fun _ => ?_) (fun _ => ?_)
    · refine Moves.call (twinSwap_moves _) (by decide) ?_
      exact hz0
    · exact hz0
  clear_value z1
  refine Moves.ite (fun _ => ?_) (fun _ => ?_)
  · refine Moves.call (twinResync_moves _) (by decide) ?_
    exact hz1
  · exact hz1

theorem execResyncData_moves (p : Packet) (s : State) : MovesN 138429432 s (execResyncData p s) := by
  unfold execResyncData
  extract_lets +onlyGivenNames z0
  have hz0 : Moves 138429432 s z0 := by
    unfold z0
    refine Moves.call (memStore_moves _ _ _ _) (by decide) ?_
    exact Moves.refl
  clear_value z0
  extract_lets +onlyGivenNames z1; clear_value z1
  refine MovesN.ite (fun _ => ?_) (fun _ => ?_)
  · refine MovesN.next ?_
    exact Moves.refl
  · refine MovesN.next ?_
    refine Moves.call (regPut_moves _ _ _ _ _) (by decide) ?_
    refine Moves.record ?_
    exact hz0

theorem execResyncState_moves (p : Packet) (counts : List (Nat × Nat)) (streams : List StreamCopy) (positions : List (Nat × Nat × Nat)) (s : State) : MovesN
      134218768 s (execResyncState p counts streams positions s) := by
  unfold execResyncState
  extract_lets +onlyGivenNames z0; clear_value z0
  extract_lets +onlyGivenNames z1; clear_value z1
  extract_lets +onlyGivenNames z2; clear_value z2
  extract_lets +onlyGivenNames z3
  have hz3 : Moves 134218768 s z3 := by
    unfold z3
    refine Moves.record ?_
    exact Moves.refl
  clear_value z3
  extract_lets +onlyGivenNames z4
  have hz4 : Moves 134218768 s z4 := by
    unfold z4
    refine Moves.foldl (fun a5 _ => ?_) ?_
    · split
      extract_lets +onlyGivenNames z6; clear_value z6
      refine Moves.call (planSet_moves _ _ _) (by decide) ?_
      exact Moves.refl
    · exact hz3
  clear_value z4
  refine MovesN.ite (fun _ => ?_) (fun _ => ?_)
  · refine MovesN.next ?_
    exact Moves.refl
  · refine MovesN.next ?_
    refine Moves.call (regPut_moves _ _ _ _ _) (by decide) ?_
    exact hz4

theorem execTwinLeave_moves (s : State) : MovesN 138412856 s (execTwinLeave s) := by
  unfold execTwinLeave
  refine MovesN.next ?_
  refine Moves.trans ?_ (hostWrite_moves (by decide) (fun a0 => ?_))
  · exact Moves.refl
  · refine Moves.call (twinOut_moves _) (by decide) ?_
    exact Moves.refl

theorem execTwinResync_moves (s : State) : MovesN 138412856 s (execTwinResync s) := by
  unfold execTwinResync
  refine MovesN.next ?_
  refine Moves.trans ?_ (hostWrite_moves (by decide) (fun a0 => ?_))
  · exact Moves.refl
  · refine Moves.call (twinResync_moves _) (by decide) ?_
    exact Moves.refl

theorem execTwinStreamExpiry_moves (s : State) : MovesN 134217728 s (execTwinStreamExpiry s) := by
  unfold execTwinStreamExpiry
  extract_lets +onlyGivenNames z0; clear_value z0
  refine MovesN.next ?_
  refine Moves.record ?_
  exact Moves.refl

theorem execTwinSwap_moves (s : State) : MovesN 138412856 s (execTwinSwap s) := by
  unfold execTwinSwap
  refine MovesN.next ?_
  refine Moves.trans ?_ (hostWrite_moves (by decide) (fun a0 => ?_))
  · exact Moves.refl
  · refine Moves.call (twinSwap_moves _) (by decide) ?_
    exact Moves.refl

end Sys2Proof.Laws
end

