-- ==== Sys2Proof/Laws/FrameRegWrite.lean ====
section
/-! SUPPORT. What each function of Machine/RegWrite.lean may change, and that it keeps the canonical form: its frame law. -/

namespace Sys2Proof.Laws

set_option Elab.async false

open Sys2Proof Sys2Proof.Machine Sys2Proof.Safety

theorem leaseCfg_moves (s : State) (v : Word) : Moves 2576 s (leaseCfg s v) := by
  unfold leaseCfg
  extract_lets +onlyGivenNames z0
  have hz0 : Moves 2576 s z0 := by
    unfold z0
    refine Moves.call (storeReg_moves _ _ _) (by decide) ?_
    exact Moves.refl
  clear_value z0
  refine Moves.ite (fun _ => ?_) (fun _ => ?_)
  · refine Moves.call (leaseEnds_moves _) (by decide) ?_
    exact hz0
  · exact hz0

theorem msixWrite_moves (s : State) (k : Nat) (v : Word) : Moves 2072 s (msixWrite s k v) := by
  unfold msixWrite
  extract_lets +onlyGivenNames z0
  have hz0 : Moves 2072 s z0 := by
    unfold z0
    refine Moves.call (storeReg_moves _ _ _) (by decide) ?_
    exact Moves.refl
  clear_value z0
  extract_lets +onlyGivenNames z1; clear_value z1
  refine Moves.ite (fun _ => ?_) (fun _ => ?_)
  · refine Moves.call (emit_moves _ _) (by decide) ?_
    refine Moves.call (regPut_moves _ _ _ _ _) (by decide) ?_
    exact hz0
  · exact hz0

theorem prtCmd_moves (s : State) (p : Nat) (v : Nat) : Moves 141558584 s (prtCmd s p v) := by
  unfold prtCmd
  extract_lets +onlyGivenNames z0
  have hz0 : Moves 141558584 s z0 := by
    unfold z0
    refine Moves.ite (fun _ => ?_) (fun _ => ?_)
    · refine Moves.call (portRetrain_moves _ _) (by decide) ?_
      exact Moves.refl
    · exact Moves.refl
  clear_value z0
  refine Moves.ite (fun _ => ?_) (fun _ => ?_)
  · refine Moves.call (reconsider_moves _ _) (by decide) ?_
    exact hz0
  · exact hz0

theorem scbCmd_moves (s : State) (v : Nat) : Moves 98320 s (scbCmd s v) := by
  unfold scbCmd
  extract_lets +onlyGivenNames z0
  have hz0 : Moves 98320 s z0 := by
    unfold z0
    refine Moves.ite (fun _ => ?_) (fun _ => ?_)
    · refine Moves.call (scrubAbort_moves _) (by decide) ?_
      exact Moves.refl
    · exact Moves.refl
  clear_value z0
  refine Moves.ite (fun _ => ?_) (fun _ => ?_)
  · refine Moves.call (scrubRequest_moves _ _ _ _) (by decide) ?_
    exact hz0
  · exact hz0

theorem secTake_moves (s : State) (op : Nat) : ∀ take, secTake s op = some take → ∀ a b, MovesE 469759996 a (take a b) := by
  intro take ht a b
  unfold secTake at ht
  repeat' split at ht
  all_goals first | (injection ht with ht; subst ht) | cases ht
  · exact MovesE.mono (custodianTake_moves _ _) (by decide)
  · exact MovesE.mono (enrolTake_moves _ _) (by decide)
  · exact MovesE.mono (removeTake_moves _ _) (by decide)
  · exact MovesE.mono (teardownTake_moves _ _ _ _) (by decide)
  · exact MovesE.mono (warrantTake_moves _ _) (by decide)
  · exact MovesE.mono (serviceTake_moves _ _) (by decide)

theorem secCmd_moves (s : State) (op : Nat) : Moves 469759996 s (secCmd s op) := by
  unfold secCmd
  split
  · refine Moves.trans ?_ (recordJudge_moves (by decide) (secTake_moves _ _ _ (by assumption)))
    exact Moves.ite (fun _ => (freshFree_moves ..).mono (by decide)) (fun _ => Moves.refl)
  · exact Moves.refl

theorem updCmd_moves (s : State) (op : Nat) : Moves 146817848 s (updCmd s op) := by
  unfold updCmd
  refine Moves.ite (fun _ => ?_) (fun _ => ?_)
  · refine Moves.call (hostBundle_moves _) (by decide) ?_
    exact Moves.refl
  · refine Moves.ite (fun _ => ?_) (fun _ => ?_)
    · refine Moves.call (activate_moves _) (by decide) ?_
      exact Moves.refl
    · refine Moves.ite (fun _ => ?_) (fun _ => ?_)
      · refine Moves.call (fallBack_moves _ _) (by decide) ?_
        exact Moves.refl
      · refine Moves.ite (fun _ => ?_) (fun _ => ?_)
        · refine Moves.call (cancelActivation_moves _) (by decide) ?_
          exact Moves.refl
        · exact Moves.refl

theorem regAction_moves (s : State) (k : Nat) (v : Word) : MovesO 469762044 s (regAction s k v) := by
  unfold regAction
  extract_lets +onlyGivenNames z0; clear_value z0
  refine MovesO.ite (fun _ => ?_) (fun _ => ?_)
  · refine MovesO.some ?_
    refine Moves.ite (fun _ => ?_) (fun _ => ?_)
    · refine Moves.call (contractCheck_moves _) (by decide) ?_
      exact Moves.refl
    · exact Moves.refl
  · refine MovesO.ite (fun _ => ?_) (fun _ => ?_)
    · refine MovesO.some ?_
      refine Moves.call (leaseCfg_moves _ _) (by decide) ?_
      exact Moves.refl
    · refine MovesO.ite (fun _ => ?_) (fun _ => ?_)
      · refine MovesO.some ?_
        refine Moves.call (adoptWrite_moves _ _ _) (by decide) ?_
        exact Moves.refl
      · refine MovesO.ite (fun _ => ?_) (fun _ => ?_)
        · refine MovesO.some ?_
          refine Moves.ite (fun _ => ?_) (fun _ => ?_)
          · refine Moves.call (patternApply_moves _ _) (by decide) ?_
            exact Moves.refl
          · exact Moves.refl
        · refine MovesO.ite (fun _ => ?_) (fun _ => ?_)
          · refine MovesO.some ?_
            refine Moves.ite (fun _ => ?_) (fun _ => ?_)
            · refine Moves.call (stepAbort_moves _ _ _) (by decide) ?_
              exact Moves.refl
            · exact Moves.refl
          · refine MovesO.ite (fun _ => ?_) (fun _ => ?_)
            · refine MovesO.some ?_
              refine Moves.call (scbCmd_moves _ _) (by decide) ?_
              exact Moves.refl
            · refine MovesO.ite (fun _ => ?_) (fun _ => ?_)
              · refine MovesO.some ?_
                refine Moves.call (setHostCap_moves _ _) (by decide) ?_
                exact Moves.refl
              · refine MovesO.ite (fun _ => ?_) (fun _ => ?_)
                · refine MovesO.some ?_
                  refine Moves.call (secCmd_moves _ _) (by decide) ?_
                  exact Moves.refl
                · refine MovesO.ite (fun _ => ?_) (fun _ => ?_)
                  · refine MovesO.some ?_
                    refine Moves.call (updCmd_moves _ _) (by decide) ?_
                    exact Moves.refl
                  · refine MovesO.ite (fun _ => ?_) (fun _ => ?_)
                    · refine MovesO.some ?_
                      refine Moves.call (rcvCmd_moves _ _) (by decide) ?_
                      exact Moves.refl
                    · refine MovesO.ite (fun _ => ?_) (fun _ => ?_)
                      · refine MovesO.some ?_
                        refine Moves.call (twinCmd_moves _ _) (by decide) ?_
                        exact Moves.refl
                      · refine MovesO.ite (fun _ => ?_) (fun _ => ?_)
                        · refine MovesO.some ?_
                          refine Moves.call (fabStocktake_moves _ _) (by decide) ?_
                          exact Moves.refl
                        · refine MovesO.ite (fun _ => ?_) (fun _ => ?_)
                          · refine MovesO.some ?_
                            refine Moves.call (fabSnapshot_moves _ _) (by decide) ?_
                            exact Moves.refl
                          · refine MovesO.ite (fun _ => ?_) (fun _ => ?_)
                            · refine MovesO.some ?_
                              refine Moves.call (prtCmd_moves _ _ _) (by decide) ?_
                              exact Moves.refl
                            · refine MovesO.ite (fun _ => ?_) (fun _ => ?_)
                              · refine MovesO.some ?_
                                refine Moves.ite (fun _ => ?_) (fun _ => ?_)
                                · refine Moves.call (stackLogClear_moves _ _) (by decide) ?_
                                  exact Moves.refl
                                · exact Moves.refl
                              · refine MovesO.ite (fun _ => ?_) (fun _ => ?_)
                                · refine MovesO.some ?_
                                  refine Moves.ite (fun _ => ?_) (fun _ => ?_)
                                  · refine Moves.call (dieLogClear_moves _ _) (by decide) ?_
                                    exact Moves.refl
                                  · exact Moves.refl
                                · refine MovesO.ite (fun _ => ?_) (fun _ => ?_)
                                  · refine MovesO.some ?_
                                    refine Moves.call (msixWrite_moves _ _ _) (by decide) ?_
                                    exact Moves.refl
                                  · exact MovesO.none

theorem tileWrite_moves (s : State) (x : Nat) (v : Word) : Moves 138416952 s (tileWrite s x v) := by
  unfold tileWrite
  extract_lets +onlyGivenNames z0; clear_value z0
  extract_lets +onlyGivenNames z1; clear_value z1
  refine Moves.ite (fun _ => ?_) (fun _ => ?_)
  · exact Moves.refl
  · refine Moves.ite (fun _ => ?_) (fun _ => ?_)
    · refine Moves.call (logEvent_moves _ _ _ _ _ _) (by decide) ?_
      exact Moves.refl
    · refine Moves.call (tileMod_moves _ _ _) (by decide) ?_
      exact Moves.refl

theorem regTake_moves (mgmt : Bool) (s : State) (k : Nat) (v : Word) : Moves 469762044 s (regTake mgmt s k v) := by
  unfold regTake
  refine Moves.ite (fun _ => ?_) (fun _ => ?_)
  · refine Moves.ite (fun _ => ?_) (fun _ => ?_)
    · refine Moves.call (tileWrite_moves _ _ _) (by decide) ?_
      exact Moves.refl
    · exact Moves.refl
  · refine Moves.ite (fun _ => ?_) (fun _ => ?_)
    · refine Moves.call (logEvent_moves _ _ _ _ _ _) (by decide) ?_
      exact Moves.refl
    · refine Moves.getD ?_ ?_
      · exact MovesO.mono (regAction_moves _ _ _) (by decide)
      · refine Moves.call (storeReg_moves _ _ _) (by decide) ?_
        exact Moves.refl

theorem execRegisterWrite_moves (mgmt : Bool) (off : Nat) (v : Word) (s : State) : MovesN 469762044 s (execRegisterWrite mgmt off v s) := by
  unfold execRegisterWrite
  refine MovesN.ite (fun _ => ?_) (fun _ => ?_)
  · refine MovesN.next ?_
    refine Moves.call (leaseStart_moves _) (by decide) ?_
    exact Moves.refl
  · split
    · refine MovesN.next ?_
      refine Moves.trans ?_ (writeBy_moves (by decide) (fun a0 => ?_))
      · exact Moves.refl
      · refine Moves.call (regTake_moves _ _ _ _) (by decide) ?_
        exact Moves.refl
    · refine MovesN.next ?_
      exact Moves.refl

end Sys2Proof.Laws
end

