-- ==== Sys2Proof/Laws/FrameScalar.lean ====
section
/-! SUPPORT. What each function of Machine/Scalar.lean may change, and that it keeps the canonical form: its frame law. -/

namespace Sys2Proof.Laws

set_option Elab.async false

open Sys2Proof Sys2Proof.Machine Sys2Proof.Safety

theorem scalarRR_moves (op : Nat) (fn : Word → Word → Word) (g : Nat) (sl : Slot) (f : ScalarFields) (s : State) : MovesN 156169208 s (scalarRR op fn g sl f
      s) := by
  unfold scalarRR
  refine slotExec_moves (by decide) (fun a0 => ?_)
  refine Moves.call (slotRun_moves _ _ _ _ _ _ _) (by decide) ?_
  exact Moves.refl

theorem execAdd_moves (g : Nat) (slot : Slot) (f : ScalarFields) (s : State) : MovesN 156169208 s (execAdd g slot f s) := by
  unfold execAdd
  exact MovesN.mono (scalarRR_moves _ _ _ _ _ _) (by decide)

theorem scalarRI_moves (op : Nat) (fn : Word → Word → Word) (g : Nat) (sl : Slot) (f : ScalarFields) (s : State) : MovesN 156169208 s (scalarRI op fn g sl f
      s) := by
  unfold scalarRI
  refine slotExec_moves (by decide) (fun a0 => ?_)
  refine Moves.call (slotRun_moves _ _ _ _ _ _ _) (by decide) ?_
  exact Moves.refl

theorem execAddi_moves (g : Nat) (slot : Slot) (f : ScalarFields) (s : State) : MovesN 156169208 s (execAddi g slot f s) := by
  unfold execAddi
  exact MovesN.mono (scalarRI_moves _ _ _ _ _ _) (by decide)

theorem execAnd_moves (g : Nat) (slot : Slot) (f : ScalarFields) (s : State) : MovesN 156169208 s (execAnd g slot f s) := by
  unfold execAnd
  exact MovesN.mono (scalarRR_moves _ _ _ _ _ _) (by decide)

theorem execAndi_moves (g : Nat) (slot : Slot) (f : ScalarFields) (s : State) : MovesN 156169208 s (execAndi g slot f s) := by
  unfold execAndi
  exact MovesN.mono (scalarRI_moves _ _ _ _ _ _) (by decide)

theorem scalarCmp_moves (op : Nat) (fn : Word → Word → Bool) (g : Nat) (sl : Slot) (f : ScalarFields) (s : State) : MovesN 156169208 s (scalarCmp op fn g sl f
      s) := by
  unfold scalarCmp
  refine slotExec_moves (by decide) (fun a0 => ?_)
  refine Moves.call (slotRun_moves _ _ _ _ _ _ _) (by decide) ?_
  exact Moves.refl

theorem execCmpeq_moves (g : Nat) (slot : Slot) (f : ScalarFields) (s : State) : MovesN 156169208 s (execCmpeq g slot f s) := by
  unfold execCmpeq
  exact MovesN.mono (scalarCmp_moves _ _ _ _ _ _) (by decide)

theorem scalarCmpI_moves (op : Nat) (fn : Word → Word → Bool) (g : Nat) (sl : Slot) (f : ScalarFields) (s : State) : MovesN 156169208 s (scalarCmpI op fn g sl
      f s) := by
  unfold scalarCmpI
  refine slotExec_moves (by decide) (fun a0 => ?_)
  refine Moves.call (slotRun_moves _ _ _ _ _ _ _) (by decide) ?_
  exact Moves.refl

theorem execCmpeqi_moves (g : Nat) (slot : Slot) (f : ScalarFields) (s : State) : MovesN 156169208 s (execCmpeqi g slot f s) := by
  unfold execCmpeqi
  exact MovesN.mono (scalarCmpI_moves _ _ _ _ _ _) (by decide)

theorem execCmpge_moves (g : Nat) (slot : Slot) (f : ScalarFields) (s : State) : MovesN 156169208 s (execCmpge g slot f s) := by
  unfold execCmpge
  exact MovesN.mono (scalarCmp_moves _ _ _ _ _ _) (by decide)

theorem execCmpgeu_moves (g : Nat) (slot : Slot) (f : ScalarFields) (s : State) : MovesN 156169208 s (execCmpgeu g slot f s) := by
  unfold execCmpgeu
  exact MovesN.mono (scalarCmp_moves _ _ _ _ _ _) (by decide)

theorem execCmplt_moves (g : Nat) (slot : Slot) (f : ScalarFields) (s : State) : MovesN 156169208 s (execCmplt g slot f s) := by
  unfold execCmplt
  exact MovesN.mono (scalarCmp_moves _ _ _ _ _ _) (by decide)

theorem execCmplti_moves (g : Nat) (slot : Slot) (f : ScalarFields) (s : State) : MovesN 156169208 s (execCmplti g slot f s) := by
  unfold execCmplti
  exact MovesN.mono (scalarCmpI_moves _ _ _ _ _ _) (by decide)

theorem execCmpltu_moves (g : Nat) (slot : Slot) (f : ScalarFields) (s : State) : MovesN 156169208 s (execCmpltu g slot f s) := by
  unfold execCmpltu
  exact MovesN.mono (scalarCmp_moves _ _ _ _ _ _) (by decide)

theorem execCmpne_moves (g : Nat) (slot : Slot) (f : ScalarFields) (s : State) : MovesN 156169208 s (execCmpne g slot f s) := by
  unfold execCmpne
  exact MovesN.mono (scalarCmp_moves _ _ _ _ _ _) (by decide)

theorem execMax_moves (g : Nat) (slot : Slot) (f : ScalarFields) (s : State) : MovesN 156169208 s (execMax g slot f s) := by
  unfold execMax
  exact MovesN.mono (scalarRR_moves _ _ _ _ _ _) (by decide)

theorem execMaxu_moves (g : Nat) (slot : Slot) (f : ScalarFields) (s : State) : MovesN 156169208 s (execMaxu g slot f s) := by
  unfold execMaxu
  exact MovesN.mono (scalarRR_moves _ _ _ _ _ _) (by decide)

theorem execMin_moves (g : Nat) (slot : Slot) (f : ScalarFields) (s : State) : MovesN 156169208 s (execMin g slot f s) := by
  unfold execMin
  exact MovesN.mono (scalarRR_moves _ _ _ _ _ _) (by decide)

theorem execMinu_moves (g : Nat) (slot : Slot) (f : ScalarFields) (s : State) : MovesN 156169208 s (execMinu g slot f s) := by
  unfold execMinu
  exact MovesN.mono (scalarRR_moves _ _ _ _ _ _) (by decide)

theorem execMovlo_moves (g : Nat) (slot : Slot) (f : ScalarFields) (s : State) : MovesN 156169208 s (execMovlo g slot f s) := by
  unfold execMovlo
  refine slotExec_moves (by decide) (fun a0 => ?_)
  refine Moves.call (slotRun_moves _ _ _ _ _ _ _) (by decide) ?_
  exact Moves.refl

theorem execMul_moves (g : Nat) (slot : Slot) (f : ScalarFields) (s : State) : MovesN 156169208 s (execMul g slot f s) := by
  unfold execMul
  exact MovesN.mono (scalarRR_moves _ _ _ _ _ _) (by decide)

theorem execOr_moves (g : Nat) (slot : Slot) (f : ScalarFields) (s : State) : MovesN 156169208 s (execOr g slot f s) := by
  unfold execOr
  exact MovesN.mono (scalarRR_moves _ _ _ _ _ _) (by decide)

theorem execOrhi_moves (g : Nat) (slot : Slot) (f : ScalarFields) (s : State) : MovesN 156169208 s (execOrhi g slot f s) := by
  unfold execOrhi
  refine slotExec_moves (by decide) (fun a0 => ?_)
  refine Moves.call (slotRun_moves _ _ _ _ _ _ _) (by decide) ?_
  exact Moves.refl

theorem execOri_moves (g : Nat) (slot : Slot) (f : ScalarFields) (s : State) : MovesN 156169208 s (execOri g slot f s) := by
  unfold execOri
  exact MovesN.mono (scalarRI_moves _ _ _ _ _ _) (by decide)

theorem predOp_moves (op : Nat) (fn : Bool → Bool → Bool) (g : Nat) (sl : Slot) (f : ScalarFields) (s : State) : MovesN 156169208 s (predOp op fn g sl f s) :=
      by
  unfold predOp
  refine slotExec_moves (by decide) (fun a0 => ?_)
  refine Moves.call (slotRun_moves _ _ _ _ _ _ _) (by decide) ?_
  exact Moves.refl

theorem execPand_moves (g : Nat) (slot : Slot) (f : ScalarFields) (s : State) : MovesN 156169208 s (execPand g slot f s) := by
  unfold execPand
  exact MovesN.mono (predOp_moves _ _ _ _ _ _) (by decide)

theorem execPandn_moves (g : Nat) (slot : Slot) (f : ScalarFields) (s : State) : MovesN 156169208 s (execPandn g slot f s) := by
  unfold execPandn
  exact MovesN.mono (predOp_moves _ _ _ _ _ _) (by decide)

theorem execPor_moves (g : Nat) (slot : Slot) (f : ScalarFields) (s : State) : MovesN 156169208 s (execPor g slot f s) := by
  unfold execPor
  exact MovesN.mono (predOp_moves _ _ _ _ _ _) (by decide)

theorem execPxor_moves (g : Nat) (slot : Slot) (f : ScalarFields) (s : State) : MovesN 156169208 s (execPxor g slot f s) := by
  unfold execPxor
  exact MovesN.mono (predOp_moves _ _ _ _ _ _) (by decide)

theorem execRdtil_moves (g : Nat) (f : ScalarFields) (s : State) : MovesN 156169208 s (execRdtil g f s) := by
  unfold execRdtil
  refine slotExec_moves (by decide) (fun a0 => ?_)
  refine Moves.call (slotRun_moves _ _ _ _ _ _ _) (by decide) ?_
  exact Moves.refl

theorem execShl_moves (g : Nat) (slot : Slot) (f : ScalarFields) (s : State) : MovesN 156169208 s (execShl g slot f s) := by
  unfold execShl
  exact MovesN.mono (scalarRR_moves _ _ _ _ _ _) (by decide)

theorem scalarShI_moves (op : Nat) (fn : Word → Nat → Word) (g : Nat) (sl : Slot) (f : ScalarFields) (s : State) : MovesN 156169208 s (scalarShI op fn g sl f
      s) := by
  unfold scalarShI
  refine slotExec_moves (by decide) (fun a0 => ?_)
  refine Moves.call (slotRun_moves _ _ _ _ _ _ _) (by decide) ?_
  exact Moves.refl

theorem execShli_moves (g : Nat) (slot : Slot) (f : ScalarFields) (s : State) : MovesN 156169208 s (execShli g slot f s) := by
  unfold execShli
  exact MovesN.mono (scalarShI_moves _ _ _ _ _ _) (by decide)

theorem execShr_moves (g : Nat) (slot : Slot) (f : ScalarFields) (s : State) : MovesN 156169208 s (execShr g slot f s) := by
  unfold execShr
  exact MovesN.mono (scalarRR_moves _ _ _ _ _ _) (by decide)

theorem execShri_moves (g : Nat) (slot : Slot) (f : ScalarFields) (s : State) : MovesN 156169208 s (execShri g slot f s) := by
  unfold execShri
  exact MovesN.mono (scalarShI_moves _ _ _ _ _ _) (by decide)

theorem execSra_moves (g : Nat) (slot : Slot) (f : ScalarFields) (s : State) : MovesN 156169208 s (execSra g slot f s) := by
  unfold execSra
  exact MovesN.mono (scalarRR_moves _ _ _ _ _ _) (by decide)

theorem execSrai_moves (g : Nat) (slot : Slot) (f : ScalarFields) (s : State) : MovesN 156169208 s (execSrai g slot f s) := by
  unfold execSrai
  exact MovesN.mono (scalarShI_moves _ _ _ _ _ _) (by decide)

theorem execSub_moves (g : Nat) (slot : Slot) (f : ScalarFields) (s : State) : MovesN 156169208 s (execSub g slot f s) := by
  unfold execSub
  exact MovesN.mono (scalarRR_moves _ _ _ _ _ _) (by decide)

theorem execTkst_moves (g : Nat) (f : ScalarFields) (s : State) : MovesN 156169208 s (execTkst g f s) := by
  unfold execTkst
  refine slotExec_moves (by decide) (fun a0 => ?_)
  refine Moves.call (slotRun_moves _ _ _ _ _ _ _) (by decide) ?_
  exact Moves.refl

theorem execXor_moves (g : Nat) (slot : Slot) (f : ScalarFields) (s : State) : MovesN 156169208 s (execXor g slot f s) := by
  unfold execXor
  exact MovesN.mono (scalarRR_moves _ _ _ _ _ _) (by decide)

theorem execXori_moves (g : Nat) (slot : Slot) (f : ScalarFields) (s : State) : MovesN 156169208 s (execXori g slot f s) := by
  unfold execXori
  exact MovesN.mono (scalarRI_moves _ _ _ _ _ _) (by decide)

end Sys2Proof.Laws
end

