-- ==== Sys2Proof/Laws/FrameSync.lean ====
section
/-! SUPPORT. What each function of Machine/Sync.lean may change, and that it keeps the canonical form: its frame law. -/

namespace Sys2Proof.Laws

set_option Elab.async false

open Sys2Proof Sys2Proof.Machine Sys2Proof.Safety

theorem fetchEffects_moves (s : State) (t : Nat) (pc : Nat) : Moves 155194168 s (fetchEffects s t pc) := by
  unfold fetchEffects
  refine Moves.foldl (fun a0 _ => ?_) ?_
  · extract_lets +onlyGivenNames z1; clear_value z1
    extract_lets +onlyGivenNames z2; clear_value z2
    extract_lets +onlyGivenNames z3
    have hz3 : Moves 155194168 a0 z3 := by
      unfold z3
      refine Moves.call (sramCount_moves _ _ _ _ _) (by decide) ?_
      exact Moves.refl
    clear_value z3
    refine Moves.ite (fun _ => ?_) (fun _ => ?_)
    · exact Moves.refl
    · refine Moves.ite (fun _ => ?_) (fun _ => ?_)
      · refine Moves.call (tileMod_moves _ _ _) (by decide) ?_
        exact hz3
      · exact hz3
  · exact Moves.refl

theorem execBundleFetch_moves (g : Nat) (us : Upsets) (s : State) : MovesN 156169208 s (execBundleFetch g us s) := by
  unfold execBundleFetch
  extract_lets +onlyGivenNames z0; clear_value z0
  extract_lets +onlyGivenNames z1
  have hz1 : Moves 156169208 s z1 := by
    unfold z1
    refine Moves.call (settle_moves _ _) (by decide) ?_
    refine Moves.call (upsetTiles_moves _ _) (by decide) ?_
    exact Moves.refl
  clear_value z1
  extract_lets +onlyGivenNames z2; clear_value z2
  extract_lets +onlyGivenNames z3
  have hz3 : Moves 156169208 s z3 := by
    unfold z3
    refine Moves.ite (fun _ => ?_) (fun _ => ?_)
    · refine Moves.foldl (fun a4 _ => ?_) ?_
      · refine Moves.call (fetchEffects_moves _ _ _) (by decide) ?_
        exact Moves.refl
      · exact hz1
    · exact hz1
  clear_value z3
  refine MovesN.ite (fun _ => ?_) (fun _ => ?_)
  · split
    · refine MovesN.next ?_
      refine Moves.call (raiseExc_moves _ _ _) (by decide) ?_
      exact hz3
    · extract_lets +onlyGivenNames z5; clear_value z5
      extract_lets +onlyGivenNames z6; clear_value z6
      refine MovesN.next ?_
      refine Moves.call (commitIfDone_moves _ _) (by decide) ?_
      refine Moves.call (gangMod_moves _ _ _) (by decide) ?_
      exact hz3
  · refine MovesN.next ?_
    exact Moves.refl

theorem execNop_moves (_g : Nat) (_slot : Slot) (s : State) : MovesN 0 s (execNop _g _slot s) := by
  unfold execNop
  refine MovesN.next ?_
  exact Moves.refl

theorem execResultWriteback_moves (g : Nat) (s : State) : MovesN 4096 s (execResultWriteback g s) := by
  unfold execResultWriteback
  refine MovesN.next ?_
  refine Moves.call (settle_moves _ _) (by decide) ?_
  exact Moves.refl

theorem execSramWordWriteback_moves (tile : Nat) (word : Nat) (s : State) : MovesN 4096 s (execSramWordWriteback tile word s) := by
  unfold execSramWordWriteback
  refine MovesN.ite (fun _ => ?_) (fun _ => ?_)
  · refine MovesN.next ?_
    refine Moves.call (tileMod_moves _ _ _) (by decide) ?_
    exact Moves.refl
  · refine MovesN.next ?_
    exact Moves.refl

theorem syExec_moves (op : Nat) (ok : Bool) (g : Nat) (operand : BitVec 11) (out : State → Tile → SlotOut) (s : State) : MovesN 156169208 s (syExec op ok g
      operand out s) := by
  unfold syExec
  refine slotExec_moves (by decide) (fun a0 => ?_)
  refine Moves.call (slotRun_moves _ _ _ _ _ _ _) (by decide) ?_
  exact Moves.refl

theorem execStrum_moves (g : Nat) (operand : BitVec 11) (s : State) : MovesN 156169208 s (execStrum g operand s) := by
  unfold execStrum
  exact MovesN.mono (syExec_moves _ _ _ _ _ _) (by decide)

theorem execTicketWaitEnd_moves (g : Nat) (cycles : Nat) (s : State) : MovesN 12288 s (execTicketWaitEnd g cycles s) := by
  unfold execTicketWaitEnd
  extract_lets +onlyGivenNames z0; clear_value z0
  refine MovesN.ite (fun _ => ?_) (fun _ => ?_)
  · refine MovesN.next ?_
    refine Moves.call (gangSet_moves _ _ _) (by decide) ?_
    refine Moves.call (tilesMod_moves _ _ _) (by decide) ?_
    exact Moves.refl
  · refine MovesN.next ?_
    exact Moves.refl

theorem execWait_moves (g : Nat) (operand : BitVec 11) (s : State) : MovesN 156169208 s (execWait g operand s) := by
  unfold execWait
  exact MovesN.mono (syExec_moves _ _ _ _ _ _) (by decide)

theorem execWait1_moves (g : Nat) (operand : BitVec 11) (s : State) : MovesN 156169208 s (execWait1 g operand s) := by
  unfold execWait1
  exact MovesN.mono (syExec_moves _ _ _ _ _ _) (by decide)

theorem execWaitall_moves (g : Nat) (operand : BitVec 11) (s : State) : MovesN 156169208 s (execWaitall g operand s) := by
  unfold execWaitall
  exact MovesN.mono (syExec_moves _ _ _ _ _ _) (by decide)

end Sys2Proof.Laws
end

