-- ==== Sys2Proof/Laws/FrameTick.lean ====
section
/-! SUPPORT. What each function of Machine/Tick.lean may change, and that it keeps the canonical form: its frame law. -/

namespace Sys2Proof.Laws

set_option Elab.async false

open Sys2Proof Sys2Proof.Machine Sys2Proof.Safety

theorem tick_moves (s : State) : Moves 8390666 s (tick s) := by
  unfold tick
  extract_lets +onlyGivenNames z0; clear_value z0
  refine Moves.ite (fun _ => ?_) (fun _ => ?_)
  · exact Moves.refl
  · refine Moves.call (alertPinTick_moves _) (by decide) ?_
    refine Moves.record ?_
    exact Moves.refl

end Sys2Proof.Laws
end

