-- ==== Sys2Proof/Laws/FrameVector.lean ====
section
/-! SUPPORT. What each function of Machine/Vector.lean may change, and that it keeps the canonical form: its frame law. -/

namespace Sys2Proof.Laws

set_option Elab.async false

open Sys2Proof Sys2Proof.Machine Sys2Proof.Safety

theorem vecExec_moves (op : Nat) (dec : Option Nat) (f : VecFields) (out : Tile → SlotOut) (g : Nat) (sl : Slot) (s : State) : MovesN 156169208 s (vecExec op
      dec f out g sl s) := by
  unfold vecExec
  refine slotExec_moves (by decide) (fun a0 => ?_)
  refine Moves.call (slotRun_moves _ _ _ _ _ _ _) (by decide) ?_
  exact Moves.refl

theorem floatUn_moves (op : Nat) (bf : Bool) (fn : Fmt → Rnd → Nat → Nat) (g : Nat) (sl : Slot) (f : VecFields) (s : State) : MovesN 156169208 s (floatUn op
      bf fn g sl f s) := by
  unfold floatUn
  exact MovesN.mono (vecExec_moves _ _ _ _ _ _ _) (by decide)

theorem execVabs_moves (g : Nat) (slot : Slot) (f : VecFields) (s : State) : MovesN 156169208 s (execVabs g slot f s) := by
  unfold execVabs
  exact MovesN.mono (floatUn_moves _ _ _ _ _ _ _) (by decide)

theorem floatBin_moves (op : Nat) (fn : Fmt → Rnd → Nat → Nat → Nat) (g : Nat) (sl : Slot) (f : VecFields) (s : State) : MovesN 156169208 s (floatBin op fn g
      sl f s) := by
  unfold floatBin
  exact MovesN.mono (vecExec_moves _ _ _ _ _ _ _) (by decide)

theorem execVadd_moves (g : Nat) (slot : Slot) (f : VecFields) (s : State) : MovesN 156169208 s (execVadd g slot f s) := by
  unfold execVadd
  exact MovesN.mono (floatBin_moves _ _ _ _ _ _) (by decide)

theorem intBin_moves (op : Nat) (fn : Nat → Nat → Nat) (g : Nat) (sl : Slot) (f : VecFields) (s : State) : MovesN 156169208 s (intBin op fn g sl f s) := by
  unfold intBin
  exact MovesN.mono (vecExec_moves _ _ _ _ _ _ _) (by decide)

theorem execVand_moves (g : Nat) (slot : Slot) (f : VecFields) (s : State) : MovesN 156169208 s (execVand g slot f s) := by
  unfold execVand
  exact MovesN.mono (intBin_moves _ _ _ _ _ _) (by decide)

theorem execVbcs_moves (g : Nat) (slot : Slot) (f : VecFields) (s : State) : MovesN 156169208 s (execVbcs g slot f s) := by
  unfold execVbcs
  exact MovesN.mono (vecExec_moves _ _ _ _ _ _ _) (by decide)

theorem execVexp2_moves (g : Nat) (slot : Slot) (f : VecFields) (s : State) : MovesN 156169208 s (execVexp2 g slot f s) := by
  unfold execVexp2
  exact MovesN.mono (floatUn_moves _ _ _ _ _ _ _) (by decide)

theorem execVfcmpeq_moves (g : Nat) (slot : Slot) (f : VecFields) (s : State) : MovesN 156169208 s (execVfcmpeq g slot f s) := by
  unfold execVfcmpeq
  exact MovesN.mono (floatBin_moves _ _ _ _ _ _) (by decide)

theorem execVfcmplt_moves (g : Nat) (slot : Slot) (f : VecFields) (s : State) : MovesN 156169208 s (execVfcmplt g slot f s) := by
  unfold execVfcmplt
  exact MovesN.mono (floatBin_moves _ _ _ _ _ _) (by decide)

theorem execVfma_moves (g : Nat) (slot : Slot) (f : VecFields) (s : State) : MovesN 156169208 s (execVfma g slot f s) := by
  unfold execVfma
  exact MovesN.mono (vecExec_moves _ _ _ _ _ _ _) (by decide)

theorem execViadd_moves (g : Nat) (slot : Slot) (f : VecFields) (s : State) : MovesN 156169208 s (execViadd g slot f s) := by
  unfold execViadd
  exact MovesN.mono (intBin_moves _ _ _ _ _ _) (by decide)

theorem execVisub_moves (g : Nat) (slot : Slot) (f : VecFields) (s : State) : MovesN 156169208 s (execVisub g slot f s) := by
  unfold execVisub
  exact MovesN.mono (intBin_moves _ _ _ _ _ _) (by decide)

theorem execVlane_moves (g : Nat) (slot : Slot) (f : VecFields) (s : State) : MovesN 156169208 s (execVlane g slot f s) := by
  unfold execVlane
  exact MovesN.mono (vecExec_moves _ _ _ _ _ _ _) (by decide)

theorem execVmax_moves (g : Nat) (slot : Slot) (f : VecFields) (s : State) : MovesN 156169208 s (execVmax g slot f s) := by
  unfold execVmax
  exact MovesN.mono (floatBin_moves _ _ _ _ _ _) (by decide)

theorem execVmin_moves (g : Nat) (slot : Slot) (f : VecFields) (s : State) : MovesN 156169208 s (execVmin g slot f s) := by
  unfold execVmin
  exact MovesN.mono (floatBin_moves _ _ _ _ _ _) (by decide)

theorem execVmul_moves (g : Nat) (slot : Slot) (f : VecFields) (s : State) : MovesN 156169208 s (execVmul g slot f s) := by
  unfold execVmul
  exact MovesN.mono (floatBin_moves _ _ _ _ _ _) (by decide)

theorem execVneg_moves (g : Nat) (slot : Slot) (f : VecFields) (s : State) : MovesN 156169208 s (execVneg g slot f s) := by
  unfold execVneg
  exact MovesN.mono (floatUn_moves _ _ _ _ _ _ _) (by decide)

theorem execVor_moves (g : Nat) (slot : Slot) (f : VecFields) (s : State) : MovesN 156169208 s (execVor g slot f s) := by
  unfold execVor
  exact MovesN.mono (intBin_moves _ _ _ _ _ _) (by decide)

theorem execVrcp_moves (g : Nat) (slot : Slot) (f : VecFields) (s : State) : MovesN 156169208 s (execVrcp g slot f s) := by
  unfold execVrcp
  exact MovesN.mono (floatUn_moves _ _ _ _ _ _ _) (by decide)

theorem execVred_moves (g : Nat) (slot : Slot) (f : VecFields) (s : State) : MovesN 156169208 s (execVred g slot f s) := by
  unfold execVred
  extract_lets +onlyGivenNames z0; clear_value z0
  extract_lets +onlyGivenNames z1; clear_value z1
  extract_lets +onlyGivenNames z2; clear_value z2
  extract_lets +onlyGivenNames z3; clear_value z3
  exact MovesN.mono (vecExec_moves _ _ _ _ _ _ _) (by decide)

theorem execVrot_moves (g : Nat) (slot : Slot) (f : VecFields) (s : State) : MovesN 156169208 s (execVrot g slot f s) := by
  unfold execVrot
  exact MovesN.mono (vecExec_moves _ _ _ _ _ _ _) (by decide)

theorem execVrsqrt_moves (g : Nat) (slot : Slot) (f : VecFields) (s : State) : MovesN 156169208 s (execVrsqrt g slot f s) := by
  unfold execVrsqrt
  exact MovesN.mono (floatUn_moves _ _ _ _ _ _ _) (by decide)

theorem execVsel_moves (g : Nat) (slot : Slot) (f : VecFields) (s : State) : MovesN 156169208 s (execVsel g slot f s) := by
  unfold execVsel
  exact MovesN.mono (vecExec_moves _ _ _ _ _ _ _) (by decide)

theorem intShift_moves (op : Nat) (fn : Nat → Nat → Nat) (g : Nat) (sl : Slot) (f : VecFields) (s : State) : MovesN 156169208 s (intShift op fn g sl f s) :=
      by
  unfold intShift
  exact MovesN.mono (vecExec_moves _ _ _ _ _ _ _) (by decide)

theorem execVshl_moves (g : Nat) (slot : Slot) (f : VecFields) (s : State) : MovesN 156169208 s (execVshl g slot f s) := by
  unfold execVshl
  exact MovesN.mono (intShift_moves _ _ _ _ _ _) (by decide)

theorem execVshr_moves (g : Nat) (slot : Slot) (f : VecFields) (s : State) : MovesN 156169208 s (execVshr g slot f s) := by
  unfold execVshr
  exact MovesN.mono (intShift_moves _ _ _ _ _ _) (by decide)

theorem execVsub_moves (g : Nat) (slot : Slot) (f : VecFields) (s : State) : MovesN 156169208 s (execVsub g slot f s) := by
  unfold execVsub
  exact MovesN.mono (floatBin_moves _ _ _ _ _ _) (by decide)

theorem execVxor_moves (g : Nat) (slot : Slot) (f : VecFields) (s : State) : MovesN 156169208 s (execVxor g slot f s) := by
  unfold execVxor
  exact MovesN.mono (intBin_moves _ _ _ _ _ _) (by decide)

end Sys2Proof.Laws
end

