-- ==== Sys2Proof/Laws/Gate.lean ====
section
/-! SUPPORT. Laws of the two gates: a host write and a Plovco request that the gate lets through run what stands behind it. -/

namespace Sys2Proof.Safety

open Sys2Proof Sys2Proof.Machine

/-- Where the host may write, a write runs. -/
theorem hostWrite_open {s : State} (h : HostOpen s) (k : Nat) (v : Word) (f : State → State) : hostWrite s k v f = f s := by
  obtain ⟨a, b, c, d⟩ := h
  simp [hostWrite, hostGate, windowClosed, stewardRuns, a, b, c, d]

/-- A write by Steward, or by the host where it may write, runs. -/
theorem writeBy_open {m : Bool} {s : State} (h : m = true ∨ HostOpen s) (k : Nat) (v : Word) (f : State → State) :
    writeBy m s k v f = f s := by
  rcases h with rfl | h
  · rfl
  · unfold writeBy; split
    · rfl
    · exact hostWrite_open h _ _ _

/-- A well-formed request of a session that may ask it is served, and touches the session. -/
theorem plovcoRequest_served {s : State} {r : Request} {cmd : Nat} (h : Asks s r cmd) (formed : List Byte → Bool)
    (hf : formed r.body = true) (f : State → State) :
    plovcoRequest s r cmd formed f = f (sessionTouch s r.session) := by
  obtain ⟨a, b, x, c, d, e⟩ := h
  unfold plovcoRequest
  simp only [a, b, c]
  rcases e with e | e <;> simp [d, e, hf]

end Sys2Proof.Safety
end

