-- ==== Sys2Proof/Laws/Issue.lean ====
section
/-! SUPPORT. Laws of issue: reading a tile or a gang after a write, a change of all tiles of a gang, what a slot collects, and when a bundle
commits. -/

set_option Elab.async false

namespace Sys2Proof.Machine

/-! ### Tiles -/

theorem tileGet_tileSet (s : State) (t : Nat) (x : Tile) (h : mapRising s.tiles = true) : tileGet (tileSet s t x) t = x :=
  mapGet_mapSet_self _ _ _ _ h

theorem tileGet_tileSet_ne (s : State) (t u : Nat) (x : Tile) (h : mapRising s.tiles = true) (hu : u ≠ t) :
    tileGet (tileSet s t x) u = tileGet s u := mapGet_mapSet_ne _ _ _ _ _ h hu

theorem tileSet_rising (s : State) (t : Nat) (x : Tile) (h : mapRising s.tiles = true) : mapRising (tileSet s t x).tiles = true :=
  mapRising_mapSet _ _ _ _ h

theorem tilesMod_rising (s : State) (ts : List Nat) (f : Tile → Tile) (h : mapRising s.tiles = true) :
    mapRising (tilesMod s ts f).tiles = true := by
  unfold tilesMod
  induction ts generalizing s with
  | nil => exact h
  | cons t ts ih => exact ih _ (tileSet_rising _ _ _ h)

/-- A tile outside the list is as before. -/
theorem tilesMod_ne (s : State) (ts : List Nat) (f : Tile → Tile) (h : mapRising s.tiles = true) (u : Nat) (hu : u ∉ ts) :
    tileGet (tilesMod s ts f) u = tileGet s u := by
  unfold tilesMod
  induction ts generalizing s with
  | nil => rfl
  | cons t ts ih =>
    have := ih (tileMod s t f) (tileSet_rising _ _ _ h) (fun hh => hu (by simp [hh]))
    rw [List.foldl_cons, this]
    exact tileGet_tileSet_ne _ _ _ _ h (fun e => hu (by simp [e]))

/-- A tile of the list is changed once. -/
theorem tilesMod_mem (s : State) (ts : List Nat) (f : Tile → Tile) (h : mapRising s.tiles = true) (hn : ts.Nodup) (u : Nat) (hu : u ∈ ts) :
    tileGet (tilesMod s ts f) u = f (tileGet s u) := by
  unfold tilesMod
  induction ts generalizing s with
  | nil => cases hu
  | cons t ts ih =>
    rw [List.foldl_cons]
    obtain ⟨h1, h2⟩ := List.nodup_cons.mp hn
    by_cases hut : u = t
    · subst hut
      have := tilesMod_ne (tileMod s u f) ts f (tileSet_rising _ _ _ h) u h1
      unfold tilesMod at this
      rw [this]; exact tileGet_tileSet _ _ _ h
    · rw [ih (tileMod s t f) (tileSet_rising _ _ _ h) h2 (by simpa [hut] using hu)]
      congr 1; exact tileGet_tileSet_ne _ _ _ _ h hut

/-- Nothing but the tiles changes. -/
theorem tilesMod_only (s : State) (ts : List Nat) (f : Tile → Tile) : { tilesMod s ts f with tiles := s.tiles } = s := by
  unfold tilesMod
  induction ts generalizing s with
  | nil => rfl
  | cons t ts ih =>
    rw [List.foldl_cons]
    have := ih (tileMod s t f)
    have h2 : { ({ List.foldl (fun a t => tileMod a t f) (tileMod s t f) ts with tiles := (tileMod s t f).tiles } : State) with
        tiles := s.tiles } = s := by rw [this]; rfl
    exact h2

theorem tilesMod_frame (s : State) (ts : List Nat) (f : Tile → Tile) : ∃ x, tilesMod s ts f = { s with tiles := x } := by
  unfold tilesMod
  induction ts generalizing s with
  | nil => exact ⟨s.tiles, rfl⟩
  | cons t ts ih =>
    obtain ⟨x, h⟩ := ih (tileMod s t f)
    exact ⟨x, by simp only [List.foldl_cons, h]; rfl⟩

/-- Settling a gang's writes touches only its tiles. -/
theorem settle_frame (s : State) (g : Nat) : ∃ x, settle s g = { s with tiles := x } := tilesMod_frame _ _ _

theorem gangTiles_nodup (s : State) (g : Nat) : (gangTiles s g).Nodup := by
  unfold gangTiles
  split
  · unfold gangTilesOf
    rename_i r _
    apply List.Nodup.map
    · have hc : gangCols r.log2 = 1 ∨ gangCols r.log2 = 2 ∨ gangCols r.log2 = 4 := by
        unfold gangCols; split; simp; split; simp; simp
      intro a b hab
      simp only at hab
      rcases hc with e | e | e <;> rw [e] at hab <;> omega
    · exact List.nodup_range
  · exact List.nodup_nil

/-! ### Gangs -/

theorem gangGet_gangSet (s : State) (g : Nat) (x : Gang) (h : x ≠ {}) : gangGet (gangSet s g x) g = x := mapGet_mapSet_of_ne _ _ _ _ h

theorem gangGet_gangSet_ne (s : State) (g k : Nat) (x : Gang) (h : mapRising s.gangs = true) (hu : k ≠ g) :
    gangGet (gangSet s g x) k = gangGet s k := mapGet_mapSet_ne _ _ _ _ _ h hu

theorem gangSet_gangSet (s : State) (g : Nat) (x y : Gang) (h : x ≠ {}) (h2 : y ≠ {}) :
    gangSet (gangSet s g x) g y = gangSet s g y := by
  simp only [gangSet, mapSet, if_neg h, if_neg h2, mapPut_mapPut]

/-! ### Slots -/

theorem setErase_ne_nil (l : List Nat) (k : Nat) (h : ∃ a ∈ l, a ≠ k) : setErase l k ≠ [] := by
  obtain ⟨a, ha, hk⟩ := h
  intro e
  have : a ∈ setErase l k := by simp [setErase, ha, hk]
  rw [e] at this; cases this

theorem setErase_nil (l : List Nat) (k : Nat) (h : ∀ a ∈ l, a = k) : setErase l k = [] := by
  simp [setErase]; exact h

/-- What a slot collects, tile by tile. -/
theorem slotCollect_eq (slot : Nat) (l : List (Nat × SlotOut)) :
    slotCollect slot l = (l.flatMap (fun o => match o.2 with | .done es => es.map fun e => (o.1, slot, e) | .raise _ _ => []),
      l.filterMap fun o => match o.2 with | .done _ => none | .raise c i => some ⟨slot, o.1, c, i⟩) := by
  induction l with
  | nil => rfl
  | cons a l ih =>
    obtain ⟨i, o⟩ := a
    cases o <;> simp [slotCollect, ih]

theorem slotCollect_map (slot : Nat) (l : List (Nat × Nat)) (out : Nat × Nat → SlotOut) :
    slotCollect slot (l.map fun m => (m.1, out m)) =
      (l.flatMap (fun m => match out m with | .done es => es.map fun e => (m.1, slot, e) | .raise _ _ => []),
        l.filterMap fun m => match out m with | .done _ => none | .raise c i => some ⟨slot, m.1, c, i⟩) := by
  rw [slotCollect_eq]
  simp only [List.flatMap_map, List.filterMap_map]
  rfl

/-- A bundle with slots left does not commit yet. -/
theorem commitIfDone_later (s : State) (g : Nat) (x : Gang) (h : x.left ≠ []) : commitIfDone (gangSet s g x) g = gangSet s g x := by
  have hx : x ≠ {} := by rintro rfl; exact h rfl
  simp only [commitIfDone, gangGet_gangSet s g x hx]
  rw [if_neg]; rintro ⟨_, h2⟩; exact h (List.isEmpty_iff.mp h2)

/-- A bundle whose last slot has run commits. -/
theorem commitIfDone_now (s : State) (g : Nat) (x : Gang) (h : x.left = []) (ho : x.opened = true) :
    commitIfDone (gangSet s g x) g = commitBundle (gangSet s g x) g := by
  have hx : x ≠ {} := by rintro rfl; cases ho
  simp only [commitIfDone, gangGet_gangSet s g x hx]
  rw [if_pos]; exact ⟨ho, by simp [h]⟩

/-- Two runs of a slot with the same decoding fault and the same effect on every tile are one run. -/
theorem slotRun_congr {s : State} {g : Nat} {sl : Slot} {d1 d2 : Option Nat} {gp : BitVec 4} {gn : Bool}
    {f1 f2 : Nat → Nat → Tile → SlotOut} (hd : d1 = d2) (hf : ∀ i t x, f1 i t x = f2 i t x) :
    slotRun s g sl d1 gp gn f1 = slotRun s g sl d2 gp gn f2 := by
  have : f1 = f2 := by funext i t x; exact hf i t x
  rw [hd, this]

end Sys2Proof.Machine
end

