-- ==== Sys2Proof/Laws/Memory.lean ====
section
/-! SUPPORT. Package memory: a read after a write, and that each operation on it keeps its canonical form. -/

set_option Elab.async false

namespace Sys2Proof.Machine

open Sys2Proof.Safety Sys2Proof.Laws

/-- Memory after reset has the canonical form. -/
theorem memory_reset_wf : Memory.wf State.reset.mem = true := rfl

/-- Putting bytes keeps the form, on memory alone. -/
theorem memPutBytes_wf (s : State) (off : Nat) (bs : List Byte) (h : Memory.wf s.mem = true) : Memory.wf (memPutBytes s off bs).mem = true :=
  mapWf_mapSetList 0 bs s.mem off h

/-- Storing a line, a part of a line, and any bytes, and clearing all of memory, keep it. -/
theorem lineStore_wf (s : State) (l : Nat) (bs : List Byte) (p : Bool) (h : Canonical s) : Memory.wf (lineStore s l bs p).mem = true :=
  ((lineStore_moves s l bs p).canon h).mem

theorem linePart_wf (s : State) (l o : Nat) (bs : List Byte) (p : Bool) (h : Canonical s) : Memory.wf (linePart s l o bs p).mem = true :=
  ((linePart_moves s l o bs p).canon h).mem

theorem memStore_wf (s : State) (off : Nat) (bs : List Byte) (poisoned : Nat → Bool) (h : Canonical s) :
    Memory.wf (memStore s off bs poisoned).mem = true :=
  ((memStore_moves s off bs poisoned).canon h).mem

theorem memClear_wf (s : State) (h : Canonical s) : Memory.wf (memClear s).mem = true := ((memClear_moves s).canon h).mem

/-- A byte after bytes are put: the one put there, or the one that stood there. -/
theorem memGet_memPutBytes (s : State) (off a : Nat) (bs : List Byte) (h : mapRising s.mem = true) :
    mapGet 0 (memPutBytes s off bs).mem a = if h : off ≤ a ∧ a < off + bs.length then bs[a - off] else mapGet 0 s.mem a :=
  mapGet_mapSetList (0 : Byte) bs s.mem off a h

end Sys2Proof.Machine
end

