-- ==== Sys2Proof/Laws/ResetAsk.lean ====
section
/-! SUPPORT. A request for a reset level below the power cycle only asks: what it may change is narrower than what any level may. -/

namespace Sys2Proof.Laws

open Sys2Proof Sys2Proof.Machine Sys2Proof.Safety

theorem rcvValue_level {level : Nat} (h : level < 16) (stack : Bool) (index : Nat) : bitsOf (rcvValue level stack index) 63 60 = level := by
  unfold bitsOf rcvValue bit
  rw [Nat.shiftRight_eq_div_pow]
  split <;> omega

theorem rcvRequest_narrow (s : State) {level : Nat} (hl : level ≠ 5) (stack : Bool) (index : Nat) :
    Moves 432571192 s (rcvRequest s level stack index) := by
  unfold rcvRequest
  refine Moves.ite (fun _ => Moves.call (bring_moves _ _) (by decide) Moves.refl) (fun _ => ?_)
  refine Moves.ite (fun _ => Moves.call (rcvResult_moves _ _) (by decide) Moves.refl) (fun _ => ?_)
  refine Moves.ite (fun _ => Moves.call (rcvResult_moves _ _) (by decide) Moves.refl) (fun _ => ?_)
  rw [if_neg hl]
  exact Moves.call (raiseTrigger_moves _ _ _) (by decide) (Moves.call (rcvResult_moves _ _) (by decide) Moves.refl)

theorem rcvCmd_narrow (s : State) (v : Nat) (hl : bitsOf v 63 60 ≠ 5) : Moves 432571192 s (rcvCmd s v) := by
  unfold rcvCmd
  exact Moves.ite (fun _ => Moves.call (rcvRequest_narrow _ hl _ _) (by decide) Moves.refl) (fun _ => Moves.refl)

theorem resetAsk_narrow (o : Origin) {level : Nat} (hl : level < 5) (stack : Bool) (index : Nat) (s : State) :
    Moves 432571192 s (resetAsk o level stack index s) := by
  have hv : bitsOf (rcvValue level stack index) 63 60 ≠ 5 := by rw [rcvValue_level (by omega)]; omega
  unfold resetAsk
  split
  · exact Moves.trans Moves.refl (hostWrite_moves (by decide) fun a => rcvCmd_narrow a _ hv)
  · refine Moves.trans Moves.refl (plovcoRequest_moves (by decide) fun a => ?_)
    exact Moves.call (reply_moves _ _ _ _ _) (by decide)
      (Moves.ite (fun _ => rcvCmd_narrow a _ hv) (fun _ => Moves.call (rcvResult_moves _ _) (by decide) Moves.refl))

end Sys2Proof.Laws
end

