-- ==== Sys2Proof/Laws/State.lean ====
section
/-! SUPPORT. One law per field of State for each operation that writes one field: what it writes, and that every other field stands. -/

set_option Elab.async false

namespace Sys2Proof.Machine

/-! ### regSet: write of a register -/

@[simp] theorem regSet_pending (s : State) (k : Nat) (v : Word) : (regSet s k v).pending = s.pending := rfl
@[simp] theorem regSet_clock (s : State) (k : Nat) (v : Word) : (regSet s k v).clock = s.clock := rfl
@[simp] theorem regSet_freeCtr (s : State) (k : Nat) (v : Word) : (regSet s k v).freeCtr = s.freeCtr := rfl
@[simp] theorem regSet_outbox (s : State) (k : Nat) (v : Word) : (regSet s k v).outbox = s.outbox := rfl
@[simp] theorem regSet_regs (s : State) (k : Nat) (v : Word) : (regSet s k v).regs = regsPut s.regs k v := rfl
@[simp] theorem regSet_mem (s : State) (k : Nat) (v : Word) : (regSet s k v).mem = s.mem := rfl
@[simp] theorem regSet_memPoison (s : State) (k : Nat) (v : Word) : (regSet s k v).memPoison = s.memPoison := rfl
@[simp] theorem regSet_lineErr (s : State) (k : Nat) (v : Word) : (regSet s k v).lineErr = s.lineErr := rfl
@[simp] theorem regSet_book (s : State) (k : Nat) (v : Word) : (regSet s k v).book = s.book := rfl
@[simp] theorem regSet_host (s : State) (k : Nat) (v : Word) : (regSet s k v).host = s.host := rfl
@[simp] theorem regSet_plan (s : State) (k : Nat) (v : Word) : (regSet s k v).plan = s.plan := rfl
@[simp] theorem regSet_drone (s : State) (k : Nat) (v : Word) : (regSet s k v).drone = s.drone := rfl
@[simp] theorem regSet_tiles (s : State) (k : Nat) (v : Word) : (regSet s k v).tiles = s.tiles := rfl
@[simp] theorem regSet_gangs (s : State) (k : Nat) (v : Word) : (regSet s k v).gangs = s.gangs := rfl
@[simp] theorem regSet_chans (s : State) (k : Nat) (v : Word) : (regSet s k v).chans = s.chans := rfl
@[simp] theorem regSet_engs (s : State) (k : Nat) (v : Word) : (regSet s k v).engs = s.engs := rfl
@[simp] theorem regSet_scrub (s : State) (k : Nat) (v : Word) : (regSet s k v).scrub = s.scrub := rfl
@[simp] theorem regSet_strum (s : State) (k : Nat) (v : Word) : (regSet s k v).strum = s.strum := rfl
@[simp] theorem regSet_coll (s : State) (k : Nat) (v : Word) : (regSet s k v).coll = s.coll := rfl
@[simp] theorem regSet_rcv (s : State) (k : Nat) (v : Word) : (regSet s k v).rcv = s.rcv := rfl
@[simp] theorem regSet_router (s : State) (k : Nat) (v : Word) : (regSet s k v).router = s.router := rfl
@[simp] theorem regSet_link (s : State) (k : Nat) (v : Word) : (regSet s k v).link = s.link := rfl
@[simp] theorem regSet_fw (s : State) (k : Nat) (v : Word) : (regSet s k v).fw = s.fw := rfl
@[simp] theorem regSet_power (s : State) (k : Nat) (v : Word) : (regSet s k v).power = s.power := rfl
@[simp] theorem regSet_bring (s : State) (k : Nat) (v : Word) : (regSet s k v).bring = s.bring := rfl
@[simp] theorem regSet_flash (s : State) (k : Nat) (v : Word) : (regSet s k v).flash = s.flash := rfl
@[simp] theorem regSet_pins (s : State) (k : Nat) (v : Word) : (regSet s k v).pins = s.pins := rfl
@[simp] theorem regSet_twin (s : State) (k : Nat) (v : Word) : (regSet s k v).twin = s.twin := rfl
@[simp] theorem regSet_mgmt (s : State) (k : Nat) (v : Word) : (regSet s k v).mgmt = s.mgmt := rfl

/-! ### emit: something handed to the outside -/

@[simp] theorem emit_pending (s : State) (e : Emit) : (emit s e).pending = s.pending := rfl
@[simp] theorem emit_clock (s : State) (e : Emit) : (emit s e).clock = s.clock := rfl
@[simp] theorem emit_freeCtr (s : State) (e : Emit) : (emit s e).freeCtr = s.freeCtr := rfl
@[simp] theorem emit_outbox (s : State) (e : Emit) : (emit s e).outbox = s.outbox ++ [e] := rfl
@[simp] theorem emit_regs (s : State) (e : Emit) : (emit s e).regs = s.regs := rfl
@[simp] theorem emit_mem (s : State) (e : Emit) : (emit s e).mem = s.mem := rfl
@[simp] theorem emit_memPoison (s : State) (e : Emit) : (emit s e).memPoison = s.memPoison := rfl
@[simp] theorem emit_lineErr (s : State) (e : Emit) : (emit s e).lineErr = s.lineErr := rfl
@[simp] theorem emit_book (s : State) (e : Emit) : (emit s e).book = s.book := rfl
@[simp] theorem emit_host (s : State) (e : Emit) : (emit s e).host = s.host := rfl
@[simp] theorem emit_plan (s : State) (e : Emit) : (emit s e).plan = s.plan := rfl
@[simp] theorem emit_drone (s : State) (e : Emit) : (emit s e).drone = s.drone := rfl
@[simp] theorem emit_tiles (s : State) (e : Emit) : (emit s e).tiles = s.tiles := rfl
@[simp] theorem emit_gangs (s : State) (e : Emit) : (emit s e).gangs = s.gangs := rfl
@[simp] theorem emit_chans (s : State) (e : Emit) : (emit s e).chans = s.chans := rfl
@[simp] theorem emit_engs (s : State) (e : Emit) : (emit s e).engs = s.engs := rfl
@[simp] theorem emit_scrub (s : State) (e : Emit) : (emit s e).scrub = s.scrub := rfl
@[simp] theorem emit_strum (s : State) (e : Emit) : (emit s e).strum = s.strum := rfl
@[simp] theorem emit_coll (s : State) (e : Emit) : (emit s e).coll = s.coll := rfl
@[simp] theorem emit_rcv (s : State) (e : Emit) : (emit s e).rcv = s.rcv := rfl
@[simp] theorem emit_router (s : State) (e : Emit) : (emit s e).router = s.router := rfl
@[simp] theorem emit_link (s : State) (e : Emit) : (emit s e).link = s.link := rfl
@[simp] theorem emit_fw (s : State) (e : Emit) : (emit s e).fw = s.fw := rfl
@[simp] theorem emit_power (s : State) (e : Emit) : (emit s e).power = s.power := rfl
@[simp] theorem emit_bring (s : State) (e : Emit) : (emit s e).bring = s.bring := rfl
@[simp] theorem emit_flash (s : State) (e : Emit) : (emit s e).flash = s.flash := rfl
@[simp] theorem emit_pins (s : State) (e : Emit) : (emit s e).pins = s.pins := rfl
@[simp] theorem emit_twin (s : State) (e : Emit) : (emit s e).twin = s.twin := rfl
@[simp] theorem emit_mgmt (s : State) (e : Emit) : (emit s e).mgmt = s.mgmt := rfl

/-! ### memPutBytes: write of memory bytes -/

@[simp] theorem memPutBytes_pending (s : State) (off : Nat) (bs : List Byte) : (memPutBytes s off bs).pending = s.pending := rfl
@[simp] theorem memPutBytes_clock (s : State) (off : Nat) (bs : List Byte) : (memPutBytes s off bs).clock = s.clock := rfl
@[simp] theorem memPutBytes_freeCtr (s : State) (off : Nat) (bs : List Byte) : (memPutBytes s off bs).freeCtr = s.freeCtr := rfl
@[simp] theorem memPutBytes_outbox (s : State) (off : Nat) (bs : List Byte) : (memPutBytes s off bs).outbox = s.outbox := rfl
@[simp] theorem memPutBytes_regs (s : State) (off : Nat) (bs : List Byte) : (memPutBytes s off bs).regs = s.regs := rfl
@[simp] theorem memPutBytes_mem (s : State) (off : Nat) (bs : List Byte) : (memPutBytes s off bs).mem = mapSetList 0 s.mem off bs := rfl
@[simp] theorem memPutBytes_memPoison (s : State) (off : Nat) (bs : List Byte) : (memPutBytes s off bs).memPoison = s.memPoison := rfl
@[simp] theorem memPutBytes_lineErr (s : State) (off : Nat) (bs : List Byte) : (memPutBytes s off bs).lineErr = s.lineErr := rfl
@[simp] theorem memPutBytes_book (s : State) (off : Nat) (bs : List Byte) : (memPutBytes s off bs).book = s.book := rfl
@[simp] theorem memPutBytes_host (s : State) (off : Nat) (bs : List Byte) : (memPutBytes s off bs).host = s.host := rfl
@[simp] theorem memPutBytes_plan (s : State) (off : Nat) (bs : List Byte) : (memPutBytes s off bs).plan = s.plan := rfl
@[simp] theorem memPutBytes_drone (s : State) (off : Nat) (bs : List Byte) : (memPutBytes s off bs).drone = s.drone := rfl
@[simp] theorem memPutBytes_tiles (s : State) (off : Nat) (bs : List Byte) : (memPutBytes s off bs).tiles = s.tiles := rfl
@[simp] theorem memPutBytes_gangs (s : State) (off : Nat) (bs : List Byte) : (memPutBytes s off bs).gangs = s.gangs := rfl
@[simp] theorem memPutBytes_chans (s : State) (off : Nat) (bs : List Byte) : (memPutBytes s off bs).chans = s.chans := rfl
@[simp] theorem memPutBytes_engs (s : State) (off : Nat) (bs : List Byte) : (memPutBytes s off bs).engs = s.engs := rfl
@[simp] theorem memPutBytes_scrub (s : State) (off : Nat) (bs : List Byte) : (memPutBytes s off bs).scrub = s.scrub := rfl
@[simp] theorem memPutBytes_strum (s : State) (off : Nat) (bs : List Byte) : (memPutBytes s off bs).strum = s.strum := rfl
@[simp] theorem memPutBytes_coll (s : State) (off : Nat) (bs : List Byte) : (memPutBytes s off bs).coll = s.coll := rfl
@[simp] theorem memPutBytes_rcv (s : State) (off : Nat) (bs : List Byte) : (memPutBytes s off bs).rcv = s.rcv := rfl
@[simp] theorem memPutBytes_router (s : State) (off : Nat) (bs : List Byte) : (memPutBytes s off bs).router = s.router := rfl
@[simp] theorem memPutBytes_link (s : State) (off : Nat) (bs : List Byte) : (memPutBytes s off bs).link = s.link := rfl
@[simp] theorem memPutBytes_fw (s : State) (off : Nat) (bs : List Byte) : (memPutBytes s off bs).fw = s.fw := rfl
@[simp] theorem memPutBytes_power (s : State) (off : Nat) (bs : List Byte) : (memPutBytes s off bs).power = s.power := rfl
@[simp] theorem memPutBytes_bring (s : State) (off : Nat) (bs : List Byte) : (memPutBytes s off bs).bring = s.bring := rfl
@[simp] theorem memPutBytes_flash (s : State) (off : Nat) (bs : List Byte) : (memPutBytes s off bs).flash = s.flash := rfl
@[simp] theorem memPutBytes_pins (s : State) (off : Nat) (bs : List Byte) : (memPutBytes s off bs).pins = s.pins := rfl
@[simp] theorem memPutBytes_twin (s : State) (off : Nat) (bs : List Byte) : (memPutBytes s off bs).twin = s.twin := rfl
@[simp] theorem memPutBytes_mgmt (s : State) (off : Nat) (bs : List Byte) : (memPutBytes s off bs).mgmt = s.mgmt := rfl

/-! ### setLinePoison: a line's poison mark -/

@[simp] theorem setLinePoison_pending (s : State) (l : Nat) (p : Bool) : (setLinePoison s l p).pending = s.pending := rfl
@[simp] theorem setLinePoison_clock (s : State) (l : Nat) (p : Bool) : (setLinePoison s l p).clock = s.clock := rfl
@[simp] theorem setLinePoison_freeCtr (s : State) (l : Nat) (p : Bool) : (setLinePoison s l p).freeCtr = s.freeCtr := rfl
@[simp] theorem setLinePoison_outbox (s : State) (l : Nat) (p : Bool) : (setLinePoison s l p).outbox = s.outbox := rfl
@[simp] theorem setLinePoison_regs (s : State) (l : Nat) (p : Bool) : (setLinePoison s l p).regs = s.regs := rfl
@[simp] theorem setLinePoison_mem (s : State) (l : Nat) (p : Bool) : (setLinePoison s l p).mem = s.mem := rfl
@[simp] theorem setLinePoison_memPoison (s : State) (l : Nat) (p : Bool) : (setLinePoison s l p).memPoison = if p then setInsert s.memPoison l else setErase s.memPoison l := rfl
@[simp] theorem setLinePoison_lineErr (s : State) (l : Nat) (p : Bool) : (setLinePoison s l p).lineErr = s.lineErr := rfl
@[simp] theorem setLinePoison_book (s : State) (l : Nat) (p : Bool) : (setLinePoison s l p).book = s.book := rfl
@[simp] theorem setLinePoison_host (s : State) (l : Nat) (p : Bool) : (setLinePoison s l p).host = s.host := rfl
@[simp] theorem setLinePoison_plan (s : State) (l : Nat) (p : Bool) : (setLinePoison s l p).plan = s.plan := rfl
@[simp] theorem setLinePoison_drone (s : State) (l : Nat) (p : Bool) : (setLinePoison s l p).drone = s.drone := rfl
@[simp] theorem setLinePoison_tiles (s : State) (l : Nat) (p : Bool) : (setLinePoison s l p).tiles = s.tiles := rfl
@[simp] theorem setLinePoison_gangs (s : State) (l : Nat) (p : Bool) : (setLinePoison s l p).gangs = s.gangs := rfl
@[simp] theorem setLinePoison_chans (s : State) (l : Nat) (p : Bool) : (setLinePoison s l p).chans = s.chans := rfl
@[simp] theorem setLinePoison_engs (s : State) (l : Nat) (p : Bool) : (setLinePoison s l p).engs = s.engs := rfl
@[simp] theorem setLinePoison_scrub (s : State) (l : Nat) (p : Bool) : (setLinePoison s l p).scrub = s.scrub := rfl
@[simp] theorem setLinePoison_strum (s : State) (l : Nat) (p : Bool) : (setLinePoison s l p).strum = s.strum := rfl
@[simp] theorem setLinePoison_coll (s : State) (l : Nat) (p : Bool) : (setLinePoison s l p).coll = s.coll := rfl
@[simp] theorem setLinePoison_rcv (s : State) (l : Nat) (p : Bool) : (setLinePoison s l p).rcv = s.rcv := rfl
@[simp] theorem setLinePoison_router (s : State) (l : Nat) (p : Bool) : (setLinePoison s l p).router = s.router := rfl
@[simp] theorem setLinePoison_link (s : State) (l : Nat) (p : Bool) : (setLinePoison s l p).link = s.link := rfl
@[simp] theorem setLinePoison_fw (s : State) (l : Nat) (p : Bool) : (setLinePoison s l p).fw = s.fw := rfl
@[simp] theorem setLinePoison_power (s : State) (l : Nat) (p : Bool) : (setLinePoison s l p).power = s.power := rfl
@[simp] theorem setLinePoison_bring (s : State) (l : Nat) (p : Bool) : (setLinePoison s l p).bring = s.bring := rfl
@[simp] theorem setLinePoison_flash (s : State) (l : Nat) (p : Bool) : (setLinePoison s l p).flash = s.flash := rfl
@[simp] theorem setLinePoison_pins (s : State) (l : Nat) (p : Bool) : (setLinePoison s l p).pins = s.pins := rfl
@[simp] theorem setLinePoison_twin (s : State) (l : Nat) (p : Bool) : (setLinePoison s l p).twin = s.twin := rfl
@[simp] theorem setLinePoison_mgmt (s : State) (l : Nat) (p : Bool) : (setLinePoison s l p).mgmt = s.mgmt := rfl

/-! ### tileSet: write of a tile -/

@[simp] theorem tileSet_pending (s : State) (t : Nat) (x : Tile) : (tileSet s t x).pending = s.pending := rfl
@[simp] theorem tileSet_clock (s : State) (t : Nat) (x : Tile) : (tileSet s t x).clock = s.clock := rfl
@[simp] theorem tileSet_freeCtr (s : State) (t : Nat) (x : Tile) : (tileSet s t x).freeCtr = s.freeCtr := rfl
@[simp] theorem tileSet_outbox (s : State) (t : Nat) (x : Tile) : (tileSet s t x).outbox = s.outbox := rfl
@[simp] theorem tileSet_regs (s : State) (t : Nat) (x : Tile) : (tileSet s t x).regs = s.regs := rfl
@[simp] theorem tileSet_mem (s : State) (t : Nat) (x : Tile) : (tileSet s t x).mem = s.mem := rfl
@[simp] theorem tileSet_memPoison (s : State) (t : Nat) (x : Tile) : (tileSet s t x).memPoison = s.memPoison := rfl
@[simp] theorem tileSet_lineErr (s : State) (t : Nat) (x : Tile) : (tileSet s t x).lineErr = s.lineErr := rfl
@[simp] theorem tileSet_book (s : State) (t : Nat) (x : Tile) : (tileSet s t x).book = s.book := rfl
@[simp] theorem tileSet_host (s : State) (t : Nat) (x : Tile) : (tileSet s t x).host = s.host := rfl
@[simp] theorem tileSet_plan (s : State) (t : Nat) (x : Tile) : (tileSet s t x).plan = s.plan := rfl
@[simp] theorem tileSet_drone (s : State) (t : Nat) (x : Tile) : (tileSet s t x).drone = s.drone := rfl
@[simp] theorem tileSet_tiles (s : State) (t : Nat) (x : Tile) : (tileSet s t x).tiles = mapSet {} s.tiles t x := rfl
@[simp] theorem tileSet_gangs (s : State) (t : Nat) (x : Tile) : (tileSet s t x).gangs = s.gangs := rfl
@[simp] theorem tileSet_chans (s : State) (t : Nat) (x : Tile) : (tileSet s t x).chans = s.chans := rfl
@[simp] theorem tileSet_engs (s : State) (t : Nat) (x : Tile) : (tileSet s t x).engs = s.engs := rfl
@[simp] theorem tileSet_scrub (s : State) (t : Nat) (x : Tile) : (tileSet s t x).scrub = s.scrub := rfl
@[simp] theorem tileSet_strum (s : State) (t : Nat) (x : Tile) : (tileSet s t x).strum = s.strum := rfl
@[simp] theorem tileSet_coll (s : State) (t : Nat) (x : Tile) : (tileSet s t x).coll = s.coll := rfl
@[simp] theorem tileSet_rcv (s : State) (t : Nat) (x : Tile) : (tileSet s t x).rcv = s.rcv := rfl
@[simp] theorem tileSet_router (s : State) (t : Nat) (x : Tile) : (tileSet s t x).router = s.router := rfl
@[simp] theorem tileSet_link (s : State) (t : Nat) (x : Tile) : (tileSet s t x).link = s.link := rfl
@[simp] theorem tileSet_fw (s : State) (t : Nat) (x : Tile) : (tileSet s t x).fw = s.fw := rfl
@[simp] theorem tileSet_power (s : State) (t : Nat) (x : Tile) : (tileSet s t x).power = s.power := rfl
@[simp] theorem tileSet_bring (s : State) (t : Nat) (x : Tile) : (tileSet s t x).bring = s.bring := rfl
@[simp] theorem tileSet_flash (s : State) (t : Nat) (x : Tile) : (tileSet s t x).flash = s.flash := rfl
@[simp] theorem tileSet_pins (s : State) (t : Nat) (x : Tile) : (tileSet s t x).pins = s.pins := rfl
@[simp] theorem tileSet_twin (s : State) (t : Nat) (x : Tile) : (tileSet s t x).twin = s.twin := rfl
@[simp] theorem tileSet_mgmt (s : State) (t : Nat) (x : Tile) : (tileSet s t x).mgmt = s.mgmt := rfl

/-! ### gangSet: write of a gang -/

@[simp] theorem gangSet_pending (s : State) (g : Nat) (x : Gang) : (gangSet s g x).pending = s.pending := rfl
@[simp] theorem gangSet_clock (s : State) (g : Nat) (x : Gang) : (gangSet s g x).clock = s.clock := rfl
@[simp] theorem gangSet_freeCtr (s : State) (g : Nat) (x : Gang) : (gangSet s g x).freeCtr = s.freeCtr := rfl
@[simp] theorem gangSet_outbox (s : State) (g : Nat) (x : Gang) : (gangSet s g x).outbox = s.outbox := rfl
@[simp] theorem gangSet_regs (s : State) (g : Nat) (x : Gang) : (gangSet s g x).regs = s.regs := rfl
@[simp] theorem gangSet_mem (s : State) (g : Nat) (x : Gang) : (gangSet s g x).mem = s.mem := rfl
@[simp] theorem gangSet_memPoison (s : State) (g : Nat) (x : Gang) : (gangSet s g x).memPoison = s.memPoison := rfl
@[simp] theorem gangSet_lineErr (s : State) (g : Nat) (x : Gang) : (gangSet s g x).lineErr = s.lineErr := rfl
@[simp] theorem gangSet_book (s : State) (g : Nat) (x : Gang) : (gangSet s g x).book = s.book := rfl
@[simp] theorem gangSet_host (s : State) (g : Nat) (x : Gang) : (gangSet s g x).host = s.host := rfl
@[simp] theorem gangSet_plan (s : State) (g : Nat) (x : Gang) : (gangSet s g x).plan = s.plan := rfl
@[simp] theorem gangSet_drone (s : State) (g : Nat) (x : Gang) : (gangSet s g x).drone = s.drone := rfl
@[simp] theorem gangSet_tiles (s : State) (g : Nat) (x : Gang) : (gangSet s g x).tiles = s.tiles := rfl
@[simp] theorem gangSet_gangs (s : State) (g : Nat) (x : Gang) : (gangSet s g x).gangs = mapSet {} s.gangs g x := rfl
@[simp] theorem gangSet_chans (s : State) (g : Nat) (x : Gang) : (gangSet s g x).chans = s.chans := rfl
@[simp] theorem gangSet_engs (s : State) (g : Nat) (x : Gang) : (gangSet s g x).engs = s.engs := rfl
@[simp] theorem gangSet_scrub (s : State) (g : Nat) (x : Gang) : (gangSet s g x).scrub = s.scrub := rfl
@[simp] theorem gangSet_strum (s : State) (g : Nat) (x : Gang) : (gangSet s g x).strum = s.strum := rfl
@[simp] theorem gangSet_coll (s : State) (g : Nat) (x : Gang) : (gangSet s g x).coll = s.coll := rfl
@[simp] theorem gangSet_rcv (s : State) (g : Nat) (x : Gang) : (gangSet s g x).rcv = s.rcv := rfl
@[simp] theorem gangSet_router (s : State) (g : Nat) (x : Gang) : (gangSet s g x).router = s.router := rfl
@[simp] theorem gangSet_link (s : State) (g : Nat) (x : Gang) : (gangSet s g x).link = s.link := rfl
@[simp] theorem gangSet_fw (s : State) (g : Nat) (x : Gang) : (gangSet s g x).fw = s.fw := rfl
@[simp] theorem gangSet_power (s : State) (g : Nat) (x : Gang) : (gangSet s g x).power = s.power := rfl
@[simp] theorem gangSet_bring (s : State) (g : Nat) (x : Gang) : (gangSet s g x).bring = s.bring := rfl
@[simp] theorem gangSet_flash (s : State) (g : Nat) (x : Gang) : (gangSet s g x).flash = s.flash := rfl
@[simp] theorem gangSet_pins (s : State) (g : Nat) (x : Gang) : (gangSet s g x).pins = s.pins := rfl
@[simp] theorem gangSet_twin (s : State) (g : Nat) (x : Gang) : (gangSet s g x).twin = s.twin := rfl
@[simp] theorem gangSet_mgmt (s : State) (g : Nat) (x : Gang) : (gangSet s g x).mgmt = s.mgmt := rfl

/-! ### chanSet: write of a channel -/

@[simp] theorem chanSet_pending (s : State) (i : Nat) (c : Chan) : (chanSet s i c).pending = s.pending := rfl
@[simp] theorem chanSet_clock (s : State) (i : Nat) (c : Chan) : (chanSet s i c).clock = s.clock := rfl
@[simp] theorem chanSet_freeCtr (s : State) (i : Nat) (c : Chan) : (chanSet s i c).freeCtr = s.freeCtr := rfl
@[simp] theorem chanSet_outbox (s : State) (i : Nat) (c : Chan) : (chanSet s i c).outbox = s.outbox := rfl
@[simp] theorem chanSet_regs (s : State) (i : Nat) (c : Chan) : (chanSet s i c).regs = s.regs := rfl
@[simp] theorem chanSet_mem (s : State) (i : Nat) (c : Chan) : (chanSet s i c).mem = s.mem := rfl
@[simp] theorem chanSet_memPoison (s : State) (i : Nat) (c : Chan) : (chanSet s i c).memPoison = s.memPoison := rfl
@[simp] theorem chanSet_lineErr (s : State) (i : Nat) (c : Chan) : (chanSet s i c).lineErr = s.lineErr := rfl
@[simp] theorem chanSet_book (s : State) (i : Nat) (c : Chan) : (chanSet s i c).book = s.book := rfl
@[simp] theorem chanSet_host (s : State) (i : Nat) (c : Chan) : (chanSet s i c).host = s.host := rfl
@[simp] theorem chanSet_plan (s : State) (i : Nat) (c : Chan) : (chanSet s i c).plan = s.plan := rfl
@[simp] theorem chanSet_drone (s : State) (i : Nat) (c : Chan) : (chanSet s i c).drone = s.drone := rfl
@[simp] theorem chanSet_tiles (s : State) (i : Nat) (c : Chan) : (chanSet s i c).tiles = s.tiles := rfl
@[simp] theorem chanSet_gangs (s : State) (i : Nat) (c : Chan) : (chanSet s i c).gangs = s.gangs := rfl
@[simp] theorem chanSet_chans (s : State) (i : Nat) (c : Chan) : (chanSet s i c).chans = mapSet {} s.chans i c := rfl
@[simp] theorem chanSet_engs (s : State) (i : Nat) (c : Chan) : (chanSet s i c).engs = s.engs := rfl
@[simp] theorem chanSet_scrub (s : State) (i : Nat) (c : Chan) : (chanSet s i c).scrub = s.scrub := rfl
@[simp] theorem chanSet_strum (s : State) (i : Nat) (c : Chan) : (chanSet s i c).strum = s.strum := rfl
@[simp] theorem chanSet_coll (s : State) (i : Nat) (c : Chan) : (chanSet s i c).coll = s.coll := rfl
@[simp] theorem chanSet_rcv (s : State) (i : Nat) (c : Chan) : (chanSet s i c).rcv = s.rcv := rfl
@[simp] theorem chanSet_router (s : State) (i : Nat) (c : Chan) : (chanSet s i c).router = s.router := rfl
@[simp] theorem chanSet_link (s : State) (i : Nat) (c : Chan) : (chanSet s i c).link = s.link := rfl
@[simp] theorem chanSet_fw (s : State) (i : Nat) (c : Chan) : (chanSet s i c).fw = s.fw := rfl
@[simp] theorem chanSet_power (s : State) (i : Nat) (c : Chan) : (chanSet s i c).power = s.power := rfl
@[simp] theorem chanSet_bring (s : State) (i : Nat) (c : Chan) : (chanSet s i c).bring = s.bring := rfl
@[simp] theorem chanSet_flash (s : State) (i : Nat) (c : Chan) : (chanSet s i c).flash = s.flash := rfl
@[simp] theorem chanSet_pins (s : State) (i : Nat) (c : Chan) : (chanSet s i c).pins = s.pins := rfl
@[simp] theorem chanSet_twin (s : State) (i : Nat) (c : Chan) : (chanSet s i c).twin = s.twin := rfl
@[simp] theorem chanSet_mgmt (s : State) (i : Nat) (c : Chan) : (chanSet s i c).mgmt = s.mgmt := rfl

/-! ### engSet: write of an engine -/

@[simp] theorem engSet_pending (s : State) (e : Nat) (x : Engine) : (engSet s e x).pending = s.pending := rfl
@[simp] theorem engSet_clock (s : State) (e : Nat) (x : Engine) : (engSet s e x).clock = s.clock := rfl
@[simp] theorem engSet_freeCtr (s : State) (e : Nat) (x : Engine) : (engSet s e x).freeCtr = s.freeCtr := rfl
@[simp] theorem engSet_outbox (s : State) (e : Nat) (x : Engine) : (engSet s e x).outbox = s.outbox := rfl
@[simp] theorem engSet_regs (s : State) (e : Nat) (x : Engine) : (engSet s e x).regs = s.regs := rfl
@[simp] theorem engSet_mem (s : State) (e : Nat) (x : Engine) : (engSet s e x).mem = s.mem := rfl
@[simp] theorem engSet_memPoison (s : State) (e : Nat) (x : Engine) : (engSet s e x).memPoison = s.memPoison := rfl
@[simp] theorem engSet_lineErr (s : State) (e : Nat) (x : Engine) : (engSet s e x).lineErr = s.lineErr := rfl
@[simp] theorem engSet_book (s : State) (e : Nat) (x : Engine) : (engSet s e x).book = s.book := rfl
@[simp] theorem engSet_host (s : State) (e : Nat) (x : Engine) : (engSet s e x).host = s.host := rfl
@[simp] theorem engSet_plan (s : State) (e : Nat) (x : Engine) : (engSet s e x).plan = s.plan := rfl
@[simp] theorem engSet_drone (s : State) (e : Nat) (x : Engine) : (engSet s e x).drone = s.drone := rfl
@[simp] theorem engSet_tiles (s : State) (e : Nat) (x : Engine) : (engSet s e x).tiles = s.tiles := rfl
@[simp] theorem engSet_gangs (s : State) (e : Nat) (x : Engine) : (engSet s e x).gangs = s.gangs := rfl
@[simp] theorem engSet_chans (s : State) (e : Nat) (x : Engine) : (engSet s e x).chans = s.chans := rfl
@[simp] theorem engSet_engs (s : State) (e : Nat) (x : Engine) : (engSet s e x).engs = mapSet {} s.engs e x := rfl
@[simp] theorem engSet_scrub (s : State) (e : Nat) (x : Engine) : (engSet s e x).scrub = s.scrub := rfl
@[simp] theorem engSet_strum (s : State) (e : Nat) (x : Engine) : (engSet s e x).strum = s.strum := rfl
@[simp] theorem engSet_coll (s : State) (e : Nat) (x : Engine) : (engSet s e x).coll = s.coll := rfl
@[simp] theorem engSet_rcv (s : State) (e : Nat) (x : Engine) : (engSet s e x).rcv = s.rcv := rfl
@[simp] theorem engSet_router (s : State) (e : Nat) (x : Engine) : (engSet s e x).router = s.router := rfl
@[simp] theorem engSet_link (s : State) (e : Nat) (x : Engine) : (engSet s e x).link = s.link := rfl
@[simp] theorem engSet_fw (s : State) (e : Nat) (x : Engine) : (engSet s e x).fw = s.fw := rfl
@[simp] theorem engSet_power (s : State) (e : Nat) (x : Engine) : (engSet s e x).power = s.power := rfl
@[simp] theorem engSet_bring (s : State) (e : Nat) (x : Engine) : (engSet s e x).bring = s.bring := rfl
@[simp] theorem engSet_flash (s : State) (e : Nat) (x : Engine) : (engSet s e x).flash = s.flash := rfl
@[simp] theorem engSet_pins (s : State) (e : Nat) (x : Engine) : (engSet s e x).pins = s.pins := rfl
@[simp] theorem engSet_twin (s : State) (e : Nat) (x : Engine) : (engSet s e x).twin = s.twin := rfl
@[simp] theorem engSet_mgmt (s : State) (e : Nat) (x : Engine) : (engSet s e x).mgmt = s.mgmt := rfl

/-! ### groupSet: write of a STRUM group -/

@[simp] theorem groupSet_pending (s : State) (g : Nat) (x : StrumGroup) : (groupSet s g x).pending = s.pending := rfl
@[simp] theorem groupSet_clock (s : State) (g : Nat) (x : StrumGroup) : (groupSet s g x).clock = s.clock := rfl
@[simp] theorem groupSet_freeCtr (s : State) (g : Nat) (x : StrumGroup) : (groupSet s g x).freeCtr = s.freeCtr := rfl
@[simp] theorem groupSet_outbox (s : State) (g : Nat) (x : StrumGroup) : (groupSet s g x).outbox = s.outbox := rfl
@[simp] theorem groupSet_regs (s : State) (g : Nat) (x : StrumGroup) : (groupSet s g x).regs = s.regs := rfl
@[simp] theorem groupSet_mem (s : State) (g : Nat) (x : StrumGroup) : (groupSet s g x).mem = s.mem := rfl
@[simp] theorem groupSet_memPoison (s : State) (g : Nat) (x : StrumGroup) : (groupSet s g x).memPoison = s.memPoison := rfl
@[simp] theorem groupSet_lineErr (s : State) (g : Nat) (x : StrumGroup) : (groupSet s g x).lineErr = s.lineErr := rfl
@[simp] theorem groupSet_book (s : State) (g : Nat) (x : StrumGroup) : (groupSet s g x).book = s.book := rfl
@[simp] theorem groupSet_host (s : State) (g : Nat) (x : StrumGroup) : (groupSet s g x).host = s.host := rfl
@[simp] theorem groupSet_plan (s : State) (g : Nat) (x : StrumGroup) : (groupSet s g x).plan = s.plan := rfl
@[simp] theorem groupSet_drone (s : State) (g : Nat) (x : StrumGroup) : (groupSet s g x).drone = s.drone := rfl
@[simp] theorem groupSet_tiles (s : State) (g : Nat) (x : StrumGroup) : (groupSet s g x).tiles = s.tiles := rfl
@[simp] theorem groupSet_gangs (s : State) (g : Nat) (x : StrumGroup) : (groupSet s g x).gangs = s.gangs := rfl
@[simp] theorem groupSet_chans (s : State) (g : Nat) (x : StrumGroup) : (groupSet s g x).chans = s.chans := rfl
@[simp] theorem groupSet_engs (s : State) (g : Nat) (x : StrumGroup) : (groupSet s g x).engs = s.engs := rfl
@[simp] theorem groupSet_scrub (s : State) (g : Nat) (x : StrumGroup) : (groupSet s g x).scrub = s.scrub := rfl
@[simp] theorem groupSet_strum (s : State) (g : Nat) (x : StrumGroup) : (groupSet s g x).strum = { s.strum with groups := mapSet {} s.strum.groups g x } := rfl
@[simp] theorem groupSet_coll (s : State) (g : Nat) (x : StrumGroup) : (groupSet s g x).coll = s.coll := rfl
@[simp] theorem groupSet_rcv (s : State) (g : Nat) (x : StrumGroup) : (groupSet s g x).rcv = s.rcv := rfl
@[simp] theorem groupSet_router (s : State) (g : Nat) (x : StrumGroup) : (groupSet s g x).router = s.router := rfl
@[simp] theorem groupSet_link (s : State) (g : Nat) (x : StrumGroup) : (groupSet s g x).link = s.link := rfl
@[simp] theorem groupSet_fw (s : State) (g : Nat) (x : StrumGroup) : (groupSet s g x).fw = s.fw := rfl
@[simp] theorem groupSet_power (s : State) (g : Nat) (x : StrumGroup) : (groupSet s g x).power = s.power := rfl
@[simp] theorem groupSet_bring (s : State) (g : Nat) (x : StrumGroup) : (groupSet s g x).bring = s.bring := rfl
@[simp] theorem groupSet_flash (s : State) (g : Nat) (x : StrumGroup) : (groupSet s g x).flash = s.flash := rfl
@[simp] theorem groupSet_pins (s : State) (g : Nat) (x : StrumGroup) : (groupSet s g x).pins = s.pins := rfl
@[simp] theorem groupSet_twin (s : State) (g : Nat) (x : StrumGroup) : (groupSet s g x).twin = s.twin := rfl
@[simp] theorem groupSet_mgmt (s : State) (g : Nat) (x : StrumGroup) : (groupSet s g x).mgmt = s.mgmt := rfl

/-! ### planSet: write of a context's plan -/

@[simp] theorem planSet_pending (s : State) (c : Nat) (x : CtxPlan) : (planSet s c x).pending = s.pending := rfl
@[simp] theorem planSet_clock (s : State) (c : Nat) (x : CtxPlan) : (planSet s c x).clock = s.clock := rfl
@[simp] theorem planSet_freeCtr (s : State) (c : Nat) (x : CtxPlan) : (planSet s c x).freeCtr = s.freeCtr := rfl
@[simp] theorem planSet_outbox (s : State) (c : Nat) (x : CtxPlan) : (planSet s c x).outbox = s.outbox := rfl
@[simp] theorem planSet_regs (s : State) (c : Nat) (x : CtxPlan) : (planSet s c x).regs = s.regs := rfl
@[simp] theorem planSet_mem (s : State) (c : Nat) (x : CtxPlan) : (planSet s c x).mem = s.mem := rfl
@[simp] theorem planSet_memPoison (s : State) (c : Nat) (x : CtxPlan) : (planSet s c x).memPoison = s.memPoison := rfl
@[simp] theorem planSet_lineErr (s : State) (c : Nat) (x : CtxPlan) : (planSet s c x).lineErr = s.lineErr := rfl
@[simp] theorem planSet_book (s : State) (c : Nat) (x : CtxPlan) : (planSet s c x).book = s.book := rfl
@[simp] theorem planSet_host (s : State) (c : Nat) (x : CtxPlan) : (planSet s c x).host = s.host := rfl
@[simp] theorem planSet_plan (s : State) (c : Nat) (x : CtxPlan) : (planSet s c x).plan = { s.plan with ctxs := mapSet {} s.plan.ctxs c x } := rfl
@[simp] theorem planSet_drone (s : State) (c : Nat) (x : CtxPlan) : (planSet s c x).drone = s.drone := rfl
@[simp] theorem planSet_tiles (s : State) (c : Nat) (x : CtxPlan) : (planSet s c x).tiles = s.tiles := rfl
@[simp] theorem planSet_gangs (s : State) (c : Nat) (x : CtxPlan) : (planSet s c x).gangs = s.gangs := rfl
@[simp] theorem planSet_chans (s : State) (c : Nat) (x : CtxPlan) : (planSet s c x).chans = s.chans := rfl
@[simp] theorem planSet_engs (s : State) (c : Nat) (x : CtxPlan) : (planSet s c x).engs = s.engs := rfl
@[simp] theorem planSet_scrub (s : State) (c : Nat) (x : CtxPlan) : (planSet s c x).scrub = s.scrub := rfl
@[simp] theorem planSet_strum (s : State) (c : Nat) (x : CtxPlan) : (planSet s c x).strum = s.strum := rfl
@[simp] theorem planSet_coll (s : State) (c : Nat) (x : CtxPlan) : (planSet s c x).coll = s.coll := rfl
@[simp] theorem planSet_rcv (s : State) (c : Nat) (x : CtxPlan) : (planSet s c x).rcv = s.rcv := rfl
@[simp] theorem planSet_router (s : State) (c : Nat) (x : CtxPlan) : (planSet s c x).router = s.router := rfl
@[simp] theorem planSet_link (s : State) (c : Nat) (x : CtxPlan) : (planSet s c x).link = s.link := rfl
@[simp] theorem planSet_fw (s : State) (c : Nat) (x : CtxPlan) : (planSet s c x).fw = s.fw := rfl
@[simp] theorem planSet_power (s : State) (c : Nat) (x : CtxPlan) : (planSet s c x).power = s.power := rfl
@[simp] theorem planSet_bring (s : State) (c : Nat) (x : CtxPlan) : (planSet s c x).bring = s.bring := rfl
@[simp] theorem planSet_flash (s : State) (c : Nat) (x : CtxPlan) : (planSet s c x).flash = s.flash := rfl
@[simp] theorem planSet_pins (s : State) (c : Nat) (x : CtxPlan) : (planSet s c x).pins = s.pins := rfl
@[simp] theorem planSet_twin (s : State) (c : Nat) (x : CtxPlan) : (planSet s c x).twin = s.twin := rfl
@[simp] theorem planSet_mgmt (s : State) (c : Nat) (x : CtxPlan) : (planSet s c x).mgmt = s.mgmt := rfl

/-! ### hostMod: change of the host interface -/

@[simp] theorem hostMod_pending (s : State) (f : HostSt → HostSt) : (hostMod s f).pending = s.pending := rfl
@[simp] theorem hostMod_clock (s : State) (f : HostSt → HostSt) : (hostMod s f).clock = s.clock := rfl
@[simp] theorem hostMod_freeCtr (s : State) (f : HostSt → HostSt) : (hostMod s f).freeCtr = s.freeCtr := rfl
@[simp] theorem hostMod_outbox (s : State) (f : HostSt → HostSt) : (hostMod s f).outbox = s.outbox := rfl
@[simp] theorem hostMod_regs (s : State) (f : HostSt → HostSt) : (hostMod s f).regs = s.regs := rfl
@[simp] theorem hostMod_mem (s : State) (f : HostSt → HostSt) : (hostMod s f).mem = s.mem := rfl
@[simp] theorem hostMod_memPoison (s : State) (f : HostSt → HostSt) : (hostMod s f).memPoison = s.memPoison := rfl
@[simp] theorem hostMod_lineErr (s : State) (f : HostSt → HostSt) : (hostMod s f).lineErr = s.lineErr := rfl
@[simp] theorem hostMod_book (s : State) (f : HostSt → HostSt) : (hostMod s f).book = s.book := rfl
@[simp] theorem hostMod_host (s : State) (f : HostSt → HostSt) : (hostMod s f).host = f s.host := rfl
@[simp] theorem hostMod_plan (s : State) (f : HostSt → HostSt) : (hostMod s f).plan = s.plan := rfl
@[simp] theorem hostMod_drone (s : State) (f : HostSt → HostSt) : (hostMod s f).drone = s.drone := rfl
@[simp] theorem hostMod_tiles (s : State) (f : HostSt → HostSt) : (hostMod s f).tiles = s.tiles := rfl
@[simp] theorem hostMod_gangs (s : State) (f : HostSt → HostSt) : (hostMod s f).gangs = s.gangs := rfl
@[simp] theorem hostMod_chans (s : State) (f : HostSt → HostSt) : (hostMod s f).chans = s.chans := rfl
@[simp] theorem hostMod_engs (s : State) (f : HostSt → HostSt) : (hostMod s f).engs = s.engs := rfl
@[simp] theorem hostMod_scrub (s : State) (f : HostSt → HostSt) : (hostMod s f).scrub = s.scrub := rfl
@[simp] theorem hostMod_strum (s : State) (f : HostSt → HostSt) : (hostMod s f).strum = s.strum := rfl
@[simp] theorem hostMod_coll (s : State) (f : HostSt → HostSt) : (hostMod s f).coll = s.coll := rfl
@[simp] theorem hostMod_rcv (s : State) (f : HostSt → HostSt) : (hostMod s f).rcv = s.rcv := rfl
@[simp] theorem hostMod_router (s : State) (f : HostSt → HostSt) : (hostMod s f).router = s.router := rfl
@[simp] theorem hostMod_link (s : State) (f : HostSt → HostSt) : (hostMod s f).link = s.link := rfl
@[simp] theorem hostMod_fw (s : State) (f : HostSt → HostSt) : (hostMod s f).fw = s.fw := rfl
@[simp] theorem hostMod_power (s : State) (f : HostSt → HostSt) : (hostMod s f).power = s.power := rfl
@[simp] theorem hostMod_bring (s : State) (f : HostSt → HostSt) : (hostMod s f).bring = s.bring := rfl
@[simp] theorem hostMod_flash (s : State) (f : HostSt → HostSt) : (hostMod s f).flash = s.flash := rfl
@[simp] theorem hostMod_pins (s : State) (f : HostSt → HostSt) : (hostMod s f).pins = s.pins := rfl
@[simp] theorem hostMod_twin (s : State) (f : HostSt → HostSt) : (hostMod s f).twin = s.twin := rfl
@[simp] theorem hostMod_mgmt (s : State) (f : HostSt → HostSt) : (hostMod s f).mgmt = s.mgmt := rfl

/-! ### inSet: write of a router input -/

@[simp] theorem inSet_pending (s : State) (port vc : Nat) (x : InVc) : (inSet s port vc x).pending = s.pending := rfl
@[simp] theorem inSet_clock (s : State) (port vc : Nat) (x : InVc) : (inSet s port vc x).clock = s.clock := rfl
@[simp] theorem inSet_freeCtr (s : State) (port vc : Nat) (x : InVc) : (inSet s port vc x).freeCtr = s.freeCtr := rfl
@[simp] theorem inSet_outbox (s : State) (port vc : Nat) (x : InVc) : (inSet s port vc x).outbox = s.outbox := rfl
@[simp] theorem inSet_regs (s : State) (port vc : Nat) (x : InVc) : (inSet s port vc x).regs = s.regs := rfl
@[simp] theorem inSet_mem (s : State) (port vc : Nat) (x : InVc) : (inSet s port vc x).mem = s.mem := rfl
@[simp] theorem inSet_memPoison (s : State) (port vc : Nat) (x : InVc) : (inSet s port vc x).memPoison = s.memPoison := rfl
@[simp] theorem inSet_lineErr (s : State) (port vc : Nat) (x : InVc) : (inSet s port vc x).lineErr = s.lineErr := rfl
@[simp] theorem inSet_book (s : State) (port vc : Nat) (x : InVc) : (inSet s port vc x).book = s.book := rfl
@[simp] theorem inSet_host (s : State) (port vc : Nat) (x : InVc) : (inSet s port vc x).host = s.host := rfl
@[simp] theorem inSet_plan (s : State) (port vc : Nat) (x : InVc) : (inSet s port vc x).plan = s.plan := rfl
@[simp] theorem inSet_drone (s : State) (port vc : Nat) (x : InVc) : (inSet s port vc x).drone = s.drone := rfl
@[simp] theorem inSet_tiles (s : State) (port vc : Nat) (x : InVc) : (inSet s port vc x).tiles = s.tiles := rfl
@[simp] theorem inSet_gangs (s : State) (port vc : Nat) (x : InVc) : (inSet s port vc x).gangs = s.gangs := rfl
@[simp] theorem inSet_chans (s : State) (port vc : Nat) (x : InVc) : (inSet s port vc x).chans = s.chans := rfl
@[simp] theorem inSet_engs (s : State) (port vc : Nat) (x : InVc) : (inSet s port vc x).engs = s.engs := rfl
@[simp] theorem inSet_scrub (s : State) (port vc : Nat) (x : InVc) : (inSet s port vc x).scrub = s.scrub := rfl
@[simp] theorem inSet_strum (s : State) (port vc : Nat) (x : InVc) : (inSet s port vc x).strum = s.strum := rfl
@[simp] theorem inSet_coll (s : State) (port vc : Nat) (x : InVc) : (inSet s port vc x).coll = s.coll := rfl
@[simp] theorem inSet_rcv (s : State) (port vc : Nat) (x : InVc) : (inSet s port vc x).rcv = s.rcv := rfl
@[simp] theorem inSet_router (s : State) (port vc : Nat) (x : InVc) : (inSet s port vc x).router = { s.router with ins := mapSet {} s.router.ins (pvKey port vc) x } := rfl
@[simp] theorem inSet_link (s : State) (port vc : Nat) (x : InVc) : (inSet s port vc x).link = s.link := rfl
@[simp] theorem inSet_fw (s : State) (port vc : Nat) (x : InVc) : (inSet s port vc x).fw = s.fw := rfl
@[simp] theorem inSet_power (s : State) (port vc : Nat) (x : InVc) : (inSet s port vc x).power = s.power := rfl
@[simp] theorem inSet_bring (s : State) (port vc : Nat) (x : InVc) : (inSet s port vc x).bring = s.bring := rfl
@[simp] theorem inSet_flash (s : State) (port vc : Nat) (x : InVc) : (inSet s port vc x).flash = s.flash := rfl
@[simp] theorem inSet_pins (s : State) (port vc : Nat) (x : InVc) : (inSet s port vc x).pins = s.pins := rfl
@[simp] theorem inSet_twin (s : State) (port vc : Nat) (x : InVc) : (inSet s port vc x).twin = s.twin := rfl
@[simp] theorem inSet_mgmt (s : State) (port vc : Nat) (x : InVc) : (inSet s port vc x).mgmt = s.mgmt := rfl

/-! ### outSet: write of a router output -/

@[simp] theorem outSet_pending (s : State) (port vc : Nat) (x : OutVc) : (outSet s port vc x).pending = s.pending := rfl
@[simp] theorem outSet_clock (s : State) (port vc : Nat) (x : OutVc) : (outSet s port vc x).clock = s.clock := rfl
@[simp] theorem outSet_freeCtr (s : State) (port vc : Nat) (x : OutVc) : (outSet s port vc x).freeCtr = s.freeCtr := rfl
@[simp] theorem outSet_outbox (s : State) (port vc : Nat) (x : OutVc) : (outSet s port vc x).outbox = s.outbox := rfl
@[simp] theorem outSet_regs (s : State) (port vc : Nat) (x : OutVc) : (outSet s port vc x).regs = s.regs := rfl
@[simp] theorem outSet_mem (s : State) (port vc : Nat) (x : OutVc) : (outSet s port vc x).mem = s.mem := rfl
@[simp] theorem outSet_memPoison (s : State) (port vc : Nat) (x : OutVc) : (outSet s port vc x).memPoison = s.memPoison := rfl
@[simp] theorem outSet_lineErr (s : State) (port vc : Nat) (x : OutVc) : (outSet s port vc x).lineErr = s.lineErr := rfl
@[simp] theorem outSet_book (s : State) (port vc : Nat) (x : OutVc) : (outSet s port vc x).book = s.book := rfl
@[simp] theorem outSet_host (s : State) (port vc : Nat) (x : OutVc) : (outSet s port vc x).host = s.host := rfl
@[simp] theorem outSet_plan (s : State) (port vc : Nat) (x : OutVc) : (outSet s port vc x).plan = s.plan := rfl
@[simp] theorem outSet_drone (s : State) (port vc : Nat) (x : OutVc) : (outSet s port vc x).drone = s.drone := rfl
@[simp] theorem outSet_tiles (s : State) (port vc : Nat) (x : OutVc) : (outSet s port vc x).tiles = s.tiles := rfl
@[simp] theorem outSet_gangs (s : State) (port vc : Nat) (x : OutVc) : (outSet s port vc x).gangs = s.gangs := rfl
@[simp] theorem outSet_chans (s : State) (port vc : Nat) (x : OutVc) : (outSet s port vc x).chans = s.chans := rfl
@[simp] theorem outSet_engs (s : State) (port vc : Nat) (x : OutVc) : (outSet s port vc x).engs = s.engs := rfl
@[simp] theorem outSet_scrub (s : State) (port vc : Nat) (x : OutVc) : (outSet s port vc x).scrub = s.scrub := rfl
@[simp] theorem outSet_strum (s : State) (port vc : Nat) (x : OutVc) : (outSet s port vc x).strum = s.strum := rfl
@[simp] theorem outSet_coll (s : State) (port vc : Nat) (x : OutVc) : (outSet s port vc x).coll = s.coll := rfl
@[simp] theorem outSet_rcv (s : State) (port vc : Nat) (x : OutVc) : (outSet s port vc x).rcv = s.rcv := rfl
@[simp] theorem outSet_router (s : State) (port vc : Nat) (x : OutVc) : (outSet s port vc x).router = { s.router with outs := mapSet {} s.router.outs (pvKey port vc) x } := rfl
@[simp] theorem outSet_link (s : State) (port vc : Nat) (x : OutVc) : (outSet s port vc x).link = s.link := rfl
@[simp] theorem outSet_fw (s : State) (port vc : Nat) (x : OutVc) : (outSet s port vc x).fw = s.fw := rfl
@[simp] theorem outSet_power (s : State) (port vc : Nat) (x : OutVc) : (outSet s port vc x).power = s.power := rfl
@[simp] theorem outSet_bring (s : State) (port vc : Nat) (x : OutVc) : (outSet s port vc x).bring = s.bring := rfl
@[simp] theorem outSet_flash (s : State) (port vc : Nat) (x : OutVc) : (outSet s port vc x).flash = s.flash := rfl
@[simp] theorem outSet_pins (s : State) (port vc : Nat) (x : OutVc) : (outSet s port vc x).pins = s.pins := rfl
@[simp] theorem outSet_twin (s : State) (port vc : Nat) (x : OutVc) : (outSet s port vc x).twin = s.twin := rfl
@[simp] theorem outSet_mgmt (s : State) (port vc : Nat) (x : OutVc) : (outSet s port vc x).mgmt = s.mgmt := rfl

/-! ### lpSet: write of a link port -/

@[simp] theorem lpSet_pending (s : State) (p : Nat) (x : LinkPort) : (lpSet s p x).pending = s.pending := rfl
@[simp] theorem lpSet_clock (s : State) (p : Nat) (x : LinkPort) : (lpSet s p x).clock = s.clock := rfl
@[simp] theorem lpSet_freeCtr (s : State) (p : Nat) (x : LinkPort) : (lpSet s p x).freeCtr = s.freeCtr := rfl
@[simp] theorem lpSet_outbox (s : State) (p : Nat) (x : LinkPort) : (lpSet s p x).outbox = s.outbox := rfl
@[simp] theorem lpSet_regs (s : State) (p : Nat) (x : LinkPort) : (lpSet s p x).regs = s.regs := rfl
@[simp] theorem lpSet_mem (s : State) (p : Nat) (x : LinkPort) : (lpSet s p x).mem = s.mem := rfl
@[simp] theorem lpSet_memPoison (s : State) (p : Nat) (x : LinkPort) : (lpSet s p x).memPoison = s.memPoison := rfl
@[simp] theorem lpSet_lineErr (s : State) (p : Nat) (x : LinkPort) : (lpSet s p x).lineErr = s.lineErr := rfl
@[simp] theorem lpSet_book (s : State) (p : Nat) (x : LinkPort) : (lpSet s p x).book = s.book := rfl
@[simp] theorem lpSet_host (s : State) (p : Nat) (x : LinkPort) : (lpSet s p x).host = s.host := rfl
@[simp] theorem lpSet_plan (s : State) (p : Nat) (x : LinkPort) : (lpSet s p x).plan = s.plan := rfl
@[simp] theorem lpSet_drone (s : State) (p : Nat) (x : LinkPort) : (lpSet s p x).drone = s.drone := rfl
@[simp] theorem lpSet_tiles (s : State) (p : Nat) (x : LinkPort) : (lpSet s p x).tiles = s.tiles := rfl
@[simp] theorem lpSet_gangs (s : State) (p : Nat) (x : LinkPort) : (lpSet s p x).gangs = s.gangs := rfl
@[simp] theorem lpSet_chans (s : State) (p : Nat) (x : LinkPort) : (lpSet s p x).chans = s.chans := rfl
@[simp] theorem lpSet_engs (s : State) (p : Nat) (x : LinkPort) : (lpSet s p x).engs = s.engs := rfl
@[simp] theorem lpSet_scrub (s : State) (p : Nat) (x : LinkPort) : (lpSet s p x).scrub = s.scrub := rfl
@[simp] theorem lpSet_strum (s : State) (p : Nat) (x : LinkPort) : (lpSet s p x).strum = s.strum := rfl
@[simp] theorem lpSet_coll (s : State) (p : Nat) (x : LinkPort) : (lpSet s p x).coll = s.coll := rfl
@[simp] theorem lpSet_rcv (s : State) (p : Nat) (x : LinkPort) : (lpSet s p x).rcv = s.rcv := rfl
@[simp] theorem lpSet_router (s : State) (p : Nat) (x : LinkPort) : (lpSet s p x).router = s.router := rfl
@[simp] theorem lpSet_link (s : State) (p : Nat) (x : LinkPort) : (lpSet s p x).link = { s.link with ports := mapSet {} s.link.ports p x } := rfl
@[simp] theorem lpSet_fw (s : State) (p : Nat) (x : LinkPort) : (lpSet s p x).fw = s.fw := rfl
@[simp] theorem lpSet_power (s : State) (p : Nat) (x : LinkPort) : (lpSet s p x).power = s.power := rfl
@[simp] theorem lpSet_bring (s : State) (p : Nat) (x : LinkPort) : (lpSet s p x).bring = s.bring := rfl
@[simp] theorem lpSet_flash (s : State) (p : Nat) (x : LinkPort) : (lpSet s p x).flash = s.flash := rfl
@[simp] theorem lpSet_pins (s : State) (p : Nat) (x : LinkPort) : (lpSet s p x).pins = s.pins := rfl
@[simp] theorem lpSet_twin (s : State) (p : Nat) (x : LinkPort) : (lpSet s p x).twin = s.twin := rfl
@[simp] theorem lpSet_mgmt (s : State) (p : Nat) (x : LinkPort) : (lpSet s p x).mgmt = s.mgmt := rfl

/-! ### pwr: change of the power state -/

@[simp] theorem pwr_pending (s : State) (f : PowerSt → PowerSt) : (pwr s f).pending = s.pending := rfl
@[simp] theorem pwr_clock (s : State) (f : PowerSt → PowerSt) : (pwr s f).clock = s.clock := rfl
@[simp] theorem pwr_freeCtr (s : State) (f : PowerSt → PowerSt) : (pwr s f).freeCtr = s.freeCtr := rfl
@[simp] theorem pwr_outbox (s : State) (f : PowerSt → PowerSt) : (pwr s f).outbox = s.outbox := rfl
@[simp] theorem pwr_regs (s : State) (f : PowerSt → PowerSt) : (pwr s f).regs = s.regs := rfl
@[simp] theorem pwr_mem (s : State) (f : PowerSt → PowerSt) : (pwr s f).mem = s.mem := rfl
@[simp] theorem pwr_memPoison (s : State) (f : PowerSt → PowerSt) : (pwr s f).memPoison = s.memPoison := rfl
@[simp] theorem pwr_lineErr (s : State) (f : PowerSt → PowerSt) : (pwr s f).lineErr = s.lineErr := rfl
@[simp] theorem pwr_book (s : State) (f : PowerSt → PowerSt) : (pwr s f).book = s.book := rfl
@[simp] theorem pwr_host (s : State) (f : PowerSt → PowerSt) : (pwr s f).host = s.host := rfl
@[simp] theorem pwr_plan (s : State) (f : PowerSt → PowerSt) : (pwr s f).plan = s.plan := rfl
@[simp] theorem pwr_drone (s : State) (f : PowerSt → PowerSt) : (pwr s f).drone = s.drone := rfl
@[simp] theorem pwr_tiles (s : State) (f : PowerSt → PowerSt) : (pwr s f).tiles = s.tiles := rfl
@[simp] theorem pwr_gangs (s : State) (f : PowerSt → PowerSt) : (pwr s f).gangs = s.gangs := rfl
@[simp] theorem pwr_chans (s : State) (f : PowerSt → PowerSt) : (pwr s f).chans = s.chans := rfl
@[simp] theorem pwr_engs (s : State) (f : PowerSt → PowerSt) : (pwr s f).engs = s.engs := rfl
@[simp] theorem pwr_scrub (s : State) (f : PowerSt → PowerSt) : (pwr s f).scrub = s.scrub := rfl
@[simp] theorem pwr_strum (s : State) (f : PowerSt → PowerSt) : (pwr s f).strum = s.strum := rfl
@[simp] theorem pwr_coll (s : State) (f : PowerSt → PowerSt) : (pwr s f).coll = s.coll := rfl
@[simp] theorem pwr_rcv (s : State) (f : PowerSt → PowerSt) : (pwr s f).rcv = s.rcv := rfl
@[simp] theorem pwr_router (s : State) (f : PowerSt → PowerSt) : (pwr s f).router = s.router := rfl
@[simp] theorem pwr_link (s : State) (f : PowerSt → PowerSt) : (pwr s f).link = s.link := rfl
@[simp] theorem pwr_fw (s : State) (f : PowerSt → PowerSt) : (pwr s f).fw = s.fw := rfl
@[simp] theorem pwr_power (s : State) (f : PowerSt → PowerSt) : (pwr s f).power = f s.power := rfl
@[simp] theorem pwr_bring (s : State) (f : PowerSt → PowerSt) : (pwr s f).bring = s.bring := rfl
@[simp] theorem pwr_flash (s : State) (f : PowerSt → PowerSt) : (pwr s f).flash = s.flash := rfl
@[simp] theorem pwr_pins (s : State) (f : PowerSt → PowerSt) : (pwr s f).pins = s.pins := rfl
@[simp] theorem pwr_twin (s : State) (f : PowerSt → PowerSt) : (pwr s f).twin = s.twin := rfl
@[simp] theorem pwr_mgmt (s : State) (f : PowerSt → PowerSt) : (pwr s f).mgmt = s.mgmt := rfl

/-! ### bring: change of the bring-up state -/

@[simp] theorem bring_pending (s : State) (f : BringSt → BringSt) : (bring s f).pending = s.pending := rfl
@[simp] theorem bring_clock (s : State) (f : BringSt → BringSt) : (bring s f).clock = s.clock := rfl
@[simp] theorem bring_freeCtr (s : State) (f : BringSt → BringSt) : (bring s f).freeCtr = s.freeCtr := rfl
@[simp] theorem bring_outbox (s : State) (f : BringSt → BringSt) : (bring s f).outbox = s.outbox := rfl
@[simp] theorem bring_regs (s : State) (f : BringSt → BringSt) : (bring s f).regs = s.regs := rfl
@[simp] theorem bring_mem (s : State) (f : BringSt → BringSt) : (bring s f).mem = s.mem := rfl
@[simp] theorem bring_memPoison (s : State) (f : BringSt → BringSt) : (bring s f).memPoison = s.memPoison := rfl
@[simp] theorem bring_lineErr (s : State) (f : BringSt → BringSt) : (bring s f).lineErr = s.lineErr := rfl
@[simp] theorem bring_book (s : State) (f : BringSt → BringSt) : (bring s f).book = s.book := rfl
@[simp] theorem bring_host (s : State) (f : BringSt → BringSt) : (bring s f).host = s.host := rfl
@[simp] theorem bring_plan (s : State) (f : BringSt → BringSt) : (bring s f).plan = s.plan := rfl
@[simp] theorem bring_drone (s : State) (f : BringSt → BringSt) : (bring s f).drone = s.drone := rfl
@[simp] theorem bring_tiles (s : State) (f : BringSt → BringSt) : (bring s f).tiles = s.tiles := rfl
@[simp] theorem bring_gangs (s : State) (f : BringSt → BringSt) : (bring s f).gangs = s.gangs := rfl
@[simp] theorem bring_chans (s : State) (f : BringSt → BringSt) : (bring s f).chans = s.chans := rfl
@[simp] theorem bring_engs (s : State) (f : BringSt → BringSt) : (bring s f).engs = s.engs := rfl
@[simp] theorem bring_scrub (s : State) (f : BringSt → BringSt) : (bring s f).scrub = s.scrub := rfl
@[simp] theorem bring_strum (s : State) (f : BringSt → BringSt) : (bring s f).strum = s.strum := rfl
@[simp] theorem bring_coll (s : State) (f : BringSt → BringSt) : (bring s f).coll = s.coll := rfl
@[simp] theorem bring_rcv (s : State) (f : BringSt → BringSt) : (bring s f).rcv = s.rcv := rfl
@[simp] theorem bring_router (s : State) (f : BringSt → BringSt) : (bring s f).router = s.router := rfl
@[simp] theorem bring_link (s : State) (f : BringSt → BringSt) : (bring s f).link = s.link := rfl
@[simp] theorem bring_fw (s : State) (f : BringSt → BringSt) : (bring s f).fw = s.fw := rfl
@[simp] theorem bring_power (s : State) (f : BringSt → BringSt) : (bring s f).power = s.power := rfl
@[simp] theorem bring_bring (s : State) (f : BringSt → BringSt) : (bring s f).bring = f s.bring := rfl
@[simp] theorem bring_flash (s : State) (f : BringSt → BringSt) : (bring s f).flash = s.flash := rfl
@[simp] theorem bring_pins (s : State) (f : BringSt → BringSt) : (bring s f).pins = s.pins := rfl
@[simp] theorem bring_twin (s : State) (f : BringSt → BringSt) : (bring s f).twin = s.twin := rfl
@[simp] theorem bring_mgmt (s : State) (f : BringSt → BringSt) : (bring s f).mgmt = s.mgmt := rfl

/-! ### fwMod: change of the firmware state -/

@[simp] theorem fwMod_pending (s : State) (f : FwSt → FwSt) : (fwMod s f).pending = s.pending := rfl
@[simp] theorem fwMod_clock (s : State) (f : FwSt → FwSt) : (fwMod s f).clock = s.clock := rfl
@[simp] theorem fwMod_freeCtr (s : State) (f : FwSt → FwSt) : (fwMod s f).freeCtr = s.freeCtr := rfl
@[simp] theorem fwMod_outbox (s : State) (f : FwSt → FwSt) : (fwMod s f).outbox = s.outbox := rfl
@[simp] theorem fwMod_regs (s : State) (f : FwSt → FwSt) : (fwMod s f).regs = s.regs := rfl
@[simp] theorem fwMod_mem (s : State) (f : FwSt → FwSt) : (fwMod s f).mem = s.mem := rfl
@[simp] theorem fwMod_memPoison (s : State) (f : FwSt → FwSt) : (fwMod s f).memPoison = s.memPoison := rfl
@[simp] theorem fwMod_lineErr (s : State) (f : FwSt → FwSt) : (fwMod s f).lineErr = s.lineErr := rfl
@[simp] theorem fwMod_book (s : State) (f : FwSt → FwSt) : (fwMod s f).book = s.book := rfl
@[simp] theorem fwMod_host (s : State) (f : FwSt → FwSt) : (fwMod s f).host = s.host := rfl
@[simp] theorem fwMod_plan (s : State) (f : FwSt → FwSt) : (fwMod s f).plan = s.plan := rfl
@[simp] theorem fwMod_drone (s : State) (f : FwSt → FwSt) : (fwMod s f).drone = s.drone := rfl
@[simp] theorem fwMod_tiles (s : State) (f : FwSt → FwSt) : (fwMod s f).tiles = s.tiles := rfl
@[simp] theorem fwMod_gangs (s : State) (f : FwSt → FwSt) : (fwMod s f).gangs = s.gangs := rfl
@[simp] theorem fwMod_chans (s : State) (f : FwSt → FwSt) : (fwMod s f).chans = s.chans := rfl
@[simp] theorem fwMod_engs (s : State) (f : FwSt → FwSt) : (fwMod s f).engs = s.engs := rfl
@[simp] theorem fwMod_scrub (s : State) (f : FwSt → FwSt) : (fwMod s f).scrub = s.scrub := rfl
@[simp] theorem fwMod_strum (s : State) (f : FwSt → FwSt) : (fwMod s f).strum = s.strum := rfl
@[simp] theorem fwMod_coll (s : State) (f : FwSt → FwSt) : (fwMod s f).coll = s.coll := rfl
@[simp] theorem fwMod_rcv (s : State) (f : FwSt → FwSt) : (fwMod s f).rcv = s.rcv := rfl
@[simp] theorem fwMod_router (s : State) (f : FwSt → FwSt) : (fwMod s f).router = s.router := rfl
@[simp] theorem fwMod_link (s : State) (f : FwSt → FwSt) : (fwMod s f).link = s.link := rfl
@[simp] theorem fwMod_fw (s : State) (f : FwSt → FwSt) : (fwMod s f).fw = f s.fw := rfl
@[simp] theorem fwMod_power (s : State) (f : FwSt → FwSt) : (fwMod s f).power = s.power := rfl
@[simp] theorem fwMod_bring (s : State) (f : FwSt → FwSt) : (fwMod s f).bring = s.bring := rfl
@[simp] theorem fwMod_flash (s : State) (f : FwSt → FwSt) : (fwMod s f).flash = s.flash := rfl
@[simp] theorem fwMod_pins (s : State) (f : FwSt → FwSt) : (fwMod s f).pins = s.pins := rfl
@[simp] theorem fwMod_twin (s : State) (f : FwSt → FwSt) : (fwMod s f).twin = s.twin := rfl
@[simp] theorem fwMod_mgmt (s : State) (f : FwSt → FwSt) : (fwMod s f).mgmt = s.mgmt := rfl

/-! ### flashMod: change of the flash -/

@[simp] theorem flashMod_pending (s : State) (f : Flash → Flash) : (flashMod s f).pending = s.pending := rfl
@[simp] theorem flashMod_clock (s : State) (f : Flash → Flash) : (flashMod s f).clock = s.clock := rfl
@[simp] theorem flashMod_freeCtr (s : State) (f : Flash → Flash) : (flashMod s f).freeCtr = s.freeCtr := rfl
@[simp] theorem flashMod_outbox (s : State) (f : Flash → Flash) : (flashMod s f).outbox = s.outbox := rfl
@[simp] theorem flashMod_regs (s : State) (f : Flash → Flash) : (flashMod s f).regs = s.regs := rfl
@[simp] theorem flashMod_mem (s : State) (f : Flash → Flash) : (flashMod s f).mem = s.mem := rfl
@[simp] theorem flashMod_memPoison (s : State) (f : Flash → Flash) : (flashMod s f).memPoison = s.memPoison := rfl
@[simp] theorem flashMod_lineErr (s : State) (f : Flash → Flash) : (flashMod s f).lineErr = s.lineErr := rfl
@[simp] theorem flashMod_book (s : State) (f : Flash → Flash) : (flashMod s f).book = s.book := rfl
@[simp] theorem flashMod_host (s : State) (f : Flash → Flash) : (flashMod s f).host = s.host := rfl
@[simp] theorem flashMod_plan (s : State) (f : Flash → Flash) : (flashMod s f).plan = s.plan := rfl
@[simp] theorem flashMod_drone (s : State) (f : Flash → Flash) : (flashMod s f).drone = s.drone := rfl
@[simp] theorem flashMod_tiles (s : State) (f : Flash → Flash) : (flashMod s f).tiles = s.tiles := rfl
@[simp] theorem flashMod_gangs (s : State) (f : Flash → Flash) : (flashMod s f).gangs = s.gangs := rfl
@[simp] theorem flashMod_chans (s : State) (f : Flash → Flash) : (flashMod s f).chans = s.chans := rfl
@[simp] theorem flashMod_engs (s : State) (f : Flash → Flash) : (flashMod s f).engs = s.engs := rfl
@[simp] theorem flashMod_scrub (s : State) (f : Flash → Flash) : (flashMod s f).scrub = s.scrub := rfl
@[simp] theorem flashMod_strum (s : State) (f : Flash → Flash) : (flashMod s f).strum = s.strum := rfl
@[simp] theorem flashMod_coll (s : State) (f : Flash → Flash) : (flashMod s f).coll = s.coll := rfl
@[simp] theorem flashMod_rcv (s : State) (f : Flash → Flash) : (flashMod s f).rcv = s.rcv := rfl
@[simp] theorem flashMod_router (s : State) (f : Flash → Flash) : (flashMod s f).router = s.router := rfl
@[simp] theorem flashMod_link (s : State) (f : Flash → Flash) : (flashMod s f).link = s.link := rfl
@[simp] theorem flashMod_fw (s : State) (f : Flash → Flash) : (flashMod s f).fw = s.fw := rfl
@[simp] theorem flashMod_power (s : State) (f : Flash → Flash) : (flashMod s f).power = s.power := rfl
@[simp] theorem flashMod_bring (s : State) (f : Flash → Flash) : (flashMod s f).bring = s.bring := rfl
@[simp] theorem flashMod_flash (s : State) (f : Flash → Flash) : (flashMod s f).flash = f s.flash := rfl
@[simp] theorem flashMod_pins (s : State) (f : Flash → Flash) : (flashMod s f).pins = s.pins := rfl
@[simp] theorem flashMod_twin (s : State) (f : Flash → Flash) : (flashMod s f).twin = s.twin := rfl
@[simp] theorem flashMod_mgmt (s : State) (f : Flash → Flash) : (flashMod s f).mgmt = s.mgmt := rfl

/-! ### mgmt: change of the management state -/

@[simp] theorem mgmt_pending (s : State) (f : MgmtSt → MgmtSt) : (mgmt s f).pending = s.pending := rfl
@[simp] theorem mgmt_clock (s : State) (f : MgmtSt → MgmtSt) : (mgmt s f).clock = s.clock := rfl
@[simp] theorem mgmt_freeCtr (s : State) (f : MgmtSt → MgmtSt) : (mgmt s f).freeCtr = s.freeCtr := rfl
@[simp] theorem mgmt_outbox (s : State) (f : MgmtSt → MgmtSt) : (mgmt s f).outbox = s.outbox := rfl
@[simp] theorem mgmt_regs (s : State) (f : MgmtSt → MgmtSt) : (mgmt s f).regs = s.regs := rfl
@[simp] theorem mgmt_mem (s : State) (f : MgmtSt → MgmtSt) : (mgmt s f).mem = s.mem := rfl
@[simp] theorem mgmt_memPoison (s : State) (f : MgmtSt → MgmtSt) : (mgmt s f).memPoison = s.memPoison := rfl
@[simp] theorem mgmt_lineErr (s : State) (f : MgmtSt → MgmtSt) : (mgmt s f).lineErr = s.lineErr := rfl
@[simp] theorem mgmt_book (s : State) (f : MgmtSt → MgmtSt) : (mgmt s f).book = s.book := rfl
@[simp] theorem mgmt_host (s : State) (f : MgmtSt → MgmtSt) : (mgmt s f).host = s.host := rfl
@[simp] theorem mgmt_plan (s : State) (f : MgmtSt → MgmtSt) : (mgmt s f).plan = s.plan := rfl
@[simp] theorem mgmt_drone (s : State) (f : MgmtSt → MgmtSt) : (mgmt s f).drone = s.drone := rfl
@[simp] theorem mgmt_tiles (s : State) (f : MgmtSt → MgmtSt) : (mgmt s f).tiles = s.tiles := rfl
@[simp] theorem mgmt_gangs (s : State) (f : MgmtSt → MgmtSt) : (mgmt s f).gangs = s.gangs := rfl
@[simp] theorem mgmt_chans (s : State) (f : MgmtSt → MgmtSt) : (mgmt s f).chans = s.chans := rfl
@[simp] theorem mgmt_engs (s : State) (f : MgmtSt → MgmtSt) : (mgmt s f).engs = s.engs := rfl
@[simp] theorem mgmt_scrub (s : State) (f : MgmtSt → MgmtSt) : (mgmt s f).scrub = s.scrub := rfl
@[simp] theorem mgmt_strum (s : State) (f : MgmtSt → MgmtSt) : (mgmt s f).strum = s.strum := rfl
@[simp] theorem mgmt_coll (s : State) (f : MgmtSt → MgmtSt) : (mgmt s f).coll = s.coll := rfl
@[simp] theorem mgmt_rcv (s : State) (f : MgmtSt → MgmtSt) : (mgmt s f).rcv = s.rcv := rfl
@[simp] theorem mgmt_router (s : State) (f : MgmtSt → MgmtSt) : (mgmt s f).router = s.router := rfl
@[simp] theorem mgmt_link (s : State) (f : MgmtSt → MgmtSt) : (mgmt s f).link = s.link := rfl
@[simp] theorem mgmt_fw (s : State) (f : MgmtSt → MgmtSt) : (mgmt s f).fw = s.fw := rfl
@[simp] theorem mgmt_power (s : State) (f : MgmtSt → MgmtSt) : (mgmt s f).power = s.power := rfl
@[simp] theorem mgmt_bring (s : State) (f : MgmtSt → MgmtSt) : (mgmt s f).bring = s.bring := rfl
@[simp] theorem mgmt_flash (s : State) (f : MgmtSt → MgmtSt) : (mgmt s f).flash = s.flash := rfl
@[simp] theorem mgmt_pins (s : State) (f : MgmtSt → MgmtSt) : (mgmt s f).pins = s.pins := rfl
@[simp] theorem mgmt_twin (s : State) (f : MgmtSt → MgmtSt) : (mgmt s f).twin = s.twin := rfl
@[simp] theorem mgmt_mgmt (s : State) (f : MgmtSt → MgmtSt) : (mgmt s f).mgmt = f s.mgmt := rfl

end Sys2Proof.Machine
end

