-- ==== Sys2Proof/Tests/States.lean ====
section
/-! SUPPORT. The small states that the tests and the witnesses start from, each built from State.reset by a few writes. -/

namespace Sys2Proof.Tests

open Sys2Proof.Machine Sys2Proof.Safety

/-- A context of no use to a test but to stand defined. -/
def someCtx : CtxRec := ⟨false, 1, 2, 1000, 0, 4⟩

/-- A Pattern that gives nothing but its contexts and gangs. -/
def somePattern : Pattern := {
  contract := (1, 0), slice := 0, serial := 1, seed := 0, packages := 1, ownerKey := 0, digest := 0, lpkg := 0, chip := 0
  planLeadUs := 200, readyLeadUs := 10, maxDefer := 3, ctxs := [(0, someCtx)], gangs := [⟨0, 0, 1, 0, 0, 0⟩], chans := []
  mode := 0, regions := [], capW := 1200, priority := 0, rampNs := 0, loopSettings := [], groups := [], sets := [], trays := []
  twinPartner := 0, twinRole := 0, images := [], engineDigest := 0, expect := [] }

/-- A package with a Pattern in force. -/
def withPattern (p : Pattern) : State := { State.reset with plan := { pattern := some p } }

/-- Gang 0 of two tiles: it issues, and of its latched bundle the slots `left` have not executed. -/
def issuing (b : BitVec 512) (left : List Nat) : State :=
  gangSet (withPattern somePattern) 0 { phase := .running, opened := true, bundle := b, left := left }

/-- Gang 0 with the word w in slot sl and further slots that have not executed. -/
def holding (sl : Slot) (w : Nat) : State := issuing (BitVec.ofNat 512 (w * 2 ^ slotLo sl)) (List.range 10)

/-- A package whose service core runs and has brought it to the ready phase, with both supplies good. -/
def served : State :=
  let s := { State.reset with pins := { aux := true, input := true, perst := false } }
  regPut (regPut (regPut s regHstSteward 63 62 1) regStwBoot 63 60 7) regStwReady 63 63 1

/-- A served package whose host has a driver accepted. -/
def hosted : State := { served with host := { accepted := true } }

/-- A served package with a Warrant of a variant in effect and a session of a role. -/
def talking (role : Role) : State :=
  regPut { served with mgmt := { sessions := [⟨5, role, false, 0⟩] } } regSecWarrant 63 60 1

/-- A request in that session. -/
def ask (body : List Byte) : Request := ⟨5, 9, body⟩

/-- The state that a command leaves. -/
def after (i : Instr) (s : State) : State := match exec i s with | .next t => t | _ => s

/-- A command answers a next state. -/
def goes (i : Instr) (s : State) : Bool := match exec i s with | .next _ => true | _ => false

/-- A slot word of the right width is held. -/
theorem holding_holds (sl : Slot) (w : Nat) (h : w < 2 ^ slotWidth sl) : SlotHolds (holding sl w) 0 sl w := by
  refine ⟨rfl, rfl, ?_, ?_⟩
  · show slotCode sl ∈ List.range 10
    cases sl <;> decide
  · show slotBits (BitVec.ofNat 512 (w * 2 ^ slotLo sl)) sl = w
    have hw : w * 2 ^ slotLo sl < 2 ^ 512 :=
      Nat.lt_of_lt_of_le (Nat.mul_lt_mul_of_pos_right h (Nat.two_pow_pos _)) (by cases sl <;> decide +kernel)
    rw [slotBits, BitVec.toNat_ofNat, Nat.mod_eq_of_lt hw, Nat.mul_div_cancel _ (Nat.two_pow_pos _), Nat.mod_eq_of_lt h]

end Sys2Proof.Tests
end

