-- ==== Sys2Proof/Tests/WitnessLinks.lean ====
section
/-! SUPPORT. Concrete states and operands that meet the hypotheses of the statements about links, training and time transfer. -/

set_option Elab.async false

namespace Sys2Proof.Tests

open Sys2Proof.Machine Sys2Proof.Safety

/-- Port 17 at a phase of its ladder, with CK received and a link layer's state, at a time. -/
def port (phase : Nat) (x : LinkPort) (clock : Nat) : State :=
  { setPhase (lpSet served 17 { x with ck := true }) 17 phase with clock := clock }

/-- The message of the next frame of a type, with a record in its first slot. -/
def frame (type : Nat) (bs : List Byte) : Nat := frameMsg ⟨type, 0, 0, false, []⟩ [⟨0, ofBytes bs⟩]

/-- A frame that port 17 takes. -/
def taken (s : State) (msg : Nat) : Bool := linkUp s 17 && (frameTake s 17 msg [543]).2

/-- A package that opens sealed packets, and a packet of a head and a seal flit from package 3, as its check takes it (counter 1, the tag
under key 0, epoch 0). -/
def sealing : State := { port 8 {} 0 with link := { (port 8 {} 0).link with sealKey := some 0 } }
def sealedFlits : List Flit :=
  [⟨ctrlWord 0 0 false false false 5 0, headData { src := 3 }⟩,
    ⟨ctrlWord 2 0 false false false 5 1, 1503524786775892547941082166986584589806085230874744324097⟩]

theorem witness_LinkFramesAndStocktakesComplete :
    ((mkGet (port 8 {} 1000000) 29).due ≤ (port 8 {} 1000000).clock)
    ∧ HostOpen hosted ∧ isInternal 29 = true
    ∧ (let s := { served with router := { served.router with bankS := [(vcOff 29 5 cPktIn, 3)] } }
       ((List.range 6).filter fun v => (packetSides s 29 v).1 != (packetSides s 29 v).2) = [5])
    ∧ (∀ type ∈ [0, 1, 2, 4], taken (port 8 {} 0) (frame type []) = true ∧ (headerOf (frame type [])).ftype = type) ∧ isInternal 17 = false
    ∧ (let s := port 8 { replay := List.replicate 128 ⟨9, 1, [], []⟩ } 0
       linkUp s 17 = true ∧ (lpGet s 17).replay = ⟨9, 1, [], []⟩ :: List.replicate 127 ⟨9, 1, [], []⟩ ∧ canSend s 17 = false)
    ∧ (let s := port 8 {} 1000000
       quietMeets (regPut s (regPrtCtrl 17) 39 39 1) 17 = true ∧ (lpGet s 17).quietSent = false)
    ∧ (let s := port 8 { quietSent := true, quietGot := true } 0
       17 < 18 ∧ prtPhase s 17 = 8 ∧ portState s 17 = 2 ∧ (lpGet s 17).quietSent = true ∧ (lpGet s 17).quietGot = true ∧ quietFree s 17 = true)
    ∧ (let s := port 9 { slots := [⟨0, 0⟩] } 0
       prtPhase s 17 = 9 ∧ quietFree s 17 = false) := by
  unfold HostOpen; decide +kernel

/-- The two flits of a packet that is not sealed right. -/
def forged : List Flit := [⟨ctrlWord 0 0 false false false 5 0, 0⟩, ⟨ctrlWord 2 0 false false false 5 2, 0⟩]

/-- A package that holds the flits of a packet until its check. -/
def held (fs : List Flit) : State := lpMod sealing 17 fun x => { x with sealRx := [(0, fs)] }

theorem witness_LinkFramesAndStocktakesComplete_sealed :
    firstHeld (mapGet [] (lpGet (held sealedFlits) 17).sealRx 0) = some (sealedFlits, [])
    ∧ (sealOpen (held sealedFlits) sealedFlits).any (fun r => r.2 == 1) = true ∧ sealedFlits.getLast?.isSome = true := by
  decide +kernel

theorem witness_LinkFramesAndStocktakesComplete_forged :
    firstHeld (mapGet [] (lpGet (held forged) 17).sealRx 0) = some (forged, []) ∧ sealOpen (held forged) forged = none := by
  decide +kernel

/-- A neighbour's record with its check, saying which lanes it passed at each rung. -/
def neighbour (lanes : Nat) : List Byte :=
  let b := zeros 80 ++ List.replicate 3 (BitVec.ofNat 8 lanes) ++ zeros 41
  b ++ bytesOf 4 (crc32c b)

theorem witness_TrainingCommandsComplete :
    (∀ x ∈ [({ replays := 16 } : LinkPort), { uncorrAt := List.replicate 1001 0 }], let s := port 8 x 0
      linkUp s 17 = true ∧ (16 ≤ (lpGet s 17).replays ∨ 1000 < (lpGet s 17).uncorrAt.length))
    ∧ (lpGet (port 8 {} 0) 17).ck = true ∧ HostOpen hosted ∧ prtPhase (port 10 {} 0) 17 ≠ 0 ∧ 7 ≤ prtPhase (port 7 {} 0) 17
    ∧ (regField served regStwBoot 63 60 = 7 ∧ prtPhase served 17 = 0 ∧ (lpGet served 17).ck = false)
    ∧ prtPhase (port 1 {} 0) 17 = 1 ∧ prtPhase (port 2 {} 0) 17 = 2 ∧ (prtPhase (port 5 {} 0) 17 = 5 ∧ (lpGet (port 5 {} 0) 17).stage = 0)
    ∧ (∀ ph ∈ [3, 4, 5], let s := port ph { stage := 1 } 0
      3 ≤ prtPhase s 17 ∧ prtPhase s 17 ≤ 5 ∧ (lpGet s 17).stage = 1)
    ∧ prtPhase (port 6 {} 0) 17 = 6 ∧ prtPhase (port 7 {} 0) 17 = 7
    ∧ (prtPhase (port 10 { idSent := 5 } 1000000005) 17 = 10 ∧ (lpGet (port 10 { idSent := 5 } 1000000005) 17).idSent + 1000000000 ≤ 1000000005)
    ∧ prtPhase (port 9 {} 0) 17 = 9
    ∧ (let s := port 6 {} 0
       let bs := bytesOf 128 (((slotsOf (frame 3 (neighbour 0xFF)))[0]?).getD emptySlot).data
       taken s (frame 3 (neighbour 0xFF)) = true ∧ (headerOf (frame 3 (neighbour 0xFF))).ftype = 3 ∧ recordOk bs = true
       ∧ ¬ (3 ≤ prtPhase (storeRecord (frameTake s 17 (frame 3 (neighbour 0xFF)) [543]).1 17 bs) 17
         ∧ prtPhase (storeRecord (frameTake s 17 (frame 3 (neighbour 0xFF)) [543]).1 17 bs) 17 ≤ 5)) := by
  unfold HostOpen; decide +kernel

/-- A member whose parent edge is port 17, in a Drone state. -/
def timed (st : Nat) (e : TimeEdge) (clock : Nat) : State :=
  let s := port 8 {} clock
  edgeSet (regPut (regPut s regDroneCtrl 7 0 17) regDroneStatus 2 0 st) false e

/-- The record of another package that is locked: a request, or the reply to a request. -/
def timeFrom (type seq t1 : Nat) : List Byte := timeRecord (timed 2 {} 0) type seq 0 0 t1 0

theorem witness_TimeTransferCommandsComplete :
    (let s := timed 1 { sentAt := 7 } 1000007
     edgeOf s 17 = some false ∧ droneRole s ≠ 1 ∧ droneState s ≠ 0 ∧ droneState s ≠ 4 ∧ timePortOpen s 17 = true
     ∧ (edgeGet s false).sentAt + 1000000 ≤ s.clock)
    ∧ (edgeGet (timed 1 {} 0) false).sentAt = 0
    ∧ (let msg := frame 5 (timeFrom 1 3 0)
       let s := timed 2 {} 0
       linkUp s 17 = true ∧ (headerOf msg).ftype = 5
       ∧ ((timeFrame s 17 msg []).2.any fun r => numAt r.1 2 1 == 1 && timeOk r.1 && !r.2) = true ∧ timePortOpen (timeFrame s 17 msg []).1 17 = true)
    ∧ (let msg := frame 5 (timeFrom 2 3 77)
       let s := timed 2 { seq := 3, t1 := 77, sentAt := 10, waiting := true } 100009
       let t := (timeFrame s 17 msg []).1
       linkUp s 17 = true ∧ (headerOf msg).ftype = 5
       ∧ ((timeFrame s 17 msg []).2.any fun r => numAt r.1 2 1 == 2 && timeOk r.1 && !r.2 && numAt r.1 3 1 == (edgeGet t false).seq
         && stampAt r.1 32 40 == (edgeGet t false).t1 && rootOk t (numAt r.1 4 2) && numAt r.1 7 1 == 2) = true
       ∧ edgeOf t 17 = some false ∧ (edgeGet t false).waiting = true ∧ droneState t ≠ 0 ∧ droneState t ≠ 4 ∧ (lpGet t 17).timeSpoilt = false
       ∧ t.clock < (edgeGet t false).sentAt + 100000)
    ∧ (let s := timed 2 { seq := 3, t1 := 77, sentAt := 10, waiting := true } 100010
       let t := (timeFrame s 17 (frame 5 (timeFrom 2 3 77)) []).1
       (edgeGet t false).waiting = true ∧ (edgeGet t false).sentAt + 100000 ≤ t.clock
       ∧ edgeOf s 17 = some false ∧ (edgeGet s false).waiting = true ∧ (edgeGet s false).sentAt + 100000 ≤ s.clock)
    ∧ (let s := timed 2 { valid := 5 } 3000005
       droneState s = 2 ∧ (edgeGet s (droneSwapped s)).valid + 3000000 ≤ s.clock ∧ (edgeGet s (!droneSwapped s)).valid = 0)
    ∧ (let s := { timed 3 {} 1000000001 with drone := { holdSince := 0 } }
       droneState s = 3 ∧ s.drone.holdSince + 1000000000 < s.clock)
    ∧ (let s := regPut (timed 3 {} 100000000) regDroneCtrl 31 30 2
       droneRole s = 2 ∧ droneState s ≠ 0 ∧ droneState s ≠ 4 ∧ s.drone.parent.valid + 100000000 ≤ s.clock
       ∧ s.drone.backup.valid + 100000000 ≤ s.clock) := by
  decide +kernel

end Sys2Proof.Tests
end

