-- ==== Sys2Proof/Tests/Slice0.lean ====
section
/-! SUPPORT. The tests: the checks of WellFormed refuse ill-formed commands, slot words spell the fields that the manual's encodings give
them, the manual's worked examples come out as it says, and single steps do what their rules say.  Expected values are the manual's or
computed by hand from its rules; each test names its source. -/

set_option Elab.async false

namespace Sys2Proof.Tests

open Sys2Proof.Machine Sys2Proof.Safety

/-! ### WellFormed -/

/-- Fields of zero. -/
def memZero : MemFields := ⟨0, false, 0, 0, 0, 0⟩
def vecZero : VecFields := ⟨0, false, 0, 0, 0, 0, 0, 0, false, 0, 0⟩

/-- One ill-formed command for each check. -/
theorem test_wf_refuses : [
    Instr.add 0 .s1 ⟨0, false, 0, 0, 0, BitVec.ofNat 36 (2 ^ 20)⟩, .add 0 .l0 ⟨0, false, 0, 0, 0, 0⟩, .movlo 0 .s1 ⟨0, false, 0, 0, 0, 0⟩,
    .tkst 0 ⟨0, false, 0, 0, 0, BitVec.ofNat 36 (2 ^ 20)⟩, .wait 0xFFFF 0, .lds 0 .st memZero [], .lds 0 .l0 memZero [(0xFFFE, 0, 0, 0)],
    .lds 0 .l0 memZero [(0, 2, 0, 0)], .lds 0 .l0 memZero [(0, 0, 0, 2 ^ 80)], .vadd 0 .mx vecZero, .gbc 0 .s0 vecZero,
    .sramWordWriteback 0xFFFE 0, .globalLoadComplete 0 32, .channelRequest 256 0 0 1 0 0, .channelRequest 0 20 0 1 0 0,
    .channelRequest 0 0 5 1 0 0, .channelRequest 0 0 0 0 0 0, .channelRequest 0 0 0 65 0 0, .channelArbitration 256 0, .docketStart 256,
    .packetHeadArrival 30 0 0, .packetHeadArrival 0 (2 ^ 32) 0, .flitArrival 0 0 (2 ^ 1024), .outputAllocate 0 6, .stocktakeTimer 30,
    .fabStocktake true (2 ^ 30), .fabSnapshot (2 ^ 30), .ckLoss 18, .laneAlignmentDone 0 (List.replicate 9 0) [], .laneAlignmentDone 0 [] (List.replicate 9 0),
    .rungMeasureDone 0 0 (List.replicate 9 0), .sealedPacketCheck 0 6, .strumWaitExpiry 64, .patternApply (2 ^ 13), .imageBlockPull 0xFFFE [],
    .stepStart 16, .governorRaise 4, .hostCapWrite (2 ^ 16), .droopDetect 0 38 false, .adoptContext 16, .bar2Write 4 0 [], .resetContext .host 16,
    .contextReset 16, .diePartitionReset 4, .stackPartitionReset 8 false, .stackControllerWatchdog 8, .tilePllLock 0xFFFE, .linkResetComplete 30,
    .chunkArrival { dst := 2 ^ 16 }, .chunkArrival { src := 2 ^ 16 }, .chunkArrival { srcCtx := 16 }, .chunkArrival { dstCtx := 16 },
    .chunkArrival { vc := 8 }, .chunkArrival { kind := 32 }, .chunkArrival { srcTag := 2 ^ 16 }, .chunkArrival { dstTile := 2 ^ 16 },
    .chunkArrival { channel := 256 }, .chunkArrival { status := 256 }, .chunkArrival { offset := 2 ^ 48 }, .chunkArrival { members := 2 ^ 64 },
    .chunkArrival { origin := 2 ^ 16 }, .chunkArrival { bytes := 2 ^ 13 }, .chunkArrival { payload := List.replicate 4097 0 }
  ].all (fun i => !i.wf) = true := by
  decide +kernel

/-- The same commands within their ranges. -/
theorem test_wf_accepts : [
    Instr.add 0 .s1 ⟨0, false, 0, 0, 0, BitVec.ofNat 36 (2 ^ 20 - 1)⟩, .movlo 0 .s0 ⟨0, false, 0, 0, 0, 0⟩, .wait 0xFFFE 0,
    .lds 0 .l1 memZero [(0xFFFD, 1, 7, 2 ^ 80 - 1)], .vadd 0 .v1 vecZero, .globalLoadComplete 0xFFFD 31, .channelRequest 255 19 4 64 0 0,
    .packetHeadArrival 29 (2 ^ 32 - 1) (2 ^ 1024 - 1), .ckLoss 17, .stepStart 15, .chunkArrival { payload := List.replicate 4096 0 }
  ].all Instr.wf = true := by
  decide +kernel

/-! ### Slot words (04 R115, R118, R123, R125, R132, R137, R140) -/

/-- The manual's MMA: 0x0100_A858_CD30_D000 (04, "Example — encoding an expert multiply"). -/
theorem test_word_mma :
    slotOp .mx 0x0100A858CD30D000 = 0x01 ∧ decodeMx 0x0100A858CD30D000 = ⟨0, false, false, 5, 2, 5, 4, 6, 6, true, 12, 13, 0, 0⟩
    ∧ encodeMx 0x01 ⟨0, false, false, 5, 2, 5, 4, 6, 6, true, 12, 13, 0, 0⟩ = 0x0100A858CD30D000 := by
  decide +kernel

/-- ADD rd 31, rs1 1, rs2 2 under p3 in S0 by Table 04-2: op 63:56, gp 55:52, gn 51, rd 50:46, rs1 45:41, rs2 40:36. -/
theorem test_word_add : decodeScalar .s0 (0x01 * 2 ^ 56 + 3 * 2 ^ 52 + 31 * 2 ^ 46 + 1 * 2 ^ 41 + 2 * 2 ^ 36) = ⟨3, false, 31, 1, 2, 0⟩
    ∧ slotOp .s0 (0x01 * 2 ^ 56) = 0x01 := by
  decide +kernel

/-- LDS s7 from s3 + 8 in L0 by Table 04-5: op 47:40, reg 34:29, base 28:24, off 23:4. -/
theorem test_word_lds : decodeMem (0x01 * 2 ^ 40 + 7 * 2 ^ 29 + 3 * 2 ^ 24 + 8 * 2 ^ 4) = ⟨0, false, 7, 3, 8, 0⟩ := by decide +kernel

/-- The STRUM descriptor 0x1462_0704_0000_4100 (04, "Example — a layer-norm statistic by strum"). -/
theorem test_strum_descriptor :
    let d : Word := 0x1462070400004100
    sdGroup d = 5 ∧ sdTicket d = 3 ∧ sdOp d = 1 ∧ sdFmt d = 0 ∧ sdLen d = 64 ∧ sdSrc d = 0x4000 ∧ sdDst d = 0x4100 := by
  decide +kernel

/-! ### Numbers (02) -/

/-- CRC-32C of "123456789" (00 R463). -/
theorem test_crc32c : crc32c ((rangeFrom 0x31 9).map (BitVec.ofNat 8)) = 0xE3069283 := by decide +kernel

/-- The containers of packages 17 and 40 (02, "A worked reduction"). -/
def sum17 : LongSum :=
  ([(0x7, 0x6), (0xB, 0x4), (0x1, 0xF), (0x5, 0x3)].foldl
    (fun x e => lsPlaceProduct x (decodeNum .fp4 e.1) (decodeNum .fp4 e.2) (some 0x7C) (some 0x80)) (lsZero 0))
def sum40 : LongSum := { lsZero 0 with g := 2 ^ 108 - 24 * 2 ^ 40 }

theorem test_worked_reduction :
    lsContainer sum17 = 0x0001B000000000000000 * 2 ^ 48 + 0x2D0000000000 ∧ residue63 sum40.g = 58 ∧ lsPredictedResidue sum17 sum40 = 21
    ∧ lsAdd sum17 sum40 = { lsZero 0 with g := 21 * 2 ^ 40 } := by
  decide +kernel

/-- The total converted: BF16 0x4028, E4M3 0x42 to nearest and toward zero, and by the draw below or at 0x8000_0000. -/
theorem test_worked_conversion :
    let t := lsAdd sum17 sum40
    (lsConvert .bf16 .nearest 0 false t).1 = 0x4028 ∧ (lsConvert .e4m3 .nearest 0 false t).1 = 0x42 ∧ (lsConvert .e4m3 .zero 0 false t).1 = 0x42
    ∧ (lsConvert .e4m3 .stochastic 0x7FFFFFFF false t).1 = 0x43 ∧ (lsConvert .e4m3 .stochastic 0x80000000 false t).1 = 0x42 := by
  decide +kernel

/-- FP32 sums in two orders (02 R67's example). -/
theorem test_fp32_order :
    let add := fun (a b : Nat) => roundTo .fp32 .nearest (numSum [decodeNum .fp32 a, decodeNum .fp32 b])
    add (add 0x4B800000 0x3F800000) 0x3F800000 = 0x4B800000 ∧ add (add 0x3F800000 0x3F800000) 0x4B800000 = 0x4B800001 := by
  decide +kernel

/-! ### Memory, channels and stored data (05, 07) -/

/-- Offset 0x0012_3456_7800 under the four interleave modes (05 Table 05-3). -/
theorem test_interleave :
    (List.range 4).map (fun m => decodeOffset ((List.range 8).foldl (fun a n => regPut a (regStkMap n) 3 0 m) served) 0x001234567800)
      = [some (3, 24, 0x12345600), some (1, 24, 0x48D15900), some (1, 24, 0x01A2B300), some (1, 0, 0x34567800)] := by
  decide +kernel

/-- The lottery draw of 05's example: r = 180 < 192, so context 2 wins. -/
theorem test_lottery : walkTickets [(2, 192), (9, 64)] (0x5A3C1E07 * 256 / 2 ^ 31) = some 2 ∧ 0x5A3C1E07 * 256 / 2 ^ 31 = 180 := by
  decide +kernel

/-- Pin 13 wrong in beats 2, 5 and 11, then also in beat 7 (07, "Example — a failing pin"). -/
theorem test_failing_pin :
    (let d := lineDecode (2 ^ (8 * 9 + 5) + 2 ^ (8 * 21 + 5) + 2 ^ (8 * 45 + 5))
     d.kind = .pinColumn ∧ d.residual = 0 ∧ d.rows = [2, 5, 11] ∧ d.cols = [13])
    ∧ (let d := lineDecode (2 ^ (8 * 9 + 5) + 2 ^ (8 * 21 + 5) + 2 ^ (8 * 29 + 5) + 2 ^ (8 * 45 + 5))
       d.kind = .uncorrectable ∧ d.rows = [2, 5, 7, 11] ∧ d.cols = []) := by
  decide +kernel

/-- A host write of two bytes across a line boundary reads back, and a byte beside it stays (15 R389). -/
theorem test_bar2_write :
    let t := after (.bar2Write 1 63 [0xAA, 0xBB]) (regSet hosted (regHstBar2Map 1) (BitVec.ofNat 64 (2 ^ 63)))
    memRead t 62 4 = [0, 0xAA, 0xBB, 0] := by
  decide +kernel

/-! ### Bundles (03, 04) -/

/-- ADD's result waits one cycle in the pipe, and the bundle's commit moves the pc (03 R83, R87; 04 R120). -/
theorem test_add_commits :
    let w := encodeScalar .s0 0x01 ⟨0, false, 5, 1, 2, 0⟩
    let s := tileSet (issuing (BitVec.ofNat 512 (w * 2 ^ 448)) [0]) 0 { scal := [(1, (0xFFFFFFFFFFFFFFFF, false)), (2, (3, true))] }
    let t := after (.add 0 .s0 ⟨0, false, 5, 1, 2, 0⟩) s
    (tileGet t 0).pipe = [⟨1, 0, 0, .scalar 5 2 true⟩] ∧ (gangGet t 0).pc = 1 ∧ (gangGet t 0).opened = false := by
  decide +kernel

/-- BZ on a poisoned source raises 0x0B and halts every member (04 R119, 03 R104). -/
theorem test_branch_poison :
    let f : ScalarFields := ⟨0, false, 0, 1, 0, 9⟩
    let s := tileSet (issuing (BitVec.ofNat 512 (encodeScalar .s0 0x41 f * 2 ^ 448)) [0]) 1 { scal := [(1, (0, true))] }
    let t := after (.bz 0 f) s
    (gangGet t 0).phase = .halted ∧ (tileGet t 0).tstate = .halted ∧ fieldOf (tileGet t 1).exc 57 52 = 0x0B ∧ fieldOf (tileGet t 0).exc 47 44 = 1 := by
  decide +kernel

/-- A bundle fetched at 1,536 raises 0x05 (03 R94). -/
theorem test_fetch_range : fieldOf (tileGet (after (.bundleFetch 0 []) (gangSet (withPattern somePattern) 0 { phase := .running, pc := 1536 })) 1).exc 57 52 = 5 := by
  decide +kernel

/-- A vector lane sum wraps modulo 2^32 (04 R127). -/
theorem test_viadd_wraps :
    let f : VecFields := ⟨0, false, 3, 1, 2, 0, 0, 0, false, 0, 0⟩
    let s := tileSet (issuing (BitVec.ofNat 512 (encodeVec 0x10 f * 2 ^ 192)) [5]) 0 { vec := [(1, (0xFFFFFFFF, 0)), (2, (0x200000002, 2))] }
    (tileGet (after (.viadd 0 .v0 f) s) 0).pipe = [⟨2, 0, 5, .vec 3 0x200000001 2⟩] := by
  decide +kernel

/-- MMA on FP32: one product reaches entry 0 of the row 12 cycles later (02 R66, 04 R133). -/
theorem test_mma_fp32 :
    let f : MxFields := ⟨0, false, false, 0, 0, 0, 1, 0, 0, false, 0, 0, 0, 0⟩
    let s := tileSet (issuing (BitVec.ofNat 512 (encodeMx 0x02 f * 2 ^ 64)) [7]) 0
      { stage := [(0, (0x40000000, 0)), (8, (0x40400000, 0))] }
    ((tileGet (after (.mmaz 0 f) s) 0).pipe.map fun p => (p.due, match p.res with | .row i r => (i, r.mode, r.entries.head?) | _ => (99, .empty, none)))
      = [(12, 0, RowMode.fp32, some 0x40C00000)] := by
  decide +kernel

/-! ### The rack, the plan and the Steward -/

/-- The exchange of 11's example: θ = 7 ns, FAB_DRONE_OFFSET.theta 0x700, FAB_DRONE_RATE −528. -/
theorem test_drone_example :
    let t1 := 9200000000000 * 2 ^ 16
    let s := timed 2 { seq := 0, t1 := t1, sentAt := 10, waiting := true } 20
    let bs := bytesOf 2 1 ++ [2, 0] ++ zeros 4 ++ stampNs (t1 + 2051 * 2 ^ 16) ++ zeros 4 ++ stampNs (t1 + 51 * 2 ^ 16) ++ zeros 4
      ++ stampNs t1 ++ zeros 88
    let t := validExchange s false bs (t1 + 2116 * 2 ^ 16)
    regField t regDroneOffset 63 32 = 0x700 ∧ regField t regDroneOffset 31 0 = 58 * 256 ∧ regGet t regDroneRate = 0xFFFFFFFFFFFFFDF0 := by
  decide +kernel

/-- One bad tile at row 6 of column 17 of die 2: logical tile 1,489 resolves to physical row 11 (13's example). -/
theorem test_column_shift :
    let s := { served with bring := { mend := ⟨1, [⟨2, 6, 17, 1, 1, 1⟩]⟩ } }
    1489 = 2 * 576 + 10 * 32 + 17 ∧ at' 0 (workingRows s 2 17) 10 = 11 ∧ (workingRows s 2 17).length = 18 := by
  decide +kernel

/-- The host's cap is clamped to 1,200 W from below (14 R360), and a tray hold brings every die to the floor point (14 R373). -/
theorem test_host_cap_clamped : regField (after (.hostCapWrite 7) hosted) regPwrCapHost 15 0 = 1200 := by decide +kernel
theorem test_tray_hold_floor : (dieGet (after .trayHold served) 2).point = 5 ∧ (stackGet (after .trayHold served) 7).engine = 2 := by decide +kernel

/-- A heartbeat renews the lease for 500 ms, and at its end the contexts are orphaned (15 R391, R392). -/
theorem test_lease :
    let s := after (.heartbeat 0) { hosted with plan := { pattern := some somePattern } }
    s.host.leaseEnd = 500000000
    ∧ (after .driverLeaseExpiry { s with clock := 500000000 }).host.lease = .orphan
    ∧ (after .driverLeaseExpiry { s with clock := 500000000 }).host.orphaned = [0] := by
  decide +kernel

/-- A stranger's frame counts and nothing answers it (15 R396). -/
theorem test_stranger : regGet (after .strangerFrame served) regStranger = 1 ∧ (after .strangerFrame served).outbox = [] := by decide +kernel

/-- A step: the command at the front runs, the rest waits. -/
theorem test_step_queue :
    (match step { served with pending := [.beaconLoss, .strangerFrame] } with
      | .next t => decide (t.pending = [.strangerFrame] ∧ t.mgmt.csma = true)
      | _ => false) = true := by
  decide +kernel

end Sys2Proof.Tests
end

