-- ==== Sys2Proof/Tests/WitnessCore.lean ====
section
/-! SUPPORT. Concrete states and operands that meet the hypotheses of the statements about the queue, the bundle, the numbers, the
registers and the frames, clause by clause. -/

set_option Elab.async false

namespace Sys2Proof.Tests

open Sys2Proof.Machine Sys2Proof.Safety

/-- EmptyQueueIsATick: without the always-on supply, with it, and with PWR_ALERT_N to be released. -/
theorem witness_EmptyQueueIsATick :
    (State.reset.pending = [] ∧ State.reset.pins.aux = false) ∧ (hosted.pending = [] ∧ hosted.pins.aux = true)
    ∧ (let s := { hosted with power := { alertPin := true, alert := false, alertClear := 5 }, clock := 999997 }
       s.pins.aux = true ∧ s.power.alertPin = true ∧ s.power.alert = false ∧ s.power.alertClear + 1000000 ≤ s.clock + 8) := by
  decide +kernel

/-- EveryStepKeepsCanonical: a canonical state with tables in it, and a step that it takes. -/
theorem witness_EveryStepKeepsCanonical : Canonical hosted ∧ step hosted = .next { hosted with
    clock := 8, drone := { hosted.drone with count := 8 * 2 ^ 24 } } := by
  exact ⟨by constructor <;> decide +kernel, by rfl⟩

/-- SlotEncodingsRoundTrip: an S1 immediate at the top of its range. -/
theorem witness_SlotEncodingsRoundTrip :
    let f : ScalarFields := ⟨15, true, 31, 31, 31, BitVec.ofNat 36 (2 ^ 20 - 1)⟩
    (Slot.s1 = .s0 ∨ Slot.s1 = .s1 ∧ f.imm.toNat < 2 ^ 20) ∧ 255 < 256 ∧ decodeScalar .s1 (encodeScalar .s1 255 f) = f := by
  decide +kernel

/-- SlotOutcomesAreCollected: a bundle with slots left beside the one that executes, and one at its last slot. -/
theorem witness_SlotOutcomesAreCollected :
    ((gangGet (holding .sy 0) 0).opened = true ∧ ∃ k ∈ (gangGet (holding .sy 0) 0).left, k ≠ slotCode .sy)
    ∧ (gangGet (issuing 1 [9]) 0).opened = true ∧ ∀ k ∈ (gangGet (issuing 1 [9]) 0).left, k = slotCode .sy := by
  decide +kernel

/-- A branch's fields under guard p0 and under the complement of p0. -/
def always : ScalarFields := ⟨0, false, 0, 0, 0, 5⟩
def never : ScalarFields := ⟨0, true, 0, 0, 0, 5⟩

/-- Tile 1 holds 1 in r3. -/
def split : State := tileSet (holding .s0 0) 1 { scal := [(3, (1, false))] }

/-- TakenBranchAndDivergence: every member agrees, none holds, and member 1 differs from member 0. -/
theorem witness_TakenBranchAndDivergence :
    (∃ k ∈ (gangGet split 0).left, k ≠ 0) ∧ gangMembers split 0 = [(0, 0), (1, 1)]
    ∧ (∀ m ∈ gangMembers split 0, guardTrue (tileGet split m.2) always.gp always.gn = true)
    ∧ (∀ m ∈ gangMembers split 0, ¬guardTrue (tileGet split m.2) never.gp never.gn = true)
    ∧ (let holds := fun (m : Nat × Nat) => (sReg (tileGet split m.2) 3).1 == 0
       holds (1, 1) = false ∧ holds (0, 0) = true ∧ ∀ m ∈ gangMembers split 0, m.1 < 1 → holds m = holds (0, 0)) := by
  decide +kernel

/-- BundleCommitsOrRaises: a bundle with results and a wait and no exception; one with two exceptions; a worst exception. -/
theorem witness_BundleCommitsOrRaises :
    (let G : Gang := { (gangGet (issuing 1 []) 0) with buf := [(0, 0, .result 1 (.scalar 3 7 false)), (1, 9, .wait 2)] }
     (∀ e ∈ (gangGet (gangSet (issuing 1 []) 0 G) 0).buf, (∃ lat r, e.2.2 = .result lat r) ∨ ∃ m, e.2.2 = .wait m)
     ∧ (gangGet (gangSet (issuing 1 []) 0 G) 0).exc = [])
    ∧ (let G : Gang := { (gangGet (issuing 1 []) 0) with exc := [⟨5, 0, 1, 0⟩, ⟨0, 1, 9, 0⟩, ⟨0, 0, 8, 0⟩] }
       let s := gangSet (issuing 1 []) 0 G
       Canonical s ∧ worstExc ((gangGet s 0).exc ++ clashExc (gangGet s 0).buf) = some ⟨0, 0, 8, 0⟩) := by
  refine ⟨⟨?_, by decide +kernel⟩, by constructor <;> decide +kernel, by decide +kernel⟩
  intro e he
  have h : e ∈ [((0 : Nat), (0 : Nat), Eff.result 1 (.scalar 3 7 false)), (1, 9, .wait 2)] := he
  have h : e = (0, 0, .result 1 (.scalar 3 7 false)) ∨ e = (1, 9, .wait 2) := by simpa using h
  obtain rfl | rfl := h
  · exact .inl ⟨_, _, rfl⟩
  · exact .inr ⟨_, rfl⟩

/-- Gang 0 waits for ticket 3; tile 1's ticket 3 has the given status. -/
def waiting (status : Nat) : State :=
  tileSet (gangSet (withPattern somePattern) 0 { phase := .running, waits := [(0, 8), (1, 8)] }) 1 { tick := [(3, status)] }

/-- TicketWaitEnds: no named slot pending, one pending, and a tile whose tickets rise. -/
theorem witness_TicketWaitEnds :
    ((gangGet (waiting 2) 0).waits ≠ [] ∧ ∀ w ∈ (gangGet (waiting 2) 0).waits, ∀ t ∈ gangTiles (waiting 2) 0,
      ¬∃ k < 32, w.2.testBit k = true ∧ mapGet 0 (tileGet (waiting 2) t).tick k = 1)
    ∧ ((gangGet (waiting 1) 0).waits ≠ [] ∧ ∃ w ∈ (gangGet (waiting 1) 0).waits, ∃ t ∈ gangTiles (waiting 1) 0,
      ∃ k < 32, w.2.testBit k = true ∧ mapGet 0 (tileGet (waiting 1) t).tick k = 1)
    ∧ Canonical (waiting 1) ∧ mapRising (tileGet (waiting 1) 1).tick = true := by
  exact ⟨by decide +kernel, by decide +kernel, by constructor <;> decide +kernel, by decide +kernel⟩

/-- BundleSlotFrame: an ADD in S0 of a bundle with slots left. -/
theorem witness_BundleSlotFrame :
    let w := encodeScalar .s0 1 ⟨0, false, 1, 2, 3, 0⟩
    Canonical (holding .s0 w) ∧ (Instr.add 0 .s0 ⟨0, false, 1, 2, 3, 0⟩).slotOf = some (0, .s0)
    ∧ (∃ k ∈ (gangGet (holding .s0 w) 0).left, k ≠ slotCode .s0)
    ∧ goes (.add 0 .s0 ⟨0, false, 1, 2, 3, 0⟩) (holding .s0 w) = true := by
  exact ⟨by constructor <;> decide +kernel, by decide, by decide +kernel, by decide +kernel⟩

/-- LongSumsAreOrderIndependent: a first sum at the top of its range, and sums in two orders. -/
theorem witness_LongSumsAreOrderIndependent :
    let x : LongSum := { lsZero 0 with g := 2 ^ 108 - 1 }
    x.g < 2 ^ 108 ∧ List.Perm [lsZero 0, lsZero 1] [lsZero 1, lsZero 0] := by
  exact ⟨by decide +kernel, .swap _ _ _⟩

/-- ResidueArithmetic: sums at both ends of their ranges, a container whose residue reads 63, and one that passes. -/
theorem witness_ResidueArithmetic :
    (let x : LongSum := { lsZero (-256) with g := 2 ^ 108 - 1 }
     x.g < 2 ^ 108 ∧ -256 ≤ x.anchor ∧ x.anchor < 256)
    ∧ (let y : LongSum := { lsZero 255 with g := 0 }
       y.g < 2 ^ 108 ∧ -256 ≤ y.anchor ∧ y.anchor < 256)
    ∧ bitsOf (63 * 2 ^ 108) 113 108 = 63 ∧ lsResidueOk (lsContainer (lsZero 3)) = true ∧ 113 < 114 := by
  decide +kernel

/-- RoundingIsExact: a value that decodes to a number, a code that is a NaN, and a format without NaN. -/
theorem witness_RoundingIsExact :
    (0x3F800000 < 2 ^ Fmt.fp32.width ∧ decodeNum .fp32 0x3F800000 ≠ .nan)
    ∧ decodeNum .e5m2 (encodeNum .e5m2 .nearest 0 false .nan).1 = .nan ∧ Fmt.fp4.canonNaN = none := by
  decide +kernel

/-- A set of three members, and an all-reduce of 640 elements over it. -/
def someSet : SetRec := ⟨0, 0, 2, 1, 100, 1000, 0, [(0, 0), (1, 0), (2, 0)], [[0, 1, 2]]⟩

/-- ShardsCoverTheVector: a reducing collective over a set of three, and a count that 64 divides. -/
theorem witness_ShardsCoverTheVector :
    let d : List Word := [1 * 2 ^ 56, 0, 0, 640 * 2 ^ 32, 0, 0, 0, 0]
    cReduces d = true ∧ someSet.members ≠ [] ∧ 64 ∣ cCount d := by
  decide +kernel

/-- Input 19 holds a one-flit worm on VC 0 that asks for output 20. -/
def oneWorm : State := inSet served 19 0 { worms := [⟨5, {}, [⟨20, none, false, 0, false⟩], [(⟨ctrlWord 3 0 false false false 5 0, 0⟩, false)],
  0, true, false, false, 0, false, false⟩] }

/-- LinkTagsCountPackets: a free output with an asker, and a flit that it sends once it is held, with its tag at the wrap. -/
theorem witness_LinkTagsCountPackets :
    let s := outSet oneWorm 20 0 { tag := 4095 }
    Canonical s ∧ 20 < 30 ∧ 0 < 6 ∧ (outGet s 20 0).owner = none ∧ 19 ∈ askers s 20 0
    ∧ (sendFlit (after (.outputAllocate 20 0) s) 20 0).isSome = true := by
  exact ⟨by constructor <;> decide +kernel, by decide +kernel⟩

/-- A hosted package with segment 1 of BAR2 enabled at 0. -/
def mapped : State := regSet hosted (regHstBar2Map 1) (BitVec.ofNat 64 (2 ^ 63))

/-- HostWritesReadBack: the last bytes below the Steward reserve. -/
theorem witness_HostWritesReadBack :
    let s := regSet mapped (regHstBar2Map 1) (BitVec.ofNat 64 (2 ^ 63 + reserveBase mapped / 2 ^ 30 * 2 ^ 30))
    let off := reserveBase mapped % 2 ^ 30 - 2
    Canonical s ∧ windowClosed s = false ∧ s.host.accepted = true ∧ regField s (regHstBar2Map (1 % 4)) 63 63 = 1
    ∧ bar2Target s 1 off + [1#8, 2#8].length = reserveBase s
    ∧ ∀ l ∈ linesOf (bar2Target s 1 off) 2, mapGet 0 s.lineErr l = 0 := by
  exact ⟨by constructor <;> decide +kernel, by decide +kernel⟩

/-- RegisterWritesFollowTheirRow: a register that takes any write, reached through the window, and one locked by a Pattern. -/
theorem witness_RegisterWritesFollowTheirRow :
    (Canonical hosted ∧ regHstWindow < 0x300000 ∧ hosted.plan.pattern.isSome = false
      ∧ regAction hosted regHstWindow 0xF77 = none ∧ keyIn regHstWindow (regStkMap 0) 0x10000 8 = false ∧ regHstWindow ≠ regDroneCtrl
      ∧ HostOpen hosted ∧ bar0Offset regHstWindow ≠ regHeartbeat ∧ bar0Key hosted (bar0Offset regHstWindow) = some regHstWindow)
    ∧ (let s := { hosted with plan := { pattern := some somePattern } }
       Canonical s ∧ regFabCtrl < 0x300000 ∧ s.plan.pattern.isSome = true ∧ (regRow regFabCtrl).any (·.lk) = true
       ∧ HostOpen s ∧ bar0Offset regFabCtrl ≠ regHeartbeat ∧ bar0Key s (bar0Offset regFabCtrl) = some regFabCtrl) := by
  unfold HostOpen
  exact ⟨⟨by constructor <;> decide +kernel, by decide +kernel⟩, by constructor <;> decide +kernel, by decide +kernel⟩

/-- RequestsTurnedAway: a closed window, an absent service core, a stranger's write warned of and not, and requests of each kind. -/
theorem witness_RequestsTurnedAway :
    bar0Key hosted regHstWindow = some regHstWindow
    ∧ windowClosed { hosted with pins := { hosted.pins with perst := true } } = true
    ∧ (let s := regPut served regHstSteward 63 62 3
       windowClosed s = false ∧ stewardRuns s = false ∧ keyMsix regHstWindow = false ∧ regHstWindow ≠ regHeartbeat)
    ∧ (windowClosed served = false ∧ stewardRuns served = true ∧ served.host.accepted = false ∧ keyExempt regFabCtrl = false
      ∧ bar0Key served (bar0Offset regFabCtrl) = some regFabCtrl ∧ regFabCtrl ∉ served.book.warned)
    ∧ (let s := { served with book := { served.book with warned := [regFabCtrl] } }
       windowClosed s = false ∧ stewardRuns s = true ∧ s.host.accepted = false ∧ regFabCtrl ∈ s.book.warned)
    ∧ (stewardRuns (talking .tray) = true ∧ sessionFind (talking .tray) 4 = none)
    ∧ (sessionFind (talking .tray) 5 = some ⟨5, .tray, false, 0⟩ ∧ roleMay 0x30 .tray = false)
    ∧ (let s := { served with mgmt := { sessions := [⟨5, .tray, false, 0⟩] } }
       sessionFind s 5 = some ⟨5, .tray, false, 0⟩ ∧ variantOn s = false ∧ barePermits 0x10 = false) := by
  decide +kernel

/-- A served package with one site at a protective reading. -/
def heated (sixteenths : Int) : State := { served with power := { served.power with sites := [(3, { protect := sixteenths })] } }

/-- FloorStateIsForced: no alert, no hold, a site at 115, one at 120, and a report of zero flow. -/
theorem witness_FloorStateIsForced :
    Canonical served ∧ served.power.alert = false ∧ served.power.hold = false
    ∧ (∃ e ∈ (heated (115 * 16)).power.sites, 115 * 16 ≤ e.2.protect)
    ∧ (∃ e ∈ (heated (120 * 16)).power.sites, 120 * 16 ≤ e.2.protect) ∧ (heated (120 * 16)).power.trip = false
    ∧ Canonical (heated (120 * 16)) ∧ Canonical (talking .tray) ∧ Asks (talking .tray) (ask [0, 0, 0, 0, 0, 0, 1, 0]) 0x13
    ∧ (let b : List Byte := [0, 0, 0, 0, 0, 0, 1, 0]
       b.length = 8 ∧ numAt b 4 2 = 0 ∧ numAt b 6 2 ≤ 3 ∧ numAt b 6 2 % 2 = 1) := by
  refine ⟨by constructor <;> decide +kernel, by decide +kernel, by decide +kernel, by decide +kernel, by decide +kernel,
    by decide +kernel, by constructor <;> decide +kernel, by constructor <;> decide +kernel,
    ⟨by decide +kernel, by decide, ⟨5, .tray, false, 0⟩, by decide +kernel⟩, by decide +kernel⟩

/-- CommandsLeaveTheRest: a command that answers a next state. -/
theorem witness_CommandsLeaveTheRest : goes .thermalTrip (heated (120 * 16)) = true := by decide +kernel

end Sys2Proof.Tests
end

