-- ==== Sys2Proof/Tests/WitnessSlots.lean ====
section
/-! SUPPORT. Concrete states and operands that meet the hypotheses of the statements about the slots of a bundle and the events of gangs,
tiles and tickets. -/

set_option Elab.async false

namespace Sys2Proof.Tests

open Sys2Proof.Machine Sys2Proof.Safety

/-- Words that a slot holds in turn: one state for each. -/
def heldAll (sls : List Slot) (ws : List Nat) : Prop := ∀ sl ∈ sls, ∀ w ∈ ws, SlotHolds (holding sl w) 0 sl w

/-- Fields of a scalar slot with an immediate at the top of S1's range. -/
def scalarTop : ScalarFields := ⟨15, true, 31, 30, 29, BitVec.ofNat 36 (2 ^ 20 - 1)⟩

theorem witness_ScalarRegisterFormCompletes :
    scalarTop.imm.toNat < 2 ^ 20
    ∧ heldAll [.s0] ((rangeFrom 1 13).map fun o => encodeScalar .s0 o scalarTop)
    ∧ heldAll [.s1] ((rangeFrom 1 13).map fun o => encodeScalar .s1 o scalarTop) := by
  unfold heldAll SlotHolds; decide +kernel

theorem witness_ScalarImmediateFormCompletes :
    heldAll [.s0] ((rangeFrom 0x10 7 ++ [0x18, 0x19]).map fun o => encodeScalar .s0 o scalarTop)
    ∧ heldAll [.s1] ((rangeFrom 0x10 7).map fun o => encodeScalar .s1 o scalarTop) := by
  unfold heldAll SlotHolds; decide +kernel

theorem witness_ScalarPredicateFormCompletes :
    heldAll [.s0] ((rangeFrom 0x20 12).map fun o => encodeScalar .s0 o scalarTop)
    ∧ heldAll [.s1] ((rangeFrom 0x20 12 ++ [0x30, 0x31]).map fun o => encodeScalar .s1 o scalarTop) := by
  unfold heldAll SlotHolds; decide +kernel

theorem witness_BranchesComplete :
    heldAll [.s0] ((rangeFrom 0x40 6 ++ [0x4F]).map fun o => encodeScalar .s0 o scalarTop) := by
  unfold heldAll SlotHolds; decide +kernel

/-- Fields of a load or store at the top of their ranges. -/
def memTop : MemFields := ⟨15, true, 63, 31, BitVec.ofNat 20 (2 ^ 20 - 1), 15⟩

theorem witness_LoadsAndStoresComplete :
    heldAll [.l0, .l1] ((rangeFrom 1 4).map fun o => encodeMem o memTop) ∧ heldAll [.st] ((rangeFrom 1 2).map fun o => encodeMem o memTop) := by
  unfold heldAll SlotHolds; decide +kernel

/-- Fields of a vector slot at the top of their ranges. -/
def vecTop : VecFields := ⟨15, true, 63, 63, 63, 63, 15, 3, true, 15, 0xFFFF⟩

theorem witness_VectorFloatCompletes : heldAll [.v0, .v1] ((rangeFrom 1 13).map fun o => encodeVec o vecTop) := by
  unfold heldAll SlotHolds; decide +kernel

theorem witness_VectorLaneOperationsComplete : heldAll [.v0, .v1] ((rangeFrom 0x10 11).map fun o => encodeVec o vecTop) := by
  unfold heldAll SlotHolds; decide +kernel

/-- FP32 to BF16 of the second half; FP32 to a long sum with an anchor; FP32 to FP4 blocks under stochastic rounding. -/
def cvtNarrow : VecFields := ⟨0, false, 1, 2, 0, 31, 0, 2, true, 1, 0⟩
def cvtSum : VecFields := ⟨0, false, 1, 2, 0, 0, 0, 0, false, 8, BitVec.ofNat 16 (2 ^ 13 - 16 + 3)⟩
def cvtBlock : VecFields := ⟨0, false, 1, 2, 3, 31, 0, 2, false, 6, 0⟩

theorem witness_ConversionsComplete :
    heldAll [.v0, .v1] [encodeVec 0x20 cvtNarrow, encodeVec 0x20 cvtSum, encodeVec 0x21 cvtBlock, encodeVec 0x22 cvtNarrow,
      encodeVec 0x22 { cvtSum with imm := BitVec.ofNat 16 (2 ^ 13 - 16 + 3) }]
    ∧ (∀ f ∈ [cvtNarrow, cvtSum], f.vb = 0 ∧ f.imm.toNat < 2 ^ 13 ∧ (fmtOf f.fmt2 = .longSum ∨ f.imm.toNat < 16)
      ∧ convFormat f.fmt = true ∧ convFormat f.fmt2 = true ∧ f.rnd ≠ 3
      ∧ baseOk f (!(fmtOf f.fmt == .longSum && fmtOf f.fmt2 == .longSum)) = true
      ∧ vcvtCount (fmtOf f.fmt) (fmtOf f.fmt2) * (f.imm.toNat % 16 + 1) ≤ vecCapacity (fmtOf f.fmt).width)
    ∧ (let f := cvtBlock
       f.imm = 0 ∧ f.vd ≠ f.vb ∧ f.fmt = 0 ∧ (fmtOfCode f.fmt2.toNat).isSome = true ∧ (fmtOf f.fmt2).isNarrowFloat = true
       ∧ f.rnd ≠ 3 ∧ baseOk f true = true)
    ∧ ∀ f ∈ [cvtNarrow, cvtSum], f.fmt = 0 ∧ baseOk f true = true
      ∧ if fmtOf f.fmt2 = .longSum then bitOf f.imm.toNat 2 = false ∧ bitOf f.imm.toNat 3 = false ∧ f.imm.toNat < 2 ^ 13 else f.imm = 0 := by
  unfold heldAll SlotHolds; decide +kernel

/-- A reduction of a format with an operation and rounding. -/
def reduce (fmt : BitVec 4) (rnd : BitVec 2) (imm : BitVec 16) : VecFields := ⟨0, false, 1, 2, 0, 0, fmt, rnd, false, 0, imm⟩

theorem witness_ReductionsAndGangVectorsComplete :
    heldAll [.v0, .v1] [encodeVec 0x28 (reduce 7 0 0x1FF0), encodeVec 0x28 (reduce 1 0 0), encodeVec 0x28 (reduce 8 0 0),
      encodeVec 0x28 (reduce 6 0 5), encodeVec 0x28 (reduce 0 0 1), encodeVec 0x30 (reduce 0 0 1), encodeVec 0x31 (reduce 8 1 0), encodeVec 0x31 (reduce 6 0 5)]
    ∧ ((fmtOf 7).isNarrow = true ∧ (0x1FF0 : Nat) % 8 = 0 ∧ bitOf 0x1FF0 3 = false ∧ 0x1FF0 < 2 ^ 13)
    ∧ fmtOfCode 1 = some .bf16 ∧ fmtOfCode 0 = some .fp32 ∧ fmtOfCode 8 = some .longSum
    ∧ (vredFormat 5 (fmtOfCode 6) = true ∧ vredFormat 1 (fmtOfCode 0) = true)
    ∧ 1 < (gangTiles (holding .v0 0) 0).length
    ∧ gredFormat 0 (fmtOfCode 8) = true ∧ gredFormat 5 (fmtOfCode 6) = true ∧ (1#2).toNat < 2 := by
  unfold heldAll SlotHolds; decide +kernel

/-- MMA on E4M3 by FP4 with a block scale, at the last A position that fits. -/
def mxNarrow : MxFields := ⟨0, false, true, 31, 7, 63, 7, 2, 6, true, 5, 4, 511, 0⟩
/-- MMA on FP6 by FP6 with k = 64. -/
def mxSix : MxFields := ⟨0, false, false, 0, 1, 60, 6, 4, 5, false, 0, 0, 256, 0⟩
/-- MMA on FP32, and MCLR of a whole bank. -/
def mxWide : MxFields := ⟨0, false, false, 0, 1, 0, 2, 0, 0, false, 0, 0, 0, 0⟩
def mxClear : MxFields := ⟨0, false, true, 0, 0, 31, 0, 0, 0, false, 0, 0, 0, 0⟩

theorem witness_MatrixSlotCompletes :
    heldAll [.mx] ([mxNarrow, mxSix, mxWide].flatMap (fun f => [encodeMx 1 f, encodeMx 2 f]) ++ [encodeMx 3 mxClear])
    ∧ ∀ e ∈ [(mxNarrow, Fmt.e4m3, Fmt.fp4, 32), (mxSix, .e3m2, .e2m3, 64), (mxWide, .fp32, .fp32, 4)],
      fmtOfCode e.1.fmta.toNat = some e.2.1 ∧ fmtOfCode e.1.fmtb.toNat = some e.2.2.1 ∧ mxShape (some e.2.1) (some e.2.2.1) = some e.2.2.2
      ∧ e.1.rsv = 0 ∧ (e.1.bs = true ∨ e.1.vsa = 0 ∧ e.1.vsb = 0) ∧ (e.1.bs = true → e.2.1.isNarrowFloat = true)
      ∧ 32 * e.1.asel.toNat + mxBytes e.2.1 e.2.2.2 ≤ 2048 ∧ (e.2.2.1.width = 6 ∧ e.2.2.2 = 64 → e.1.tb.toNat % 2 = 0) := by
  unfold heldAll SlotHolds; decide +kernel

/-- Fields of the DM slot. -/
def dmTop : DmFields := ⟨15, true, 31, 31, 30, 29, 0x7FFF⟩
def dmDesc : DmFields := ⟨0, false, 31, 31, 30, 0, 0⟩

theorem witness_DmMovesComplete :
    heldAll [.dm] ([1, 2, 3, 4, 6].map (fun o => encodeDm o dmTop) ++ [encodeDm 5 dmDesc]) ∧ dmDesc.rc = 0 ∧ dmDesc.aux = 0 := by
  unfold heldAll SlotHolds; decide +kernel

theorem witness_CollAndSyncSlotsComplete :
    (let f := { dmDesc with rb := 0 }
     heldAll [.dm] [encodeDm 7 f] ∧ f.rb = 0 ∧ f.rc = 0 ∧ f.aux = 0)
    ∧ heldAll [.sy] ((rangeFrom 1 4).map fun o => encodeSy o 0x7C0) := by
  unfold heldAll SlotHolds; decide +kernel

/-- Gang 0 runs at a pc with no bundle latched. -/
def fetching (pc : Nat) : State := gangSet (withPattern somePattern) 0 { phase := .running, pc := pc }

/-- A step of context 0 in which gang 0 has begun. -/
def someStep : StepRun := ⟨0, 7, 2000, 900000, 0, 5, 1, [(0, 0)], 0, 0, .running, 0, 0, false, none, true, false, 1, none⟩

/-- A package whose context 0 has one step, at a phase. -/
def stepping (s : State) (ph : StepPhase) : State := planSet s 0 { steps := [{ someStep with phase := ph }] }

theorem witness_GangEventsComplete :
    (∀ pc ∈ [0, 1535, 1536], (gangGet (fetching pc) 0).phase = .running ∧ (gangGet (fetching pc) 0).opened = false
      ∧ (gangGet (fetching pc) 0).waits = [] ∧ gangTiles (fetching pc) 0 ≠ [])
    ∧ fetchFault (fetching 1536) 0 1536 = some ⟨0xF, 0, 0x05, 0⟩ ∧ fetchFault (fetching 1535) 0 1535 = none
    ∧ (let s := tileSet (gangSet (withPattern somePattern) 0 { phase := .running, waits := [(0, 8), (1, 8)] }) 1 { tick := [(3, 2)] }
       (gangGet s 0).waits ≠ [] ∧ ∀ w ∈ (gangGet s 0).waits, ∀ t ∈ gangTiles s 0, ∀ k < 32, bitOf w.2 k = true → mapGet 0 (tileGet s t).tick k ≠ 1)
    ∧ (let s := gangSet (withPattern somePattern) 0 { phase := .draining }
       (gangGet s 0).phase = .draining ∧ gangPending s 0 = false)
    ∧ (let s := tileSet State.reset 3 { fix := [0, padWords + 12287] }
       0 ∈ (tileGet s 3).fix ∧ padWords + 12287 ∈ (tileGet s 3).fix)
    ∧ (let s := tileSet (gangSet (stepping (withPattern somePattern) .running) 0 { phase := .halted }) 0 { exc := BitVec.ofNat 64 (2 ^ 63 + 9 * 2 ^ 52) }
       stepIn s (gangCtx s 0) .running = some someStep ∧ (gangGet s 0).phase = .halted ∧ (gangExc s 0).2 ≠ 0) := by
  decide +kernel

/-- Tile 0 holds an operation in ticket slot 31. -/
def ticketed (op : DmOp) (x : Tile) : State := tileSet (withPattern somePattern) 0 { x with ops := [(31, op)], tick := [(31, 1)] }

theorem witness_TicketedTransfersComplete :
    (∀ op ∈ [DmOp.gld 4096 0 64 64 0, .gst 4096 0 64 1 0, .fill 4096 3 1 64 0],
      opOf (ticketed op {}) 0 31 = some op ∧ isLocal (ticketed op {}) 4096 = true ∧ isStrict (ticketed op {}) (ctxOfTile (ticketed op {}) 0) = false)
    ∧ (∀ op ∈ [DmOp.gld (2 ^ 48) 0 64 0 0, .fill (2 ^ 48) 3 1 0 3],
      opOf (ticketed op {}) 0 31 = some op ∧ isLocal (ticketed op {}) (2 ^ 48) = false)
    ∧ (let s := ticketed (.send 1 0 4 0 64 12 false) { tx := [⟨1, 0, 4, 1⟩] }
       opOf s 0 31 = some (.send 1 0 4 0 64 12 false) ∧ 0 < txCredits (tileGet s 0) 1 0 4 ∧ sendFirst (tileGet s 0) 1 0 4 12 = true) := by
  decide +kernel

end Sys2Proof.Tests
end

