-- ==== Sys2Proof/Tests/WitnessPlan.lean ====
section
/-! SUPPORT. Concrete states and operands that meet the hypotheses of the statements about Patterns, images, plans, steps and bring-up. -/

set_option Elab.async false

namespace Sys2Proof.Tests

open Sys2Proof.Machine Sys2Proof.Safety

/-- SHA-384 of the empty string (FIPS 180-4 test vector), as six 64-bit words in memory order and as one number. -/
def emptySha : List Nat := [0x3896AC51A760B038, 0x6AE3B1B17E32D94C, 0x4307BE1411B7FD21, 0xDAE1F663BFC70C4C, 0xFB656FE7BFDE4E27, 0x5BB99848F1D21AD5]
def emptyImage : ImageRec := ⟨0, 0, 0x5BB99848F1D21AD5FB656FE7BFDE4E27DAE1F663BFC70C4C4307BE1411B7FD216AE3B1B17E32D94C3896AC51A760B038, [], []⟩

/-- A package whose gang 0 takes an image of no blocks. -/
def imaged : State := { withPattern { somePattern with images := [emptyImage] } with
  plan := { pattern := some { somePattern with images := [emptyImage] }, imagesSent := true } }

/-- An image packet of an empty block with its digest. -/
def emptyBlock : Packet := { kind := 0x0A, ext := 0 :: emptySha.map (BitVec.ofNat 64) }

theorem witness_PatternAndImageCommandsComplete :
    HostOpen hosted
    ∧ ((withPattern somePattern).plan.pattern = some somePattern ∧ (withPattern somePattern).plan.imagesSent = false)
    ∧ (emptyBlock.kind = 0x0A ∧ emptyBlock.cut = false ∧ payloadPoisoned emptyBlock = false
      ∧ sha384 emptyBlock.payload = (List.range 6).flatMap fun w => bytesOf 8 (extWord emptyBlock (1 + w)))
    ∧ (imageOf imaged 1 = some (0, emptyImage) ∧ imaged.plan.imagesSent = true ∧ (tileGet imaged 1).loaded = false
      ∧ missingBlocks emptyImage (tileGet imaged 1) = [] ∧ ofBytes (sha384 (emptyImage.blocks.flatMap id)) = emptyImage.digest) := by
  unfold HostOpen; decide +kernel

/-- A package whose context 0 has one step, at a Drone time. -/
def planned (r : StepRun) (ns : Nat) : State :=
  let s := planSet { hosted with plan := { pattern := some somePattern } } 0 { steps := [r] }
  { s with drone := { s.drone with count := ns * 2 ^ 24 } }

theorem witness_StepEventsComplete :
    (let s := { hosted with clock := 2000 }
     isReady s = true ∧ stewardRuns s = true ∧ s.plan.scanned + 2000 ≤ s.clock)
    ∧ (let r := { someStep with phase := .accepted, woken := false }
       let s := planned r 0
       stepFind s 0 (fun r => !r.woken && effStart s r ≤ droneNs s + 1000 * r.wakeUs) = some r)
    ∧ (let r := { someStep with phase := .accepted }
       let s := planned r 2000
       stepIn s 0 .accepted = some r ∧ r.start ≤ droneNs s + readyLeadNs s)
    ∧ (let r := { someStep with phase := .voting }
       let s := planned r 1000
       stepIn s 0 .voting = some r ∧ r.start ≤ droneNs s + 1000)
    ∧ (let r := { someStep with phase := .ready }
       let s := planned r 2000
       s.plan.pattern = some somePattern ∧ stepIn s 0 .ready = some r ∧ bitOf r.flags 0 = true ∧ r.ramp = false
       ∧ effStart s r ≤ droneNs s + somePattern.rampNs)
    ∧ (let r := { someStep with phase := .ready }
       let s := tileSet (tileSet (planned r 2000) 0 { tstate := .ready }) 1 { tstate := .ready }
       stepIn s 0 .ready = some r ∧ effStart s r ≤ droneNs s ∧ unlockedTile s r = none ∧ r.aborted = false)
    ∧ (let r := { someStep with classes := 7 }
       let s := planned r 3750
       stepIn s 0 .running = some r ∧ r.classes < 8 ∧ effStart s r + 250 * r.classes ≤ droneNs s)
    ∧ HostOpen hosted
    ∧ (let s := planned someStep 900000
       stepIn s 0 .running = some someStep ∧ someStep.deadline ≤ droneNs s) := by
  unfold HostOpen; decide +kernel

/-- A package with both supplies good, at a phase of its start path. -/
def booting (phase : Nat) (b : BringSt) : State :=
  regPut { State.reset with pins := { aux := true, input := true, perst := true }, bring := b } regStwBoot 63 60 phase

/-- A serviceable package that passes every check of readiness. -/
def fit : State :=
  regPut (regPut (regPut { booting 6 { identityOk := true } with plan := { pattern := some somePattern, imagesSent := true } } regSecWarrant 63 60 1)
    regSecWarrant 55 48 0xFF) regDroneStatus 2 0 2

theorem witness_BringUpCommandsComplete :
    State.reset.pins.aux = false
    ∧ (let s := { State.reset with pins := { held := true } }
       s.pins.held = true ∧ s.pins.stopped = false)
    ∧ (let s := booting 0 {}
       s.pins.aux = true ∧ s.pins.held = false ∧ bootPhase s = 0 ∧ s.fw.booted = none)
    ∧ bootPhase (booting 1 {}) = 1 ∧ (bootPhase (booting 2 {}) = 2 ∧ (booting 2 {}).pins.input = true) ∧ bootPhase (booting 3 {}) = 3
    ∧ (let s := booting 4 { stacksTrained := true }
       bootPhase s = 4 ∧ s.bring.stacksTrained = true ∧ s.bring.stackAssay = false ∧ s.bring.tileAssay = false)
    ∧ (∀ u ∈ [true, false], let s := booting 4 { stackAssay := true, tileAssay := true, unserviceable := u }
       bootPhase s = 4 ∧ s.bring.stackAssay = true ∧ s.bring.tileAssay = true ∧ s.bring.unserviceable = u ∧ s.bring.resetAfter = false)
    ∧ (isServiceable fit = true ∧ isReady fit = false ∧ fit.bring.warm = false ∧ checksPass fit = true)
    ∧ (let s := booting 5 {}
       isServiceable s = true ∧ isReady s = false ∧ s.bring.warm = false ∧ checksPass s = false)
    ∧ (let s := { booting 3 { warm := true } with flash := { mends := [⟨1, []⟩] }, clock := 3000000000 }
       s.bring.warm = true ∧ 256 % 256 = 0 ∧ (mendPick s 0).isSome = true ∧ s.clock ≤ s.bring.pathStart + 3000000000)
    ∧ HostOpen (regPut hosted regSecRecord 63 48 224) ∧ stagedOk (regPut hosted regSecRecord 63 48 224) = true
    ∧ Asks (talking .operator) (ask [0, 0, 1, 0, 7]) 0x31 ∧ pieceFormed [0, 0, 1, 0, 7] = true
    ∧ (pieceArrive (sessionTouch (talking .operator) 5) (ask [0, 0, 1, 0, 7]) 0x31).1 = some [7] := by
  unfold HostOpen
  refine ⟨rfl, by decide +kernel, by decide +kernel, by decide +kernel, by decide +kernel, by decide +kernel, by decide +kernel, by decide +kernel,
    by decide +kernel, by decide +kernel, by decide +kernel, by decide +kernel, by decide +kernel,
    ⟨by decide +kernel, by decide, ⟨5, .operator, false, 0⟩, by decide +kernel⟩, by decide +kernel, by decide +kernel⟩

end Sys2Proof.Tests
end

