-- ==== Sys2Proof/Tests/WitnessPower.lean ====
section
/-! SUPPORT. Concrete states and operands that meet the hypotheses of the statements about power, cooling, caps and the host's window. -/

set_option Elab.async false

namespace Sys2Proof.Tests

open Sys2Proof.Machine Sys2Proof.Safety

/-- A served package with a power state, at a time. -/
def powered (p : PowerSt) (clock : Nat) : State := { served with power := p, clock := clock }

theorem witness_PowerLoopCommandsComplete :
    (let s := powered {} 4000
     s.power.lastWindow + 4000 ≤ s.clock ∧ s.power.forced = false)
    ∧ (let s := powered { rawSum := 1000000, rawWindows := 250 } 1000000
       s.power.lastCal + 1000000 ≤ s.clock ∧ muted s = false ∧ s.power.rawSum ≠ 0)
    ∧ (let s := powered {} 100000
       s.power.lastGrant + 100000 ≤ s.clock ∧ muted s = false)
    ∧ (let s := powered { dies := [(3, { fit := 25, point := 2, target := 2 })] } 0
       3 < 4 ∧ 25 ≤ (dieGet s 3).fit ∧ muted s = false ∧ s.power.forced = false ∧ (dieGet s 3).storm = none)
    ∧ (let s := powered { dies := [(3, { point := 2, target := 1 })] } 0
       (dieGet s 3).target ≠ (dieGet s 3).point ∧ (dieGet s 3).change = none ∧ s.power.forced = false)
    ∧ (∀ x ∈ [({ change := some 5 } : DiePower), { change := some 5, stretch := [(37, true)] }], let s := powered { dies := [(3, x)] } 10005
      (dieGet s 3).change = some 5 ∧ 5 ≤ s.clock ∧ ((dieGet s 3).stretch = [] ∨ 5 + 10000 ≤ s.clock))
    ∧ 37 < 38
    ∧ (let s := powered { dies := [(3, { stretch := [(2, false)], stretchSince := 0 })] } 100000
       (dieGet s 3).winStart + 100000 ≤ s.clock ∧ regField s regPwrCfg 39 32 * 1000 < (dieGet (stretchCount s 3) 3).winNs ∧ muted s = false)
    ∧ (let s := powered {} 100000
       (dieGet s 3).winStart + 100000 ≤ s.clock ∧ (dieGet (stretchCount s 3) 3).winNs ≤ regField s regPwrCfg 39 32 * 1000)
    ∧ (let s := powered { dies := [(3, { storm := some 9 })] } 9
       (dieGet s 3).storm = some 9 ∧ 9 ≤ s.clock ∧ muted s = false)
    ∧ (dieGet (powered { dies := [(3, { stretch := [(2, false)] })] } 0) 3).stretch.any (·.1 == 2) = true
    ∧ (powered {} 0).power.hold = false ∧ (powered { hold := true } 0).power.hold = true ∧ (powered { alert := true } 0).power.alert = true
    ∧ (let s := powered { leaseState := 1, leaseEnd := 7 } 7
       s.power.leaseState = 1 ∧ s.power.leaseEnd ≤ s.clock ∧ muted s = false)
    ∧ (let s := powered { forced := true } 1000000000
       s.power.forced = true ∧ muted s = false ∧ floorMayEnd s = true ∧ s.power.stepAt + 100000 ≤ s.clock
       ∧ (∀ d < 4, (dieGet s d).point ≤ maxPoint s) ∧ ∀ n < 8, (stackGet s n).engine ≤ maxEngine s)
    ∧ (let s := powered { forced := true, dies := [(2, { point := 5, target := 5 })] } 1000000000
       floorMayEnd s = true ∧ ∃ d < 4, maxPoint s < (dieGet s d).point) := by
  decide +kernel

/-- Site 3 at a protective reading in sixteenths of a degree. -/
def site (x : Int) : SMap Site := [(3, { protect := x })]

theorem witness_ThermalAndMuteCommandsComplete :
    (let s := powered {} 50000
     s.power.lastSample + 50000 ≤ s.clock ∧ s.clock < s.power.lastPast + 10000000)
    ∧ (let s := powered {} 1000000
       s.power.lastAdjust + 1000000 ≤ s.clock ∧ muted s = false)
    ∧ (∃ e ∈ (powered { sites := site (115 * 16) } 0).power.sites, 115 * 16 ≤ e.2.protect)
    ∧ (let s := powered { sites := site (100 * 16), critical := true, criticalCool := some 4 } 1000000004
       s.power.critical = true ∧ (∀ e ∈ s.power.sites, e.2.protect ≤ 100 * 16) ∧ s.power.criticalCool = some 4)
    ∧ (let s := powered { sites := site (120 * 16) } 0
       (∃ e ∈ s.power.sites, 120 * 16 ≤ e.2.protect) ∧ s.power.trip = false)
    ∧ (let s := powered { reportAt := some 4 } 1000000004
       s.power.reportAt = some 4 ∧ 4 + 1000000000 ≤ s.clock ∧ s.power.noReport = false)
    ∧ (let s := powered {} 10000000
       s.power.lastRth + 10000000 ≤ s.clock ∧ muted s = false ∧ 600000 ≤ 600000)
    ∧ (let s := powered { sites := [(3, { past := (List.range 21).map fun i => Int.ofNat (16 * (60 - i)) })], pastInput := List.replicate 21 1000 } 0
       s.power.pastInput.all (fun w => 10 * w * s.power.pastInput.length ≤ 11 * s.power.pastInput.foldl (· + ·) 0
        && 9 * s.power.pastInput.foldl (· + ·) 0 ≤ 10 * w * s.power.pastInput.length) = true
       ∧ ∃ i, i < 64 ∧ (siteGet s i).past.length = 21 ∧ risesBy 0 (siteGet s i).past = true)
    ∧ (let s := powered { sites := site (95 * 16), mute := some [] } 0
       s.power.mute = some [] ∧ (∃ e ∈ s.power.sites, 95 * 16 ≤ e.2.protect) ∧ s.power.muteStepped = false) := by
  refine ⟨by decide +kernel, by decide +kernel, by decide +kernel, by decide +kernel, by decide +kernel, by decide +kernel, by decide +kernel,
    ⟨by decide +kernel, 3, by decide +kernel⟩, by decide +kernel⟩

/-- A session of a role asks a command of its own. -/
theorem asks (role : Role) (cmd : Nat) (body : List Byte) (h : roleMay cmd role = true) : Asks (talking role) (ask body) cmd := by
  refine ⟨?_, (by decide : (5 : Nat) ≠ 0), ⟨5, role, false, 0⟩, ?_, h, .inl ?_⟩
  · cases role <;> decide +kernel
  · cases role <;> rfl
  · cases role <;> decide +kernel

theorem witness_CapAndCoolantRequestsComplete :
    HostOpen hosted
    ∧ (Asks (talking .tray) (ask [0xFF, 0xFF, 0, 0, 0, 0, 0, 0]) 0x10 ∧ allZero (([0xFF, 0xFF, 0, 0, 0, 0, 0, 0] : List Byte).drop 2) = true)
    ∧ Asks (talking .tray) (ask []) 0x11 ∧ Asks (talking .tray) (ask [0, 0, 0, 0, 0, 0, 0, 0]) 0x12
    ∧ (Asks (talking .tray) (ask [0, 0, 0, 0, 0, 0, 3, 0]) 0x13 ∧ numAt [0, 0, 0, 0, 0, 0, 3, 0] 6 2 ≤ 3)
    ∧ Asks (talking .tray) (ask []) 0x14 ∧ Asks (talking .operator) (ask []) 0x14 := by
  refine ⟨by unfold HostOpen; decide +kernel, ⟨asks _ _ _ (by decide), by decide⟩, asks _ _ _ (by decide), asks _ _ _ (by decide),
    ⟨asks _ _ _ (by decide), by decide⟩, asks _ _ _ (by decide), asks _ _ _ (by decide)⟩

theorem witness_HostCommandsComplete :
    (HostOpen hosted ∧ regHstWindow ≠ regHeartbeat ∧ bar0Key hosted (bar0Offset regHstWindow) = some regHstWindow)
    ∧ (windowClosed hosted = false ∧ hosted.host.accepted = true)
    ∧ (let s := { hosted with host := { accepted := true, lease := .leased, leaseEnd := 7 }, clock := 7 }
       s.host.lease = .leased ∧ HostOpen s ∧ s.host.leaseEnd ≤ s.clock)
    ∧ hosted.pins.aux = true ∧ hosted.pins.perst = false
    ∧ (let s := regSet hosted (regHstBar2Map 3) (BitVec.ofNat 64 (2 ^ 63))
       windowClosed s = false ∧ s.host.accepted = true ∧ regField s (regHstBar2Map (7 % 4)) 63 63 = 1
       ∧ bar2Target s 7 (2 ^ 30 - 64) + 64 ≤ reserveBase s) := by
  unfold HostOpen; decide +kernel

end Sys2Proof.Tests
end

