-- ==== Sys2Proof/Tests/WitnessSteward.lean ====
section
/-! SUPPORT. Concrete states and operands that meet the hypotheses of the statements about the management port, keys, firmware, resets, the
double-stop and the pins. -/

set_option Elab.async false

namespace Sys2Proof.Tests

open Sys2Proof.Machine Sys2Proof.Safety

/-- A Daybook entry. -/
def someEntry : DbEntry := ⟨5, 3, 1, 0x1001, 4, 0xFF, [1, 2, 3, 0, 0]⟩

/-- The body of a DAYBOOK request for one entry of the ring. -/
def oneEntry : List Byte := bytesOf 8 3 ++ [0, 1, 4] ++ zeros 5

theorem witness_ManagementCommandsComplete :
    Asks (talking .host) (ask []) 0x01
    ∧ (stewardRuns served = true ∧ (((List.replicate 15 (7, 0)).filter fun e => (0 : Nat) < e.2 + 1000000000).filter fun e => e.1 == 7).length < 16)
    ∧ (Asks (talking .tray) (ask [0xE0, 5, 0, 4]) 0x02 ∧ 1 ≤ numAt [0xE0, 5, 0, 4] 2 2 ∧ numAt [0xE0, 5, 0, 4] 2 2 ≤ 1024)
    ∧ (Asks (talking .operator) (ask oneEntry) 0x20 ∧ daybookFormed oneEntry = true
      ∧ daybookPick { talking .operator with book := { ring := [someEntry] } } oneEntry = [] ++ [someEntry])
    ∧ (Asks (talking .operator) (ask (zeros 32)) 0x21 ∧ (zeros 32).length = 32)
    ∧ (Asks (talking .tray) (ask [0, 0, 0, 4]) 0x43)
    ∧ (plovcoKnown.contains 0x44 = false ∧ stewardRuns (talking .tray) = true ∧ sessionFind (talking .tray) 5 = some ⟨5, .tray, false, 0⟩)
    ∧ (let s := { served with mgmt := { sessions := [⟨6, .host, true, 0⟩, ⟨5, .tray, false, 0⟩] } }
       s.pins.perst = false ∧ sessionFind s 6 = some ⟨6, .host, true, 0⟩ ∧ sessionFind s 5 = some ⟨5, .tray, false, 0⟩)
    ∧ (let s := { served with mgmt := { cycle := some (2, 7) }, clock := 1000000007 }
       s.mgmt.cycle = some (2, 7) ∧ 7 + 1000000000 ≤ s.clock)
    ∧ (let s := { served with book := { unmirrored := 1, second := 0 }, drone := { count := 1000000000 * 2 ^ 24 } }
       s.book.unmirrored ≠ 0 ∧ s.book.second < droneNs s / 1000000000) := by
  refine ⟨asks _ _ _ (by decide), by decide +kernel, ⟨asks _ _ _ (by decide), by decide⟩, ⟨asks _ _ _ (by decide), by decide +kernel⟩,
    ⟨asks _ _ _ (by decide), by decide⟩, asks _ _ _ (by decide), by decide +kernel, by decide +kernel, by decide +kernel, by decide +kernel⟩

theorem witness_KeyRecordCommandsComplete :
    (let s := regPut (regPut hosted regSecRecord 63 48 4096) regSecWarrant 63 60 1
     HostOpen s ∧ variantOn s = true ∧ stagedOk s = true)
    ∧ (∀ cmd ∈ [0x40, 0x41, 0x32, 0x42], Asks (talking .operator) (ask [0, 0, 1, 0, 7]) cmd)
    ∧ ((⟨0, 9, [0, 0, 1, 0, 7]⟩ : Request).session = 0 ∧ stewardRuns (talking .host) = true ∧ variantOn (talking .host) = true)
    ∧ pieceFormed [0, 0, 1, 0, 7] = true ∧ (pieceArrive (sessionTouch (talking .operator) 5) (ask [0, 0, 1, 0, 7]) 0x41).1 = some [7]
    ∧ pieceFormed [0xFF, 0x0F, 0, 0x10, 7] = true ∧ (pieceArrive (sessionTouch (talking .operator) 5) (ask [0xFF, 0x0F, 0, 0x10, 7]) 0x41).1 = none := by
  refine ⟨by unfold HostOpen; decide +kernel, fun cmd h => asks _ _ _ ?_, by decide +kernel, by decide +kernel, by decide +kernel, by decide +kernel,
    by decide +kernel⟩
  have h : cmd = 0x40 ∨ cmd = 0x41 ∨ cmd = 0x32 ∨ cmd = 0x42 := by simpa using h
  obtain rfl | rfl | rfl | rfl := h <;> decide

/-- The body of an update request at the last bytes of the staging area. -/
def lastChunk : List Byte := [1, 0, 0, 0] ++ bytesOf 4 (512 * 65536 - 2) ++ [1, 2]

/-- A hosted package that runs slot 0 and has a valid image in slot 1. -/
def slotted (f : FwSt) : State := { hosted with fw := { f with booted := some 0, slots := [(0, { state := 4 }), (1, { state := 2 })] } }

theorem witness_UpdateCommandsComplete :
    (Asks (talking .operator) (ask lastChunk) 0x30 ∧ updateFormed 1 lastChunk = true ∧ numAt lastChunk 4 4 + (lastChunk.drop 8).length ≤ 512 * 65536)
    ∧ (∀ op ∈ [2, 3, 4, 5, 6], updateFormed op ([BitVec.ofNat 8 op] ++ zeros 7) = true)
    ∧ HostOpen (slotted {}) ∧ (updBusy (slotted {}) = false ∧ slotIn (slotted {}) 2 = some 1)
    ∧ (let s := { slotted { deferred := some (3, 4), target := 1 } with clock := 60000000003, power := { alert := true } }
       isDeferred s = some (3, 4) ∧ stewardRuns s = true ∧ 4 + 1000000000 ≤ s.clock ∧ 3 + 60000000000 ≤ s.clock ∧ emergencies s ≠ 0) := by
  refine ⟨⟨asks _ _ _ (by decide), by decide +kernel⟩, by decide +kernel, by unfold HostOpen; decide +kernel, by decide +kernel, by decide +kernel⟩

theorem witness_UpdateCommandsComplete_write :
    let s := regPut (slotted {}) regUpdStage 63 48 2
    stagePlaced s = true ∧ updBusy s = false
    ∧ (let r := linesReadEffects s (linesOf (regField s regUpdStage 47 0) (65536 * 2))
       updBusy r = false ∧ freeSlot r = some 1) := by
  refine ⟨by decide +kernel, by decide +kernel, ?_⟩
  rw [linesReadEffects_clean _ _ fun _ _ => rfl]
  decide +kernel

/-- A served package with a firmware state, at a time. -/
def firmware (f : FwSt) (clock : Nat) : State := { served with fw := f, clock := clock }

theorem witness_HandoverCommandsComplete :
    (let s := firmware { phase := .drain, target := 1 } 0
     s.fw.phase = .drain ∧ stewardRuns s = true ∧ drained s = true ∧ emergencies s = 0)
    ∧ ((firmware { phase := .quiesced } 0).fw.phase = .quiesced ∧ slotIn (firmware { phase := .quiesced } 0) 3 = none)
    ∧ (let s := firmware { phase := .quiesced, slots := [(1, { state := 3 })] } 0
       slotIn s 3 = some 1 ∧ (slotGet (romBoot s 3 false) 1).state = 7)
    ∧ (firmware { phase := .loaded } 0).fw.phase = .loaded ∧ (firmware { phase := .restored } 0).fw.phase = .restored
    ∧ (let s := firmware { slots := [(1, { state := 3 })], booted := some 1, healthy := some 5, settingsUse := some 0 } 10000000005
       slotIn s 3 = some 1 ∧ s.fw.healthy = some 5 ∧ stewardRuns s = true ∧ s.fw.phase = .idle ∧ s.fw.booted = some 1
       ∧ s.fw.settingsUse.isSome = true ∧ 5 + 10000000000 ≤ s.clock)
    ∧ (let s := firmware { slots := [(1, { state := 3 })], booted := some 1, trialAt := 5 } 60000000005
       slotIn s 3 = some 1 ∧ s.fw.booted.isSome = true ∧ s.fw.trialAt + 60000000000 ≤ s.clock)
    ∧ (let s := firmware {} 100000000
       stewardRuns s = true ∧ s.fw.record.at_ + 100000000 ≤ s.clock) := by
  decide +kernel

/-- A hosted package with a Pattern in force and a reset request of a level. -/
def resetting (q : RcvReq) : State := { hosted with plan := { pattern := some somePattern }, rcv := { reqs := [q] }, clock := 25000000000 }

theorem witness_ResetRequestsComplete :
    let s := { hosted with plan := { pattern := some somePattern } }
    HostOpen s ∧ isServiceable s = true ∧ (ctxRec s 0).isSome = true ∧ widestLevel s = 0
    ∧ (2303 < 4096 ∧ 2303 < 4 * tilesPerDie s) ∧ (255 < 256 ∧ (enabledStacks s).contains (255 / 32) = true)
    ∧ (enabledStacks s).contains 7 = true := by
  unfold HostOpen; decide +kernel

theorem witness_ResetExecutionCompletes :
    (∀ q ∈ [(⟨1, false, 0, 4, 0, 7, 1, 0⟩ : RcvReq), ⟨2, false, 3, 4, 0, 7, 1, 0⟩, ⟨2, true, 255, 4, 0, 7, 1, 0⟩, ⟨3, false, 3, 4, 0, 7, 1, 0⟩,
        ⟨3, true, 7, 4, 0, 7, 1, 0⟩, ⟨4, false, 0, 4, 0, 8, 1, 0⟩],
      stewardRuns (resetting q) = true ∧ isServiceable (resetting q) = true ∧ unitReq (resetting q) q.level q.stack q.index = some q
      ∧ q.start + levelTimer q.level ≤ (resetting q).clock ∧ widestLevel (resetting q) ≤ q.level)
    ∧ ctxReq (resetting ⟨1, false, 0, 4, 0, 7, 1, 0⟩) 0 = some ⟨1, false, 0, 4, 0, 7, 1, 0⟩
    ∧ (let s := resetting ⟨4, false, 0, 4, 0, 8, 1, 0⟩
       chipReq s = some ⟨4, false, 0, 4, 0, 8, 1, 0⟩ ∧ s.bring.warm = false ∧ s.fw.phase = .idle)
    ∧ (unitReq hosted 3 true 7 = none ∧ unitReq hosted 3 false 3 = none ∧ chipReq hosted = none) := by
  decide +kernel

/-- A twin of package 1, in a state of the pairing, with a step whose gangs have ended. -/
def twin (st : Nat) (t : TwinSt) : State :=
  let s := regPut (regPut hosted regRcvTwin 63 48 1) regRcvTwin 47 45 st
  planSet { s with plan := { pattern := some somePattern }, twin := t, clock := 1000000 } 0 { steps := [someStep] }

/-- A mirror record of a type from package 1. -/
def record (type : Nat) : Packet := { kind := 0x0C, src := 1, ext := [BitVec.ofNat 64 (type * 2 ^ 56)] }

theorem witness_TwinCommandsComplete :
    (stepIn (twin 1 {}) 0 .running = some someStep ∧ gangsEnded (twin 1 {}) someStep = true ∧ someStep.digestGen = none ∧ twinPaired (twin 1 {}) = true)
    ∧ (let p : Packet := { kind := 8, ext := [BitVec.ofNat 64 (4095 * 2 ^ 52 + 2 * 2 ^ 34)] }
       p.kind = 0x08 ∧ p.cut = false ∧ strumType p = 2 ∧ strumTree p = 4095)
    ∧ (∀ k ∈ [1, 2, 3, 4, 5], isMirror (twin 4 {}) (record k) k = true) ∧ isJoining (twin 4 {}) = true ∧ isJoining (twin 5 {}) = true
    ∧ twinState (twin 4 {}) = 4
    ∧ (let s := twin 2 { resync := some (9, []) }
       isMirror s (record 5) 5 = true ∧ twinState s ≠ 4 ∧ s.twin.resync = some (9, []))
    ∧ (isTwin (twin 1 {}) = true ∧ twinState (twin 1 {}) ≠ 3 ∧ (twin 1 {}).twin.sentAt + 1000000 ≤ (twin 1 {}).clock
      ∧ (twin 1 {}).twin.heard + 1000000 ≤ (twin 1 {}).clock)
    ∧ HostOpen (twin 1 {}) ∧ HostOpen (twin 2 {}) ∧ twinState (twin 2 {}) = 2 := by
  unfold HostOpen; decide +kernel

theorem witness_PinEventsComplete :
    served.pins.aux = true ∧ (served.power.trip = false ∧ served.power.alertPin = false)
    ∧ (let s := { served with power := { trip := true, tripAt := 3 }, clock := 100000003 }
       s.power.trip = true ∧ s.power.alertPin = false ∧ s.pins.input = true ∧ s.pins.stopped = false ∧ s.power.tripAt + 100000000 ≤ s.clock)
    ∧ 63 % 64 ≠ served.pins.slotId := by
  decide +kernel

end Sys2Proof.Tests
end

