-- ==== Sys2Proof/Tests/WitnessUnits.lean ====
section
/-! SUPPORT. Concrete states and operands that meet the hypotheses of the statements about channels, engines, stored data, the router,
packets, messages and collectives. -/

set_option Elab.async false

namespace Sys2Proof.Tests

open Sys2Proof.Machine Sys2Proof.Safety

/-- Channel 255 with an arbiter's state. -/
def channel (c : Chan) : State := chanSet served 255 c

theorem witness_ChannelArbiterCommandsComplete :
    (255 < 256 ∧ 19 < 20 ∧ 4 < 5 ∧ 1 ≤ 64 ∧ 64 ≤ 64)
    ∧ (let g : Grant := ⟨⟨0, 4, 8, 1, 0, 0⟩, 2, 0⟩
       let s := channel { grant := some g }
       (chanGet s 255).grant = some g
       ∧ (chanGet (chanPass s 255 (grantLeft s 255 g)) 255).grant = some { g with moved := 8 } ∧ 8 = g.req.lines)
    ∧ (let g : Grant := ⟨⟨0, 0, 64, 1, 0, 0⟩, 3, 0⟩
       let s := channel { grant := some g }
       let m := burstLimit s 255 3
       (chanGet (chanPass s 255 (grantLeft s 255 g)) 255).grant = some { g with moved := m } ∧ m < g.req.lines)
    ∧ (let q : ChanReq := ⟨0, 0, 1, 1, 0, 0⟩
       let s := channel { pend := [q], count := 31 }
       lotteryDue (chanGet (chanPass s 255 0) 255) = true ∧ starveN (chanPass s 255 0) 255 ≤ (chanGet (chanPass s 255 0) 255).count + 1
       ∧ longestOf ((chanGet (chanPass s 255 0) 255).pend.filter fun q => q.seen ≤ 0) = some q)
    ∧ (let s := channel { cycle := 6094, nextRefresh := 97500 }
       let c := chanGet (chanPass s 255 5) 255
       c.nextRefresh ≤ 16 * c.cycle ∧ c.refreshDue = false) := by
  decide +kernel

/-- The words of a docket of a type for stack 7, engine 31, and the docket. -/
def docketWords (type : Nat) : List Word := [BitVec.ofNat 64 (type * 2 ^ 56 + 7 * 2 ^ 53 + 31 * 2 ^ 48), 0, 0, 0, 0, 0, 0, 0]
def docketOf (type : Nat) : Docket := ⟨0, 0, 31, docketWords type, 0⟩

/-- A package whose engine 255 has a state, and whose tile 0 has issued a docket to it. -/
def engine (x : Engine) : State :=
  tileSet (engSet (regSet (withPattern somePattern) (regEngShare 7 0) (BitVec.ofNat 64 (2 ^ 28))) 255 x) 0
    { ops := [(31, .dock (docketWords 8) 0 4 false)], tick := [(31, 1)] }

theorem witness_EngineCommandsComplete :
    (opOf (engine { inReset := true }) 0 31 = some (.dock (docketWords 8) 0 4 false)
      ∧ dockFirst (tileGet (engine { inReset := true }) 0) 255 4 = true ∧ (engGet (engine { inReset := true }) 255).inReset = true
      ∧ ctxOfTile (engine { halted := [0] }) 0 ∈ (engGet (engine { halted := [0] }) 255).halted)
    ∧ ((engGet (engine {}) 255).inReset = false ∧ ctxOfTile (engine {}) 0 ∉ (engGet (engine {}) 255).halted
      ∧ ((engGet (engine {}) 255).queue.filter fun q => q.ctx == 0).length < regField (engine {}) (regEngShare 7 0) 31 28)
    ∧ (let x : Engine := { queue := [docketOf 8] }
       (engGet (engine x) 255).inReset = false ∧ (engGet (engine x) 255).running = none ∧ engNext x = some 0
       ∧ takeFirst (fun d => d.ctx == 0) x.queue = some (docketOf 8, []))
    ∧ (∀ type ∈ rangeFrom 1 10, let s := engine { running := some (docketOf type) }
       (engGet s 255).running = some (docketOf type) ∧ (engGet s 255).result = none ∧ dkType (docketOf type).words = type
       ∧ (engGet s 255).inReset = false)
    ∧ (let x : Scrub := ⟨0, 64, none, 0, [(255, 0)], false, 0, 0, 0, 0, 0, 0, 0⟩
       let s := { engine { running := some { docketOf 11 with ctx := 16 } } with scrub := some x }
       (engGet s 255).running = some { docketOf 11 with ctx := 16 } ∧ (engGet s 255).result = none ∧ s.scrub = some x
       ∧ dkType (docketOf 11).words = 0x0B ∧ (engGet s 255).inReset = false ∧ x.aborting = false)
    ∧ (let s := engine { running := some (docketOf 8), result := some 2 }
       (engGet s 255).running = some (docketOf 8) ∧ (engGet s 255).result = some 2 ∧ dkType (docketOf 8).words ≠ 0x0B)
    ∧ (let s := chanSet (engine { gated := true, gatedSince := 36, gatedTurn := 80 }) 255 { cycle := 100 }
       (engGet s 255).gated = true ∧ (engGet s 255).gatedSince + (engGet s 255).gatedTurn ≤ (chanGet s 255).cycle + 16)
    ∧ (let s := { engine { running := some (docketOf 8), lastMove := 5 } with clock := 10000005 }
       (engGet s 255).running = some (docketOf 8) ∧ (engGet s 255).inReset = false ∧ (engGet s 255).lastMove + 10000000 ≤ s.clock) := by
  decide +kernel

/-- A hosted package whose scrub registers name a range. -/
def scrubbing (first last : Nat) : State :=
  regSet (regSet hosted regScbLo (BitVec.ofNat 64 first)) regScbHi (BitVec.ofNat 64 last)

/-- A scrub that has nothing left. -/
def scrubbed : Scrub := ⟨0, 64, none, 0, [], false, 1, 0, 0, 0, 0, 0, 0⟩

theorem witness_StoredDataCommandsComplete :
    64 * (spaceBytes served / 64 - 1) < spaceBytes served
    ∧ (∀ b ∈ [false, true], let s := chanSet served 0 { wb := [⟨0, b⟩], grant := some ⟨⟨17, 0, 1, 0, 0, 0⟩, 0, 0⟩ }
       chanOfLine s 0 = 0 ∧ wbGranted s 0 = some ⟨0, b⟩)
    ∧ HostOpen hosted
    ∧ (HostOpen { hosted with scrub := some scrubbed } ∧ ({ hosted with scrub := some scrubbed } : State).scrub ≠ none)
    ∧ (let s := scrubbing 0 (spaceBytes hosted + 64)
       HostOpen s ∧ s.scrub = none ∧ spaceBytes s < regField s regScbHi 47 0)
    ∧ (let s := scrubbing (spaceBytes hosted - 64) (spaceBytes hosted)
       HostOpen s ∧ s.scrub = none ∧ regField s regScbLo 47 0 % 64 = 0 ∧ regField s regScbHi 47 0 % 64 = 0
       ∧ regField s regScbLo 47 0 < regField s regScbHi 47 0 ∧ regField s regScbHi 47 0 ≤ spaceBytes s)
    ∧ ({ hosted with scrub := some scrubbed } : State).scrub = some scrubbed ∧ scrubbed.left = [] := by
  unfold HostOpen; decide +kernel

/-- Input 19 holds a two-flit worm on VC 5 whose head has left on output 29, in a package at a time. -/
def begun (clock : Nat) (flits : List (Flit × Bool)) : State :=
  { outSet (inSet served 19 5 { worms := [⟨5, {}, [⟨29, none, true, 1, false⟩], flits, 1, false, false, false, 0, false, false⟩] }) 29 5
    { owner := some (pvKey 19 5), tag := 9 } with clock := clock }

theorem witness_RouterFlitCommandsComplete :
    (29 < 30 ∧ ctrlVc (ctrlWord 0 5 false false false 1 0) < 6 ∧ ctrlKind (ctrlWord 0 5 false false false 1 0) = 0
      ∧ ctrlKind (ctrlWord 3 5 false false false 1 0) = 3
      ∧ ctrlKind (ctrlWord 1 5 false false false 1 0) ≠ 0 ∧ ctrlKind (ctrlWord 1 5 false false false 1 0) ≠ 3
      ∧ 6 ≤ ctrlVc (ctrlWord 0 6 false false false 1 0) ∧ isInternal 18 = true)
    ∧ (let s := inSet served 19 5 { worms := [⟨5, {}, [⟨29, none, false, 0, false⟩], [], 0, false, false, false, 0, false, false⟩] }
       (outGet s 29 5).owner = none
       ∧ (((List.range 30).map fun k => ((outGet s 29 5).lastIn + 1 + k) % 30).find? fun k => (askers s 29 5).contains k) = some 19)
    ∧ (let s := begun 20000 []
       ∃ w, (inGet s 19 5).worms = [w] ∧ wormBegun w = true ∧ w.flits = [] ∧ w.ended = false
       ∧ w.since + 1000 * regField s regFabCtrl 41 32 ≤ s.clock)
    ∧ (let s := begun 0 [(⟨ctrlWord 2 5 false false false 5 1, 7⟩, false)]
       29 < 30 ∧ isInternal 29 = true ∧ (mapGet (0, 0) s.router.strict 29).2 < 64
       ∧ ((pickVc (countStalls s 29) 29).any fun r => r.1 == 5 && (sendFlit r.2 29 5).isSome) = true)
    ∧ (let s := { served with router := { served.router with strict := [(29, (3, 64))] } }
       64 ≤ (mapGet (0, 0) s.router.strict 29).2)
    ∧ HostOpen hosted
    ∧ (portState (setPortState served 17 7) 17 = 7 ∧ portState (setPortState served 18 7) 18 = 7) := by
  refine ⟨by decide +kernel, by decide +kernel, ⟨_, rfl, by decide +kernel⟩, by decide +kernel, by decide +kernel, ?_, by decide +kernel⟩
  unfold HostOpen; decide +kernel

/-- A channel of tile 0 that context 0 of chip 3 sends on. -/
def someChan : ChanRec := ⟨0, 4, 2, 64, 128, 3, 7⟩

/-- A package with that channel. -/
def receiving : State := withPattern { somePattern with chans := [someChan] }

theorem witness_DeliveredPacketsComplete :
    (({ kind := 1 } : Packet).kind = 0x01 ∧ ({ kind := 2 } : Packet).kind = 0x02)
    ∧ (∀ op ∈ [DmOp.gld (2 ^ 48) 0 64 64 0, .gst (2 ^ 48) 0 64 1 0, .fill (2 ^ 48) 3 1 64 0, .send 3 0 4 0 64 12 true],
      let s := tileSet receiving 0 { ops := [(31, op)], tick := [(31, 1)] }
      opOf s 0 ((⟨0, 3, 0, 0, 1, 3, 2, false, false, 0, 31, 0, 0, 0, 0, 0, 0, 64, 0, [], [], 0, false⟩ : Packet).srcTag % 32) = some op)
    ∧ ((0 : Nat) < 0xFFFE ∧ bitsOf (extWord { kind := 7 } 0) 47 43 ≠ 9)
    ∧ (let p : Packet := { kind := 5, dstTile := 0, channel := 9 }
       p.kind = 0x05 ∧ twinCut p = false ∧ chanRec receiving p.dstTile p.channel = none)
    ∧ (let p : Packet := { kind := 5, dstTile := 0, channel := 4, src := 3, origin := 7, bytes := 64, payload := List.replicate 64 1 }
       p.kind = 0x05 ∧ twinCut p = false ∧ chanRec receiving p.dstTile p.channel = some someChan ∧ isSender someChan p = true ∧ p.bytes ≤ someChan.slot)
    ∧ (({ kind := 6, channel := 0xFE } : Packet).channel ≠ 0xFF ∧ ({ kind := 6, channel := 0xFF } : Packet).channel = 0xFF) := by
  decide +kernel

/-- A system message of a type, and a strum packet. -/
def message (type : Nat) : Packet := { kind := 0x0B, ext := [BitVec.ofNat 64 (type * 2 ^ 48)] }

/-- Member 0 of set 3 runs a collective that a context may have been told to stop. -/
def collecting (stopBy : Option Nat) (contributed : Bool) : CollRun :=
  ⟨3, 0, 0, [BitVec.ofNat 64 (2 ^ 56 + 3 * 2 ^ 48), 0, 0, 0, 0, 0, 0, 0], 0, [], [], [], 0, [], 0, contributed, stopBy⟩

/-- A package in which it runs, with the set of its Pattern and an aborted step. -/
def colls (run : CollRun) (clock : Nat) : State :=
  let s := withPattern { somePattern with sets := [(3, ⟨0, 0, 1, 1, 100, 1000, 0, [(0, 0), (1, 0)], [[0, 1]]⟩)] }
  { planSet s 0 { steps := [{ step := 7, slot := 0, start := 0, deadline := 9, stagger := 0, wakeUs := 0, flags := 0, entries := [(0, 0)], arg0 := 0
                              arg1 := 0, phase := .running, deferrals := 0, gen := 0, aborted := true, fault := none, woken := true, ramp := false
                              classes := 8, digestGen := none }] } with coll := { runs := [run] }, clock := clock }

theorem witness_MessagesAndCollectivesComplete :
    (∀ k ∈ [0, 1, 2, 3, 4, 65535], (message k).kind = 0x0B ∧ (message k).cut = false ∧ bitsOf (extWord (message k) 0) 63 48 = k)
    ∧ (∀ k ∈ [1, 2], let p : Packet := { kind := 8, ext := [BitVec.ofNat 64 (k * 2 ^ 34)] }
       p.kind = 0x08 ∧ p.cut = false ∧ strumType p = k)
    ∧ (({ kind := 9 } : Packet).kind = 0x09 ∧ twinCut { kind := 9 } = false)
    ∧ (let r := { collecting none false with out := [], left := 0 }
       runGet (colls r 0) 3 0 = some r ∧ collFinished r = true ∧ r.contributed = false)
    ∧ (let r := collecting none false
       let s := colls r 1000000
       runGet s 3 0 = some r ∧ ((setRec s 3).any fun q => decide (r.start + 1000 * q.deadlineUs ≤ s.clock)) = true ∧ r.contributed = false)
    ∧ (let r := collecting (some 500) true
       runGet (colls r 500) 3 0 = some r ∧ r.stopBy = some 500 ∧ 500 ≤ (colls r 500).clock)
    ∧ (let s := inSet (colls (collecting (some 500) true) 500) 18 1
         { worms := [⟨1, { kind := 9, src := 0, srcCtx := 0 }, [⟨20, none, true, 1, false⟩], [], 1, false, false, false, 0, false, false⟩] }
       atBoundary s (gangCtx s 0) = false ∧ runGet s 3 0 = some (collecting (some 500) true)
       ∧ (stepFind (routerCtxReset (regAdd s regColPreemptCut 1) (gangCtx s 0)) (gangCtx s 0)
          (fun r => r.phase == .running && r.aborted)).isSome = true)
    ∧ (let s := colls (collecting (some 500) true) 0
       runGet s 3 0 = some (collecting (some 500) true) ∧ atBoundary s (gangCtx s 0) = true
       ∧ (stepFind s (gangCtx s 0) (fun r => r.phase == .running && r.aborted)).isSome = true) := by
  decide +kernel

end Sys2Proof.Tests
end

/-! PROOF. Scope: every step answers and keeps the canonical form, the state after reset, register writes, the gates, and key records. -/

/-! ### What a step answers -/

namespace Sys2Proof.Proofs

open Sys2Proof Sys2Proof.Machine Sys2Proof.Safety

/-- An outcome that is a next state. -/
def Answers (o : Host.Outcome State Fault Refusal) : Prop := ∃ t, o = .next t

theorem Answers.next {t : State} : Answers (.next t) := ⟨t, rfl⟩

theorem Answers.ite {c : Prop} [Decidable c] {a b : Host.Outcome State Fault Refusal} (ha : Answers a) (hb : Answers b) :
    Answers (if c then a else b) := by
  split
  · exact ha
  · exact hb

theorem dkRun_answers (type : Nat) (run : State → Docket → DkOut) (eng : Nat) (s : State) : Answers (dkRun type run eng s) := by
  dsimp only [dkRun]
  split
  · exact .ite .next .next
  · exact .next

/-- No command of the table ends in a fault or a refusal.  The commands stand together by how their meanings branch: without a test, by tests
alone, on one state that is looked up (with a test in the branch that finds it), and on more than one. -/
theorem exec_answers (c : Instr) (s : State) : Answers (exec c s) := by
  cases c with
  | contractCheck | resultWriteback | nop | scrubStart | scrubAbort | echoReply | fabStocktake | fabSnapshot | portRetrain |
    strumWaitExpiry | strumDeadline | collQueuedStart | chunkSend | patternApply | stepAbort | warrantInstall | hostCapWrite | trayCap |
    leaseRenew | orphanCap | overcurrent | regulatorAlert | coolant | leaseRelease | perstAssert | adoptContext | adoptReset | discover |
    identity | sessionTimeout | beaconLoss | powerStatus | daybook | trace | scrub | status | receipt | custodianRecord | ownerEnrol |
    ownerRemove | serviceCommand | teardown | updateChunk | bundleWrite | activate | cancelActivation | reject | updateStatus |
    resetContext | resetEngine | resetPartition | resetChip | resetPowerCycle | twinStreamExpiry | twinSwap | twinLeave | twinResync |
    inputAlert | auxLoss | tilePllLock | cycleRequestAnswer =>
    exact .next
  -- the work of a slot or of a docket, where the unit is ready for it
  | add | sub | and_ | or_ | xor | shl | shr | sra | mul | min | max | minu | maxu | addi | andi | ori | xori | shli | shri | srai |
    movlo | orhi | cmpeq | cmpne | cmplt | cmpltu | cmpge | cmpgeu | cmpeqi | cmplti | pand | por | pxor | pandn | tkst | rdtil | jmp |
    bz | bnz | loop | call | jr | end_ | lds | ldv | ldbc | ldt | sts | stv | vadd | vsub | vmul | vfma | vmin | vmax | vabs | vneg |
    vexp2 | vrcp | vrsqrt | vfcmplt | vfcmpeq | viadd | visub | vand | vor | vxor | vshl | vshr | vsel | vrot | vbcs | vlane | vcvt |
    vqbs | vacr | vred | gbc | gred | mma | mmaz | mclr | gld | gst | send | recv | dock | fill | coll | wait | wait1 | waitall | strum =>
    exact .ite .next .next
  | loadv | matv | attn | gather | scatter | reduce | quant | copy | docketFill | zero =>
    exact dkRun_answers _ _ _ _
  -- tests alone
  | sramWordWriteback | gangEndReport | ticketWaitEnd | channelRequest | channelArbitration | dramLineRead | engineClockUngate |
    strictWindowEnd | memoryWriteArrival | memoryReadRequest | channelCreditArrival | slotCreditArrival | echoRequest | resetNotice |
    unknownSystemMessage | stocktakeTimer | packetIdentityCheck | idleFrameReceive | retrainTrigger | ckLoss | portRelease |
    neighbourTraining | ckReceived | ckLockDone | laneAlignmentDone | rungMeasureDone | rungDecision | portActive | identityResend |
    quietIdleTimeout | quietPowerDown | quietWake | holdoverLong | standbyRootTakeover | strumPartialArrival | strumResultArrival |
    chunkArrival | imageBlockArrival | planScan | auxPowerGood | inputPowerGood | recordVerify | railBringup | stackTraining |
    stackAssay | tileAssay | estimatorWindow | governorRaise | trayLeaseExpiry | trayHold | droopDetect | droopStretchEnd |
    operatingPointChange | hotspotAdjust | thermalTrip | coolantSlopeTrigger | driverLeaseExpiry | perstDeassert | strangerFrame |
    daybookMirrorSecond | handoverRestore | handoverReclaim | trialTimeout | handoverRecordWrite | stewardRestart |
    stackControllerWatchdog | meshLivenessFail | dieLinkDown | digestResult | mirrorHeartbeatTimer | mirrorHeartbeat | mirrorStep |
    resyncData | resyncState | inputLoss | tripBackstop | slotIdChange | regulatorAlertClear | trayHoldRelease | d3hot =>
    exact .ite .next .next
  | refusalArrival | romBoot | serviceable | readinessDecision | warmPath | forcedFloorExitStep | droopStorm | sensorSample | rthUpdate |
    heartbeat | getMeasurements | handoverDrainDone | handoverLoad | linkResetComplete =>
    exact .ite .next (.ite .next .next)
  | refreshDue | holdoverEntry =>
    exact .ite (.ite .next .next) .next
  | powerCalibration | joinRecord | partnerLoss =>
    exact .ite .next (.ite .next (.ite .next .next))
  | packetHeadArrival | flitArrival | criticalTemperature =>
    exact .ite .next (.ite (.ite .next .next) .next)
  | eccLogClear =>
    exact .ite (.ite .next .next) (.ite .next .next)
  | wakeBurstDetect =>
    exact .ite (.ite .next (.ite .next .next)) .next
  | allowanceGrant =>
    exact .ite .next (.ite .next (.ite .next (.ite .next .next)))
  -- one look-up
  | docketComplete | stepWake =>
    dsimp only [exec, execDocketComplete, execStepWake]
    split
    · exact .next
    · exact .next
  | exceptionNotification | correctionWriteback | poisonMarkInStore | docketScrub | engineStall | scrubDone | tailTimeout |
    replayBufferFull | exchangeTimeout | guardContribution | collectiveDeadline | readinessVote | readinessResultTimeout | rampFillStart |
    staggerClassStart | stepDeadline | stormReductionEnd | pointSwitch | activationRetry | activationAbandon | trialConfirm |
    contextReset | diePartitionReset | chipReset =>
    dsimp only [exec, execExceptionNotification, execCorrectionWriteback, execPoisonMarkInStore, execDocketScrub, execEngineStall,
      execScrubDone, execTailTimeout, execReplayBufferFull, execExchangeTimeout, execGuardContribution, execCollectiveDeadline,
      execReadinessVote, execReadinessResultTimeout, execRampFillStart, execStaggerClassStart, execStepDeadline, execStormReductionEnd,
      execPointSwitch, execActivationRetry, execActivationAbandon, execTrialConfirm, execContextReset, execDiePartitionReset,
      execChipReset]
    split
    · exact .ite .next .next
    · exact .next
  | timeTransferTimer | imageDelivery | muteStepDown =>
    dsimp only [exec, execTimeTransferTimer, execImageDelivery, execMuteStepDown]
    split
    · exact .next
    · exact .ite .next .next
  | sendDispatch | engineReset | stackPartitionReset | resetTimerExpiry | digestExchange =>
    dsimp only [exec, execSendDispatch, execEngineReset, execStackPartitionReset, execResetTimerExpiry, execDigestExchange]
    split
    · exact .ite .next (.ite .next .next)
    · exact .next
  | imageBlockPull =>
    dsimp only [exec, execImageBlockPull]
    split
    · exact .next
    · exact .ite .next (.ite .next .next)
  | coolantReportTimeout | cycleRequest =>
    dsimp only [exec, execCoolantReportTimeout, execCycleRequest]
    split
    · exact .ite .next .next
    · exact .ite .next .next
  | registerWrite | outputAllocate | dataFrameReceive | quietEntryReceive | bar2Write | bar2Read | unknownCommand =>
    dsimp only [exec, execRegisterWrite, execOutputAllocate, execDataFrameReceive, execQuietEntryReceive, execBar2Write, execBar2Read,
      execUnknownCommand]
    refine .ite .next ?_
    split
    · exact .next
    · exact .next
  | timeRequestReceive =>
    dsimp only [exec, execTimeRequestReceive]
    refine .ite .next ?_
    split
    · exact .next
    · exact .ite .next .next
  | writeAckArrival =>
    dsimp only [exec, execWriteAckArrival]
    refine .ite .next ?_
    split
    · exact .next
    · exact .next
    · exact .next
  -- a look-up behind another
  | bundleFetch | globalLoadComplete | globalStoreComplete | fillComplete | burstLimitExpiry | transferComplete | starvationGrant |
    docketArrival | docketStart | flitSlotSchedule | readResponseArrival | channelMessageArrival | stocktakeMarkerReceive |
    identityFrameReceive | sealedPacketCheck | timeReplyReceive | preemptionBoundExpiry | stepStart | spdm =>
    dsimp only [exec, execBundleFetch, execGlobalLoadComplete, execGlobalStoreComplete, execFillComplete, execBurstLimitExpiry,
      execTransferComplete, execStarvationGrant, execDocketArrival, execDocketStart, execFlitSlotSchedule, execReadResponseArrival,
      execChannelMessageArrival, execStocktakeMarkerReceive, execIdentityFrameReceive, execSealedPacketCheck, execTimeReplyReceive,
      execPreemptionBoundExpiry, execStepStart, execSpdm]
    repeat' split
    all_goals exact .next

/-- Settles O5: the command at the front of the queue answers (`exec_answers`), and an empty queue lets time pass. -/
theorem everyStepAnswersNextState : Obligations.EveryStepAnswersNextState := by
  intro s
  show Answers (step s)
  unfold step
  split
  · exact exec_answers _ _
  · exact .next

end Sys2Proof.Proofs

/-! ### What a command keeps -/

namespace Sys2Proof.Proofs

open Sys2Proof Sys2Proof.Machine Sys2Proof.Safety Sys2Proof.Laws

/-- Each part whose bit is in w is one of ps. -/
def maskWithin (w : Nat) (ps : List Part) : Bool :=
  [Part.pending, .clock, .freeCtr, .outbox, .regs, .mem, .memPoison, .lineErr, .book, .host, .plan, .drone, .tiles, .gangs, .chans, .engs,
    .scrub, .strum, .coll, .rcv, .router, .link, .fw, .power, .bring, .flash, .pins, .twin, .mgmt].all
    fun p => !w.testBit (partBit p) || ps.contains p

/-- t keeps the canonical form that s has, and differs from s at most in the parts of ps. -/
structure Keeps (ps : List Part) (s t : State) : Prop where
  canon : Canonical s → Canonical t
  only : Only ps s t

/-- A law of a meaning, read with the parts that a command may change. -/
theorem keeps_of_moves {w : Nat} {s t : State} {ps : List Part} (h : Moves w s t) (hw : maskWithin w ps = true) : Keeps ps s t := by
  refine ⟨h.canon, fun p hp => h.same p ?_⟩
  have hb : (!w.testBit (partBit p) || ps.contains p) = true := List.all_eq_true.mp hw p (by cases p <;> decide)
  simpa [hp] using hb

theorem keeps_of_movesN {w : Nat} {s t : State} {o : Host.Outcome State Fault Refusal} {ps : List Part} (h : MovesN w s o)
    (hw : maskWithin w ps = true) (ht : o = .next t) : Keeps ps s t := keeps_of_moves (h t ht) hw

/-- A request for a reset level below the power cycle changes what `touches` lists for it. -/
theorem resetAsk_keeps {o : Origin} {level : Nat} (hl : level < 5) {stack : Bool} {index : Nat} {s t : State}
    (h : Host.Outcome.next (φ := Fault) (ρ := Refusal) (resetAsk o level stack index s) = .next t) :
    Keeps (touches (.resetChip o)) s t :=
  keeps_of_movesN (MovesN.next (resetAsk_narrow o hl stack index s)) rfl h

/-- Every command keeps the canonical form and changes no part but those it names: the law of its meaning, command by command. -/
theorem exec_keeps {c : Instr} {s t : State} (h : exec c s = .next t) : Keeps (touches c) s t := by
  cases c with
  | registerWrite => exact keeps_of_movesN (execRegisterWrite_moves _ _ _ _) rfl h
  | contractCheck => exact keeps_of_movesN (execContractCheck_moves _) rfl h
  | bundleFetch => exact keeps_of_movesN (execBundleFetch_moves _ _ _) rfl h
  | exceptionNotification => exact keeps_of_movesN (execExceptionNotification_moves _ _) rfl h
  | resultWriteback => exact keeps_of_movesN (execResultWriteback_moves _ _) rfl h
  | sramWordWriteback => exact keeps_of_movesN (execSramWordWriteback_moves _ _ _) rfl h
  | nop g sl => exact keeps_of_movesN (execNop_moves g sl s) rfl h
  | add => exact keeps_of_movesN (execAdd_moves _ _ _ _) rfl h
  | sub => exact keeps_of_movesN (execSub_moves _ _ _ _) rfl h
  | and_ => exact keeps_of_movesN (execAnd_moves _ _ _ _) rfl h
  | or_ => exact keeps_of_movesN (execOr_moves _ _ _ _) rfl h
  | xor => exact keeps_of_movesN (execXor_moves _ _ _ _) rfl h
  | shl => exact keeps_of_movesN (execShl_moves _ _ _ _) rfl h
  | shr => exact keeps_of_movesN (execShr_moves _ _ _ _) rfl h
  | sra => exact keeps_of_movesN (execSra_moves _ _ _ _) rfl h
  | mul => exact keeps_of_movesN (execMul_moves _ _ _ _) rfl h
  | min => exact keeps_of_movesN (execMin_moves _ _ _ _) rfl h
  | max => exact keeps_of_movesN (execMax_moves _ _ _ _) rfl h
  | minu => exact keeps_of_movesN (execMinu_moves _ _ _ _) rfl h
  | maxu => exact keeps_of_movesN (execMaxu_moves _ _ _ _) rfl h
  | addi => exact keeps_of_movesN (execAddi_moves _ _ _ _) rfl h
  | andi => exact keeps_of_movesN (execAndi_moves _ _ _ _) rfl h
  | ori => exact keeps_of_movesN (execOri_moves _ _ _ _) rfl h
  | xori => exact keeps_of_movesN (execXori_moves _ _ _ _) rfl h
  | shli => exact keeps_of_movesN (execShli_moves _ _ _ _) rfl h
  | shri => exact keeps_of_movesN (execShri_moves _ _ _ _) rfl h
  | srai => exact keeps_of_movesN (execSrai_moves _ _ _ _) rfl h
  | movlo => exact keeps_of_movesN (execMovlo_moves _ _ _ _) rfl h
  | orhi => exact keeps_of_movesN (execOrhi_moves _ _ _ _) rfl h
  | cmpeq => exact keeps_of_movesN (execCmpeq_moves _ _ _ _) rfl h
  | cmpne => exact keeps_of_movesN (execCmpne_moves _ _ _ _) rfl h
  | cmplt => exact keeps_of_movesN (execCmplt_moves _ _ _ _) rfl h
  | cmpltu => exact keeps_of_movesN (execCmpltu_moves _ _ _ _) rfl h
  | cmpge => exact keeps_of_movesN (execCmpge_moves _ _ _ _) rfl h
  | cmpgeu => exact keeps_of_movesN (execCmpgeu_moves _ _ _ _) rfl h
  | cmpeqi => exact keeps_of_movesN (execCmpeqi_moves _ _ _ _) rfl h
  | cmplti => exact keeps_of_movesN (execCmplti_moves _ _ _ _) rfl h
  | pand => exact keeps_of_movesN (execPand_moves _ _ _ _) rfl h
  | por => exact keeps_of_movesN (execPor_moves _ _ _ _) rfl h
  | pxor => exact keeps_of_movesN (execPxor_moves _ _ _ _) rfl h
  | pandn => exact keeps_of_movesN (execPandn_moves _ _ _ _) rfl h
  | tkst => exact keeps_of_movesN (execTkst_moves _ _ _) rfl h
  | rdtil => exact keeps_of_movesN (execRdtil_moves _ _ _) rfl h
  | jmp => exact keeps_of_movesN (execJmp_moves _ _ _) rfl h
  | bz => exact keeps_of_movesN (execBz_moves _ _ _) rfl h
  | bnz => exact keeps_of_movesN (execBnz_moves _ _ _) rfl h
  | loop => exact keeps_of_movesN (execLoop_moves _ _ _) rfl h
  | call => exact keeps_of_movesN (execCall_moves _ _ _) rfl h
  | jr => exact keeps_of_movesN (execJr_moves _ _ _) rfl h
  | end_ => exact keeps_of_movesN (execEnd_moves _ _ _) rfl h
  | gangEndReport => exact keeps_of_movesN (execGangEndReport_moves _ _) rfl h
  | lds => exact keeps_of_movesN (execLds_moves _ _ _ _ _) rfl h
  | ldv => exact keeps_of_movesN (execLdv_moves _ _ _ _ _) rfl h
  | ldbc => exact keeps_of_movesN (execLdbc_moves _ _ _ _ _) rfl h
  | ldt => exact keeps_of_movesN (execLdt_moves _ _ _ _ _) rfl h
  | sts => exact keeps_of_movesN (execSts_moves _ _ _) rfl h
  | stv => exact keeps_of_movesN (execStv_moves _ _ _) rfl h
  | vadd => exact keeps_of_movesN (execVadd_moves _ _ _ _) rfl h
  | vsub => exact keeps_of_movesN (execVsub_moves _ _ _ _) rfl h
  | vmul => exact keeps_of_movesN (execVmul_moves _ _ _ _) rfl h
  | vfma => exact keeps_of_movesN (execVfma_moves _ _ _ _) rfl h
  | vmin => exact keeps_of_movesN (execVmin_moves _ _ _ _) rfl h
  | vmax => exact keeps_of_movesN (execVmax_moves _ _ _ _) rfl h
  | vabs => exact keeps_of_movesN (execVabs_moves _ _ _ _) rfl h
  | vneg => exact keeps_of_movesN (execVneg_moves _ _ _ _) rfl h
  | vexp2 => exact keeps_of_movesN (execVexp2_moves _ _ _ _) rfl h
  | vrcp => exact keeps_of_movesN (execVrcp_moves _ _ _ _) rfl h
  | vrsqrt => exact keeps_of_movesN (execVrsqrt_moves _ _ _ _) rfl h
  | vfcmplt => exact keeps_of_movesN (execVfcmplt_moves _ _ _ _) rfl h
  | vfcmpeq => exact keeps_of_movesN (execVfcmpeq_moves _ _ _ _) rfl h
  | viadd => exact keeps_of_movesN (execViadd_moves _ _ _ _) rfl h
  | visub => exact keeps_of_movesN (execVisub_moves _ _ _ _) rfl h
  | vand => exact keeps_of_movesN (execVand_moves _ _ _ _) rfl h
  | vor => exact keeps_of_movesN (execVor_moves _ _ _ _) rfl h
  | vxor => exact keeps_of_movesN (execVxor_moves _ _ _ _) rfl h
  | vshl => exact keeps_of_movesN (execVshl_moves _ _ _ _) rfl h
  | vshr => exact keeps_of_movesN (execVshr_moves _ _ _ _) rfl h
  | vsel => exact keeps_of_movesN (execVsel_moves _ _ _ _) rfl h
  | vrot => exact keeps_of_movesN (execVrot_moves _ _ _ _) rfl h
  | vbcs => exact keeps_of_movesN (execVbcs_moves _ _ _ _) rfl h
  | vlane => exact keeps_of_movesN (execVlane_moves _ _ _ _) rfl h
  | vcvt => exact keeps_of_movesN (execVcvt_moves _ _ _ _) rfl h
  | vqbs => exact keeps_of_movesN (execVqbs_moves _ _ _ _) rfl h
  | vacr => exact keeps_of_movesN (execVacr_moves _ _ _ _) rfl h
  | vred => exact keeps_of_movesN (execVred_moves _ _ _ _) rfl h
  | gbc => exact keeps_of_movesN (execGbc_moves _ _ _ _) rfl h
  | gred => exact keeps_of_movesN (execGred_moves _ _ _ _) rfl h
  | mma => exact keeps_of_movesN (execMma_moves _ _ _) rfl h
  | mmaz => exact keeps_of_movesN (execMmaz_moves _ _ _) rfl h
  | mclr => exact keeps_of_movesN (execMclr_moves _ _ _) rfl h
  | gld => exact keeps_of_movesN (execGld_moves _ _ _) rfl h
  | gst => exact keeps_of_movesN (execGst_moves _ _ _) rfl h
  | send => exact keeps_of_movesN (execSend_moves _ _ _) rfl h
  | recv => exact keeps_of_movesN (execRecv_moves _ _ _) rfl h
  | dock => exact keeps_of_movesN (execDock_moves _ _ _) rfl h
  | fill => exact keeps_of_movesN (execFill_moves _ _ _) rfl h
  | coll => exact keeps_of_movesN (execColl_moves _ _ _) rfl h
  | wait => exact keeps_of_movesN (execWait_moves _ _ _) rfl h
  | wait1 => exact keeps_of_movesN (execWait1_moves _ _ _) rfl h
  | waitall => exact keeps_of_movesN (execWaitall_moves _ _ _) rfl h
  | strum => exact keeps_of_movesN (execStrum_moves _ _ _) rfl h
  | ticketWaitEnd => exact keeps_of_movesN (execTicketWaitEnd_moves _ _ _) rfl h
  | globalLoadComplete => exact keeps_of_movesN (execGlobalLoadComplete_moves _ _ _) rfl h
  | globalStoreComplete => exact keeps_of_movesN (execGlobalStoreComplete_moves _ _ _) rfl h
  | fillComplete => exact keeps_of_movesN (execFillComplete_moves _ _ _) rfl h
  | sendDispatch => exact keeps_of_movesN (execSendDispatch_moves _ _ _) rfl h
  | channelRequest => exact keeps_of_movesN (execChannelRequest_moves _ _ _ _ _ _ _) rfl h
  | channelArbitration => exact keeps_of_movesN (execChannelArbitration_moves _ _ _) rfl h
  | burstLimitExpiry => exact keeps_of_movesN (execBurstLimitExpiry_moves _ _) rfl h
  | transferComplete => exact keeps_of_movesN (execTransferComplete_moves _ _) rfl h
  | starvationGrant => exact keeps_of_movesN (execStarvationGrant_moves _ _ _) rfl h
  | refreshDue => exact keeps_of_movesN (execRefreshDue_moves _ _ _) rfl h
  | dramLineRead => exact keeps_of_movesN (execDramLineRead_moves _ _ _) rfl h
  | correctionWriteback => exact keeps_of_movesN (execCorrectionWriteback_moves _ _) rfl h
  | poisonMarkInStore => exact keeps_of_movesN (execPoisonMarkInStore_moves _ _) rfl h
  | eccLogClear => exact keeps_of_movesN (execEccLogClear_moves _ _ _ _) rfl h
  | docketArrival => exact keeps_of_movesN (execDocketArrival_moves _ _ _) rfl h
  | docketStart => exact keeps_of_movesN (execDocketStart_moves _ _) rfl h
  | loadv => exact keeps_of_movesN (execLoadv_moves _ _) rfl h
  | matv => exact keeps_of_movesN (execMatv_moves _ _) rfl h
  | attn => exact keeps_of_movesN (execAttn_moves _ _) rfl h
  | gather => exact keeps_of_movesN (execGather_moves _ _) rfl h
  | scatter => exact keeps_of_movesN (execScatter_moves _ _) rfl h
  | reduce => exact keeps_of_movesN (execReduce_moves _ _) rfl h
  | quant => exact keeps_of_movesN (execQuant_moves _ _) rfl h
  | copy => exact keeps_of_movesN (execCopy_moves _ _) rfl h
  | docketFill => exact keeps_of_movesN (execDocketFill_moves _ _) rfl h
  | zero => exact keeps_of_movesN (execZero_moves _ _) rfl h
  | docketScrub => exact keeps_of_movesN (execDocketScrub_moves _ _ _) rfl h
  | docketComplete => exact keeps_of_movesN (execDocketComplete_moves _ _) rfl h
  | engineClockUngate => exact keeps_of_movesN (execEngineClockUngate_moves _ _) rfl h
  | engineStall => exact keeps_of_movesN (execEngineStall_moves _ _) rfl h
  | scrubStart => exact keeps_of_movesN (execScrubStart_moves _) rfl h
  | scrubAbort => exact keeps_of_movesN (execScrubAbort_moves _) rfl h
  | scrubDone => exact keeps_of_movesN (execScrubDone_moves _) rfl h
  | packetHeadArrival => exact keeps_of_movesN (execPacketHeadArrival_moves _ _ _ _) rfl h
  | flitArrival => exact keeps_of_movesN (execFlitArrival_moves _ _ _ _) rfl h
  | outputAllocate => exact keeps_of_movesN (execOutputAllocate_moves _ _ _) rfl h
  | tailTimeout => exact keeps_of_movesN (execTailTimeout_moves _ _ _) rfl h
  | flitSlotSchedule => exact keeps_of_movesN (execFlitSlotSchedule_moves _ _) rfl h
  | strictWindowEnd => exact keeps_of_movesN (execStrictWindowEnd_moves _ _) rfl h
  | memoryWriteArrival => exact keeps_of_movesN (execMemoryWriteArrival_moves _ _) rfl h
  | memoryReadRequest => exact keeps_of_movesN (execMemoryReadRequest_moves _ _) rfl h
  | readResponseArrival => exact keeps_of_movesN (execReadResponseArrival_moves _ _) rfl h
  | writeAckArrival => exact keeps_of_movesN (execWriteAckArrival_moves _ _) rfl h
  | refusalArrival => exact keeps_of_movesN (execRefusalArrival_moves _ _) rfl h
  | channelMessageArrival => exact keeps_of_movesN (execChannelMessageArrival_moves _ _) rfl h
  | channelCreditArrival => exact keeps_of_movesN (execChannelCreditArrival_moves _ _) rfl h
  | slotCreditArrival => exact keeps_of_movesN (execSlotCreditArrival_moves _ _) rfl h
  | echoRequest => exact keeps_of_movesN (execEchoRequest_moves _ _) rfl h
  | echoReply p => exact keeps_of_movesN (execEchoReply_moves p s) rfl h
  | resetNotice => exact keeps_of_movesN (execResetNotice_moves _ _) rfl h
  | unknownSystemMessage => exact keeps_of_movesN (execUnknownSystemMessage_moves _ _) rfl h
  | stocktakeTimer => exact keeps_of_movesN (execStocktakeTimer_moves _ _) rfl h
  | fabStocktake => exact keeps_of_movesN (execFabStocktake_moves _ _ _) rfl h
  | stocktakeMarkerReceive => exact keeps_of_movesN (execStocktakeMarkerReceive_moves _ _ _ _) rfl h
  | packetIdentityCheck => exact keeps_of_movesN (execPacketIdentityCheck_moves _ _) rfl h
  | fabSnapshot => exact keeps_of_movesN (execFabSnapshot_moves _ _) rfl h
  | dataFrameReceive => exact keeps_of_movesN (execDataFrameReceive_moves _ _ _ _) rfl h
  | idleFrameReceive => exact keeps_of_movesN (execIdleFrameReceive_moves _ _ _ _) rfl h
  | replayBufferFull => exact keeps_of_movesN (execReplayBufferFull_moves _ _) rfl h
  | retrainTrigger => exact keeps_of_movesN (execRetrainTrigger_moves _ _) rfl h
  | ckLoss => exact keeps_of_movesN (execCkLoss_moves _ _) rfl h
  | portRetrain => exact keeps_of_movesN (execPortRetrain_moves _ _ _) rfl h
  | portRelease => exact keeps_of_movesN (execPortRelease_moves _ _ _) rfl h
  | neighbourTraining => exact keeps_of_movesN (execNeighbourTraining_moves _ _) rfl h
  | ckReceived => exact keeps_of_movesN (execCkReceived_moves _ _) rfl h
  | ckLockDone => exact keeps_of_movesN (execCkLockDone_moves _ _) rfl h
  | laneAlignmentDone => exact keeps_of_movesN (execLaneAlignmentDone_moves _ _ _ _) rfl h
  | rungMeasureDone => exact keeps_of_movesN (execRungMeasureDone_moves _ _ _ _) rfl h
  | identityFrameReceive => exact keeps_of_movesN (execIdentityFrameReceive_moves _ _ _ _) rfl h
  | rungDecision => exact keeps_of_movesN (execRungDecision_moves _ _) rfl h
  | portActive => exact keeps_of_movesN (execPortActive_moves _ _) rfl h
  | identityResend => exact keeps_of_movesN (execIdentityResend_moves _ _) rfl h
  | quietIdleTimeout => exact keeps_of_movesN (execQuietIdleTimeout_moves _ _) rfl h
  | quietEntryReceive => exact keeps_of_movesN (execQuietEntryReceive_moves _ _ _ _) rfl h
  | quietPowerDown => exact keeps_of_movesN (execQuietPowerDown_moves _ _) rfl h
  | quietWake => exact keeps_of_movesN (execQuietWake_moves _ _) rfl h
  | wakeBurstDetect => exact keeps_of_movesN (execWakeBurstDetect_moves _ _ _ _ _) rfl h
  | sealedPacketCheck => exact keeps_of_movesN (execSealedPacketCheck_moves _ _ _) rfl h
  | timeTransferTimer => exact keeps_of_movesN (execTimeTransferTimer_moves _ _ _) rfl h
  | timeRequestReceive => exact keeps_of_movesN (execTimeRequestReceive_moves _ _ _ _ _) rfl h
  | timeReplyReceive => exact keeps_of_movesN (execTimeReplyReceive_moves _ _ _ _ _) rfl h
  | exchangeTimeout => exact keeps_of_movesN (execExchangeTimeout_moves _ _) rfl h
  | holdoverEntry => exact keeps_of_movesN (execHoldoverEntry_moves _) rfl h
  | holdoverLong => exact keeps_of_movesN (execHoldoverLong_moves _) rfl h
  | standbyRootTakeover => exact keeps_of_movesN (execStandbyRootTakeover_moves _) rfl h
  | strumPartialArrival => exact keeps_of_movesN (execStrumPartialArrival_moves _ _) rfl h
  | strumResultArrival => exact keeps_of_movesN (execStrumResultArrival_moves _ _) rfl h
  | strumWaitExpiry => exact keeps_of_movesN (execStrumWaitExpiry_moves _ _) rfl h
  | strumDeadline => exact keeps_of_movesN (execStrumDeadline_moves _ _ _) rfl h
  | collQueuedStart => exact keeps_of_movesN (execCollQueuedStart_moves _ _ _) rfl h
  | chunkSend => exact keeps_of_movesN (execChunkSend_moves _ _ _) rfl h
  | chunkArrival => exact keeps_of_movesN (execChunkArrival_moves _ _) rfl h
  | guardContribution => exact keeps_of_movesN (execGuardContribution_moves _ _ _) rfl h
  | collectiveDeadline => exact keeps_of_movesN (execCollectiveDeadline_moves _ _ _) rfl h
  | preemptionBoundExpiry => exact keeps_of_movesN (execPreemptionBoundExpiry_moves _ _ _) rfl h
  | patternApply => exact keeps_of_movesN (execPatternApply_moves _ _) rfl h
  | imageDelivery => exact keeps_of_movesN (execImageDelivery_moves _) rfl h
  | imageBlockArrival => exact keeps_of_movesN (execImageBlockArrival_moves _ _) rfl h
  | imageBlockPull => exact keeps_of_movesN (execImageBlockPull_moves _ _ _) rfl h
  | planScan => exact keeps_of_movesN (execPlanScan_moves _) rfl h
  | stepWake => exact keeps_of_movesN (execStepWake_moves _ _) rfl h
  | readinessVote => exact keeps_of_movesN (execReadinessVote_moves _ _) rfl h
  | readinessResultTimeout => exact keeps_of_movesN (execReadinessResultTimeout_moves _ _) rfl h
  | rampFillStart => exact keeps_of_movesN (execRampFillStart_moves _ _) rfl h
  | stepStart => exact keeps_of_movesN (execStepStart_moves _ _) rfl h
  | staggerClassStart => exact keeps_of_movesN (execStaggerClassStart_moves _ _) rfl h
  | stepAbort => exact keeps_of_movesN (execStepAbort_moves _ _) rfl h
  | stepDeadline => exact keeps_of_movesN (execStepDeadline_moves _ _) rfl h
  | auxPowerGood => exact keeps_of_movesN (execAuxPowerGood_moves _ _) rfl h
  | inputPowerGood => exact keeps_of_movesN (execInputPowerGood_moves _) rfl h
  | romBoot => exact keeps_of_movesN (execRomBoot_moves _ _) rfl h
  | recordVerify => exact keeps_of_movesN (execRecordVerify_moves _ _ _) rfl h
  | railBringup => exact keeps_of_movesN (execRailBringup_moves _) rfl h
  | stackTraining => exact keeps_of_movesN (execStackTraining_moves _ _) rfl h
  | stackAssay => exact keeps_of_movesN (execStackAssay_moves _ _ _) rfl h
  | tileAssay => exact keeps_of_movesN (execTileAssay_moves _ _ _ _) rfl h
  | serviceable => exact keeps_of_movesN (execServiceable_moves _) rfl h
  | readinessDecision => exact keeps_of_movesN (execReadinessDecision_moves _) rfl h
  | warmPath => exact keeps_of_movesN (execWarmPath_moves _ _ _) rfl h
  | warrantInstall => exact keeps_of_movesN (execWarrantInstall_moves _ _) rfl h
  | estimatorWindow => exact keeps_of_movesN (execEstimatorWindow_moves _ _ _) rfl h
  | governorRaise => exact keeps_of_movesN (execGovernorRaise_moves _ _) rfl h
  | powerCalibration => exact keeps_of_movesN (execPowerCalibration_moves _ _ _) rfl h
  | allowanceGrant => exact keeps_of_movesN (execAllowanceGrant_moves _) rfl h
  | hostCapWrite => exact keeps_of_movesN (execHostCapWrite_moves _ _) rfl h
  | trayCap => exact keeps_of_movesN (execTrayCap_moves _ _) rfl h
  | leaseRenew => exact keeps_of_movesN (execLeaseRenew_moves _ _) rfl h
  | orphanCap => exact keeps_of_movesN (execOrphanCap_moves _ _) rfl h
  | trayLeaseExpiry => exact keeps_of_movesN (execTrayLeaseExpiry_moves _) rfl h
  | overcurrent => exact keeps_of_movesN (execOvercurrent_moves _) rfl h
  | regulatorAlert => exact keeps_of_movesN (execRegulatorAlert_moves _) rfl h
  | trayHold => exact keeps_of_movesN (execTrayHold_moves _) rfl h
  | forcedFloorExitStep => exact keeps_of_movesN (execForcedFloorExitStep_moves _) rfl h
  | droopDetect => exact keeps_of_movesN (execDroopDetect_moves _ _ _ _) rfl h
  | droopStretchEnd => exact keeps_of_movesN (execDroopStretchEnd_moves _ _ _) rfl h
  | droopStorm => exact keeps_of_movesN (execDroopStorm_moves _ _) rfl h
  | stormReductionEnd => exact keeps_of_movesN (execStormReductionEnd_moves _ _) rfl h
  | operatingPointChange => exact keeps_of_movesN (execOperatingPointChange_moves _ _) rfl h
  | pointSwitch => exact keeps_of_movesN (execPointSwitch_moves _ _) rfl h
  | sensorSample => exact keeps_of_movesN (execSensorSample_moves _ _ _) rfl h
  | hotspotAdjust => exact keeps_of_movesN (execHotspotAdjust_moves _) rfl h
  | criticalTemperature => exact keeps_of_movesN (execCriticalTemperature_moves _) rfl h
  | thermalTrip => exact keeps_of_movesN (execThermalTrip_moves _) rfl h
  | coolant => exact keeps_of_movesN (execCoolant_moves _ _) rfl h
  | coolantReportTimeout => exact keeps_of_movesN (execCoolantReportTimeout_moves _) rfl h
  | rthUpdate => exact keeps_of_movesN (execRthUpdate_moves _ _) rfl h
  | coolantSlopeTrigger => exact keeps_of_movesN (execCoolantSlopeTrigger_moves _) rfl h
  | muteStepDown => exact keeps_of_movesN (execMuteStepDown_moves _) rfl h
  | heartbeat => exact keeps_of_movesN (execHeartbeat_moves _ _) rfl h
  | leaseRelease => exact keeps_of_movesN (execLeaseRelease_moves _) rfl h
  | driverLeaseExpiry => exact keeps_of_movesN (execDriverLeaseExpiry_moves _) rfl h
  | perstAssert => exact keeps_of_movesN (execPerstAssert_moves _) rfl h
  | perstDeassert => exact keeps_of_movesN (execPerstDeassert_moves _) rfl h
  | adoptContext => exact keeps_of_movesN (execAdoptContext_moves _ _) rfl h
  | adoptReset => exact keeps_of_movesN (execAdoptReset_moves _ _) rfl h
  | bar2Write => exact keeps_of_movesN (execBar2Write_moves _ _ _ _) rfl h
  | bar2Read => exact keeps_of_movesN (execBar2Read_moves _ _ _ _) rfl h
  | discover => exact keeps_of_movesN (execDiscover_moves _ _ _) rfl h
  | identity => exact keeps_of_movesN (execIdentity_moves _ _ _) rfl h
  | spdm => exact keeps_of_movesN (execSpdm_moves _ _ _ _ _) rfl h
  | getMeasurements => exact keeps_of_movesN (execGetMeasurements_moves _ _ _ _) rfl h
  | sessionTimeout => exact keeps_of_movesN (execSessionTimeout_moves _ _) rfl h
  | strangerFrame => exact keeps_of_movesN (execStrangerFrame_moves _) rfl h
  | beaconLoss => exact keeps_of_movesN (execBeaconLoss_moves _) rfl h
  | powerStatus => exact keeps_of_movesN (execPowerStatus_moves _ _) rfl h
  | cycleRequest => exact keeps_of_movesN (execCycleRequest_moves _) rfl h
  | daybook => exact keeps_of_movesN (execDaybook_moves _ _) rfl h
  | trace => exact keeps_of_movesN (execTrace_moves _ _) rfl h
  | scrub => exact keeps_of_movesN (execScrub_moves _ _) rfl h
  | status => exact keeps_of_movesN (execStatus_moves _ _) rfl h
  | receipt => exact keeps_of_movesN (execReceipt_moves _ _) rfl h
  | custodianRecord => exact keeps_of_movesN (execCustodianRecord_moves _ _) rfl h
  | ownerEnrol => exact keeps_of_movesN (execOwnerEnrol_moves _ _) rfl h
  | ownerRemove => exact keeps_of_movesN (execOwnerRemove_moves _ _) rfl h
  | serviceCommand => exact keeps_of_movesN (execServiceCommand_moves _ _) rfl h
  | teardown => exact keeps_of_movesN (execTeardown_moves _ _ _) rfl h
  | daybookMirrorSecond => exact keeps_of_movesN (execDaybookMirrorSecond_moves _) rfl h
  | updateChunk => exact keeps_of_movesN (execUpdateChunk_moves _ _) rfl h
  | bundleWrite => exact keeps_of_movesN (execBundleWrite_moves _ _) rfl h
  | activate => exact keeps_of_movesN (execActivate_moves _ _) rfl h
  | activationRetry => exact keeps_of_movesN (execActivationRetry_moves _) rfl h
  | activationAbandon => exact keeps_of_movesN (execActivationAbandon_moves _) rfl h
  | cancelActivation => exact keeps_of_movesN (execCancelActivation_moves _ _) rfl h
  | reject => exact keeps_of_movesN (execReject_moves _ _) rfl h
  | updateStatus => exact keeps_of_movesN (execUpdateStatus_moves _ _) rfl h
  | handoverDrainDone => exact keeps_of_movesN (execHandoverDrainDone_moves _) rfl h
  | handoverLoad => exact keeps_of_movesN (execHandoverLoad_moves _ _) rfl h
  | handoverRestore => exact keeps_of_movesN (execHandoverRestore_moves _ _) rfl h
  | handoverReclaim => exact keeps_of_movesN (execHandoverReclaim_moves _) rfl h
  | trialConfirm => exact keeps_of_movesN (execTrialConfirm_moves _) rfl h
  | trialTimeout => exact keeps_of_movesN (execTrialTimeout_moves _) rfl h
  | handoverRecordWrite => exact keeps_of_movesN (execHandoverRecordWrite_moves _) rfl h
  | stewardRestart => exact keeps_of_movesN (execStewardRestart_moves _) rfl h
  | resetContext => exact resetAsk_keeps (by decide) h
  | resetEngine => exact resetAsk_keeps (by decide) h
  | resetPartition => exact resetAsk_keeps (by decide) h
  | resetChip => exact resetAsk_keeps (by decide) h
  | resetPowerCycle => exact keeps_of_movesN (execResetPowerCycle_moves _ _) rfl h
  | contextReset => exact keeps_of_movesN (execContextReset_moves _ _) rfl h
  | engineReset => exact keeps_of_movesN (execEngineReset_moves _ _ _) rfl h
  | diePartitionReset => exact keeps_of_movesN (execDiePartitionReset_moves _ _) rfl h
  | stackPartitionReset => exact keeps_of_movesN (execStackPartitionReset_moves _ _ _) rfl h
  | chipReset => exact keeps_of_movesN (execChipReset_moves _) rfl h
  | resetTimerExpiry => exact keeps_of_movesN (execResetTimerExpiry_moves _ _ _ _ _) rfl h
  | stackControllerWatchdog => exact keeps_of_movesN (execStackControllerWatchdog_moves _ _) rfl h
  | meshLivenessFail => exact keeps_of_movesN (execMeshLivenessFail_moves _ _) rfl h
  | dieLinkDown => exact keeps_of_movesN (execDieLinkDown_moves _ _) rfl h
  | digestExchange => exact keeps_of_movesN (execDigestExchange_moves _ _) rfl h
  | digestResult => exact keeps_of_movesN (execDigestResult_moves _ _) rfl h
  | twinStreamExpiry => exact keeps_of_movesN (execTwinStreamExpiry_moves _) rfl h
  | mirrorHeartbeatTimer => exact keeps_of_movesN (execMirrorHeartbeatTimer_moves _) rfl h
  | mirrorHeartbeat => exact keeps_of_movesN (execMirrorHeartbeat_moves _ _ _) rfl h
  | mirrorStep => exact keeps_of_movesN (execMirrorStep_moves _ _ _) rfl h
  | resyncData => exact keeps_of_movesN (execResyncData_moves _ _) rfl h
  | resyncState => exact keeps_of_movesN (execResyncState_moves _ _ _ _ _) rfl h
  | joinRecord => exact keeps_of_movesN (execJoinRecord_moves _ _) rfl h
  | partnerLoss => exact keeps_of_movesN (execPartnerLoss_moves _) rfl h
  | twinSwap => exact keeps_of_movesN (execTwinSwap_moves _) rfl h
  | twinLeave => exact keeps_of_movesN (execTwinLeave_moves _) rfl h
  | twinResync => exact keeps_of_movesN (execTwinResync_moves _) rfl h
  | inputAlert => exact keeps_of_movesN (execInputAlert_moves _) rfl h
  | inputLoss => exact keeps_of_movesN (execInputLoss_moves _) rfl h
  | auxLoss => exact keeps_of_movesN (execAuxLoss_moves _) rfl h
  | tripBackstop => exact keeps_of_movesN (execTripBackstop_moves _) rfl h
  | slotIdChange => exact keeps_of_movesN (execSlotIdChange_moves _ _) rfl h
  | regulatorAlertClear => exact keeps_of_movesN (execRegulatorAlertClear_moves _) rfl h
  | trayHoldRelease => exact keeps_of_movesN (execTrayHoldRelease_moves _) rfl h
  | tilePllLock => exact keeps_of_movesN (execTilePllLock_moves _ _) rfl h
  | d3hot => exact keeps_of_movesN (execD3hot_moves _ _) rfl h
  | unknownCommand => exact keeps_of_movesN (execUnknownCommand_moves _ _ _) rfl h
  | cycleRequestAnswer => exact keeps_of_movesN (execCycleRequestAnswer_moves _) rfl h
  | linkResetComplete => exact keeps_of_movesN (execLinkResetComplete_moves _ _) rfl h

/-- Settles O6: a command runs on the state without it in the queue, whose tables are the same, and keeps their form (`exec_keeps`). -/
theorem everyStepKeepsCanonical : Obligations.EveryStepKeepsCanonical := by
  intro s t hs h
  unfold step at h
  split at h
  · exact (exec_keeps h).canon ⟨hs.mem, hs.regs, hs.tiles, hs.gangs, hs.chans, hs.engs, hs.lineErr, hs.outs, hs.dies, hs.stks⟩
  · injection h with h
    subst h
    exact (tick_moves s).canon hs

end Sys2Proof.Proofs

/-! ### The state after reset -/

namespace Sys2Proof.Proofs

open Sys2Proof Sys2Proof.Machine Sys2Proof.Safety

/-- After reset a register reads the reset value of its row. -/
theorem regGet_reset (k : Nat) : regGet State.reset k = regReset k := rfl

theorem regReset_of_no_row {k : Nat} (h : regRow k = none) : regReset k = 0 := by
  simp [regReset, h]

theorem regReset_of_row {k : Nat} {r : RegRow} (h : regRow k = some r) : regReset k = BitVec.ofNat 64 r.reset := by
  simp [regReset, h]

theorem memRead_reset (off n : Nat) : memRead State.reset off n = List.replicate n 0 := by
  have hread : memRead State.reset off n = (List.range n).map fun _ => (0 : Byte) := mapGetList_eq (0 : Byte) [] off n rfl
  simpa using hread

/-- Settles O4: every table of the state after reset is empty. -/
theorem resetIsCanonical : Obligations.ResetIsCanonical :=
  ⟨memory_reset_wf, rfl, rfl, rfl, rfl, rfl, rfl, rfl, rfl, rfl⟩

/-- Settles O3: the rows give the reset values, and nothing is listed in memory. -/
theorem resetLeavesThePowerOnState : Obligations.ResetLeavesThePowerOnState := by
  refine ⟨by decide +kernel, by decide +kernel, by decide +kernel, by decide +kernel, by decide +kernel, fun k hk => ?_, memRead_reset,
    rfl, rfl, rfl, rfl, rfl, rfl, rfl⟩
  rw [regGet_reset]
  rcases hk with hk | ⟨r, hk, hr⟩
  · exact regReset_of_no_row hk
  · rw [regReset_of_row hk, hr]
    rfl

end Sys2Proof.Proofs

/-! ### Register writes -/

namespace Sys2Proof.Proofs

open Sys2Proof Sys2Proof.Machine Sys2Proof.Safety Sys2Proof.Laws

/-- A register reads the value it was set to. -/
theorem regGet_regSet_self {s : State} (h : mapRising s.regs = true) (k : Nat) (v : Word) : regGet (regSet s k v) k = v := by
  simp only [regGet, regSet_regs, regsPut]
  split
  · next hv => rw [mapFind_mapDel_self _ _ h, hv]; rfl
  · rw [mapFind_mapPut_self]; rfl

/-- Setting a register leaves every other one as it reads. -/
theorem regGet_regSet_ne {s : State} (h : mapRising s.regs = true) {k j : Nat} (v : Word) (hj : j ≠ k) :
    regGet (regSet s k v) j = regGet s j := by
  simp only [regGet, regSet_regs, regsPut]
  split
  · rw [mapFind_mapDel_ne _ _ _ h hj]
  · rw [mapFind_mapPut_ne _ _ _ _ h hj]

/-- No row of the tables has a bit that a written 1 clears. -/
theorem regRow_w1c {k : Nat} {r : RegRow} (h : regRow k = some r) : r.w1c = 0 := by
  have hall : ∀ q ∈ regRows, q.w1c = 0 := by decide +kernel
  exact hall r (List.mem_of_find?_eq_some h)

/-- The bits of a register after a write by a row that clears none. -/
theorem written_getLsbD {r : RegRow} (hc : r.w1c = 0) (old v : Word) {i : Nat} (hi : i < 64) :
    (written r old v).getLsbD i = if r.rw.testBit i = true then v.getLsbD i else old.getLsbD i := by
  simp only [written, hc, BitVec.getLsbD_or, BitVec.getLsbD_and, BitVec.getLsbD_not, BitVec.getLsbD_ofNat, hi, Nat.zero_testBit]
  cases r.rw.testBit i <;> simp

/-- A write by its row to a register that has one. -/
theorem regWrite_row {s : State} {k : Nat} {r : RegRow} (h : regRow k = some r) (v : Word) :
    regWrite s k v = regSet s k (written r (regGet s k) (storedAs k v)) := by
  simp only [regWrite, h]

theorem regWrite_no_row {s : State} {k : Nat} (h : regRow k = none) (v : Word) : regWrite s k v = s := by
  simp only [regWrite, h]

/-- A write by its row changes the register file alone. -/
theorem regWrite_frame (s : State) (k : Nat) (v : Word) : { regWrite s k v with regs := s.regs } = s := by
  unfold regWrite
  split
  · rfl
  · rfl

theorem regGet_regWrite_ne {s : State} (h : mapRising s.regs = true) {k j : Nat} (v : Word) (hj : j ≠ k) :
    regGet (regWrite s k v) j = regGet s j := by
  unfold regWrite
  split
  · exact regGet_regSet_ne h _ hj
  · rfl

/-- The bits of a register with a row after a write: those that its row lets a write set take the stored value, the rest stand. -/
theorem regGet_regWrite_getLsbD {s : State} (h : mapRising s.regs = true) {k : Nat} {r : RegRow} (hr : regRow k = some r) (v : Word)
    {i : Nat} (hi : i < 64) :
    (regGet (regWrite s k v) k).getLsbD i =
      if r.rw.testBit i = true then (storedAs k v).getLsbD i
      else (regGet s k).getLsbD i && !(r.w1c.testBit i && v.getLsbD i) := by
  rw [regWrite_row hr, regGet_regSet_self h, written_getLsbD (regRow_w1c hr) _ _ hi, regRow_w1c hr]
  simp

/-! Daybook entries of warning severity -/

theorem bookWrite_regs_rising {s : State} (h : mapRising s.regs = true) (e : DbEntry) : mapRising (bookWrite s e).regs = true :=
  regsPut_rising _ _ _ (regsPut_rising _ _ _ h)

theorem regGet_bookWrite_ne {s : State} (h : mapRising s.regs = true) (e : DbEntry) {k : Nat} (hh : k ≠ regDaybookHead)
    (ho : k ≠ regDaybookOldest) : regGet (bookWrite s e) k = regGet s k := by
  refine (regGet_regSet_ne (regsPut_rising _ _ _ h) _ ho).trans ?_
  exact regGet_regSet_ne (s := { s with book := _ }) h _ hh

theorem regGet_mirrorEntry_ne {s : State} (h : mapRising s.regs = true) (e : DbEntry) {k : Nat} (hk : k ≠ regDaybookMirror) :
    regGet (mirrorEntry s e) k = regGet s k := by
  unfold mirrorEntry
  split
  · exact regGet_regSet_ne (s := { s with book := _ }) h _ hk
  · rfl

theorem rollSecond_regs (s : State) : (rollSecond s).regs = s.regs := by
  dsimp only [rollSecond]
  split
  · rfl
  · rfl

/-- A Daybook entry of warning severity leaves every register but the Daybook's own as it reads. -/
theorem regGet_logEvent_warning {s : State} (h : mapRising s.regs = true) (source code ctx : Nat) (args : List Nat) {k : Nat}
    (hh : k ≠ regDaybookHead) (ho : k ≠ regDaybookOldest) (hm : k ≠ regDaybookMirror) :
    regGet (logEvent s source code 3 ctx args) k = regGet s k := by
  have hroll : mapRising (rollSecond s).regs = true := by rw [rollSecond_regs]; exact h
  refine (regGet_mirrorEntry_ne (bookWrite_regs_rising hroll _) _ hm).trans ?_
  refine (regGet_bookWrite_ne hroll _ hh ho).trans ?_
  simp only [regGet, rollSecond_regs]

/-! The command -/

theorem isLocked_iff (s : State) (k : Nat) :
    isLocked s k = true ↔ s.plan.pattern.isSome = true ∧ ∃ r, regRow k = some r ∧ r.lk = true := by
  unfold isLocked
  cases regRow k <;> simp

/-- The Daybook's registers have no row, so that an entry of warning severity leaves every locked register as it reads. -/
theorem regGet_logEvent_locked {s : State} (h : mapRising s.regs = true) (source code ctx : Nat) (args : List Nat) {k : Nat}
    (hk : ∃ r, regRow k = some r ∧ r.lk = true) : regGet (logEvent s source code 3 ctx args) k = regGet s k := by
  obtain ⟨r, hr, -⟩ := hk
  have hne : ∀ j, regRow j = none → k ≠ j := by
    rintro j hj rfl
    rw [hj] at hr
    cases hr
  exact regGet_logEvent_warning h _ _ _ _ (hne _ (by decide +kernel)) (hne _ (by decide +kernel)) (hne _ (by decide +kernel))

theorem regTake_locked {s : State} {k : Nat} (hk : k < 0x300000) (hl : isLocked s k = true) (mgmt : Bool) (v : Word) :
    regTake mgmt s k v = logEvent s 1 0x1001 3 0xFF [bar0Offset k, v.toNat, if mgmt then 2 else 1] := by
  unfold regTake
  rw [if_neg (by omega), if_pos hl]

/-- A write to a register that only holds a value and shares it with no other. -/
theorem regTake_held {s : State} {k : Nat} (hk : k < 0x300000) (hl : isLocked s k = false) (mgmt : Bool) {v : Word}
    (ha : regAction s k v = none) (hmap : keyIn k (regStkMap 0) 0x10000 8 = false) (hdrone : k ≠ regDroneCtrl) :
    regTake mgmt s k v = regWrite s k v := by
  unfold regTake
  rw [if_neg (by omega), if_neg (by simp [hl]), ha, Option.getD_none, storeReg, if_neg (by simp [hmap]), if_neg hdrone]

theorem execRegisterWrite_mgmt (s : State) (k : Nat) (v : Word) : exec (.registerWrite true k v) s = .next (regTake true s k v) := rfl

/-- A host's write that no gate holds, but for its heartbeat. -/
theorem execRegisterWrite_host {s : State} (h : HostOpen s) {off k : Nat} (hoff : off ≠ regHeartbeat) (hkey : bar0Key s off = some k)
    (v : Word) : exec (.registerWrite false off v) s = .next (regTake false s k v) := by
  show execRegisterWrite false off v s = _
  unfold execRegisterWrite
  rw [if_neg (by simp [hoff])]
  simp only [writeKey, Bool.false_eq_true, if_false, hkey, writeBy_open (Or.inr h)]

/-- Settles O19: a write goes by the register's row where the register is not locked, and into the Daybook where it is. -/
theorem registerWritesFollowTheirRow : Obligations.RegisterWritesFollowTheirRow := by
  intro s k v hs hk locked host
  refine ⟨fun hfree hact hmap hdrone => ?_, fun hlocked => ?_⟩
  · have hl : isLocked s k = false := by
      rw [← Bool.not_eq_true, isLocked_iff]
      exact hfree
    have htake : ∀ mgmt, regTake mgmt s k v = regWrite s k v := fun mgmt => regTake_held hk hl mgmt hact hmap hdrone
    refine ⟨regWrite s k v, ?_, ?_, regWrite_frame s k v, fun j hj => regGet_regWrite_ne hs.regs v hj, fun hr => regWrite_no_row hr v,
      fun r hr i hi => regGet_regWrite_getLsbD hs.regs hr v hi⟩
    · rw [execRegisterWrite_mgmt, htake]
    · rintro off ⟨hopen, hoff, hkey⟩
      rw [execRegisterWrite_host hopen hoff hkey, htake]
  · have hl : isLocked s k = true := (isLocked_iff s k).mpr hlocked
    have hkeep := fun by_ => regGet_logEvent_locked hs.regs 1 0x1001 0xFF [bar0Offset k, v.toNat, by_] hlocked.2
    refine ⟨?_, hkeep 2, ?_⟩
    · rw [execRegisterWrite_mgmt, regTake_locked hk hl]
      rfl
    · rintro off ⟨hopen, hoff, hkey⟩
      refine ⟨?_, hkeep 1⟩
      rw [execRegisterWrite_host hopen hoff hkey, regTake_locked hk hl]
      rfl

end Sys2Proof.Proofs

/-! ### Requests turned away -/

namespace Sys2Proof.Proofs

open Sys2Proof Sys2Proof.Machine Sys2Proof.Safety

/-! A host's write, by its gate (15 R386, R387, 01 R45) -/

theorem hostGate_closed {s : State} (h : windowClosed s = true) (k : Nat) : hostGate s k = .closed := by
  simp [hostGate, h]

theorem hostGate_away {s : State} {k : Nat} (hopen : windowClosed s = false) (haway : stewardRuns s = false) (hk : keyMsix k = false) :
    hostGate s k = .away := by
  simp [hostGate, hopen, haway, hk]

theorem hostGate_stranger {s : State} {k : Nat} (hopen : windowClosed s = false) (hruns : stewardRuns s = true)
    (hacc : s.host.accepted = false) (hk : keyExempt k = false) : hostGate s k = .stranger := by
  simp [hostGate, hopen, hruns, hacc, hk]

/-- A host's write that is not its accepted driver's heartbeat stands before the gate of its register. -/
theorem execRegisterWrite_gated {s : State} {off k : Nat} (hkey : bar0Key s off = some k)
    (hbeat : off = regHeartbeat → s.host.accepted = true → windowClosed s = true) (v : Word) :
    exec (.registerWrite false off v) s = .next (hostWrite s k v fun a => regTake false a k v) := by
  show execRegisterWrite false off v s = _
  unfold execRegisterWrite
  rw [if_neg]
  · simp only [writeKey, Bool.false_eq_true, if_false, hkey, writeBy]
  · simpa using hbeat

/-- Before a driver is accepted: one warning for each register (01 R45). -/
theorem discardWrite_warned {s : State} {k : Nat} (h : k ∈ s.book.warned) (v : Word) : discardWrite s k v = s := by
  simp [discardWrite, h]

theorem discardWrite_first {s : State} {k : Nat} (h : k ∉ s.book.warned) (v : Word) :
    discardWrite s k v = logEvent { s with book := { s.book with warned := k :: s.book.warned } } 1 0x1002 3 0xFF [bar0Offset k, v.toNat] := by
  simp [discardWrite, h]

/-! A Plovco request (15 R386, R396, R397, 00 R9) -/

/-- An outcome is that of a Plovco request of a command under a gate that f stands behind. -/
def IsPlovco (cmd : Nat) (r : Request) (s : State) (o : Host.Outcome State Fault Refusal) : Prop :=
  ∃ formed f, o = .next (plovcoRequest s r cmd formed f)

theorem plovcoRequest_away {s : State} (h : stewardRuns s = false) (r : Request) (cmd : Nat) (formed : List Byte → Bool)
    (f : State → State) : plovcoRequest s r cmd formed f = s := by
  simp [plovcoRequest, h]

theorem plovcoRequest_stranger {s : State} {r : Request} {cmd : Nat} (hruns : stewardRuns s = true) (hcmd : cmd ≠ 0x40)
    (hnone : sessionFind s r.session = none) (formed : List Byte → Bool) (f : State → State) :
    plovcoRequest s r cmd formed f = regAdd s regStranger 1 := by
  simp [plovcoRequest, hruns, hcmd, hnone, dropFrame]

theorem plovcoRequest_barred {s : State} {r : Request} {cmd : Nat} {x : Session} (hruns : stewardRuns s = true) (hcmd : cmd ≠ 0x40)
    (hx : sessionFind s r.session = some x) (hbar : roleMay cmd x.role = false ∨ (variantOn s = false ∧ barePermits cmd = false))
    (formed : List Byte → Bool) (f : State → State) :
    plovcoRequest s r cmd formed f = reply (sessionTouch s r.session) r cmd 3 [] := by
  have hno : (!roleMay cmd x.role || (!variantOn s && !barePermits cmd)) = true := by
    rcases hbar with h | ⟨h, h'⟩
    · simp [h]
    · simp [h, h']
  simp only [plovcoRequest, hruns, hcmd, and_false, if_false, hx, Option.map_some, Option.getD_some, hno, Bool.not_true, Bool.false_eq_true,
    if_true]

/-- A stranger may send a custodian record, and a package whose service core runs takes it where a variant Warrant is in effect (15 R399). -/
theorem plovcoRequest_custodian {s : State} {r : Request} (hs : r.session = 0) (hruns : stewardRuns s = true) (hon : variantOn s = true)
    (formed : List Byte → Bool) (hf : formed r.body = true) (f : State → State) :
    plovcoRequest s r 0x40 formed f = f (sessionTouch s r.session) := by
  simp [plovcoRequest, hs, hruns, hon, hf]

theorem updateAsk_isPlovco (r : Request) (hostOp plovcoOp : Nat) (f : State → State) (s : State) :
    IsPlovco 0x30 r s (.next (updateAsk (.plovco r) hostOp plovcoOp f s)) := by
  unfold updateAsk
  exact ⟨_, _, rfl⟩

theorem resetAsk_isPlovco (r : Request) (level : Nat) (stack : Bool) (index : Nat) (s : State) :
    IsPlovco 0x24 r s (.next (resetAsk (.plovco r) level stack index s)) := by
  unfold resetAsk
  exact ⟨_, _, rfl⟩

theorem recordRequest_isPlovco (r : Request) (op cmd : Nat) (take : State → List Byte → Except Nat State) (s : State) :
    IsPlovco cmd r s (.next (recordRequest (.plovco r) op cmd take s)) := by
  unfold recordRequest
  exact ⟨_, _, rfl⟩

/-- The requests that a session alone may send (15 Table 15-8) are Plovco requests of their commands, and none is a custodian record. -/
theorem sessionRequests_isPlovco :
    ∀ e ∈ ([(0x10, .trayCap), (0x11, .leaseRenew), (0x12, .orphanCap), (0x13, .coolant), (0x14, .powerStatus), (0x20, .daybook),
      (0x21, .trace), (0x22, .scrub), (0x23, .status), (0x43, .receipt), (0x30, .updateChunk), (0x30, .updateStatus),
      (0x30, fun r => .bundleWrite (.plovco r)), (0x30, fun r => .activate (.plovco r)), (0x30, fun r => .reject (.plovco r)),
      (0x30, fun r => .cancelActivation (.plovco r)), (0x24, fun r => .resetChip (.plovco r)), (0x31, fun r => .warrantInstall (.plovco r)),
      (0x32, fun r => .serviceCommand (.plovco r)), (0x41, fun r => .ownerEnrol (.plovco r)), (0x41, fun r => .ownerRemove (.plovco r)),
      (0x42, fun r => .teardown (.plovco r) 0)] : List (Nat × (Request → Instr))),
    e.1 ≠ 0x40 ∧ ∀ (r : Request) (s : State), IsPlovco e.1 r s (exec (e.2 r) s) := by
  simp only [List.forall_mem_cons, List.not_mem_nil, false_imp_iff, implies_true, and_true]
  refine ⟨?_, ?_, ?_, ?_, ?_, ?_, ?_, ?_, ?_, ?_, ?_, ?_, ?_, ?_, ?_, ?_, ?_, ?_, ?_, ?_, ?_, ?_⟩
  iterate 12 exact ⟨by decide, fun _ _ => ⟨_, _, rfl⟩⟩
  iterate 4 exact ⟨by decide, fun r s => updateAsk_isPlovco r _ _ _ s⟩
  · exact ⟨by decide, fun r s => resetAsk_isPlovco r _ _ _ s⟩
  iterate 5 exact ⟨by decide, fun r s => recordRequest_isPlovco r _ _ _ s⟩

/-- Settles O20: a write stops at its register's gate, and a request at the session, role and Warrant that it needs. -/
theorem requestsTurnedAway : Obligations.RequestsTurnedAway := by
  refine ⟨fun s off k v hkey => ⟨fun hclosed => ?_, fun hopen haway hmsix hbeat => ?_, fun hopen hruns hacc hexempt => ?_⟩,
    fun e he r s => ?_⟩
  · rw [execRegisterWrite_gated hkey fun _ _ => hclosed, hostWrite, hostGate_closed hclosed]
  · rw [execRegisterWrite_gated hkey fun h h' => absurd h' (by simp [hbeat h]), hostWrite, hostGate_away hopen haway hmsix]
    rfl
  · have hwrite : exec (.registerWrite false off v) s = .next (discardWrite s k v) := by
      rw [execRegisterWrite_gated hkey fun _ h' => absurd h' (by simp [hacc]), hostWrite, hostGate_stranger hopen hruns hacc hexempt]
    refine ⟨fun hold => ?_, fun hnew => ?_⟩
    · rw [hwrite, discardWrite_warned hold]
    · rw [hwrite, discardWrite_first hnew]
  · obtain ⟨hcmd, hplovco⟩ := sessionRequests_isPlovco e he
    obtain ⟨formed, f, hexec⟩ := hplovco r s
    rw [hexec]
    refine ⟨fun haway => ?_, fun hruns => ⟨fun hnone => ?_, fun x hx hbar => ?_⟩⟩
    · rw [plovcoRequest_away haway]
    · rw [plovcoRequest_stranger hruns hcmd hnone]
    · rw [plovcoRequest_barred hruns hcmd hx hbar]

end Sys2Proof.Proofs

/-! ### Key records -/

namespace Sys2Proof.Proofs

open Sys2Proof Sys2Proof.Machine Sys2Proof.Safety

/-- An accepted record leaves SEC_STATUS done, a refused one leaves it refused with the reason. -/
theorem recordTake_ok {s u : State} {bs : List Byte} {take : State → List Byte → Except Nat State} (h : take s bs = .ok u) :
    recordTake s bs take = regSet u regSecStatus (BitVec.ofNat 64 (2 * 2 ^ 62)) := by
  simp only [recordTake, h]
  rfl

theorem recordTake_error {s : State} {bs : List Byte} {take : State → List Byte → Except Nat State} {e : Nat}
    (h : take s bs = .error e) : recordTake s bs take = regSet s regSecStatus (BitVec.ofNat 64 (3 * 2 ^ 62 + e * 2 ^ 56)) := by
  simp only [recordTake, h]
  rfl

/-- A record that an accepted host stages well is judged after the lines it lies in are read. -/
theorem recordRequest_host {s : State} (hopen : HostOpen s) (hon : variantOn s = true) (hok : stagedOk s = true) (op cmd : Nat)
    (take : State → List Byte → Except Nat State) :
    recordRequest .host op cmd take s =
      recordTake (linesReadEffects s (linesOf (regField s regSecRecord 47 0) (regField s regSecRecord 63 48))) (stagedRecord s) take := by
  simp [recordRequest, hostWrite_open hopen, recordJudge, hon, hok]

/-- A requester whose pieces the package takes: a session of a permitted role, or a stranger with a custodian record (15 R399). -/
def MaySend (s : State) (r : Request) (cmd : Nat) : Prop :=
  Asks s r cmd ∨ cmd = 0x40 ∧ r.session = 0 ∧ stewardRuns s = true ∧ variantOn s = true

theorem plovcoRequest_maySend {s : State} {r : Request} {cmd : Nat} (h : MaySend s r cmd) (formed : List Byte → Bool)
    (hf : formed r.body = true) (f : State → State) : plovcoRequest s r cmd formed f = f (sessionTouch s r.session) := by
  rcases h with h | ⟨rfl, hs, hruns, hon⟩
  · exact plovcoRequest_served h formed hf f
  · exact plovcoRequest_custodian hs hruns hon formed hf f

/-- A piece before the last is held and answered with status 0. -/
theorem recordRequest_piece {s t : State} {r : Request} {cmd : Nat} (h : MaySend s r cmd) (hf : pieceFormed r.body = true)
    (hp : pieceArrive (sessionTouch s r.session) r cmd = (none, t)) (op : Nat) (take : State → List Byte → Except Nat State) :
    recordRequest (.plovco r) op cmd take s = reply t r cmd 0 (regBytes (regGet t regSecStatus)) := by
  simp only [recordRequest, plovcoRequest_maySend h _ hf, hp]

/-- The last piece completes the record, which is judged and answered with SEC_STATUS, status 4 where it was refused. -/
theorem recordRequest_last {s t : State} {r : Request} {cmd : Nat} {bs : List Byte} (h : MaySend s r cmd) (hf : pieceFormed r.body = true)
    (hp : pieceArrive (sessionTouch s r.session) r cmd = (some bs, t)) (op : Nat) (take : State → List Byte → Except Nat State) :
    recordRequest (.plovco r) op cmd take s =
      let u := recordTake t bs take
      reply u r cmd (if regField u regSecStatus 63 62 = 3 then 4 else 0) (regBytes (regGet u regSecStatus)) := by
  simp only [recordRequest, plovcoRequest_maySend h _ hf, hp]

/-- The record commands of the host, with the rule that judges each. -/
theorem hostRecords_exec (residue : Nat) (s : State) :
    ∀ c ∈ ([(Instr.custodianRecord, custodianTake), (Instr.ownerEnrol, enrolTake), (Instr.ownerRemove, removeTake),
      (Instr.serviceCommand, serviceTake), (fun o => Instr.teardown o residue, teardownTake residue (some (regField s regSecRecord 47 0)))]
      : List ((Origin → Instr) × (State → List Byte → Except Nat State))),
    ∃ op cmd, exec (c.1 .host) s = .next (recordRequest .host op cmd c.2 s) := by
  simp only [List.forall_mem_cons, List.not_mem_nil, false_imp_iff, implies_true, and_true]
  exact ⟨⟨_, _, rfl⟩, ⟨_, _, rfl⟩, ⟨_, _, rfl⟩, ⟨_, _, rfl⟩, ⟨_, _, rfl⟩⟩

/-- The record commands over Plovco, with their Plovco commands and the rule that judges each. -/
theorem plovcoRecords_exec (residue : Nat) :
    ∀ c ∈ ([(0x40, Instr.custodianRecord, custodianTake), (0x41, Instr.ownerEnrol, ownerTake), (0x41, Instr.ownerRemove, ownerTake),
      (0x32, Instr.serviceCommand, serviceTake), (0x42, fun o => Instr.teardown o residue, teardownTake residue none)]
      : List (Nat × (Origin → Instr) × (State → List Byte → Except Nat State))),
    ∃ op, ∀ (r : Request) (s : State), exec (c.2.1 (.plovco r)) s = .next (recordRequest (.plovco r) op c.1 c.2.2 s) := by
  simp only [List.forall_mem_cons, List.not_mem_nil, false_imp_iff, implies_true, and_true]
  exact ⟨⟨_, fun _ _ => rfl⟩, ⟨_, fun _ _ => rfl⟩, ⟨_, fun _ _ => rfl⟩, ⟨_, fun _ _ => rfl⟩, ⟨_, fun _ _ => rfl⟩⟩

/-- Settles O54: each record command is a record request with its own rule, from the host at once and over Plovco piece by piece. -/
theorem keyRecordCommandsComplete : Obligations.KeyRecordCommandsComplete := by
  intro residue s
  refine ⟨fun hopen hon hok c hc => ?_, fun c hc r t hmay hformed => ?_⟩
  · obtain ⟨op, cmd, hexec⟩ := hostRecords_exec residue s c hc
    intro t
    rw [hexec, recordRequest_host hopen hon hok]
    cases hj : c.2 t (stagedRecord s) with
    | ok u => rw [recordTake_ok hj]
    | error e => rw [recordTake_error hj]
  · obtain ⟨op, hexec⟩ := plovcoRecords_exec residue c hc
    rw [hexec]
    refine ⟨fun hp => ?_, fun bs hp => ?_⟩
    · rw [recordRequest_piece hmay hformed hp]
    · rw [recordRequest_last hmay hformed hp]

end Sys2Proof.Proofs

/-! PROOF. Scope: link frames, stocktakes and sealed packets, and the commands of the host. -/

/-! ### Links -/

namespace Sys2Proof.Proofs

open Sys2Proof Sys2Proof.Machine Sys2Proof.Safety

/-! Stocktakes and the packet identity (08 R224 to R226, 01 R39 to R41) -/

theorem execStocktakeTimer_due {s : State} {port : Nat} (hp : port < 30) (hdue : (mkGet s port).due ≤ s.clock) :
    exec (.stocktakeTimer port) s = .next (sendMarker s port false) :=
  if_pos ⟨hp, hdue⟩

theorem execFabStocktake_open {s : State} {mgmt : Bool} (h : mgmt = true ∨ HostOpen s) (ports : Nat) :
    exec (.fabStocktake mgmt ports) s = .next (fabStocktake ports s) :=
  congrArg _ (writeBy_open h _ _ _)

/-- The side wires of an internal port carry its markers without a frame. -/
theorem execStocktakeMarkerReceive_internal {s : State} {port : Nat} (hp : port < 30) (hin : isInternal port = true) (msg : Nat)
    (errs : List Nat) : exec (.stocktakeMarkerReceive port msg errs) s
      = .next (takeMarker s port (bytesOf 128 (((slotsOf msg)[0]?).getD emptySlot).data)) := by
  show execStocktakeMarkerReceive port msg errs s = _
  simp [execStocktakeMarkerReceive, hp, hin]

theorem execPacketIdentityCheck_broken {s : State} {port : Nat} (hp : port < 30) {bad : List Nat} (hne : bad ≠ [])
    (hbad : ((List.range 6).filter fun v => (packetSides s port v).1 != (packetSides s port v).2) = bad) :
    exec (.packetIdentityCheck port) s = .next (linkReset (regPut (bad.foldl (fun a v =>
      logEvent a 0x60 0x3002 4 0xFF [port, v, (packetSides s port v).1, (packetSides s port v).2]) s) (regPortStatus port) 7 7 1) port) := by
  subst hbad
  exact if_neg (by simpa [hp] using hne)

/-! A frame that is delivered: the link is up, and `frameTake` takes it with the frame awaited (10 R275, R276) -/

section Delivered

variable {s t : State} {port msg : Nat} {errs : List Nat}

theorem execDataFrameReceive_delivered (hup : linkUp s port = true) (htake : frameTake s port msg errs = (t, true))
    (htype : (headerOf msg).ftype = 0) : exec (.dataFrameReceive port msg errs) s =
      .next (((slotsOf msg).filter (· != emptySlot)).foldl (fun a f => flitIn a port f)
        (lpMod t port fun x => { x with quietSent := false, quietGot := false, busy := s.clock })) := by
  show execDataFrameReceive port msg errs s = _
  simp [execDataFrameReceive, hup, htype, htake]

theorem execIdleFrameReceive_delivered (hup : linkUp s port = true) (htake : frameTake s port msg errs = (t, true))
    (htype : (headerOf msg).ftype = 1) : exec (.idleFrameReceive port msg errs) s = .next t := by
  show execIdleFrameReceive port msg errs s = _
  simp [execIdleFrameReceive, hup, htype, htake]

theorem execStocktakeMarkerReceive_delivered (hup : linkUp s port = true) (htake : frameTake s port msg errs = (t, true))
    (htype : (headerOf msg).ftype = 2) (hp : port < 30) (hopt : isInternal port = false) :
    exec (.stocktakeMarkerReceive port msg errs) s
      = .next (takeMarker t port (bytesOf 128 (((slotsOf msg)[0]?).getD emptySlot).data)) := by
  show execStocktakeMarkerReceive port msg errs s = _
  simp [execStocktakeMarkerReceive, hup, htype, htake, hp, hopt]

/-- A Quiet-entry frame is noted, and answered where this end meets the conditions and has not asked itself. -/
theorem execQuietEntryReceive_delivered (hup : linkUp s port = true) (htake : frameTake s port msg errs = (t, true))
    (htype : (headerOf msg).ftype = 4) {u : State} (hu : (lpMod t port fun x => { x with quietGot := true }) = u) :
    exec (.quietEntryReceive port msg errs) s
      = .next (if quietMeets u port = true ∧ (lpGet u port).quietSent = false then sendQuiet u port else u) := by
  subst hu
  show execQuietEntryReceive port msg errs s = _
  simp [execQuietEntryReceive, hup, htype, htake]

end Delivered

/-! Replay (10 R276) -/

theorem execReplayBufferFull_full {s : State} {port : Nat} {f : TxFrame} {fs : List TxFrame} (hup : linkUp s port = true)
    (hold : (lpGet s port).replay = f :: fs) (hfull : canSend s port = false) :
    exec (.replayBufferFull port) s = .next (replayStart s port f.seq) := by
  show execReplayBufferFull port s = _
  simp [execReplayBufferFull, hup, hold, hfull]

/-! Sealed packets (10 R292) -/

section Sealed

variable {s : State} {port vc : Nat} {pkt rest : List Flit}

/-- A held packet that opens leaves its counter in the window and its flits with the router; its seal flit is the port's own. -/
theorem execSealedPacketCheck_opened {flits : List Flit} {ctr : Nat} {l : Flit}
    (hheld : firstHeld (mapGet [] (lpGet s port).sealRx vc) = some (pkt, rest)) (hopen : sealOpen s pkt = some (flits, ctr))
    (hlast : pkt.getLast? = some l) {src : Nat} (hsrc : (pkt.head?.map fun f => (headOf f.data).src).getD 0 = src) {s1 : State}
    (hs1 : (lpMod s port fun x => { x with sealRx := mapSet [] x.sealRx vc rest }) = s1) :
    exec (.sealedPacketCheck port vc) s = .next (takeFlit (flits.foldl (fun a f =>
        if isHead f = true then headArrive a port f.ctrl f.data else flitArrive a port f.ctrl f.data)
      { s1 with link := { s1.link with
          sealSeen := mapPut s1.link.sealSeen src (sealSee ((mapFind s.link.sealSeen src).getD ⟨0, []⟩) ctr) } }) port l) := by
  subst hsrc hs1
  show execSealedPacketCheck port vc s = _
  simp only [execSealedPacketCheck, hheld, hopen, hlast]

/-- A held packet that does not open frees its flits and is counted and logged. -/
theorem execSealedPacketCheck_discarded (hheld : firstHeld (mapGet [] (lpGet s port).sealRx vc) = some (pkt, rest))
    (hfail : sealOpen s pkt = none) {s1 : State}
    (hs1 : (lpMod s port fun x => { x with sealRx := mapSet [] x.sealRx vc rest }) = s1) :
    exec (.sealedPacketCheck port vc) s = .next (logEvent (regAdd (pkt.foldl (fun a f => takeFlit a port f) s1) (regPrtSealFail port) 1)
      (0x40 + port) 0x5002 3 0xFF [port, (pkt.head?.map fun f => (headOf f.data).src).getD 0]) := by
  subst hs1
  show execSealedPacketCheck port vc s = _
  simp only [execSealedPacketCheck, hheld, hfail]

end Sealed

/-! Quiet (10 R288, R289) -/

section Quiet

variable {s : State} {port : Nat}

theorem execQuietIdleTimeout_idle (hp : port < 18) (hmeets : quietMeets s port = true) (hsent : (lpGet s port).quietSent = false) :
    exec (.quietIdleTimeout port) s = .next (sendQuiet s port) :=
  if_pos ⟨hp, hmeets, by simp [hsent]⟩

/-- Both Quiet-entry frames have passed and nothing waits: the port powers down. -/
theorem execQuietPowerDown_agreed (hp : port < 18) (hphase : prtPhase s port = 8) (hstate : portState s port = 2)
    (hsent : (lpGet s port).quietSent = true) (hgot : (lpGet s port).quietGot = true) (hfree : quietFree s port = true) :
    exec (.quietPowerDown port) s
      = .next (setPhase (regAdd (lpSet s port { lpGet s port with quietSince := s.clock }) (regPrtQuiet port) 1) port 9) :=
  if_pos ⟨hp, hphase, hstate, hsent, hgot, hfree⟩

theorem execQuietWake_waiting (hp : port < 18) (hphase : prtPhase s port = 9) (hwait : quietFree s port = false) :
    exec (.quietWake port) s = .next (wakePort s port) :=
  if_pos ⟨hp, hphase, by simp [hwait]⟩

end Quiet

/-- Settles O43: each command of a link takes the branch of its occasion. -/
theorem linkFramesAndStocktakesComplete : Obligations.LinkFramesAndStocktakesComplete :=
  ⟨fun _ _ => execStocktakeTimer_due,
    fun _ ports _ h => execFabStocktake_open h ports,
    fun _ msg errs _ hp hin => execStocktakeMarkerReceive_internal hp hin msg errs,
    fun _ _ hp hne => execPacketIdentityCheck_broken hp hne rfl,
    fun _ _ _ _ _ hup htake => ⟨execDataFrameReceive_delivered hup htake, execIdleFrameReceive_delivered hup htake,
      execStocktakeMarkerReceive_delivered hup htake, fun htype => execQuietEntryReceive_delivered hup htake htype rfl⟩,
    fun _ _ _ _ => execReplayBufferFull_full,
    fun _ _ _ _ _ _ _ _ hheld hopen hlast => execSealedPacketCheck_opened hheld hopen hlast rfl rfl,
    fun _ _ _ _ _ hheld hfail => execSealedPacketCheck_discarded hheld hfail rfl,
    fun _ _ hp => ⟨execQuietIdleTimeout_idle hp,
      fun hphase hstate hsent hgot hfree => execQuietPowerDown_agreed hp hphase hstate hsent hgot hfree,
      execQuietWake_waiting hp⟩⟩

end Sys2Proof.Proofs

/-! ### Host commands -/

namespace Sys2Proof.Proofs

open Sys2Proof Sys2Proof.Machine Sys2Proof.Safety

/-! The driver lease (15 R391, R392) -/

/-- The accepted driver's heartbeat starts its lease anew. -/
theorem execHeartbeat_renews {s : State} (hwin : windowClosed s = false) (hacc : s.host.accepted = true) (v : Word) :
    exec (.heartbeat v) s = .next (leaseStart s) := by
  show execHeartbeat v s = _
  simp [execHeartbeat, hwin, hacc]

/-- A write of the accepted driver to HST_HEARTBEAT is its heartbeat, which no gate holds. -/
theorem execRegisterWrite_heartbeat {s : State} (hwin : windowClosed s = false) (hacc : s.host.accepted = true) (v : Word) :
    exec (.registerWrite false regHeartbeat v) s = .next (leaseStart s) :=
  if_pos (by simp [hwin, hacc])

theorem leaseEnds_leased {s : State} (h : s.host.lease = .leased) :
    leaseEnds s = hostMod s fun h => { h with accepted := false, lease := .orphan, orphaned := definedCtxs s } :=
  if_pos h

theorem execLeaseRelease_open {s : State} (h : HostOpen s) : exec .leaseRelease s = .next (leaseEnds s) :=
  congrArg _ (hostWrite_open h _ _ _)

theorem execDriverLeaseExpiry_due {s : State} (h : s.host.leaseEnd ≤ s.clock) : exec .driverLeaseExpiry s = .next (leaseEnds s) :=
  if_pos h

/-! Contexts of an orphaned package (15 R393) -/

theorem execAdoptContext_open {s : State} (h : HostOpen s) (c : Nat) : exec (.adoptContext c) s = .next (adoptWrite s 0 (2 ^ (c % 16))) :=
  congrArg _ (hostWrite_open h _ _ _)

theorem execAdoptReset_open {s : State} (h : HostOpen s) (c : Nat) : exec (.adoptReset c) s = .next (adoptWrite s (2 ^ (c % 16)) 0) :=
  congrArg _ (hostWrite_open h _ _ _)

/-! BAR2 (15 R389) -/

/-- An accepted driver's access through an enabled segment that ends below the Steward reserve is served. -/
theorem bar2Cause_served {s : State} (hacc : s.host.accepted = true) {seg off n : Nat} (hseg : regField s (regHstBar2Map (seg % 4)) 63 63 = 1)
    (hn : bar2Target s seg off + n ≤ reserveBase s) : bar2Cause s seg off n = none := by
  simp [bar2Cause, hseg, hacc, hn]

theorem execBar2Write_served {s : State} (hwin : windowClosed s = false) {seg off : Nat} {bytes : List Byte}
    (h : bar2Cause s seg off bytes.length = none) : exec (.bar2Write seg off bytes) s = .next (memStoreClean s (bar2Target s seg off) bytes) := by
  show execBar2Write seg off bytes s = _
  simp [execBar2Write, hwin, h]

/-- A served read completes with the data; each poisoned line it takes is reported before. -/
theorem execBar2Read_served {s : State} (hwin : windowClosed s = false) {seg off n : Nat} (h : bar2Cause s seg off n = none) :
    exec (.bar2Read seg off n) s = .next (emit
      (((linesOf (bar2Target s seg off) n).filter fun l => (lineData s l).2.1).foldl hostPoison (linesReadEffects s (linesOf (bar2Target s seg off) n)))
      (.completion (memLoad s (bar2Target s seg off) n).1 (memLoad s (bar2Target s seg off) n).2.1 false)) := by
  show execBar2Read seg off n s = _
  simp [execBar2Read, hwin, h]

/-- Settles O52: an open window and an accepted driver pass each gate, and PERST_N and the power states have none. -/
theorem hostCommandsComplete : Obligations.HostCommandsComplete := by
  intro s
  refine ⟨fun k v => execRegisterWrite_mgmt s k v, fun off k v hopen hoff hkey => execRegisterWrite_host hopen hoff hkey v,
    fun v hwin hacc => ⟨execHeartbeat_renews hwin hacc v, execRegisterWrite_heartbeat hwin hacc v⟩, fun hleased => ?_, rfl,
    fun haux => if_pos haux, fun on hperst => ?_, fun c hopen => ⟨execAdoptContext_open hopen c, execAdoptReset_open hopen c⟩,
    fun seg off hwin hacc hseg => ⟨fun bytes hn => ?_, fun n hn => ?_⟩⟩
  · rw [← leaseEnds_leased hleased]
    exact ⟨execLeaseRelease_open, execDriverLeaseExpiry_due⟩
  · exact if_neg (by simp [hperst])
  · exact execBar2Write_served hwin (bar2Cause_served hacc hseg hn)
  · exact execBar2Read_served hwin (bar2Cause_served hacc hseg hn)

end Sys2Proof.Proofs

/-! PROOF. Scope: long sums and their residues, rounding, and the float, conversion, reduction and matrix operations of a slot. -/

/-! ### Long sums -/

namespace Sys2Proof.Proofs

open Sys2Proof Sys2Proof.Machine Sys2Proof.Safety

/-! Container addition, field by field (02 R62) -/

@[simp] theorem lsAdd_g (x y : LongSum) : (lsAdd x y).g = (x.g + y.g) % 2 ^ 108 := rfl

@[simp] theorem lsAdd_anchor (x y : LongSum) : (lsAdd x y).anchor = max x.anchor y.anchor := rfl

@[simp] theorem lsAdd_nf (x y : LongSum) : (lsAdd x y).nf = (x.nf || y.nf) := rfl

@[simp] theorem lsAdd_inexact (x y : LongSum) : (lsAdd x y).inexact = (x.inexact || y.inexact) := rfl

@[simp] theorem lsAdd_poison (x y : LongSum) :
    (lsAdd x y).poison = (x.poison || y.poison || decide (x.anchor ≠ y.anchor)) := rfl

@[simp] theorem lsAdd_range (x y : LongSum) : (lsAdd x y).range = (x.range || y.range || decide (x.anchor ≠ y.anchor)) := rfl

theorem longSum_ext {x y : LongSum} (hg : x.g = y.g) (ha : x.anchor = y.anchor) (hp : x.poison = y.poison)
    (hi : x.inexact = y.inexact) (hr : x.range = y.range) (hn : x.nf = y.nf) : x = y := by
  cases x; cases y; simp_all only

theorem lsAdd_comm (x y : LongSum) : lsAdd x y = lsAdd y x := by
  apply longSum_ext
  · simp [Nat.add_comm]
  · exact max_comm _ _
  · simp [Bool.or_comm x.poison, eq_comm]
  · exact Bool.or_comm _ _
  · simp [Bool.or_comm x.range, eq_comm]
  · exact Bool.or_comm _ _

/-- Of three sums in either grouping, some addition meets two anchors exactly where the three are not one anchor. -/
theorem anchors_differ_assoc (a b c : Int) : (a ≠ b ∨ max a b ≠ c) ↔ (b ≠ c ∨ a ≠ max b c) := by omega

/-- A flag that differing anchors set is the same in either grouping. -/
theorem anchorFlag_assoc (p q r : Bool) (a b c : Int) :
    (p || q || decide (a ≠ b) || r || decide (max a b ≠ c)) = (p || (q || r || decide (b ≠ c)) || decide (a ≠ max b c)) := by
  rw [Bool.eq_iff_iff]
  simp only [Bool.or_eq_true, decide_eq_true_eq]
  have := anchors_differ_assoc a b c
  tauto

theorem lsAdd_assoc (x y z : LongSum) : lsAdd (lsAdd x y) z = lsAdd x (lsAdd y z) := by
  apply longSum_ext
  · simp [Nat.add_assoc]
  · exact max_assoc _ _ _
  · exact anchorFlag_assoc _ _ _ _ _ _
  · exact Bool.or_assoc _ _ _
  · exact anchorFlag_assoc _ _ _ _ _ _
  · exact Bool.or_assoc _ _ _

/-! Adding a list of containers -/

theorem foldl_lsAdd_g (l : List LongSum) {x : LongSum} (hx : x.g < 2 ^ 108) :
    (l.foldl lsAdd x).g = (x.g + (l.map (·.g)).sum) % 2 ^ 108 := by
  induction l generalizing x with
  | nil => exact (Nat.mod_eq_of_lt hx).symm
  | cons z l ih =>
    rw [List.foldl_cons, ih (Nat.mod_lt _ (by decide)), lsAdd_g, List.map_cons, List.sum_cons, Nat.mod_add_mod, Nat.add_assoc]

/-- The anchor of the sum is the largest: none lies above it, and it is one of them. -/
theorem foldl_lsAdd_anchor (l : List LongSum) (x : LongSum) :
    let y := l.foldl lsAdd x
    x.anchor ≤ y.anchor ∧ (∀ z ∈ l, z.anchor ≤ y.anchor) ∧ (y.anchor = x.anchor ∨ ∃ z ∈ l, y.anchor = z.anchor) := by
  induction l generalizing x with
  | nil => simp
  | cons w l ih =>
    obtain ⟨hbase, hrest, hone⟩ := ih (lsAdd x w)
    rw [lsAdd_anchor] at hbase hone
    refine ⟨le_of_max_le_left hbase, List.forall_mem_cons.mpr ⟨le_of_max_le_right hbase, hrest⟩, ?_⟩
    rw [List.exists_mem_cons_iff, ← or_assoc]
    refine hone.imp_left fun h => ?_
    rcases max_choice x.anchor w.anchor with hmax | hmax
    · exact .inl (h.trans hmax)
    · exact .inr (h.trans hmax)

/-- A flag that an addition only carries is set in the sum where any container has it. -/
theorem foldl_lsAdd_carries {flag : LongSum → Bool} (hflag : ∀ x y, flag (lsAdd x y) = (flag x || flag y)) (l : List LongSum)
    (x : LongSum) : flag (l.foldl lsAdd x) = true ↔ flag x = true ∨ ∃ z ∈ l, flag z = true := by
  induction l generalizing x with
  | nil => simp
  | cons w l ih => rw [List.foldl_cons, ih, hflag, Bool.or_eq_true, List.exists_mem_cons_iff, or_assoc]

/-- A flag that an addition carries and that differing anchors set is set in the sum where any container has it or stands at another
anchor. -/
theorem foldl_lsAdd_marks {flag : LongSum → Bool}
    (hflag : ∀ x y, flag (lsAdd x y) = (flag x || flag y || decide (x.anchor ≠ y.anchor))) (l : List LongSum) (x : LongSum) :
    flag (l.foldl lsAdd x) = true ↔ flag x = true ∨ (∃ z ∈ l, flag z = true) ∨ ∃ z ∈ l, z.anchor ≠ x.anchor := by
  induction l generalizing x with
  | nil => simp
  | cons w l ih =>
    rw [List.foldl_cons, ih, hflag, lsAdd_anchor]
    simp only [Bool.or_eq_true, decide_eq_true_eq, List.exists_mem_cons_iff]
    by_cases hw : x.anchor = w.anchor
    · simp only [hw, max_self, ne_eq, not_true, or_false, false_or, or_assoc]
    · simp only [ne_eq, hw, Ne.symm hw, not_false_eq_true, or_true, true_or]

theorem foldl_lsAdd_perm {k l : List LongSum} (h : k.Perm l) (x : LongSum) : k.foldl lsAdd x = l.foldl lsAdd x :=
  have : RightCommutative lsAdd := ⟨fun x y z => by rw [lsAdd_assoc, lsAdd_comm y z, lsAdd_assoc]⟩
  h.foldl_eq x

/-- Settles O13: container addition commutes and associates, and each field of the sum of a list is found by induction on the list. -/
theorem longSumsAreOrderIndependent : Obligations.LongSumsAreOrderIndependent :=
  ⟨fun x y z => ⟨lsAdd_comm x y, lsAdd_assoc x y z⟩, fun x l hx =>
    ⟨foldl_lsAdd_g l hx, foldl_lsAdd_anchor l x, foldl_lsAdd_carries lsAdd_nf l x, foldl_lsAdd_carries lsAdd_inexact l x,
      foldl_lsAdd_marks lsAdd_poison l x, foldl_lsAdd_marks lsAdd_range l x, fun _ h => foldl_lsAdd_perm h x⟩⟩

end Sys2Proof.Proofs

/-! ### Residues -/

namespace Sys2Proof.Proofs

open Sys2Proof Sys2Proof.Machine Sys2Proof.Safety

/-! Bit fields as quotients and remainders -/

theorem bitsOf_eq_div_mod (v hi lo : Nat) : bitsOf v hi lo = v / 2 ^ lo % 2 ^ (hi - lo + 1) := by
  rw [bitsOf, Nat.shiftRight_eq_div_pow]

theorem bitOf_eq_decide (v i : Nat) : bitOf v i = decide (v / 2 ^ i % 2 = 1) := by
  rw [bitOf, Nat.shiftRight_eq_div_pow, Bool.eq_iff_iff, beq_iff_eq, decide_eq_true_iff]

theorem bit_lt_two (b : Bool) : bit b < 2 := by cases b <;> decide

theorem bit_bitOf (v i : Nat) : bit (bitOf v i) = v / 2 ^ i % 2 := by
  rcases Nat.mod_two_eq_zero_or_one (v / 2 ^ i) with h | h <;> simp [bitOf_eq_decide, bit, h]

theorem bit_eq_one_iff (b : Bool) : bit b = 1 ↔ b = true := by cases b <;> decide

/-! The residue of a 108-bit pattern and of a sum (02 R61, R76): 64 and 2^108 leave 1 modulo 63 -/

theorem modEq_digitSum_add_rest (g n : Nat) :
    g ≡ ((List.range n).map fun i => g / 64 ^ i % 64).sum + g / 64 ^ n [MOD 63] := by
  induction n with
  | zero => simp [Nat.ModEq]
  | succ n ih =>
    have hrest : g / 64 ^ (n + 1) = g / 64 ^ n / 64 := by rw [pow_succ, Nat.div_div_eq_div_mul]
    simp only [Nat.ModEq, List.range_succ, List.map_append, List.sum_append, List.map_cons, List.map_nil, List.sum_cons, List.sum_nil,
      hrest] at ih ⊢
    omega

theorem residue63_eq_digitSum {g : Nat} (hg : g < 2 ^ 108) :
    residue63 g = ((List.range 18).map fun i => g / 64 ^ i % 64).sum % 63 := by
  have h := modEq_digitSum_add_rest g 18
  rwa [Nat.div_eq_of_lt (hg.trans_eq (by decide)), Nat.add_zero] at h

theorem lsPredictedResidue_eq {x y : LongSum} (hx : x.g < 2 ^ 108) (hy : y.g < 2 ^ 108) :
    lsPredictedResidue x y = residue63 (lsAdd x y).g := by
  have hbit : bit (decide (x.g + y.g ≥ 2 ^ 108)) = if x.g + y.g ≥ 2 ^ 108 then 1 else 0 := by simp [bit]
  simp only [lsPredictedResidue, residue63, lsAdd_g, hbit]
  split <;> omega

/-! The container (02 Table 02-4) -/

theorem patternOf_nine_lt (a : Int) : patternOf 9 a < 512 := by
  simp only [patternOf]; omega

theorem signedOf_patternOf_nine {a : Int} (hlo : -256 ≤ a) (hhi : a < 256) : signedOf 9 (patternOf 9 a) = a := by
  unfold signedOf patternOf
  split_ifs <;> omega

/-- Fields laid side by side as the container lays them are read back one by one. -/
theorem containerFields_read {g r n s i p a : Nat} (hg : g < 2 ^ 108) (hr : r < 64) (hn : n < 2) (hs : s < 2) (hi : i < 2) (hp : p < 2)
    (ha : a < 512) {c : Nat}
    (hc : c = g + r * 2 ^ 108 + n * 2 ^ 114 + s * 2 ^ 115 + i * 2 ^ 116 + p * 2 ^ 117 + a * 2 ^ 118) :
    c < 2 ^ 127 ∧ c % 2 ^ 108 = g ∧ c / 2 ^ 108 % 64 = r ∧ c / 2 ^ 114 % 2 = n ∧ c / 2 ^ 115 % 2 = s ∧ c / 2 ^ 116 % 2 = i
      ∧ c / 2 ^ 117 % 2 = p ∧ c / 2 ^ 118 = a := by
  omega

/-- A container that is written has its fields read back, and its residue field is that of its value. -/
theorem lsContainer_read {x : LongSum} (hg : x.g < 2 ^ 108) (hlo : -256 ≤ x.anchor) (hhi : x.anchor < 256) :
    lsContainer x < 2 ^ 127 ∧ lsOfContainer (lsContainer x) = x ∧ lsResidueOk (lsContainer x) = true := by
  have hres : residue63 (x.g % 2 ^ 108) < 64 := (Nat.mod_lt _ (by decide)).trans (by decide)
  obtain ⟨hlt, hval, hfield, hnf, hrange, hinexact, hpoison, hanchor⟩ :=
    containerFields_read (Nat.mod_lt _ (by decide)) hres (bit_lt_two _) (bit_lt_two _) (bit_lt_two _) (bit_lt_two _)
      (patternOf_nine_lt x.anchor) (c := lsContainer x) rfl
  refine ⟨hlt, ?_, ?_⟩
  · simp only [lsOfContainer, bitOf_eq_decide, hval, hnf, hrange, hinexact, hpoison, hanchor, bit_eq_one_iff, Bool.decide_eq_true,
      Nat.mod_eq_of_lt hg, signedOf_patternOf_nine hlo hhi]
  · simp only [lsResidueOk, bitsOf_eq_div_mod, hval, beq_iff_eq]
    exact hfield

/-! One wrong bit (02 R77) -/

theorem xor_two_pow_moves (a i : Nat) : a ^^^ 2 ^ i = a + 2 ^ i ∨ (a ^^^ 2 ^ i) + 2 ^ i = a := by
  induction i generalizing a with
  | zero =>
    rcases Nat.even_or_odd a with h | h
    · exact .inl (Nat.xor_one_of_even h)
    · have hpos := h.pos
      exact .inr (by rw [pow_zero, Nat.xor_one_of_odd h]; omega)
  | succ i ih =>
    have hdiv : (a ^^^ 2 ^ (i + 1)) / 2 = a / 2 ^^^ 2 ^ i := by rw [Nat.xor_div_two, pow_succ, Nat.mul_div_cancel _ (by decide)]
    have hmod := Nat.xor_mod_two_eq (m := a) (n := 2 ^ (i + 1))
    have := ih (a / 2)
    omega

theorem residue63_xor_two_pow_ne (a i : Nat) : residue63 (a ^^^ 2 ^ i) ≠ residue63 a := by
  intro h
  have hdvd : 63 ∣ 2 ^ i := by
    simp only [residue63] at h
    rcases xor_two_pow_moves a i with hm | hm <;> omega
  have hcop : Nat.Coprime 63 (2 ^ i) := Nat.Coprime.pow_right i (by decide)
  exact absurd (hcop.eq_one_of_dvd hdvd) (by decide)

/-- A residue field of 63 is no residue. -/
theorem lsResidueOk_of_63 {c : Nat} (h : bitsOf c 113 108 = 63) : lsResidueOk c = false := by
  have hlt : residue63 (c % 2 ^ 108) < 63 := Nat.mod_lt _ (by decide)
  simp only [lsResidueOk, h, beq_eq_false_iff_ne]
  exact hlt.ne'

/-- Of a container's value and its residue field one wrong bit changes exactly one, and the residue of the value with it. -/
theorem lsResidueOk_xor_two_pow {c i : Nat} (hi : i < 114) (hc : lsResidueOk c = true) : lsResidueOk (c ^^^ 2 ^ i) = false := by
  simp only [lsResidueOk, bitsOf_eq_div_mod, beq_iff_eq, beq_eq_false_iff_ne] at hc ⊢
  rw [Nat.xor_mod_two_pow, Nat.xor_div_two_pow, Nat.xor_mod_two_pow]
  by_cases hval : i < 108
  · rw [Nat.div_eq_of_lt (Nat.pow_lt_pow_right (by decide) hval), Nat.zero_mod, Nat.xor_zero, hc,
      Nat.mod_eq_of_lt (Nat.pow_lt_pow_right (by decide) hval)]
    exact (residue63_xor_two_pow_ne _ _).symm
  · have hmod : 2 ^ i % 2 ^ 108 = 0 := Nat.mod_eq_zero_of_dvd (Nat.pow_dvd_pow 2 (by omega))
    have hdiv : 2 ^ i / 2 ^ 108 % 2 ^ (113 - 108 + 1) ≠ 0 := by
      rw [Nat.pow_div (by omega) (by decide), Nat.mod_eq_of_lt (Nat.pow_lt_pow_right (by decide) (by omega))]
      positivity
    rw [hmod, Nat.xor_zero, ← hc]
    simpa using hdiv

/-- Settles O14: the residue is the digit sum because 64 leaves 1, and a wrong bit moves the value by a power of two, which 63 does not
divide. -/
theorem residueArithmetic : Obligations.ResidueArithmetic :=
  ⟨fun _ => residue63_eq_digitSum, fun _ _ => lsPredictedResidue_eq, fun _ => lsContainer_read, fun _ => lsResidueOk_of_63,
    fun _ _ => lsResidueOk_xor_two_pow⟩

end Sys2Proof.Proofs

/-! ### Rounding -/

namespace Sys2Proof.Proofs

open Sys2Proof Sys2Proof.Machine Sys2Proof.Safety

/-! A magnitude in units of the output's last place (02 R69) -/

theorem shiftSplit_left (mant d : Nat) : shiftSplit mant d = (mant * 2 ^ d, 0, 1) := by
  simp [shiftSplit]

theorem shiftSplit_right (mant d : Nat) : shiftSplit mant (-d) = (mant / 2 ^ d, mant % 2 ^ d, 2 ^ d) := by
  rcases Nat.eq_zero_or_pos d with rfl | hd
  · simp [shiftSplit, Nat.mod_one]
  · simp [shiftSplit, show ¬d = 0 by omega]

theorem roundsUp_whole (mode : Rnd) (r q : Nat) : roundsUp mode r q 0 1 = false := by
  cases mode <;> simp [roundsUp]

/-- With no fraction every mode keeps the magnitude. -/
theorem roundUnits_whole (mode : Rnd) (r mant d : Nat) (lsb : Int) : roundUnits mode r mant (lsb + d) lsb = mant * 2 ^ d := by
  rw [roundUnits, add_sub_cancel_left, shiftSplit_left]
  simp [roundsUp_whole, bit]

theorem roundUnits_unit (mode : Rnd) (r mant : Nat) (lsb : Int) : roundUnits mode r mant lsb lsb = mant := by
  simpa using roundUnits_whole mode r mant 0 lsb

theorem roundUnits_fraction (mode : Rnd) (r mant d : Nat) (lsb : Int) :
    roundUnits mode r mant (lsb - d) lsb = mant / 2 ^ d + bit (roundsUp mode r (mant / 2 ^ d) (mant % 2 ^ d) (2 ^ d)) := by
  rw [roundUnits, sub_sub_cancel_left, shiftSplit_right]

theorem roundUnits_zero (r mant d : Nat) (lsb : Int) : roundUnits .zero r mant (lsb - d) lsb = mant / 2 ^ d :=
  roundUnits_fraction _ _ _ _ _

theorem roundUnits_stochastic (r mant d : Nat) (lsb : Int) : roundUnits .stochastic r mant (lsb - d) lsb
    = mant / 2 ^ d + (if r < mant % 2 ^ d * 2 ^ 32 / 2 ^ d then 1 else 0) := by
  simp [roundUnits_fraction, roundsUp, bit]

/-- Nearest-even stays within half a unit of a quotient, and is even where it is half a unit away. -/
theorem nearest_within_half (q rem den : Nat) (hrem : rem < den) :
    let u := q + bit (roundsUp .nearest 0 q rem den)
    2 * (u * den) ≤ 2 * (q * den + rem) + den ∧ 2 * (q * den + rem) ≤ 2 * (u * den) + den
      ∧ (2 * (u * den) = 2 * (q * den + rem) + den ∨ 2 * (q * den + rem) = 2 * (u * den) + den → u % 2 = 0) := by
  by_cases hup : 2 * rem > den ∨ 2 * rem = den ∧ q % 2 = 1
  · have hu : q + bit (roundsUp .nearest 0 q rem den) = q + 1 := by simp [roundsUp, bit, hup]
    simp only [hu, Nat.add_mul, one_mul]
    omega
  · have hu : q + bit (roundsUp .nearest 0 q rem den) = q := by simp [roundsUp, bit, hup]
    simp only [hu]
    omega

theorem roundUnits_nearest (r mant d : Nat) (lsb : Int) :
    let u := roundUnits .nearest r mant (lsb - d) lsb
    2 * (u * 2 ^ d) ≤ 2 * mant + 2 ^ d ∧ 2 * mant ≤ 2 * (u * 2 ^ d) + 2 ^ d
      ∧ (2 * (u * 2 ^ d) = 2 * mant + 2 ^ d ∨ 2 * mant = 2 * (u * 2 ^ d) + 2 ^ d → u % 2 = 0) := by
  have h := nearest_within_half (mant / 2 ^ d) (mant % 2 ^ d) (2 ^ d) (Nat.mod_lt _ (by positivity))
  rw [Nat.div_add_mod'] at h
  rw [roundUnits_fraction]
  exact h

/-! A magnitude that a floating format represents (02 R53) -/

/-- A subnormal magnitude is its own encoding. -/
theorem roundMag_subnormal (sp : FpSpec) (mode : Rnd) (r : Nat) {m : Nat} (hm : m < 2 ^ sp.mbits) :
    roundMag sp mode r m (1 - (sp.bias : Int) - sp.mbits) = m := by
  rcases Nat.eq_zero_or_pos m with rfl | hpos
  · rfl
  · have hlog : Nat.log2 m < sp.mbits := (Nat.log2_lt hpos.ne').mpr hm
    have hlsb : max ((Nat.log2 m : Int) + (1 - (sp.bias : Int) - sp.mbits) - sp.mbits) (1 - (sp.bias : Int) - sp.mbits)
        = 1 - (sp.bias : Int) - sp.mbits := max_eq_right (by omega)
    simp only [roundMag, if_neg hpos.ne', hlsb, roundUnits_unit]
    simp

/-- A normal magnitude is encoded by its exponent field and the bits below its leading one. -/
theorem roundMag_normal (sp : FpSpec) (mode : Rnd) (r : Nat) {m e : Nat} (hm : m < 2 ^ sp.mbits) (he : 1 ≤ e) :
    roundMag sp mode r (m + 2 ^ sp.mbits) ((e : Int) - sp.bias - sp.mbits) = e * 2 ^ sp.mbits + m := by
  have hne : m + 2 ^ sp.mbits ≠ 0 := by positivity
  have hlog : Nat.log2 (m + 2 ^ sp.mbits) = sp.mbits := (Nat.log2_eq_iff hne).mpr ⟨by omega, by rw [pow_succ]; omega⟩
  have hlsb : max ((Nat.log2 (m + 2 ^ sp.mbits) : Int) + ((e : Int) - sp.bias - sp.mbits) - sp.mbits) (1 - (sp.bias : Int) - sp.mbits)
      = (e : Int) - sp.bias - sp.mbits := by
    rw [hlog]; omega
  have hexp : ((e : Int) - sp.bias - sp.mbits - (1 - (sp.bias : Int) - sp.mbits)).toNat = e - 1 := by omega
  simp only [roundMag, if_neg hne, hlsb, hexp, roundUnits_unit]
  obtain ⟨k, rfl⟩ := Nat.exists_eq_add_of_le' he
  rw [Nat.add_sub_cancel, Nat.add_mul]
  omega

/-! Floating formats: their encodings run from zero to the largest finite one, then the infinity where they have one (02 R53 to R56) -/

/-- An encoding without its sign. -/
def magnitudeOf (f : Fmt) (v : Nat) : Nat := v % 2 ^ (f.spec.mbits + f.spec.ebits)

theorem magnitudeOf_eq (f : Fmt) (v : Nat) :
    magnitudeOf f v = v / 2 ^ f.spec.mbits % 2 ^ f.spec.ebits * 2 ^ f.spec.mbits + v % 2 ^ f.spec.mbits := by
  rw [magnitudeOf, pow_add, Nat.mod_mul, Nat.mul_comm, Nat.add_comm]

theorem magnitudeOf_lt (f : Fmt) (v : Nat) : magnitudeOf f v < 2 ^ (f.spec.mbits + f.spec.ebits) := Nat.mod_lt _ (by positivity)

section Floats

variable {f : Fmt} (hf : f.isNarrowFloat = true ∨ f.isWide = true)

include hf

theorem float_ne_int8 : f ≠ .int8 := by
  rintro rfl; revert hf; decide

theorem float_width : f.width = f.spec.mbits + f.spec.ebits + 1 := by
  revert hf; cases f <;> decide

/-- The encoding after the largest finite one: the infinity, E4M3's NaN, or none that the format's bits can write. -/
theorem float_maxFinite_succ : f.spec.maxFinite + 1 =
    if f.hasInf = true then (2 ^ f.spec.ebits - 1) * 2 ^ f.spec.mbits else if f = .e4m3 then 127
    else 2 ^ (f.spec.mbits + f.spec.ebits) := by
  revert hf; cases f <;> decide

theorem float_infinity_lt : f.spec.maxFinite + bit f.hasInf < 2 ^ (f.spec.mbits + f.spec.ebits) := by
  revert hf; cases f <;> decide

theorem float_signBit (neg : Bool) : signBit f neg = bit neg * 2 ^ (f.spec.mbits + f.spec.ebits) := by
  rw [signBit, float_width hf, Nat.add_sub_cancel]

theorem magnitudeOf_signBit_add (neg : Bool) {m : Nat} (hm : m ≤ f.spec.maxFinite + bit f.hasInf) :
    magnitudeOf f (signBit f neg + m) = m := by
  rw [magnitudeOf, float_signBit hf, Nat.mul_add_mod_self_right, Nat.mod_eq_of_lt (hm.trans_lt (float_infinity_lt hf))]

theorem signBit_add_magnitudeOf {v : Nat} (hv : v < 2 ^ f.width) :
    signBit f (bitOf v (f.spec.mbits + f.spec.ebits)) + magnitudeOf f v = v := by
  have hsign : v / 2 ^ (f.spec.mbits + f.spec.ebits) < 2 := by
    rw [Nat.div_lt_iff_lt_mul (by positivity), ← pow_succ', ← float_width hf]; exact hv
  rw [float_signBit hf, bit_bitOf, Nat.mod_eq_of_lt hsign, magnitudeOf, Nat.div_add_mod']

/-- An encoding that is neither E4M3's NaN nor has the exponent field of an infinity is finite. -/
theorem magnitudeOf_le_maxFinite {v : Nat} (hnan : ¬(f = .e4m3 ∧ v % 128 = 127))
    (hinf : ¬(f.hasInf = true ∧ v / 2 ^ f.spec.mbits % 2 ^ f.spec.ebits = 2 ^ f.spec.ebits - 1)) :
    magnitudeOf f v ≤ f.spec.maxFinite := by
  have htop := float_maxFinite_succ hf
  have hlt := magnitudeOf_lt f v
  split at htop
  case isTrue hhas =>
    have hmant : v % 2 ^ f.spec.mbits < 2 ^ f.spec.mbits := Nat.mod_lt _ (by positivity)
    have hexp : v / 2 ^ f.spec.mbits % 2 ^ f.spec.ebits < 2 ^ f.spec.ebits := Nat.mod_lt _ (by positivity)
    have hne : v / 2 ^ f.spec.mbits % 2 ^ f.spec.ebits ≠ 2 ^ f.spec.ebits - 1 := fun h => hinf ⟨hhas, h⟩
    have hbelow : (v / 2 ^ f.spec.mbits % 2 ^ f.spec.ebits + 1) * 2 ^ f.spec.mbits ≤ (2 ^ f.spec.ebits - 1) * 2 ^ f.spec.mbits :=
      Nat.mul_le_mul_right _ (by omega)
    rw [Nat.add_mul, one_mul] at hbelow
    rw [magnitudeOf_eq] at hlt ⊢
    omega
  case isFalse hhas =>
    split at htop
    case isTrue he4m3 =>
      subst he4m3
      have hne : v % 128 ≠ 127 := fun h => hnan ⟨rfl, h⟩
      have hmag : magnitudeOf .e4m3 v = v % 128 := rfl
      omega
    case isFalse he4m3 => omega

/-- What an encoding is: a NaN above all others, the infinity, or a finite value that rounds to the encoding it came from. -/
theorem decodeNum_cases (v : Nat) :
    (decodeNum f v = .nan ∧ f.spec.maxFinite + bit f.hasInf < magnitudeOf f v)
    ∨ (decodeNum f v = .inf (bitOf v (f.spec.mbits + f.spec.ebits)) ∧ f.hasInf = true ∧ magnitudeOf f v = f.spec.maxFinite + 1)
    ∨ ∃ m e, decodeNum f v = .fin (bitOf v (f.spec.mbits + f.spec.ebits)) m e ∧ magnitudeOf f v ≤ f.spec.maxFinite
      ∧ ∀ mode r, roundMag f.spec mode r m e = magnitudeOf f v := by
  have hint := float_ne_int8 hf
  have htop := float_maxFinite_succ hf
  have hmag := magnitudeOf_eq f v
  have hmant : v % 2 ^ f.spec.mbits < 2 ^ f.spec.mbits := Nat.mod_lt _ (by positivity)
  simp only [decodeNum, beq_iff_eq, hint, if_false, Bool.and_eq_true]
  split
  case isTrue h =>
    obtain ⟨rfl, hall⟩ := h
    exact .inl ⟨rfl, show 126 < v % 128 by omega⟩
  case isFalse hnot =>
  split
  case isTrue h =>
    obtain ⟨hhas, he⟩ := h
    rw [if_pos hhas] at htop
    rw [he, ← htop] at hmag
    split
    case isTrue hzero => exact .inr (.inl ⟨rfl, hhas, by omega⟩)
    case isFalse hzero => exact .inl ⟨rfl, by rw [(bit_eq_one_iff _).mpr hhas]; omega⟩
  case isFalse hfinite =>
  have hle := magnitudeOf_le_maxFinite hf hnot hfinite
  split
  case isTrue hsub =>
    refine .inr (.inr ⟨_, _, rfl, hle, fun mode r => ?_⟩)
    rw [roundMag_subnormal _ _ _ hmant, hmag, hsub, zero_mul, zero_add]
  case isFalse hnormal =>
    refine .inr (.inr ⟨_, _, rfl, hle, fun mode r => ?_⟩)
    rw [roundMag_normal _ _ _ hmant (Nat.pos_of_ne_zero hnormal), hmag]

theorem encodeNum_inf_of_hasInf (mode : Rnd) (r : Nat) (sat neg : Bool) (hinf : f.hasInf = true) :
    encodeNum f mode r sat (.inf neg) = (signBit f neg + (f.spec.maxFinite + 1), false) := by
  simp [encodeNum, float_ne_int8 hf, hinf]

theorem encodeNum_fin_of_fits {mode : Rnd} {r : Nat} (sat neg : Bool) {m : Nat} {e : Int}
    (hfits : roundMag f.spec mode r m e ≤ f.spec.maxFinite) :
    encodeNum f mode r sat (.fin neg m e) = (signBit f neg + roundMag f.spec mode r m e, false) := by
  simp [encodeNum, float_ne_int8 hf, Nat.not_lt.mpr hfits]

/-- What is no NaN is encoded as a finite value or as the infinity. -/
theorem encodeNum_magnitude (mode : Rnd) (r : Nat) (sat : Bool) {x : Machine.Num} (hx : x ≠ .nan) :
    ∃ neg m, (encodeNum f mode r sat x).1 = signBit f neg + m ∧ m ≤ f.spec.maxFinite + bit f.hasInf := by
  cases x with
  | nan => exact absurd rfl hx
  | inf neg =>
    by_cases hinf : f.hasInf = true
    · exact ⟨neg, _, congrArg Prod.fst (encodeNum_inf_of_hasInf hf mode r sat neg hinf), by simp [hinf, bit]⟩
    · exact ⟨neg, f.spec.maxFinite, by simp [encodeNum, float_ne_int8 hf, hinf], by omega⟩
  | fin neg m e =>
    by_cases hfits : roundMag f.spec mode r m e ≤ f.spec.maxFinite
    · exact ⟨neg, _, congrArg Prod.fst (encodeNum_fin_of_fits hf sat neg hfits), by omega⟩
    · by_cases hinf : f.hasInf = true ∧ sat = false ∧ mode ≠ .zero
      · exact ⟨neg, f.spec.maxFinite + 1, by simp [encodeNum, float_ne_int8 hf, Nat.not_le.mp hfits, hinf], by simp [hinf.1, bit]⟩
      · exact ⟨neg, f.spec.maxFinite, by simp [encodeNum, float_ne_int8 hf, Nat.not_le.mp hfits]; tauto, by omega⟩

/-- An encoding that is no NaN converts to itself. -/
theorem encodeNum_decodeNum_float (mode : Rnd) (r : Nat) (sat : Bool) {v : Nat} (hv : v < 2 ^ f.width) (hnan : decodeNum f v ≠ .nan) :
    encodeNum f mode r sat (decodeNum f v) = (v, false) := by
  rcases decodeNum_cases hf v with ⟨h, -⟩ | ⟨h, hinf, hmag⟩ | ⟨m, e, h, hle, hround⟩
  · exact absurd h hnan
  · rw [h, encodeNum_inf_of_hasInf hf _ _ _ _ hinf, ← hmag, signBit_add_magnitudeOf hf hv]
  · rw [h, encodeNum_fin_of_fits hf _ _ (by rw [hround]; exact hle), hround, signBit_add_magnitudeOf hf hv]

/-- An encoding that stays within the infinity is no NaN. -/
theorem decodeNum_ne_nan {neg : Bool} {m : Nat} (hm : m ≤ f.spec.maxFinite + bit f.hasInf) :
    decodeNum f (signBit f neg + m) ≠ .nan := by
  rcases decodeNum_cases hf (signBit f neg + m) with ⟨-, habove⟩ | ⟨h, -, -⟩ | ⟨_, _, h, -, -⟩
  · rw [magnitudeOf_signBit_add hf neg hm] at habove
    omega
  · simp [h]
  · simp [h]

end Floats

/-! INT8 (02 R56) -/

theorem decodeNum_int8 (v : Nat) : decodeNum .int8 v = .fin (decide (signedOf 8 v < 0)) (signedOf 8 v).natAbs 0 := rfl

theorem int8Of_signedOf {v : Nat} (hv : v < 256) : int8Of (decide (signedOf 8 v < 0)) (signedOf 8 v).natAbs = v := by
  unfold int8Of signedOf
  simp only [decide_eq_true_eq]
  split_ifs <;> omega

theorem encodeNum_decodeNum_int8 (mode : Rnd) (r : Nat) (sat : Bool) {v : Nat} (hv : v < 2 ^ Fmt.int8.width) :
    encodeNum .int8 mode r sat (decodeNum .int8 v) = (v, false) := by
  rw [decodeNum_int8]
  show (int8Of _ (roundUnits mode r _ 0 0), false) = _
  rw [roundUnits_unit, int8Of_signedOf hv]

/-! NaNs (02 R55, Table 02-7) -/

theorem encodeNaN_none {f : Fmt} (h : f.canonNaN = none) : encodeNaN f = (0, true) := by simp [encodeNaN, h]

theorem encodeNaN_some {f : Fmt} {n : Nat} (h : f.canonNaN = some n) : encodeNaN f = (n, false) := by simp [encodeNaN, h]

/-- Only a NaN converts to a NaN, and it converts to the canonical one. -/
theorem encodeNum_nan {f : Fmt} (hf : f = .int8 ∨ f.isNarrowFloat = true ∨ f.isWide = true) (mode : Rnd) (r : Nat) (sat : Bool)
    {x : Machine.Num} (h : decodeNum f (encodeNum f mode r sat x).1 = .nan) :
    x = .nan ∧ some (encodeNum f mode r sat x).1 = f.canonNaN ∧ (encodeNum f mode r sat x).2 = false := by
  rcases hf with rfl | hf
  · cases h
  by_cases hx : x = .nan
  · subst hx
    show _ ∧ some (encodeNaN f).1 = _ ∧ (encodeNaN f).2 = false
    cases hcanon : f.canonNaN with
    | some n => simp [encodeNaN_some hcanon]
    | none =>
      have hzero : decodeNum f (encodeNaN f).1 = .nan := h
      rw [encodeNaN_none hcanon] at hzero
      exact absurd hzero (by simpa [signBit, bit] using decodeNum_ne_nan hf (neg := false) (Nat.zero_le _))
  · obtain ⟨neg, m, hcode, hm⟩ := encodeNum_magnitude hf mode r sat hx
    exact absurd (hcode ▸ h) (decodeNum_ne_nan hf hm)

/-- Settles O15: a quotient and a remainder bound each mode; an encoding decodes to a value that rounds back to it, and NaNs stand above
the largest encoding that a conversion writes. -/
theorem roundingIsExact : Obligations.RoundingIsExact := by
  refine ⟨fun mode r mant d lsb => ⟨roundUnits_whole mode r mant d lsb, ?_, ?_, ?_⟩, fun f mode r sat hmem => ?_⟩
  · rintro rfl; exact roundUnits_zero r mant d lsb
  · rintro rfl; exact roundUnits_nearest r mant d lsb
  · rintro rfl; exact roundUnits_stochastic r mant d lsb
  · have hf : f = .int8 ∨ f.isNarrowFloat = true ∨ f.isWide = true := by revert hmem; cases f <;> decide
    refine ⟨fun v hv hnan => ?_, fun x => encodeNum_nan hf mode r sat, encodeNaN_none⟩
    rcases hf with rfl | hf
    · exact encodeNum_decodeNum_int8 mode r sat hv
    · exact encodeNum_decodeNum_float hf mode r sat hv hnan

end Sys2Proof.Proofs

/-! ### Words of the vector and matrix slots -/

namespace Sys2Proof.Proofs

open Sys2Proof Sys2Proof.Machine Sys2Proof.Safety

/-! A field of a slot word is read back where the word holds its value (04 R115, R125, R132) -/

theorem ofNat_eq_of_mod_eq {n w : Nat} {b : BitVec n} (h : w % 2 ^ n = b.toNat) : BitVec.ofNat n w = b :=
  BitVec.eq_of_toNat_eq (by rw [BitVec.toNat_ofNat, h])

theorem bitOf_eq_of_mod_eq {w i : Nat} {b : Bool} (h : w / 2 ^ i % 2 = bit b) : bitOf w i = b := by
  rw [bitOf_eq_decide, h]
  cases b <;> rfl

/-- The word of a vector slot gives back its fields and its opcode. -/
theorem decodeVec_encodeVec (op : Nat) (f : VecFields) : decodeVec (encodeVec op f) = f ∧ encodeVec op f / 2 ^ 56 = op := by
  obtain ⟨gp, gn, vd, va, vb, vc, fmt, rnd, sat, fmt2, imm⟩ := f
  have hgn := bit_lt_two gn
  have hsat := bit_lt_two sat
  generalize hw : encodeVec op _ = w
  simp only [encodeVec, headerBits] at hw
  have := gp.isLt
  have := vd.isLt
  have := va.isLt
  have := vb.isLt
  have := vc.isLt
  have := fmt.isLt
  have := rnd.isLt
  have := fmt2.isLt
  have := imm.isLt
  refine ⟨?_, by omega⟩
  simp only [decodeVec, VecFields.mk.injEq]
  refine ⟨ofNat_eq_of_mod_eq ?_, bitOf_eq_of_mod_eq ?_, ofNat_eq_of_mod_eq ?_, ofNat_eq_of_mod_eq ?_, ofNat_eq_of_mod_eq ?_,
    ofNat_eq_of_mod_eq ?_, ofNat_eq_of_mod_eq ?_, ofNat_eq_of_mod_eq ?_, bitOf_eq_of_mod_eq ?_, ofNat_eq_of_mod_eq ?_,
    ofNat_eq_of_mod_eq ?_⟩
  all_goals omega

/-- The word of the matrix slot gives back its fields and its opcode. -/
theorem decodeMx_encodeMx (op : Nat) (f : MxFields) : decodeMx (encodeMx op f) = f ∧ encodeMx op f / 2 ^ 56 = op := by
  obtain ⟨gp, gn, bank, row, ta, asel, tb, fmta, fmtb, bs, vsb, vsa, anchor, rsv⟩ := f
  have hgn := bit_lt_two gn
  have hbank := bit_lt_two bank
  have hbs := bit_lt_two bs
  generalize hw : encodeMx op _ = w
  simp only [encodeMx, headerBits] at hw
  have := gp.isLt
  have := row.isLt
  have := ta.isLt
  have := asel.isLt
  have := tb.isLt
  have := fmta.isLt
  have := fmtb.isLt
  have := vsb.isLt
  have := vsa.isLt
  have := anchor.isLt
  have := rsv.isLt
  refine ⟨?_, by omega⟩
  simp only [decodeMx, MxFields.mk.injEq]
  refine ⟨ofNat_eq_of_mod_eq ?_, bitOf_eq_of_mod_eq ?_, bitOf_eq_of_mod_eq ?_, ofNat_eq_of_mod_eq ?_, ofNat_eq_of_mod_eq ?_,
    ofNat_eq_of_mod_eq ?_, ofNat_eq_of_mod_eq ?_, ofNat_eq_of_mod_eq ?_, ofNat_eq_of_mod_eq ?_, bitOf_eq_of_mod_eq ?_,
    ofNat_eq_of_mod_eq ?_, ofNat_eq_of_mod_eq ?_, ofNat_eq_of_mod_eq ?_, ofNat_eq_of_mod_eq ?_⟩
  all_goals omega

/-! A command whose word its slot holds runs on the settled state (03 R81, R86) -/

theorem slotOp_wide {sl : Slot} (hsy : sl ≠ .sy) (hwidth : slotWidth sl = 64) (w : Nat) : slotOp sl w = w / 2 ^ 56 := by
  simp only [slotOp, hsy, if_false, hwidth]

theorem slotExec_runs {s : State} {g : Nat} {sl : Slot} {w op : Nat} {fields : Nat → Bool} {run : State → State}
    (hold : SlotHolds s g sl w) (hop : slotOp sl w = op) (hlisted : op ∈ slotOps sl) (hfields : fields w = true) :
    slotExec s g sl op fields run = .next (run (settle s g)) := by
  obtain ⟨hphase, hopened, hleft, hbits⟩ := hold
  simp [slotExec, slotReady, hphase, hopened, hleft, hbits, hop, hlisted, hfields]

section Vector

variable {s : State} {g op : Nat} {sl : Slot} {f : VecFields}

theorem vecSlot_runs (hsl : sl = .v0 ∨ sl = .v1) (hop : op ∈ slotOps .v0) (hold : SlotHolds s g sl (encodeVec op f))
    (run : State → State) :
    slotExec s g sl op (fun w => isVecSlot sl && decide (decodeVec w = f)) run = .next (run (settle s g)) := by
  obtain ⟨hdecode, hopcode⟩ := decodeVec_encodeVec op f
  rcases hsl with rfl | rfl
  · exact slotExec_runs hold ((slotOp_wide (by decide) rfl _).trans hopcode) hop (by simp [hdecode, isVecSlot])
  · exact slotExec_runs hold ((slotOp_wide (by decide) rfl _).trans hopcode) hop (by simp [hdecode, isVecSlot])

theorem vecExec_runs (hsl : sl = .v0 ∨ sl = .v1) (hop : op ∈ slotOps .v0) (hold : SlotHolds s g sl (encodeVec op f))
    (dec : Option Nat) (out : Tile → SlotOut) :
    vecExec op dec f out g sl s = .next (slotRun (settle s g) g sl dec f.gp f.gn fun _ _ x => out x) :=
  vecSlot_runs hsl hop hold _

end Vector

theorem mxSlot_runs {s : State} {g op : Nat} {f : MxFields} (hop : op ∈ slotOps .mx)
    (hold : SlotHolds s g .mx (encodeMx op f)) (run : State → State) :
    slotExec s g .mx op (fun w => decide (decodeMx w = f)) run = .next (run (settle s g)) := by
  obtain ⟨hdecode, hopcode⟩ := decodeMx_encodeMx op f
  exact slotExec_runs hold ((slotOp_wide (by decide) rfl _).trans hopcode) hop (by simp [hdecode])

/-! Decode faults (04 R116) -/

theorem decodeFault_none {op fmt : Bool} (hop : op = true) (hfmt : fmt = true) : decodeFault op fmt = none := by
  subst hop hfmt; rfl

end Sys2Proof.Proofs

/-! ### Float operations of the vector slots -/

namespace Sys2Proof.Proofs

open Sys2Proof Sys2Proof.Machine Sys2Proof.Safety

@[simp] theorem laneOr_two (p q : BitVec 64) : laneOr [p, q] = p ||| q := by simp [laneOr]

@[simp] theorem laneOr_three (p q r : BitVec 64) : laneOr [p, q, r] = p ||| q ||| r := by simp [laneOr]

/-- Settles O28: each operation is element by element of one source, of two, or the fused one of three, and its word runs. -/
theorem vectorFloatCompletes : Obligations.VectorFloatCompletes := by
  refine ⟨fun c hc g sl f s hsl hold => ?_, fun c hc g sl f s hsl hold => ?_, fun g sl f s hsl hold => ?_⟩
  · have hexec : exec (c.2.1 g sl f) s = floatBin c.1 c.2.2 g sl f s := by fin_cases hc <;> rfl
    have hop : c.1 ∈ slotOps .v0 := by fin_cases hc <;> decide
    rw [hexec, floatBin, vecExec_runs hsl hop hold]
    simp only [laneOr_two, vecResult]
  · have hexec : exec (c.2.2.1 g sl f) s = floatUn c.1 c.2.1 c.2.2.2 g sl f s := by fin_cases hc <;> rfl
    have hop : c.1 ∈ slotOps .v0 := by fin_cases hc <;> decide
    rw [hexec, floatUn, vecExec_runs hsl hop hold]
    simp only [vecResult]
  · show execVfma g sl f s = _
    rw [execVfma, vecExec_runs hsl (by decide) hold]
    simp only [laneOr_three, vecResult]

end Sys2Proof.Proofs

/-! ### Conversions -/

namespace Sys2Proof.Proofs

open Sys2Proof Sys2Proof.Machine Sys2Proof.Safety

/-- Settles O30: each conversion's word runs without a decode fault, and what it makes of a tile is the statement's. -/
theorem conversionsComplete : Obligations.ConversionsComplete := by
  intro g sl f s hsl
  refine ⟨fun hold hvb himm hgroup hfmt hfmt2 hrnd hbase hcount => ?_, fun hold himm hvd hfmt hcode hnarrow hrnd hbase => ?_,
    fun hold hvb hfmt hfmt2 hrnd himm hbase => ?_⟩
  · show execVcvt g sl f s = _
    rw [execVcvt, vecSlot_runs hsl (by decide) hold]
    refine congrArg _ (slotRun_congr (decodeFault_none ?_ ?_) fun _ _ x => rfl)
    · simp only [Bool.and_eq_true, Bool.or_eq_true, decide_eq_true_eq, beq_iff_eq]
      exact ⟨⟨⟨⟨hvb, hbase⟩, himm⟩, hgroup⟩, .inr hcount⟩
    · simpa [hfmt, hfmt2] using hrnd
  · show execVqbs g sl f s = _
    rw [execVqbs, vecSlot_runs hsl (by decide) hold]
    refine congrArg _ (slotRun_congr (decodeFault_none ?_ ?_) fun _ _ x => rfl)
    · simp [himm, hvd, hbase]
    · simpa [hfmt, hcode, hnarrow] using hrnd
  · show execVacr g sl f s = _
    rw [execVacr, vecSlot_runs hsl (by decide) hold]
    refine congrArg _ (slotRun_congr (decodeFault_none ?_ ?_) fun _ _ x => ?_)
    · by_cases hsum : fmtOf f.fmt2 = .longSum
      · rw [if_pos hsum] at himm
        obtain ⟨hbit2, hbit3, hlt⟩ := himm
        simpa [hvb, hfmt, hbase, hsum, hbit2, hbit3] using hlt
      · rw [if_neg hsum] at himm
        simp [hvb, hfmt, hbase, hsum, himm]
    · simpa [hfmt2] using hrnd
    · simp only [beq_iff_eq]
      rfl

end Sys2Proof.Proofs

/-! ### Reductions and gang vectors -/

namespace Sys2Proof.Proofs

open Sys2Proof Sys2Proof.Machine Sys2Proof.Safety

/-- Settling results due leaves which tiles a gang has. -/
theorem gangTiles_settle (s : State) (g : Nat) : gangTiles (settle s g) g = gangTiles s g := by
  obtain ⟨x, hx⟩ := settle_frame s g
  rw [hx]
  rfl

theorem fmtOf_of_some {c : BitVec 4} {fm : Fmt} (h : fmtOfCode c.toNat = some fm) : fmtOf c = fm := by
  rw [fmtOf, h, Option.getD_some]

theorem bitOf_three_of_lt {v : Nat} (h : v < 8) : bitOf v 3 = false := by
  rw [bitOf_eq_decide, Nat.div_eq_of_lt (b := 2 ^ 3) h]
  rfl

/-- Every format but E8M0 is summed. -/
theorem vredFormat_sum {fm : Fmt} (h : fm ≠ .e8m0) : vredFormat 0 (some fm) = true := by
  simp [vredFormat, h]

/-- A vector command without a decode fault runs with any outcome that agrees with its own on every tile. -/
theorem vecExec_completes {s : State} {g op : Nat} {sl : Slot} {f : VecFields} (hsl : sl = .v0 ∨ sl = .v1) (hop : op ∈ slotOps .v0)
    (hold : SlotHolds s g sl (encodeVec op f)) {dec : Option Nat} {out out' : Tile → SlotOut} (hdec : dec = none)
    (hout : ∀ x, out x = out' x) :
    vecExec op dec f out g sl s = .next (slotRun (settle s g) g sl none f.gp f.gn fun _ _ x => out' x) := by
  rw [vecExec_runs hsl hop hold, slotRun_congr hdec fun _ _ x => hout x]

/-- Settles O31: each reduction's word runs without a decode fault; the operation and the format choose the branch of VRED. -/
theorem reductionsAndGangVectorsComplete : Obligations.ReductionsAndGangVectorsComplete := by
  intro g sl f s hsl hvb hvc hsat hfmt2
  refine ⟨fun hold hrnd hcode hnarrow ho hbit himm => ?_, fun hold hrnd hwide himm => ?_, fun hold hrnd hsum himm => ?_,
    fun hold hrnd hpair hlo hhi => ?_, fun hold hfmt hrnd hmember himm => ?_, fun hold himm hpair hrnd => ?_⟩
  · refine vecExec_completes hsl (by decide) hold (decodeFault_none ?_ ?_) fun x => ?_
    · simpa [hvb, hvc, hsat, hfmt2, hrnd, ho, hbit, hnarrow] using himm
    · obtain ⟨fm, hfm⟩ := Option.isSome_iff_exists.mp hcode
      have hne : fm ≠ .e8m0 := by
        rintro rfl
        rw [fmtOf_of_some hfm] at hnarrow
        cases hnarrow
      rw [ho, hfm, vredFormat_sum hne]
    · simp [ho, hnarrow, vecResult]
  · have hfm : (fmtOf f.fmt).isNarrow = false ∧ fmtOf f.fmt ≠ .longSum := by
      rcases hwide with h | h <;> rw [fmtOf_of_some h] <;> decide
    refine vecExec_completes hsl (by decide) hold (decodeFault_none ?_ ?_) fun x => ?_
    · simp [hvb, hvc, hsat, hfmt2, hrnd, himm, bitOf_three_of_lt]
    · rcases hwide with h | h <;> simp [h, himm, vredFormat_sum]
    · simp [himm, hfm, vecResult]
  · have hnarrow : Fmt.longSum.isNarrow = false := rfl
    have ho : f.imm.toNat % 8 = 0 := by rw [himm]; rfl
    refine vecExec_completes hsl (by decide) hold (decodeFault_none ?_ ?_) fun x => ?_
    · simp [hvb, hvc, hsat, hfmt2, hrnd, himm, bitOf_three_of_lt]
    · simp [hsum, himm, vredFormat_sum]
    · simp only [fmtOf_of_some hsum, ho, hnarrow, Bool.and_false, Bool.false_eq_true, if_false, and_self, if_true, vecResult]
      split
      case isTrue hdiffer => simp [hdiffer]
      case isFalse hagree => simp [hagree]
  · have ho : f.imm.toNat % 8 = f.imm.toNat := Nat.mod_eq_of_lt (by omega)
    have hlt : f.imm.toNat < 8 := by omega
    have hne : f.imm.toNat ≠ 0 := by omega
    refine vecExec_completes hsl (by decide) hold (decodeFault_none ?_ ?_) fun x => ?_
    · simp [hvb, hvc, hsat, hfmt2, hrnd, ho, hhi, hlt, bitOf_three_of_lt, hlt.trans (show 8 < 8192 by decide)]
    · rw [ho]; exact hpair
    · simp only [ho, hne, beq_eq_false_iff_ne.mpr hne, Bool.false_and, Bool.false_eq_true, if_false, false_and,
        vecResult]
      split_ifs <;> rfl
  · show execGbc g sl f s = _
    rw [execGbc, vecSlot_runs hsl (by decide) hold]
    simp only [gangTiles_settle]
    refine congrArg _ (slotRun_congr ?_ fun _ _ x => rfl)
    simp [illegalUnless, hvb, hvc, hfmt, hrnd, hsat, hfmt2, hmember, himm]
  · show execGred g sl f s = _
    rw [execGred, vecSlot_runs hsl (by decide) hold]
    simp only [gangTiles_settle, List.length_map]
    refine congrArg _ (slotRun_congr (decodeFault_none ?_ ?_) fun _ _ x => rfl)
    · simp [hvb, hvc, hsat, hfmt2, himm]
    · simp [hpair, laneRnd, hrnd]

end Sys2Proof.Proofs

/-! ### The matrix slot -/

namespace Sys2Proof.Proofs

open Sys2Proof Sys2Proof.Machine Sys2Proof.Safety

/-- A pairing of formats that MX takes, with its fields in range, has no decode fault (04 R132 to R134). -/
theorem mxDecode_none {f : MxFields} {fa fb : Fmt} {k : Nat} (hfa : fmtOfCode f.fmta.toNat = some fa)
    (hfb : fmtOfCode f.fmtb.toNat = some fb) (hshape : mxShape (some fa) (some fb) = some k) (hrsv : f.rsv = 0)
    (hscales : f.bs = true ∨ f.vsa = 0 ∧ f.vsb = 0) (hblock : f.bs = true → fa.isNarrowFloat = true)
    (hbytes : 32 * f.asel.toNat + mxBytes fa k ≤ 2048) (hpair : fb.width = 6 ∧ k = 64 → f.tb.toNat % 2 = 0) :
    mxDecode f = none := by
  simp only [mxDecode, hfa, hfb, hshape]
  refine decodeFault_none ?_ ?_
  · simp only [Option.getD_some, Bool.and_eq_true, Bool.or_eq_true, Bool.not_eq_true', decide_eq_true_eq, decide_eq_false_iff_not,
      beq_iff_eq]
    exact ⟨⟨⟨hrsv, hscales⟩, hbytes⟩, Decidable.not_or_of_imp hpair⟩
  · simp only [Option.getD_some, Bool.or_eq_true, Bool.not_eq_true', ← Bool.not_eq_true]
    exact Decidable.not_or_of_imp hblock

/-- Settles O32: MMA and MMAZ are one operation that differ in the row they start from, and MCLR writes empty rows. -/
theorem matrixSlotCompletes : Obligations.MatrixSlotCompletes := by
  refine ⟨fun c hc g f fa fb k s hold hfa hfb hshape hrsv hscales hblock hbytes hpair => ?_, fun g f s hold => ?_⟩
  · have hop : c.1 ∈ slotOps .mx := by fin_cases hc <;> decide
    obtain ⟨clear, hexec, hrow⟩ : ∃ clear, exec (c.2.1 g f) s = mxExec c.1 clear g f s
        ∧ ∀ x, (if clear = true then {} else rowAhead x (mxIndex f)) = c.2.2 x f := by
      fin_cases hc
      · exact ⟨false, rfl, fun _ => rfl⟩
      · exact ⟨true, rfl, fun _ => rfl⟩
    rw [hexec, mxExec, mxSlot_runs hop hold]
    refine congrArg _ (slotRun_congr (mxDecode_none hfa hfb hshape hrsv hscales hblock hbytes hpair) fun _ _ x => ?_)
    simp only [hrow, hfa, hfb, hshape, Option.getD_some]
    by_cases hwide : fa.isWide = true
    · simp [hwide, mxIndex]
    · simp [hwide, mxIndex]
  · show execMclr g f s = _
    rw [execMclr, mxSlot_runs (by decide) hold]
    refine congrArg _ (slotRun_congr ?_ fun _ _ x => rfl)
    simp [illegalUnless, and_assoc]

end Sys2Proof.Proofs

/-! PROOF. Scope: the tile's issue: slot words and bundles, how a bundle's slots run, commit or raise, and the slots and gang events that
complete. -/

/-! ### Slot words and bundles -/

namespace Sys2Proof.Proofs

open Sys2Proof Sys2Proof.Machine Sys2Proof.Safety

/-- A word whose bits from bit k up are an opcode of n bits fits in k + n bits. -/
theorem lt_two_pow_of_div_eq {w op k n : Nat} (h : w / 2 ^ k = op) (hop : op < 2 ^ n) : w < 2 ^ (k + n) := by
  rw [pow_add, mul_comm]
  exact (Nat.div_lt_iff_lt_mul (by positivity)).mp (h ▸ hop)

/-- The word of a scalar slot gives back its fields and its opcode; S1 holds a 20-bit immediate. -/
theorem decodeScalar_encodeScalar {sl : Slot} (op : Nat) {f : ScalarFields} (hsl : sl = .s0 ∨ sl = .s1 ∧ f.imm.toNat < 2 ^ 20) :
    decodeScalar sl (encodeScalar sl op f) = f ∧ encodeScalar sl op f / 2 ^ (slotWidth sl - 8) = op := by
  obtain ⟨gp, gn, rd, rs1, rs2, imm⟩ := f
  have hgn := bit_lt_two gn
  generalize hw : encodeScalar sl op _ = w
  have := gp.isLt
  have := rd.isLt
  have := rs1.isLt
  have := rs2.isLt
  have := imm.isLt
  rcases hsl with rfl | ⟨rfl, himm⟩
  · simp only [encodeScalar, headerBits, if_true] at hw
    refine ⟨?_, by rw [slotWidth]; omega⟩
    simp only [decodeScalar, if_true, ScalarFields.mk.injEq]
    refine ⟨ofNat_eq_of_mod_eq ?_, bitOf_eq_of_mod_eq ?_, ofNat_eq_of_mod_eq ?_, ofNat_eq_of_mod_eq ?_, ofNat_eq_of_mod_eq ?_,
      ofNat_eq_of_mod_eq ?_⟩
    all_goals omega
  · replace himm : imm.toNat < 2 ^ 20 := himm
    simp only [encodeScalar, headerBits, reduceCtorEq, if_false] at hw
    refine ⟨?_, by rw [slotWidth]; omega⟩
    simp only [decodeScalar, reduceCtorEq, if_false, ScalarFields.mk.injEq]
    refine ⟨ofNat_eq_of_mod_eq ?_, bitOf_eq_of_mod_eq ?_, ofNat_eq_of_mod_eq ?_, ofNat_eq_of_mod_eq ?_, ofNat_eq_of_mod_eq ?_,
      ofNat_eq_of_mod_eq ?_⟩
    all_goals omega

/-- The word of a load or store slot gives back its fields and its opcode. -/
theorem decodeMem_encodeMem (op : Nat) (f : MemFields) : decodeMem (encodeMem op f) = f ∧ encodeMem op f / 2 ^ 40 = op := by
  obtain ⟨gp, gn, reg, base, off, aux⟩ := f
  have hgn := bit_lt_two gn
  generalize hw : encodeMem op _ = w
  simp only [encodeMem, headerBits] at hw
  have := gp.isLt
  have := reg.isLt
  have := base.isLt
  have := off.isLt
  have := aux.isLt
  refine ⟨?_, by omega⟩
  simp only [decodeMem, MemFields.mk.injEq]
  refine ⟨ofNat_eq_of_mod_eq ?_, bitOf_eq_of_mod_eq ?_, ofNat_eq_of_mod_eq ?_, ofNat_eq_of_mod_eq ?_, ofNat_eq_of_mod_eq ?_,
    ofNat_eq_of_mod_eq ?_⟩
  all_goals omega

/-- The word of the DM slot gives back its fields and its opcode. -/
theorem decodeDm_encodeDm (op : Nat) (f : DmFields) : decodeDm (encodeDm op f) = f ∧ encodeDm op f / 2 ^ 40 = op := by
  obtain ⟨gp, gn, tk, ra, rb, rc, aux⟩ := f
  have hgn := bit_lt_two gn
  generalize hw : encodeDm op _ = w
  simp only [encodeDm, headerBits] at hw
  have := gp.isLt
  have := tk.isLt
  have := ra.isLt
  have := rb.isLt
  have := rc.isLt
  have := aux.isLt
  refine ⟨?_, by omega⟩
  simp only [decodeDm, DmFields.mk.injEq]
  refine ⟨ofNat_eq_of_mod_eq ?_, bitOf_eq_of_mod_eq ?_, ofNat_eq_of_mod_eq ?_, ofNat_eq_of_mod_eq ?_, ofNat_eq_of_mod_eq ?_,
    ofNat_eq_of_mod_eq ?_, ofNat_eq_of_mod_eq ?_⟩
  all_goals omega

/-- The word of the SY slot gives back its operand and its opcode. -/
theorem encodeSy_read (op : Nat) (o : BitVec 11) : encodeSy op o % 2 ^ 11 = o.toNat ∧ encodeSy op o / 2 ^ 11 = op := by
  have := o.isLt
  rw [encodeSy]
  omega

theorem slotOp_eq_div {sl : Slot} (hsy : sl ≠ .sy) (w : Nat) : slotOp sl w = w / 2 ^ (slotWidth sl - 8) := if_neg hsy

/-- What a slot's word reads once its opcode is the one encoded: the word within the slot's width, its opcode, its fields. -/
theorem slotWord_reads {α : Type} {sl : Slot} (hsy : sl ≠ .sy) {w op : Nat} (hop : op < 256) {d f : α}
    (h : d = f ∧ w / 2 ^ (slotWidth sl - 8) = op) : w < 2 ^ slotWidth sl ∧ slotOp sl w = op ∧ d = f := by
  have hwidth : 8 ≤ slotWidth sl := by cases sl <;> decide
  refine ⟨?_, (slotOp_eq_div hsy w).trans h.2, h.1⟩
  rw [← Nat.sub_add_cancel hwidth]
  exact lt_two_pow_of_div_eq h.2 (n := 8) hop

/-- The slots lie side by side: ten words laid out in a bundle are read back slot by slot (03 R81). -/
theorem slotBits_bundle {w : Slot → Nat} (hw : ∀ sl, w sl < 2 ^ slotWidth sl) (sl : Slot) :
    slotBits (BitVec.ofNat 512 ((allSlots.map fun x => w x * 2 ^ slotLo x).foldl (· + ·) 0)) sl = w sl := by
  have h0 : w .s0 < 2 ^ 64 := hw .s0
  have h1 : w .s1 < 2 ^ 48 := hw .s1
  have h2 : w .l0 < 2 ^ 48 := hw .l0
  have h3 : w .l1 < 2 ^ 48 := hw .l1
  have h4 : w .st < 2 ^ 48 := hw .st
  have h5 : w .v0 < 2 ^ 64 := hw .v0
  have h6 : w .v1 < 2 ^ 64 := hw .v1
  have h7 : w .mx < 2 ^ 64 := hw .mx
  have h8 : w .dm < 2 ^ 48 := hw .dm
  have h9 : w .sy < 2 ^ 16 := hw .sy
  simp only [allSlots, List.map_cons, List.map_nil, List.foldl_cons, List.foldl_nil, slotLo, slotBits, BitVec.toNat_ofNat]
  cases sl <;> simp only [slotWidth] <;> omega

/-- Settles O7: each encoder's word gives back its fields, and a bundle its ten words. -/
theorem slotEncodingsRoundTrip : Obligations.SlotEncodingsRoundTrip := by
  refine ⟨fun sl op f hsl hop => ?_, fun sl op f hsl hop => ?_, fun sl op f hsl hop => ?_, fun op f hop => ?_, fun op f hop => ?_,
    fun op o hop => ?_, fun w hw sl => slotBits_bundle hw sl⟩
  · exact slotWord_reads (by rcases hsl with rfl | ⟨rfl, -⟩ <;> decide) hop (decodeScalar_encodeScalar op hsl)
  · rcases hsl with rfl | rfl | rfl <;> exact slotWord_reads (by decide) hop (decodeMem_encodeMem op f)
  · rcases hsl with rfl | rfl <;> exact slotWord_reads (by decide) hop (decodeVec_encodeVec op f)
  · exact slotWord_reads (by decide) hop (decodeMx_encodeMx op f)
  · exact slotWord_reads (by decide) hop (decodeDm_encodeDm op f)
  · obtain ⟨hoperand, hopcode⟩ := encodeSy_read op o
    exact ⟨lt_two_pow_of_div_eq hopcode (n := 5) hop, hopcode, hoperand⟩

end Sys2Proof.Proofs

/-! ### What a slot's outcomes do to its gang -/

namespace Sys2Proof.Proofs

open Sys2Proof Sys2Proof.Machine Sys2Proof.Safety

/-- The effects that an outcome of the member with gang index i adds. -/
def outEffs (slot i : Nat) : SlotOut → List (Nat × Nat × Eff)
  | .done es => es.map fun e => (i, slot, e)
  | .raise _ _ => []

/-- The exception that an outcome of the member with gang index i adds. -/
def outExc (slot i : Nat) : SlotOut → Option TileExc
  | .done _ => none
  | .raise code info => some ⟨slot, i, code, info⟩

/-- The gang after a slot whose decode fault is recorded with gang index 0 (04 R116). -/
def slotFaulted (G : Gang) (sl : Slot) (code : Nat) : Gang :=
  { G with left := setErase G.left (slotCode sl), exc := G.exc ++ [⟨slotCode sl, 0, code, 0⟩] }

/-- The gang after a slot whose members' outcomes are recorded in gang-index order. -/
def slotKept (s : State) (g : Nat) (sl : Slot) (out : Nat × Nat → SlotOut) : Gang :=
  { gangGet s g with
    left := setErase (gangGet s g).left (slotCode sl)
    buf := (gangGet s g).buf ++ (gangMembers s g).flatMap fun m => outEffs (slotCode sl) m.1 (out m)
    exc := (gangGet s g).exc ++ (gangMembers s g).filterMap fun m => outExc (slotCode sl) m.1 (out m) }

theorem gangMod_gangSet {s : State} {g : Nat} {G : Gang} {f : Gang → Gang} (hG : G ≠ {}) (hf : f G ≠ {}) :
    gangMod (gangSet s g G) g f = gangSet s g (f G) := by
  rw [gangMod, gangGet_gangSet s g G hG, gangSet_gangSet s g G (f G) hG hf]

theorem slotPut_one (s : State) (g : Nat) (sl : Slot) (i code : Nat) :
    slotPut s g sl [(i, .raise code 0)] = gangSet s g { gangGet s g with
      left := setErase (gangGet s g).left (slotCode sl), exc := (gangGet s g).exc ++ [⟨slotCode sl, i, code, 0⟩] } := by
  simp only [slotPut, slotCollect, gangMod, List.append_nil]

theorem slotPut_members (s : State) (g : Nat) (sl : Slot) (out : Nat × Nat → SlotOut) :
    slotPut s g sl ((gangMembers s g).map fun m => (m.1, out m)) = gangSet s g (slotKept s g sl out) := by
  rw [slotPut, gangMod, slotCollect_map]
  rfl

theorem slotRun_fault (s : State) (g : Nat) (sl : Slot) (code : Nat) (gp : BitVec 4) (gn : Bool) (f : Nat → Nat → Tile → SlotOut) :
    slotRun s g sl (some code) gp gn f = commitIfDone (gangSet s g (slotFaulted (gangGet s g) sl code)) g :=
  congrArg (commitIfDone · g) (slotPut_one s g sl 0 code)

theorem slotRun_members (s : State) (g : Nat) (sl : Slot) (gp : BitVec 4) (gn : Bool) (f : Nat → Nat → Tile → SlotOut) :
    slotRun s g sl none gp gn f = commitIfDone (gangSet s g (slotKept s g sl fun m =>
      if guardTrue (tileGet s m.2) gp gn = true then f m.1 m.2 (tileGet s m.2) else .done [])) g :=
  congrArg (commitIfDone · g) (slotPut_members s g sl _)

/-- Settles O8: the outcomes are recorded in the gang, and the bundle commits where no slot is left (that a slot is a command of its own,
with its effects held until then, is log entry 66). -/
theorem slotOutcomesAreCollected : Obligations.SlotOutcomesAreCollected := by
  intro s g sl gp gn f hopened
  refine ⟨fun hothers => ?_, fun hlast => ?_⟩
  · have hleft := setErase_ne_nil _ _ hothers
    exact ⟨fun code => (slotRun_fault ..).trans (commitIfDone_later _ _ _ hleft),
      (slotRun_members ..).trans (commitIfDone_later _ _ _ hleft)⟩
  · have hleft := setErase_nil _ _ hlast
    exact ⟨fun code => (slotRun_fault ..).trans (commitIfDone_now _ _ _ hleft hopened),
      (slotRun_members ..).trans (commitIfDone_now _ _ _ hleft hopened)⟩

end Sys2Proof.Proofs

/-! ### Branches -/

namespace Sys2Proof.Proofs

open Sys2Proof Sys2Proof.Machine Sys2Proof.Safety

theorem firstIdx_eq_none {α : Type} {p : α → Bool} {l : List α} (h : ∀ a ∈ l, p a = false) : firstIdx p l = none := by
  induction l with
  | nil => rfl
  | cons a l ih =>
    rw [firstIdx, h a List.mem_cons_self, ih fun b hb => h b (List.mem_cons_of_mem a hb)]
    rfl

theorem firstIdx_eq_some {α : Type} {p : α → Bool} {l : List α} {i : Nat} (hi : i < l.length) (hp : p l[i] = true)
    (hbefore : ∀ j (hj : j < i), p l[j] = false) : firstIdx p l = some i := by
  induction l generalizing i with
  | nil => cases hi
  | cons a l ih =>
    cases i with
    | zero => exact if_pos hp
    | succ i =>
      have ha : p a = false := hbefore 0 i.succ_pos
      have hrest := ih (Nat.lt_of_succ_lt_succ hi) hp fun j hj => hbefore (j + 1) (Nat.succ_lt_succ hj)
      rw [firstIdx, ha, hrest]
      rfl

/-- A member stands at the place of its gang index. -/
theorem gangMembers_getElem {s : State} {g : Nat} {m : Nat × Nat} (h : m ∈ gangMembers s g) : (gangMembers s g)[m.1]? = some m := by
  obtain ⟨i, hi, rfl⟩ := List.getElem_of_mem h
  have hindex : ((gangMembers s g)[i]).1 = i := by simp only [gangMembers, List.getElem_zip, List.getElem_range]
  rw [hindex, List.getElem?_eq_getElem hi]

section Branch

variable {s : State} {g : Nat} {f : ScalarFields} {eff : Tile → SlotOut} {cond : Tile → Bool} {target : Tile → Nat}

/-- Does a member take a branch: its guard and its condition hold. -/
def takes (s : State) (f : ScalarFields) (cond : Tile → Bool) (m : Nat × Nat) : Bool :=
  guardTrue (tileGet s m.2) f.gp f.gn && cond (tileGet s m.2)

/-- What a member does in a branch beside taking it. -/
def branchOut (s : State) (f : ScalarFields) (eff : Tile → SlotOut) (m : Nat × Nat) : SlotOut :=
  if guardTrue (tileGet s m.2) f.gp f.gn = true then eff (tileGet s m.2) else .done []

theorem takes_iff {m : Nat × Nat} :
    takes s f cond m = true ↔ guardTrue (tileGet s m.2) f.gp f.gn = true ∧ cond (tileGet s m.2) = true :=
  Bool.and_eq_true_iff

/-- The gang after a branch in which no member raises and none differs: the members' effects are kept. -/
def branchKept (s : State) (g : Nat) (f : ScalarFields) (eff : Tile → SlotOut) : Gang :=
  { slotKept s g .s0 (branchOut s f eff) with exc := (gangGet s g).exc }

/-- The state after a branch in which no member raises, before its bundle may commit: the first member that differs from gang index 0
raises, and without one the target is recorded where index 0 takes the branch. -/
def branchPut (s : State) (g : Nat) (f : ScalarFields) (eff : Tile → SlotOut) (target : Tile → Nat) (taken : Bool) :
    Option Nat → State
  | some i => slotPut s g .s0 [(i, .raise 0x09 0)]
  | none =>
    if taken then
      gangMod (gangSet s g (branchKept s g f eff)) g fun G =>
        { G with taken := some (target (tileGet s (at' 0 (gangTiles s g) 0))) }
    else gangSet s g (branchKept s g f eff)

theorem branchRun_quiet (hquiet : ∀ m ∈ gangMembers s g, ∃ es, branchOut s f eff m = .done es) {first : Option Nat} {taken : Bool}
    (htaken : ((gangMembers s g).map (takes s f cond)).headD false = taken)
    (hfirst : firstIdx (fun b => b != taken) ((gangMembers s g).map (takes s f cond)) = first) :
    branchRun s g none f eff cond target = commitIfDone (branchPut s g f eff target taken first) g := by
  have hexc : (gangMembers s g).filterMap (fun m => outExc 0 m.1 (branchOut s f eff m)) = [] := by
    rw [List.filterMap_eq_nil_iff]
    intro m hm
    obtain ⟨es, hes⟩ := hquiet m hm
    rw [hes, outExc]
  have hraised : (slotCollect 0 ((gangMembers s g).map fun m => (m.1, branchOut s f eff m))).2 = [] :=
    (congrArg Prod.snd (slotCollect_map 0 (gangMembers s g) (branchOut s f eff))).trans hexc
  have hput : slotPut s g .s0 ((gangMembers s g).map fun m => (m.1, branchOut s f eff m)) = gangSet s g (branchKept s g f eff) := by
    rw [slotPut_members, branchKept, slotKept]
    simp only [slotCode, hexc, List.append_nil]
  have houts : slotOuts s g none f.gp f.gn (fun _ _ x b => if b then eff x else .done [])
      = (gangMembers s g).map fun m => (m.1, branchOut s f eff m) := rfl
  have hmembers : branchTaken s g f cond = (gangMembers s g).map (takes s f cond) := rfl
  simp only [branchRun, houts, hraised, hput, hmembers, htaken, hfirst]
  cases first <;> rfl

/-- All members take the branch: the target that gang index 0 gives is recorded. -/
theorem branchRun_taken (hquiet : ∀ m ∈ gangMembers s g, ∃ es, branchOut s f eff m = .done es)
    (hothers : ∃ k ∈ (gangGet s g).left, k ≠ 0) (hne : gangMembers s g ≠ [])
    (hall : ∀ m ∈ gangMembers s g, takes s f cond m = true) :
    branchRun s g none f eff cond target
      = gangSet s g { branchKept s g f eff with taken := some (target (tileGet s (at' 0 (gangTiles s g) 0))) } := by
  have hleft : (branchKept s g f eff).left ≠ [] := setErase_ne_nil _ _ hothers
  have hkept : branchKept s g f eff ≠ {} := fun h => hleft (congrArg Gang.left h)
  have htaken : ((gangMembers s g).map (takes s f cond)).headD false = true := by
    obtain ⟨m, ms, hms⟩ := List.exists_cons_of_ne_nil hne
    rw [hms] at hall ⊢
    exact hall m List.mem_cons_self
  have hfirst : firstIdx (fun b => b != true) ((gangMembers s g).map (takes s f cond)) = none :=
    firstIdx_eq_none fun b hb => by
      obtain ⟨m, hm, rfl⟩ := List.mem_map.mp hb
      rw [hall m hm]
      rfl
  rw [branchRun_quiet hquiet htaken hfirst]
  have hput := gangMod_gangSet (s := s) (g := g) (f := fun G => { G with taken := some (target (tileGet s (at' 0 (gangTiles s g) 0))) })
    hkept fun h => hleft (congrArg Gang.left h)
  exact (congrArg (commitIfDone · g) hput).trans (commitIfDone_later _ _ _ hleft)

/-- No member takes the branch: no target is recorded. -/
theorem branchRun_notTaken (hquiet : ∀ m ∈ gangMembers s g, ∃ es, branchOut s f eff m = .done es)
    (hothers : ∃ k ∈ (gangGet s g).left, k ≠ 0) (hnone : ∀ m ∈ gangMembers s g, takes s f cond m = false) :
    branchRun s g none f eff cond target = gangSet s g (branchKept s g f eff) := by
  have htaken : ((gangMembers s g).map (takes s f cond)).headD false = false := by
    cases hms : gangMembers s g with
    | nil => rfl
    | cons m ms => exact hnone m (hms ▸ List.mem_cons_self)
  have hfirst : firstIdx (fun b => b != false) ((gangMembers s g).map (takes s f cond)) = none :=
    firstIdx_eq_none fun b hb => by
      obtain ⟨m, hm, rfl⟩ := List.mem_map.mp hb
      rw [hnone m hm]
      rfl
  rw [branchRun_quiet hquiet htaken hfirst]
  exact commitIfDone_later _ _ _ (setErase_ne_nil _ _ hothers)

/-- A member that differs from gang index 0, with none before it that does, is recorded with 0x09 (03 R102). -/
theorem branchRun_diverges (hquiet : ∀ m ∈ gangMembers s g, ∃ es, branchOut s f eff m = .done es)
    (hothers : ∃ k ∈ (gangGet s g).left, k ≠ 0) {m d : Nat × Nat} (hm : m ∈ gangMembers s g) (hd : d ∈ gangMembers s g)
    (hd0 : d.1 = 0) (hdiffers : takes s f cond m ≠ takes s f cond d)
    (hbefore : ∀ n ∈ gangMembers s g, n.1 < m.1 → takes s f cond n = takes s f cond d) :
    branchRun s g none f eff cond target = gangSet s g { gangGet s g with
      left := setErase (gangGet s g).left 0, exc := (gangGet s g).exc ++ [⟨0, m.1, 0x09, 0⟩] } := by
  have hdAt := gangMembers_getElem hd
  obtain ⟨hi, hmAt⟩ := List.getElem?_eq_some_iff.mp (gangMembers_getElem hm)
  have htaken : ((gangMembers s g).map (takes s f cond)).headD false = takes s f cond d := by
    rw [hd0, ← List.head?_eq_getElem?] at hdAt
    rw [List.headD_eq_head?_getD, List.head?_map, hdAt]
    rfl
  have hfirst : firstIdx (fun b => b != takes s f cond d) ((gangMembers s g).map (takes s f cond)) = some m.1 := by
    refine firstIdx_eq_some (by rwa [List.length_map]) ?_ fun j hj => ?_
    · rw [List.getElem_map, hmAt, bne_iff_ne]
      exact hdiffers
    · have hjm := List.getElem_mem (Nat.lt_trans hj hi)
      have hindex : ((gangMembers s g)[j]).1 = j := by simp only [gangMembers, List.getElem_zip, List.getElem_range]
      rw [List.getElem_map, hbefore _ hjm (hindex.symm ▸ hj), bne_self_eq_false]
  rw [branchRun_quiet hquiet htaken hfirst]
  exact (congrArg (commitIfDone · g) (slotPut_one s g .s0 m.1 0x09)).trans (commitIfDone_later _ _ _ (setErase_ne_nil _ _ hothers))

end Branch

/-- Settles O9: the three ways a branch turns out, and the two bundles that issue before its target (that gang index 0 gives the target is
log entry 24). -/
theorem takenBranchAndDivergence : Obligations.TakenBranchAndDivergence := by
  refine ⟨fun s g f eff cond target hothers => ?_, fun G t => ⟨rfl, rfl, fun ht => ?_, rfl, rfl⟩⟩
  · intro G guard out holds kept hquiet
    have hholds : ∀ m, holds m ↔ takes s f cond m = true := fun m => takes_iff.symm
    refine ⟨fun hne hall => ?_, fun hnone => ?_, fun i t first hm hd hdiffers hbefore => ?_⟩
    · exact branchRun_taken hquiet hothers hne fun m hm => (hholds m).mp (hall m hm)
    · exact branchRun_notTaken hquiet hothers fun m hm => Bool.eq_false_iff.mpr fun h => hnone m hm ((hholds m).mpr h)
    · simp only [hholds] at hdiffers hbefore
      refine branchRun_diverges hquiet hothers hm hd rfl (fun h => ?_) fun n hn hlt => Bool.eq_iff_iff.mpr (hbefore n hn hlt)
      rw [h] at hdiffers
      exact iff_not_self hdiffers
  · simp only [nextPc, Nat.le_refl, if_true, ht, if_false]

end Sys2Proof.Proofs

/-! ### Bundles that commit or raise -/

namespace Sys2Proof.Proofs

open Sys2Proof Sys2Proof.Machine Sys2Proof.Safety

theorem worstExc_eq_none_iff (l : List TileExc) : worstExc l = none ↔ l = [] := by
  cases l with
  | nil => exact iff_of_true rfl rfl
  | cons e l =>
    refine iff_of_false ?_ (List.cons_ne_nil e l)
    rw [worstExc]
    split
    · exact Option.some_ne_none _
    · split <;> exact Option.some_ne_none _

/-- The exception recorded is one of the bundle's, of the least slot and then the least gang index. -/
theorem worstExc_eq_some {l : List TileExc} {e : TileExc} (h : worstExc l = some e) :
    e ∈ l ∧ ∀ d ∈ l, e.slot < d.slot ∨ e.slot = d.slot ∧ e.index ≤ d.index := by
  induction l generalizing e with
  | nil => cases h
  | cons a l ih =>
    rw [worstExc] at h
    split at h
    case h_1 hl =>
      obtain rfl := (worstExc_eq_none_iff l).mp hl
      cases h
      simp
    case h_2 d hl =>
      obtain ⟨hd, hmin⟩ := ih hl
      split at h
      case isTrue hc =>
        cases h
        simp only [Bool.or_eq_true, Bool.and_eq_true, decide_eq_true_eq, beq_iff_eq] at hc
        refine ⟨List.mem_cons_self, fun x hx => ?_⟩
        rcases List.mem_cons.mp hx with rfl | hx
        · exact .inr ⟨rfl, Nat.le_refl _⟩
        · have := hmin x hx
          omega
      case isFalse hc =>
        cases h
        simp only [Bool.or_eq_true, Bool.and_eq_true, decide_eq_true_eq, beq_iff_eq] at hc
        refine ⟨List.mem_cons_of_mem a hd, fun x hx => ?_⟩
        rcases List.mem_cons.mp hx with rfl | hx
        · omega
        · exact hmin x hx

/-! What a bundle without an exception commits (03 R83) -/

/-- The bank of a slot that an effect notes. -/
def bankOf (slot : Nat) : Eff → Option Nat
  | .bank k b => if k = slot then some b else none
  | _ => none

/-- The strum descriptors of a bundle, with the gang index of each. -/
def strumsOf (buf : List (Nat × Nat × Eff)) : List (Nat × Word) :=
  buf.filterMap fun e => match e.2.2 with | .strum d => some (e.1, d) | _ => none

/-- The waits of a bundle, with the gang index of each. -/
def waitsOf (buf : List (Nat × Nat × Eff)) : List (Nat × Nat) :=
  buf.filterMap fun e => match e.2.2 with | .wait m => some (e.1, m) | _ => none

/-- What a bundle does to its member with gang index i. -/
def commitTile (G : Gang) (i : Nat) (x : Tile) : Tile :=
  let es := G.buf.filter fun e => e.1 == i
  let y := es.foldl (fun b e => effTile G.cycle b e.2.1 e.2.2) x
  { y with
    cntIssue := y.cntIssue + 1
    cntMxBusy := y.cntMxBusy + BitVec.ofNat 64 (bit (slotBits G.bundle .mx != 0))
    cntBankStall := y.cntBankStall + BitVec.ofNat 64 (bankStalls (es.map fun e => e.2.2)) }

/-- What an effect starts outside the members' tiles. -/
def startEff (s : State) (g : Nat) (a : State) (e : Nat × Nat × Eff) : State :=
  match e.2.2 with
  | .dm tk op => dmBegin a g e.1 (at' 0 (gangTiles s g) e.1) tk op
  | .mismatch vd => logResidue a 4 (at' 0 (gangTiles s g) e.1) (ctxOfGang s g) (vd, 0) none
  | _ => a

/-- The members' tiles after a bundle. -/
def commitTiles (s : State) (g : Nat) : State :=
  (gangMembers s g).foldl (fun a m => tileMod a m.2 (commitTile (gangGet s g) m.1)) s

/-- A bundle's strums and what its slots start, after its members' tiles. -/
def commitStarts (s : State) (g : Nat) : State :=
  strumBegin ((gangGet s g).buf.foldl (startEff s g) (commitTiles s g)) g (strumsOf (gangGet s g).buf)

/-- The gang after a bundle that commits, with what it still waits for. -/
def movedOn (G : Gang) (waits : List (Nat × Nat)) : Gang :=
  { G with
    phase := (nextPc G).2.2, pc := (nextPc G).1, branch := (nextPc G).2.1, taken := none, opened := false, left := [], buf := [], exc := []
    shadow := if hasBranch G.bundle then 2 else G.shadow - 1, waits := waits }

theorem commitBundle_commits {s : State} {g : Nat} (h : worstExc ((gangGet s g).exc ++ clashExc (gangGet s g).buf) = none) :
    commitBundle s g = gangSet (commitStarts s g) g (movedOn (gangGet s g)
      (if waitHolds (commitStarts s g) g (waitsOf (gangGet s g).buf) then waitsOf (gangGet s g).buf else [])) := by
  rw [commitBundle]
  simp only [h]
  rfl

theorem commitBundle_raises {s : State} {g : Nat} {e : TileExc} (h : worstExc ((gangGet s g).exc ++ clashExc (gangGet s g).buf) = some e) :
    commitBundle s g = raiseExc s g e := by
  rw [commitBundle]
  simp only [h]

theorem bankStalls_eq (es : List Eff) : bankStalls es =
    bit ((es.findSome? (bankOf 2)).isSome && es.findSome? (bankOf 2) == es.findSome? (bankOf 3))
      + bit ((es.findSome? (bankOf 8)).isSome
        && (es.findSome? (bankOf 8) == es.findSome? (bankOf 2) || es.findSome? (bankOf 8) == es.findSome? (bankOf 3))) := rfl

theorem foldl_fixed_of_mem {α β : Type} {f : α → β → α} {a : α} {l : List β} (h : ∀ b ∈ l, f a b = a) : l.foldl f a = a := by
  induction l with
  | nil => rfl
  | cons b l ih =>
    rw [List.foldl_cons, h b List.mem_cons_self]
    exact ih fun c hc => h c (List.mem_cons_of_mem b hc)

/-! A bundle of results and waits alone -/

/-- A result or a wait: an effect that neither stores, starts an operation, uses a bank, nor contributes to a strum. -/
def IsQuiet (e : Eff) : Prop := (∃ lat r, e = .result lat r) ∨ ∃ m, e = .wait m

/-- The result that an effect puts into the pipelines of the member with gang index i. -/
def pipeOf (cycle i : Nat) (e : Nat × Nat × Eff) : Option Pipe :=
  match e.2.2 with
  | .result lat r => if e.1 = i then some ⟨cycle + lat, cycle, e.2.1, r⟩ else none
  | _ => none

section Quiet

variable {buf : List (Nat × Nat × Eff)}

theorem clashExc_quiet (h : ∀ e ∈ buf, IsQuiet e.2.2) : clashExc buf = [] := by
  rw [clashExc, List.filterMap_eq_nil_iff]
  intro e he
  rcases h e he with ⟨lat, r, hr⟩ | ⟨m, hm⟩
  · rw [hr]
  · rw [hm]

theorem strumsOf_quiet (h : ∀ e ∈ buf, IsQuiet e.2.2) : strumsOf buf = [] := by
  rw [strumsOf, List.filterMap_eq_nil_iff]
  intro e he
  rcases h e he with ⟨lat, r, hr⟩ | ⟨m, hm⟩
  · rw [hr]
  · rw [hm]

theorem startEff_quiet {e : Nat × Nat × Eff} (h : IsQuiet e.2.2) (s : State) (g : Nat) (a : State) : startEff s g a e = a := by
  rcases h with ⟨lat, r, hr⟩ | ⟨m, hm⟩
  · rw [startEff, hr]
  · rw [startEff, hm]

theorem bankStalls_quiet {es : List Eff} (h : ∀ e ∈ es, IsQuiet e) : bankStalls es = 0 := by
  have hbank : ∀ n, es.findSome? (bankOf n) = none := by
    intro n
    rw [List.findSome?_eq_none_iff]
    intro e he
    rcases h e he with ⟨lat, r, rfl⟩ | ⟨m, rfl⟩ <;> rfl
  simp only [bankStalls_eq, hbank]
  rfl

/-- Results enter a member's pipelines in the order in which the slots ran. -/
theorem foldl_effTile_quiet (h : ∀ e ∈ buf, IsQuiet e.2.2) (cycle i : Nat) (x : Tile) :
    (buf.filter fun e => e.1 == i).foldl (fun b e => effTile cycle b e.2.1 e.2.2) x
      = { x with pipe := x.pipe ++ buf.filterMap (pipeOf cycle i) } := by
  induction buf generalizing x with
  | nil => rw [List.filterMap_nil, List.append_nil]; rfl
  | cons e l ih =>
    obtain ⟨j, slot, eff⟩ := e
    have hl := ih fun d hd => h d (List.mem_cons_of_mem _ hd)
    by_cases hi : j = i
    · subst hi
      rw [List.filter_cons_of_pos (by simp), List.foldl_cons, hl]
      rcases h _ List.mem_cons_self with ⟨lat, r, rfl⟩ | ⟨m, rfl⟩
      · simp [pipeOf, effTile]
      · simp [pipeOf, effTile, List.filterMap_cons]
    · rw [List.filter_cons_of_neg (by simpa using hi), hl]
      rcases h _ List.mem_cons_self with ⟨lat, r, rfl⟩ | ⟨m, rfl⟩
      · simp [pipeOf, hi]
      · simp [pipeOf, List.filterMap_cons]

theorem commitTile_quiet {G : Gang} (h : ∀ e ∈ G.buf, IsQuiet e.2.2) (i : Nat) : commitTile G i = fun x => { x with
    pipe := x.pipe ++ G.buf.filterMap (pipeOf G.cycle i)
    cntIssue := x.cntIssue + 1, cntMxBusy := if slotBits G.bundle .mx = 0 then x.cntMxBusy else x.cntMxBusy + 1 } := by
  have hbanks : bankStalls ((G.buf.filter fun e => e.1 == i).map fun e => e.2.2) = 0 :=
    bankStalls_quiet fun e he => by
      obtain ⟨d, hd, rfl⟩ := List.mem_map.mp he
      exact h d (List.mem_of_mem_filter hd)
  funext x
  simp only [commitTile, foldl_effTile_quiet h, hbanks]
  by_cases hmx : slotBits G.bundle .mx = 0
  · simp [hmx, bit]
  · simp [hmx, bit]

end Quiet

/-- A bundle of results and waits alone changes its members' tiles and its gang. -/
theorem commitStarts_quiet {s : State} {g : Nat} (h : ∀ e ∈ (gangGet s g).buf, IsQuiet e.2.2) : commitStarts s g = commitTiles s g := by
  rw [commitStarts, strumsOf_quiet h, foldl_fixed_of_mem fun e he => startEff_quiet (h e he) s g _]
  rfl

/-- A member's tile after its gang raises an exception (03 R111). -/
theorem tileGet_raiseExc {s : State} (hs : mapRising s.tiles = true) (g : Nat) (e : TileExc) {x : Nat} (hx : x ∈ gangTiles s g) :
    tileGet (raiseExc s g e) x = { flushTile (gangGet s g).cycle (tileGet s x) with
      exc := excWord e (gangGet s g).pc, excInfo := BitVec.ofNat 64 e.info, tstate := .halted } :=
  tilesMod_mem s (gangTiles s g) _ hs (gangTiles_nodup s g) x hx

theorem tileGet_raiseExc_ne {s : State} (hs : mapRising s.tiles = true) (g : Nat) (e : TileExc) {x : Nat} (hx : x ∉ gangTiles s g) :
    tileGet (raiseExc s g e) x = tileGet s x :=
  tilesMod_ne s (gangTiles s g) _ hs x hx

/-- A gang that has raised an exception is halted where it stands, with nothing of its bundle left. -/
theorem gangGet_raiseExc (s : State) (g : Nat) (e : TileExc) : gangGet (raiseExc s g e) g = { gangGet s g with
    phase := .halted, opened := false, left := [], buf := [], exc := [], taken := none, waits := [] } :=
  gangGet_gangSet _ g _ fun h => nomatch congrArg Gang.phase h

theorem gangGet_raiseExc_ne {s : State} (hs : mapRising s.gangs = true) (g : Nat) (e : TileExc) {h : Nat} (hh : h ≠ g) :
    gangGet (raiseExc s g e) h = gangGet s h := by
  obtain ⟨tiles, ht⟩ := tilesMod_frame s (gangTiles s g) fun x => { flushTile (gangGet s g).cycle x with
    exc := excWord e (gangGet s g).pc, excInfo := BitVec.ofNat 64 e.info, tstate := .halted }
  simp only [raiseExc, ht]
  exact gangGet_gangSet_ne _ g h _ hs hh

/-- Only tiles and gangs change where a gang raises an exception. -/
theorem raiseExc_frame (s : State) (g : Nat) (e : TileExc) : { raiseExc s g e with tiles := s.tiles, gangs := s.gangs } = s := by
  have hframe := tilesMod_only s (gangTiles s g) fun x => { flushTile (gangGet s g).cycle x with
    exc := excWord e (gangGet s g).pc, excInfo := BitVec.ofNat 64 e.info, tstate := .halted }
  exact congrArg (fun u : State => { u with gangs := s.gangs }) hframe

/-- Settles O10: the least exception is recorded; a quiet bundle commits its results; a bundle that raises halts its members. -/
theorem bundleCommitsOrRaises : Obligations.BundleCommitsOrRaises := by
  refine ⟨fun l e => worstExc_eq_some, worstExc_eq_none_iff, fun s g hquiet hexc => ?_, fun s g e hs hworst => ?_⟩
  · have hnone : worstExc ((gangGet s g).exc ++ clashExc (gangGet s g).buf) = none := by
      rw [hexc, clashExc_quiet hquiet]
      rfl
    have htiles := funext (commitTile_quiet hquiet)
    rw [commitBundle_commits hnone, commitStarts_quiet hquiet, commitTiles, htiles]
    rfl
  · intro t
    have ht : t = raiseExc s g e := commitBundle_raises hworst
    rw [ht, gangGet_raiseExc]
    exact ⟨raiseExc_frame s g e, fun x hx => tileGet_raiseExc_ne hs.tiles g e hx, fun x hx => tileGet_raiseExc hs.tiles g e hx, rfl, rfl,
      rfl, rfl, fun h hh => gangGet_raiseExc_ne hs.gangs g e hh⟩

end Sys2Proof.Proofs

/-! ### Ticket waits -/

namespace Sys2Proof.Proofs

open Sys2Proof Sys2Proof.Machine Sys2Proof.Safety

theorem bitOf_eq_testBit (v i : Nat) : bitOf v i = v.testBit i := by
  rw [bitOf, Nat.testBit_eq_decide_div_mod_eq, Nat.shiftRight_eq_div_pow]
  rfl

theorem pendingIn_iff (x : Tile) (mask : Nat) :
    pendingIn x mask = true ↔ ∃ k < 32, bitOf mask k = true ∧ mapGet 0 x.tick k = 1 := by
  simp only [pendingIn, setBits, List.any_eq_true, List.mem_filter, List.mem_range, beq_iff_eq, and_assoc]

theorem waitHolds_iff (s : State) (g : Nat) (ws : List (Nat × Nat)) : waitHolds s g ws = true ↔
    ∃ w ∈ ws, ∃ t ∈ gangTiles s g, ∃ k < 32, bitOf w.2 k = true ∧ mapGet 0 (tileGet s t).tick k = 1 := by
  simp only [waitHolds, List.any_eq_true, pendingIn_iff]

/-- A gang's wait ends where no named slot is pending in any member. -/
theorem execTicketWaitEnd_free {s : State} {g : Nat} (n : Nat) (hwaits : (gangGet s g).waits ≠ [])
    (hfree : waitHolds s g (gangGet s g).waits = false) :
    exec (.ticketWaitEnd g n) s = .next (gangSet (tilesMod s (gangTiles s g) fun x =>
      { x with cntWait := x.cntWait + BitVec.ofNat 64 n }) g { gangGet s g with waits := [] }) :=
  if_pos (by simp [hwaits, hfree])

theorem execTicketWaitEnd_held {s : State} {g : Nat} (n : Nat) (hheld : waitHolds s g (gangGet s g).waits = true) :
    exec (.ticketWaitEnd g n) s = .next s :=
  if_neg (by simp [hheld])

/-- Settles O11: the wait ends exactly where it does not hold, and ending a ticket writes one slot of one tile. -/
theorem ticketWaitEnds : Obligations.TicketWaitEnds := by
  refine ⟨fun g n s hwaits => ?_, fun s t tk code hs ht => ?_⟩
  · intro pending
    have hholds := waitHolds_iff s g (gangGet s g).waits
    simp only [bitOf_eq_testBit] at hholds
    refine ⟨fun hnone => execTicketWaitEnd_free n hwaits (Bool.eq_false_iff.mpr fun h => ?_), fun hsome => ?_⟩
    · obtain ⟨w, hw, t, ht, hpending⟩ := hholds.mp h
      exact hnone w hw t ht hpending
    · exact execTicketWaitEnd_held n (hholds.mpr hsome)
  · refine ⟨?_, fun x hx => tileGet_tileSet_ne s t x _ hs.tiles hx⟩
    rw [show tileGet (tileMod s t fun x => endTicket x tk code) t = endTicket (tileGet s t) tk code from tileGet_tileSet s t _ hs.tiles]
    exact mapGet_mapSet_self 0 _ tk code ht

end Sys2Proof.Proofs

/-! ### A slot that executes before the last of its bundle -/

namespace Sys2Proof.Proofs

open Sys2Proof Sys2Proof.Machine Sys2Proof.Safety

/-- H is G but for the slots left, what the slots have made, and the branch taken: nothing has issued between them. -/
structure SameIssue (G H : Gang) : Prop where
  phase : H.phase = G.phase
  pc : H.pc = G.pc
  cycle : H.cycle = G.cycle
  bundle : H.bundle = G.bundle
  opened : H.opened = G.opened
  branch : H.branch = G.branch
  shadow : H.shadow = G.shadow
  waits : H.waits = G.waits

/-- From s to t the gang records outcomes: nothing else changes, and slots are left. -/
def GangRecords (g : Nat) (s t : State) : Prop := ∃ H, t = gangSet s g H ∧ H.left ≠ [] ∧ SameIssue (gangGet s g) H

section

variable {s : State} {g : Nat} {sl : Slot}

/-- A slot's outcomes, whatever they are, are recorded while another slot is left. -/
theorem slotPut_records (hothers : ∃ k ∈ (gangGet s g).left, k ≠ slotCode sl) (outs : List (Nat × SlotOut)) :
    GangRecords g s (slotPut s g sl outs) :=
  ⟨_, rfl, setErase_ne_nil _ _ hothers, rfl, rfl, rfl, rfl, rfl, rfl, rfl, rfl⟩

theorem GangRecords.commitIfDone {t : State} (h : GangRecords g s t) : GangRecords g s (commitIfDone t g) := by
  obtain ⟨H, rfl, hleft, hsame⟩ := h
  rw [commitIfDone_later s g H hleft]
  exact ⟨H, rfl, hleft, hsame⟩

theorem GangRecords.taken {t : State} (h : GangRecords g s t) (target : Option Nat) :
    GangRecords g s (gangMod t g fun G => { G with taken := target }) := by
  obtain ⟨H, rfl, hleft, hphase, hpc, hcycle, hbundle, hopened, hbranch, hshadow, hwaits⟩ := h
  rw [gangMod_gangSet (fun e => hleft (congrArg Gang.left e)) fun e => hleft (congrArg Gang.left e)]
  exact ⟨_, rfl, hleft, hphase, hpc, hcycle, hbundle, hopened, hbranch, hshadow, hwaits⟩

theorem slotRun_records (hothers : ∃ k ∈ (gangGet s g).left, k ≠ slotCode sl) (dec : Option Nat) (gp : BitVec 4) (gn : Bool)
    (f : Nat → Nat → Tile → SlotOut) : GangRecords g s (slotRun s g sl dec gp gn f) :=
  (slotPut_records hothers _).commitIfDone

theorem branchRun_records (hothers : ∃ k ∈ (gangGet s g).left, k ≠ slotCode .s0) (dec : Option Nat) (f : ScalarFields)
    (eff : Tile → SlotOut) (cond : Tile → Bool) (target : Tile → Nat) : GangRecords g s (branchRun s g dec f eff cond target) := by
  refine GangRecords.commitIfDone ?_
  dsimp only
  split
  · exact slotPut_records hothers _
  · split
    · exact slotPut_records hothers _
    · split
      · exact (slotPut_records hothers _).taken _
      · exact slotPut_records hothers _

end

/-- What a slot's command answers while another slot of the bundle is left: the state it found, or the settled state with the outcomes
recorded. -/
def Records (s : State) (g : Nat) (sl : Slot) (o : Host.Outcome State Fault Refusal) : Prop :=
  (∃ k ∈ (gangGet s g).left, k ≠ slotCode sl) → o = .next s ∨ ∃ t, o = .next t ∧ GangRecords g (settle s g) t

theorem gangGet_settle (s : State) (g h : Nat) : gangGet (settle s g) h = gangGet s h := by
  obtain ⟨x, hx⟩ := settle_frame s g
  rw [hx]
  rfl

/-- A command whose run records outcomes, where it may execute. -/
theorem Records.ite {s t : State} {g : Nat} {sl : Slot} {c : Prop} [Decidable c]
    (ht : (∃ k ∈ (gangGet (settle s g) g).left, k ≠ slotCode sl) → GangRecords g (settle s g) t) :
    Records s g sl (if c then .next t else .next s) := by
  intro hothers
  split
  · exact .inr ⟨t, rfl, ht (by rwa [gangGet_settle])⟩
  · exact .inl rfl

/-- A command that may not execute, such as one that names a slot of another kind (04 R81). -/
theorem Records.idle {s t : State} {g : Nat} {sl : Slot} {c : Prop} [Decidable c] (hc : ¬c) :
    Records s g sl (if c then .next t else .next s) :=
  fun _ => .inl (if_neg hc)

/-- Every slot's command records its outcomes, but for the loads, DOCK and COLL, which read scratchpad cells. -/
theorem exec_records {c : Instr} {g : Nat} {sl : Slot} {s : State} (hslot : c.slotOf = some (g, sl)) (hl0 : sl ≠ .l0) (hl1 : sl ≠ .l1)
    (hreads : ∀ f, c ≠ .dock g f ∧ c ≠ .coll g f) : Records s g sl (exec c s) := by
  cases c with
  | add | sub | and_ | or_ | xor | shl | shr | sra | mul | min | max | minu | maxu | addi | andi | ori | xori | shli | shri | srai |
    movlo | orhi | cmpeq | cmpne | cmplt | cmpltu | cmpge | cmpgeu | cmpeqi | cmplti | pand | por | pxor | pandn | tkst | rdtil |
    sts | stv |
    vadd | vsub | vmul | vfma | vmin | vmax | vabs | vneg | vexp2 | vrcp | vrsqrt | vfcmplt | vfcmpeq | viadd | visub | vand | vor | vxor |
    vshl | vshr | vsel | vrot | vbcs | vlane | vcvt | vqbs | vacr | vred | gbc | gred | mma | mmaz | mclr | gld | gst | send |
    wait | wait1 | waitall | strum =>
    cases hslot
    exact .ite fun hothers => slotRun_records hothers _ _ _ _
  | jmp | bz | bnz | loop | call | jr | end_ =>
    cases hslot
    exact .ite fun hothers => branchRun_records hothers _ _ _ _ _
  | recv | fill =>
    cases hslot
    exact .ite fun hothers => (slotPut_records hothers _).commitIfDone
  | lds | ldv | ldbc | ldt =>
    cases hslot
    exact .idle (by simp [isLoadSlot, hl0, hl1])
  | dock g' f =>
    cases hslot
    exact absurd rfl (hreads f).1
  | coll g' f =>
    cases hslot
    exact absurd rfl (hreads f).2
  | _ => cases hslot

/-- Settles O12: the command answers the state it found, or records its outcomes in the gang of the settled state (log entry 66). -/
theorem bundleSlotFrame : Obligations.BundleSlotFrame := by
  intro c g sl s t hs hslot hl0 hl1 hreads hothers hexec
  have hrecords := exec_records hslot hl0 hl1 hreads hothers (s := s)
  rw [hexec] at hrecords
  rcases hrecords with hsame | ⟨t', ht, H, hput, hleft, hsame⟩
  · obtain rfl := Host.Outcome.next.inj hsame
    exact ⟨rfl, fun _ _ => rfl, fun _ _ => .inl rfl, fun _ _ => rfl, rfl, rfl, rfl, rfl, rfl, rfl, rfl, rfl⟩
  · obtain rfl := Host.Outcome.next.inj ht
    subst hput
    rw [gangGet_settle] at hsame
    obtain ⟨x, hx⟩ := settle_frame s g
    have hH : gangGet (gangSet (settle s g) g H) g = H := gangGet_gangSet _ g H fun e => hleft (congrArg Gang.left e)
    refine ⟨?_, fun y hy => tilesMod_ne s (gangTiles s g) _ hs.tiles y hy,
      fun y hy => .inr (tilesMod_mem s (gangTiles s g) _ hs.tiles (gangTiles_nodup s g) y hy), fun h hh => ?_, ?_⟩
    · rw [hx]
      rfl
    · rw [gangGet_gangSet_ne _ g h H (by rw [hx]; exact hs.gangs) hh, gangGet_settle]
    · intro G H'
      rw [show H' = H from hH]
      exact ⟨hsame.phase, hsame.pc, hsame.cycle, hsame.bundle, hsame.opened, hsame.branch, hsame.shadow, hsame.waits⟩

end Sys2Proof.Proofs

/-! ### Scalar slots -/

namespace Sys2Proof.Proofs

open Sys2Proof Sys2Proof.Machine Sys2Proof.Safety

/-- A decode fault is the illegal opcode where a condition on the slot's fields fails (04 R116). -/
theorem illegalUnless_eq {ok : Bool} {p : Prop} [Decidable p] (h : ok = true ↔ p) :
    illegalUnless ok = if p then none else some 0x01 := by
  rw [illegalUnless]
  split <;> simp_all

section Scalar

variable {s : State} {g op : Nat} {sl : Slot} {f : ScalarFields}

theorem scalarWord_runs (hsl : sl = .s0 ∨ sl = .s1 ∧ f.imm.toNat < 2 ^ 20) (hop : op ∈ slotOps sl)
    (hold : SlotHolds s g sl (encodeScalar sl op f)) {fields : Nat → Bool} (hfields : ∀ w, decodeScalar sl w = f → fields w = true)
    (run : State → State) : slotExec s g sl op fields run = .next (run (settle s g)) := by
  obtain ⟨hdecode, hopcode⟩ := decodeScalar_encodeScalar op hsl
  have hsy : sl ≠ .sy := by rcases hsl with rfl | ⟨rfl, -⟩ <;> decide
  exact slotExec_runs hold ((slotOp_eq_div hsy _).trans hopcode) hop (hfields _ hdecode)

theorem scalarSlot_runs (hsl : sl = .s0 ∨ sl = .s1 ∧ f.imm.toNat < 2 ^ 20) (hop : op ∈ slotOps .s0 ∧ op ∈ slotOps .s1)
    (hold : SlotHolds s g sl (encodeScalar sl op f)) (run : State → State) :
    slotExec s g sl op (fun w => isScalarSlot sl && decide (decodeScalar sl w = f)) run = .next (run (settle s g)) := by
  have hkind : isScalarSlot sl = true ∧ op ∈ slotOps sl := by
    rcases hsl with rfl | ⟨rfl, -⟩
    · exact ⟨rfl, hop.1⟩
    · exact ⟨rfl, hop.2⟩
  exact scalarWord_runs hsl hkind.2 hold (fun w hw => by simp [hkind.1, hw]) run

end Scalar

/-- The choice between two words by a strict order is the choice by the order. -/
theorem ite_sLess (a b : Word) {α : Type} (x y : α) : (if sLess b a then x else y) = if a.toInt ≤ b.toInt then y else x := by
  simp only [sLess, decide_eq_true_eq, ← not_le, ite_not]

theorem not_sLess (a b : Word) : (!sLess a b) = decide (b.toInt ≤ a.toInt) := by
  simp only [sLess, ← decide_not, not_lt]

theorem ite_lt_swap (a b : Word) {α : Type} (x y : α) : (if b < a then x else y) = if a ≤ b then y else x := by
  simp only [← BitVec.not_lt, ite_not]

section Table

variable (g : Nat) (sl : Slot) (f : ScalarFields) (s : State)

theorem execMin_eq : execMin g sl f s = scalarRR 0x0A (fun a b => if a.toInt ≤ b.toInt then a else b) g sl f s := by
  simp only [execMin, ite_sLess]

theorem execMax_eq : execMax g sl f s = scalarRR 0x0B (fun a b => if b.toInt ≤ a.toInt then a else b) g sl f s := by
  simp only [execMax, ite_sLess]

theorem execMinu_eq : execMinu g sl f s = scalarRR 0x0C (fun a b => if a ≤ b then a else b) g sl f s := by
  simp only [execMinu, ite_lt_swap]

theorem execMaxu_eq : execMaxu g sl f s = scalarRR 0x0D (fun a b => if b ≤ a then a else b) g sl f s := by
  simp only [execMaxu, ite_lt_swap]

theorem execCmpge_eq : execCmpge g sl f s = scalarCmp 0x24 (fun a b => decide (b.toInt ≤ a.toInt)) g sl f s := by
  simp only [execCmpge, not_sLess]

end Table

/-- Settles O23: each operation is `scalarRR` of its function, whose word runs. -/
theorem scalarRegisterFormCompletes : Obligations.ScalarRegisterFormCompletes := by
  intro c hc g sl f s hsl hold
  have hexec : exec (c.2.1 g sl f) s = scalarRR c.1 c.2.2 g sl f s := by
    fin_cases hc
    iterate 9 rfl
    · exact execMin_eq g sl f s
    · exact execMax_eq g sl f s
    · exact execMinu_eq g sl f s
    · exact execMaxu_eq g sl f s
  have hop : c.1 ∈ slotOps .s0 ∧ c.1 ∈ slotOps .s1 := by fin_cases hc <;> decide
  rw [hexec, scalarRR, scalarSlot_runs hsl hop hold]
  exact congrArg _ (slotRun_congr (illegalUnless_eq beq_iff_eq) fun _ _ x => rfl)

/-- Settles O25: compares and predicate operations are the model's three forms, and TKST and RDTIL run in S1. -/
theorem scalarPredicateFormCompletes : Obligations.ScalarPredicateFormCompletes := by
  refine ⟨fun c hc g sl f s hsl hold => ?_, fun c hc g sl f s hsl hold => ?_, fun c hc g sl f s hsl hold => ?_,
    fun g f s himm hold => ?_, fun g f s himm hold => ?_⟩
  · have hexec : exec (c.2.1 g sl f) s = scalarCmp c.1 c.2.2 g sl f s := by
      fin_cases hc
      iterate 4 rfl
      · exact execCmpge_eq g sl f s
      · rfl
    have hop : c.1 ∈ slotOps .s0 ∧ c.1 ∈ slotOps .s1 := by fin_cases hc <;> decide
    rw [hexec, scalarCmp, scalarSlot_runs hsl hop hold]
    refine congrArg _ (slotRun_congr (illegalUnless_eq (by simp)) fun _ _ x => ?_)
    simp only [Bool.or_eq_true]
    rfl
  · have hexec : exec (c.2.1 g sl f) s = scalarCmpI c.1 c.2.2 g sl f s := by fin_cases hc <;> rfl
    have hop : c.1 ∈ slotOps .s0 ∧ c.1 ∈ slotOps .s1 := by fin_cases hc <;> decide
    rw [hexec, scalarCmpI, scalarSlot_runs hsl hop hold]
    exact congrArg _ (slotRun_congr (illegalUnless_eq (by simp)) fun _ _ x => rfl)
  · have hexec : exec (c.2.1 g sl f) s = predOp c.1 c.2.2 g sl f s := by
      fin_cases hc <;> rfl
    have hop : c.1 ∈ slotOps .s0 ∧ c.1 ∈ slotOps .s1 := by fin_cases hc <;> decide
    rw [hexec, predOp, scalarSlot_runs hsl hop hold]
    exact congrArg _ (slotRun_congr (illegalUnless_eq (by simp [and_assoc])) fun _ _ x => rfl)
  · show execTkst g f s = _
    rw [execTkst, scalarWord_runs (.inr ⟨rfl, himm⟩) (by decide) hold fun w hw => decide_eq_true hw]
    exact congrArg _ (slotRun_congr (illegalUnless_eq (by simp [and_assoc])) fun _ _ x => rfl)
  · show execRdtil g f s = _
    rw [execRdtil, scalarWord_runs (.inr ⟨rfl, himm⟩) (by decide) hold fun w hw => decide_eq_true hw]
    exact congrArg _ (slotRun_congr (illegalUnless_eq (by simp [and_assoc, Nat.lt_succ_iff])) fun _ _ x => rfl)

end Sys2Proof.Proofs

/-! ### Branches run -/

namespace Sys2Proof.Proofs

open Sys2Proof Sys2Proof.Machine Sys2Proof.Safety

section BranchWord

variable {s : State} {g op : Nat} {f : ScalarFields}

/-- A branch is illegal where an unused field is not zero, where its immediate is beyond the buffer's index bits, and in the two bundles
after a branch (03 R85). -/
theorem branchDecode_settle {ok : Bool} {p : Prop} [Decidable p] (h : ok = true ↔ p) : branchDecode (settle s g) g ok f =
    if p ∧ f.imm.toNat < 2 ^ 11 ∧ (gangGet s g).shadow = 0 then none else some 0x01 :=
  illegalUnless_eq (by simp [h, gangGet_settle, and_assoc])

/-- A branch whose word stands in S0 runs on the settled state. -/
theorem branchSlot_runs (hop : op ∈ slotOps .s0) (hold : SlotHolds s g .s0 (encodeScalar .s0 op f)) {ok : Bool} {p : Prop} [Decidable p]
    (hok : ok = true ↔ p) (eff : Tile → SlotOut) (cond : Tile → Bool) (target : Tile → Nat) :
    slotExec s g .s0 op (fun w => decide (decodeScalar .s0 w = f)) (fun u => branchRun u g (branchDecode u g ok f) f eff cond target)
      = .next (branchRun (settle s g) g (if p ∧ f.imm.toNat < 2 ^ 11 ∧ (gangGet s g).shadow = 0 then none else some 0x01) f eff cond
        target) := by
  rw [scalarWord_runs (.inl rfl) hop hold fun _ hw => decide_eq_true hw, branchDecode_settle hok]

end BranchWord

/-- Settles O26: each branch's word runs `branchRun` on the settled state. -/
theorem branchesComplete : Obligations.BranchesComplete := by
  intro g f s poisoned dec
  refine ⟨fun hold => ?_, fun hold => ?_, fun hold => ?_, fun hold => ?_, fun hold => ?_, fun hold => ?_, fun hold => ?_⟩
  · exact branchSlot_runs (by decide) hold (by simp [and_assoc]) _ _ _
  · exact branchSlot_runs (by decide) hold (by simp) _ _ _
  · exact branchSlot_runs (by decide) hold (by simp) _ _ _
  · exact branchSlot_runs (by decide) hold (by simp) _ _ _
  · show execCall g f s = _
    rw [execCall, scalarWord_runs (.inl rfl) (by decide) hold fun _ hw => decide_eq_true hw,
      branchDecode_settle (p := f.rs1 = 0 ∧ f.rs2 = 0) (by simp), gangGet_settle]
  · exact branchSlot_runs (by decide) hold (by simp [and_assoc]) _ _ _
  · exact branchSlot_runs (by decide) hold (by simp [and_assoc]) _ _ _

end Sys2Proof.Proofs

/-! ### Lane operations of the vector slots -/

namespace Sys2Proof.Proofs

open Sys2Proof Sys2Proof.Machine Sys2Proof.Safety

theorem lane_of_ite (c : Prop) [Decidable c] (u v : BitVec 2048) (i : Nat) :
    at' 0 (lanes (if c then u else v)) i = if c then at' 0 (lanes u) i else at' 0 (lanes v) i :=
  apply_ite (fun v => at' 0 (lanes v) i) c u v

/-- Settles O29: each lane operation's word runs, and what it makes of a tile is the statement's. -/
theorem vectorLaneOperationsComplete : Obligations.VectorLaneOperationsComplete := by
  refine ⟨fun c hc g sl f s hsl hold => ?_, fun c hc g sl f s hsl hold => ?_, fun g sl f s hsl hold => ?_,
    fun g sl f s hsl hold => ?_, fun g sl f s hsl hold => ?_, fun g sl f s hsl hold => ?_⟩
  · have hexec : exec (c.2.1 g sl f) s = intBin c.1 c.2.2 g sl f s := by fin_cases hc <;> rfl
    have hop : c.1 ∈ slotOps .v0 := by fin_cases hc <;> decide
    rw [hexec, intBin, vecExec_runs hsl hop hold]
    simp only [laneOr_two, vecResult]
  · have hexec : exec (c.2.1 g sl f) s = intShift c.1 c.2.2 g sl f s := by fin_cases hc <;> rfl
    have hop : c.1 ∈ slotOps .v0 := by fin_cases hc <;> decide
    rw [hexec, intShift, vecExec_runs hsl hop hold]
    rfl
  · show execVsel g sl f s = _
    rw [execVsel, vecExec_runs hsl (by decide) hold]
    simp only [vecResult, lane_of_ite]
  · show execVrot g sl f s = _
    rw [execVrot, vecExec_runs hsl (by decide) hold]
    simp only [vecResult, BitVec.ofNat_toNat, BitVec.setWidth_eq]
  · exact vecExec_runs hsl (by decide) hold _ _
  · exact vecExec_runs hsl (by decide) hold _ _

end Sys2Proof.Proofs

/-! ### Loads and stores -/

namespace Sys2Proof.Proofs

open Sys2Proof Sys2Proof.Machine Sys2Proof.Safety

section Mem

variable {s : State} {g op : Nat} {sl : Slot} {f : MemFields}

theorem memWord_runs (hsl : sl = .l0 ∨ sl = .l1 ∨ sl = .st) (hop : op ∈ slotOps sl) (hold : SlotHolds s g sl (encodeMem op f))
    {fields : Nat → Bool} (hfields : ∀ w, decodeMem w = f → fields w = true) (run : State → State) :
    slotExec s g sl op fields run = .next (run (settle s g)) := by
  obtain ⟨hdecode, hopcode⟩ := decodeMem_encodeMem op f
  have hsy : sl ≠ .sy ∧ slotWidth sl = 48 := by rcases hsl with rfl | rfl | rfl <;> decide
  exact slotExec_runs hold ((slotOp_eq_div hsy.1 _).trans (by rw [hsy.2]; exact hopcode)) hop (hfields _ hdecode)

/-- A load's word runs: its illegal fields are recorded alone, else what each member's load gives, with the cells it reads corrected. -/
theorem loadExec_runs (hsl : sl = .l0 ∨ sl = .l1) (hop : op ∈ slotOps .l0) (hold : SlotHolds s g sl (encodeMem op f)) (size : Nat)
    (ok : Bool) (mk : List (Nat × Bool) → Res) (us : Upsets) :
    loadExec op size ok mk g sl f us s =
      let s0 := upsetTiles (settle s g) us
      .next (if ok = true then
        commitIfDone (loadEffects s0 g size f (slotPut s0 g sl (slotOuts s0 g none f.gp f.gn fun _ _ x b =>
          if b = true then loadOut (gangStrict (settle s g) g) (slotCode sl) size f mk x else .done []))) g
      else commitIfDone (slotPut s0 g sl [(0, .raise 0x01 0)]) g) := by
  have hkind : isLoadSlot sl = true ∧ op ∈ slotOps sl := by rcases hsl with rfl | rfl <;> exact ⟨rfl, hop⟩
  rw [loadExec, memWord_runs (hsl.imp_right .inl) hkind.2 hold fun w hw => by simp [hkind.1, hw]]
  cases ok <;> rfl

end Mem

/-- Settles O27: each load is `loadExec` of its result, and each store of its bytes, whose words run. -/
theorem loadsAndStoresComplete : Obligations.LoadsAndStoresComplete := by
  refine ⟨fun c hc g sl f us s hsl hold => ?_, fun g f s hold => ?_, fun g f s hold => ?_⟩
  · have hexec : exec (c.2.2.1 g sl f us) s = loadExec c.1 c.2.1 (c.2.2.2.1 f) (c.2.2.2.2 f) g sl f us s := by fin_cases hc <;> rfl
    have hop : c.1 ∈ slotOps .l0 := by fin_cases hc <;> decide
    exact hexec.trans (loadExec_runs hsl hop hold _ _ _ us)
  · show execSts g f s = _
    rw [execSts, memWord_runs (.inr (.inr rfl)) (by decide) hold fun w hw => decide_eq_true hw]
    exact congrArg _ (slotRun_congr (illegalUnless_eq (by simp)) fun _ _ x => rfl)
  · show execStv g f s = _
    rw [execStv, memWord_runs (.inr (.inr rfl)) (by decide) hold fun w hw => decide_eq_true hw]
    exact congrArg _ (slotRun_congr (illegalUnless_eq (by simp)) fun _ _ x => rfl)

end Sys2Proof.Proofs

/-! ### The DM slot -/

namespace Sys2Proof.Proofs

open Sys2Proof Sys2Proof.Machine Sys2Proof.Safety

/-! Settling results due changes nothing that the checks of an operation read beside the tiles. -/

theorem isLocal_settle (s : State) (g a : Nat) : isLocal (settle s g) a = isLocal s a := by
  obtain ⟨x, hx⟩ := settle_frame s g
  rw [hx]
  rfl

theorem inRegions_settle (s : State) (g c off n : Nat) : inRegions (settle s g) c off n = inRegions s c off n := by
  obtain ⟨x, hx⟩ := settle_frame s g
  rw [hx]
  rfl

theorem ctxOfGang_settle (s : State) (g h : Nat) : ctxOfGang (settle s g) h = ctxOfGang s h := by
  obtain ⟨x, hx⟩ := settle_frame s g
  rw [hx]
  rfl

theorem chanRec_settle (s : State) (g t ch : Nat) : chanRec (settle s g) t ch = chanRec s t ch := by
  obtain ⟨x, hx⟩ := settle_frame s g
  rw [hx]
  rfl

/-! Slots whose members' outcomes agree -/

theorem slotOuts_congr {s : State} {g : Nat} {d1 d2 : Option Nat} {gp : BitVec 4} {gn : Bool}
    {f1 f2 : Nat → Nat → Tile → Bool → SlotOut} (hd : d1 = d2) (hf : ∀ i t x b, f1 i t x b = f2 i t x b) :
    slotOuts s g d1 gp gn f1 = slotOuts s g d2 gp gn f2 := by
  have : f1 = f2 := by funext i t x b; exact hf i t x b
  rw [hd, this]

theorem commitSlot_congr {s : State} {g : Nat} {sl : Slot} {d1 d2 : Option Nat} {gp : BitVec 4} {gn : Bool}
    {f1 f2 : Nat → Nat → Tile → Bool → SlotOut} (hd : d1 = d2) (hf : ∀ i t x b, f1 i t x b = f2 i t x b) :
    commitIfDone (slotPut s g sl (slotOuts s g d1 gp gn f1)) g = commitIfDone (slotPut s g sl (slotOuts s g d2 gp gn f2)) g := by
  rw [slotOuts_congr hd hf]

theorem ite_eq_true_flip {α : Type} (b : Bool) (x y : α) : (if b = true then x else y) = if b = false then y else x := by
  cases b <;> rfl

/-- Checks 1 and 2 of 04 R137 on the operand registers rs, then k. -/
def dmFirst (x : Tile) (tk : Nat) (rs : List (BitVec 5)) (k : SlotOut) : SlotOut :=
  if mapGet 0 x.tick tk = 1 then .raise 0x08 tk
  else match rs.find? fun r => (sReg x r.toNat).2 with
    | some r => .raise 0x0A (sReg x r.toNat).1.toNat
    | none => k

theorem orRaise_dmHead (x : Tile) (tk : Nat) (rs : List (BitVec 5)) (k : SlotOut) :
    orRaise (dmHead x tk (rs.map BitVec.toNat)) k = dmFirst x tk rs k := by
  rw [dmHead, dmFirst]
  split
  · rfl
  · rw [List.find?_map]
    cases hfound : rs.find? ((fun r => (sReg x r).2) ∘ BitVec.toNat) with
    | none => rw [show rs.find? (fun r => (sReg x r.toNat).2) = none from hfound]; rfl
    | some r => rw [show rs.find? (fun r => (sReg x r.toNat).2) = some r from hfound]; rfl

theorem orRaise_dmPadRange (off len : Nat) (k : SlotOut) : orRaise (dmPadRange off len) k =
    if off + len > padTop then .raise 0x04 off else if off % 64 ≠ 0 then .raise 0x03 off else k := by
  simp only [dmPadRange, bne_iff_ne]
  split
  · rfl
  · split <;> rfl

section Dm

variable {s : State} {g op : Nat} {f : DmFields}

theorem dmWord_runs (hop : op ∈ slotOps .dm) (hold : SlotHolds s g .dm (encodeDm op f)) (run : State → State) :
    slotExec s g .dm op (fun w => decide (decodeDm w = f)) run = .next (run (settle s g)) := by
  obtain ⟨hdecode, hopcode⟩ := decodeDm_encodeDm op f
  exact slotExec_runs hold ((slotOp_eq_div (by decide) _).trans hopcode) hop (decide_eq_true hdecode)

theorem dmExec_runs (hop : op ∈ slotOps .dm) (hold : SlotHolds s g .dm (encodeDm op f)) (ok : Bool)
    (out : State → Nat → Nat → Tile → SlotOut) :
    dmExec op ok g f out s = .next (slotRun (settle s g) g .dm (illegalUnless ok) f.gp f.gn (out (settle s g))) :=
  dmWord_runs hop hold _

theorem descExec_runs (hop : op ∈ slotOps .dm) (hold : SlotHolds s g .dm (encodeDm op f)) {ok : Bool} (hok : ok = true)
    {out : State → Nat → Nat → Tile → SlotOut} {out' : Tile → Bool → SlotOut}
    (hout : ∀ i t x b, (if b = true then out (settle s g) i t x else .done []) = out' x b) : descExec op ok g f out s =
      .next (commitIfDone (descEffects (settle s g) g f (slotPut (settle s g) g .dm
        (slotOuts (settle s g) g none f.gp f.gn fun _ _ x b => out' x b))) g) := by
  subst hok
  rw [descExec, dmWord_runs hop hold]
  have houts := slotOuts_congr (s := settle s g) (g := g) (gp := f.gp) (gn := f.gn) (rfl : illegalUnless true = none) hout
  simp only [if_true, houts]
  rfl

/-- GLD and GST: the operands, the length, the scratchpad range, then the global address (04 R137, R138). -/
theorem moveOut_settle (mk : Nat → Nat → Nat → DmOp) (x : Tile) : moveOut (settle s g) g f mk x =
    let a := (sReg x f.ra.toNat).1.toNat
    let off := (sReg x f.rb.toNat).1.toNat
    let len := (sReg x f.rc.toNat).1.toNat
    dmFirst x f.tk.toNat [f.ra, f.rb, f.rc] (if len % 64 ≠ 0 ∨ len < 64 ∨ len > 786432 then .raise 0x01 0
      else if off + len > padTop then .raise 0x04 off else if off % 64 ≠ 0 then .raise 0x03 off
      else if a % 64 ≠ 0 then .raise 0x03 a
      else if isLocal s a = true ∧ inRegions s (ctxOfGang s g) (gOff a) len = false then .raise 0x0E a
      else .done [.dm f.tk.toNat (mk a off len)]) := by
  simp only [moveOut, isLocal_settle, inRegions_settle, ctxOfGang_settle, orRaise_dmPadRange, bne_iff_ne, Bool.or_eq_true,
    decide_eq_true_eq, Bool.and_eq_true, Bool.not_eq_true', or_assoc]
  exact orRaise_dmHead x f.tk.toNat [f.ra, f.rb, f.rc] _

end Dm

/-- Settles O33: each operation's word runs with the checks of 04 R137 in their order (an undefined channel whatever the guard is log
entry 26, an unaligned source of FILL log entry 48). -/
theorem dmMovesComplete : Obligations.DmMovesComplete := by
  intro g f s s1 tk reg first pad move
  have hfirst : ∀ x rs k, first x rs k = orRaise (dmHead x f.tk.toNat (rs.map BitVec.toNat)) k := fun x rs k =>
    (orRaise_dmHead x f.tk.toNat rs k).symm
  refine ⟨fun hold => ?_, fun hold => ?_, fun hold => ?_, fun hold => ?_, fun hold hrc haux => ?_, fun hold => ?_⟩
  · show execGld g f s = _
    rw [execGld, dmExec_runs (by decide) hold]
    exact congrArg _ (slotRun_congr (illegalUnless_eq beq_iff_eq) fun _ _ x => moveOut_settle _ x)
  · show execGst g f s = _
    rw [execGst, dmExec_runs (by decide) hold]
    exact congrArg _ (slotRun_congr (illegalUnless_eq beq_iff_eq) fun _ _ x => moveOut_settle _ x)
  · show execSend g f s = _
    rw [execSend, dmExec_runs (by decide) hold]
    refine congrArg _ (slotRun_congr (illegalUnless_eq beq_iff_eq) fun _ _ x => ?_)
    simp only [orRaise_dmPadRange, bne_iff_ne, Bool.or_eq_true, decide_eq_true_eq, or_assoc, gangGet_settle]
    exact orRaise_dmHead x f.tk.toNat [f.ra, f.rb, f.rc] _
  · show execRecv g f s = _
    rw [execRecv, dmWord_runs (by decide) hold]
    refine congrArg _ (commitSlot_congr (illegalUnless_eq (by simp [and_assoc])) fun _ t x b => ?_)
    simp only [hfirst, chanRec_settle, Option.isNone_iff_eq_none, Bool.not_eq_true']
    rfl
  · show execDock g f s = _
    rw [execDock]
    refine descExec_runs (by decide) hold (by simp [hrc, haux]) fun _ _ x b => ?_
    simp only [hfirst, ctxOfGang_settle, gangGet_settle, bne_iff_ne, Bool.not_eq_true', ite_eq_true_flip]
    rfl
  · show execFill g f s = _
    rw [execFill, dmWord_runs (by decide) hold]
    refine congrArg _ (commitSlot_congr (illegalUnless_eq beq_iff_eq) fun _ _ x b => ?_)
    simp only [hfirst, isLocal_settle, inRegions_settle, ctxOfGang_settle, Bool.and_eq_true, Bool.not_eq_true']
    rfl

end Sys2Proof.Proofs

/-! ### Collectives and the SY slot -/

namespace Sys2Proof.Proofs

open Sys2Proof Sys2Proof.Machine Sys2Proof.Safety

section Sy

variable {s : State} {g op : Nat} {o : BitVec 11}

/-- An SY slot's word runs; it has no guard (04 R140). -/
theorem syExec_runs (hop : op ∈ slotOps .sy) (hold : SlotHolds s g .sy (encodeSy op o)) (ok : Bool) (out : State → Tile → SlotOut) :
    syExec op ok g o out s = .next (slotRun (settle s g) g .sy (illegalUnless ok) 0 false fun _ _ x => out (settle s g) x) := by
  obtain ⟨hoperand, hopcode⟩ := encodeSy_read op o
  exact slotExec_runs hold hopcode hop (beq_iff_eq.mpr hoperand)

theorem syLowZero_iff : syLowZero o = true ↔ o.toNat % 64 = 0 := beq_iff_eq

end Sy

/-- Checks 1 and 2 of 04 R137 for one operand register. -/
theorem orRaise_dmHead_one (x : Tile) (tk : Nat) (r : Nat) (k : SlotOut) : orRaise (dmHead x tk [r]) k =
    if mapGet 0 x.tick tk = 1 then .raise 0x08 tk else if (sReg x r).2 = true then .raise 0x0A (sReg x r).1.toNat else k := by
  rw [dmHead]
  split
  · rfl
  · rw [List.find?_cons, List.find?_nil]
    cases (sReg x r).2 <;> rfl

/-- Settles O34: COLL's word runs with its checks in their order, the SY words run, and NOP changes nothing. -/
theorem collAndSyncSlotsComplete : Obligations.CollAndSyncSlotsComplete := by
  refine ⟨fun g f s hold hrb hrc haux => ?_, fun g o s => ?_, fun g sl s => rfl⟩
  · show execColl g f s = _
    rw [execColl]
    refine descExec_runs (by decide) hold (by simp [hrb, hrc, haux]) fun _ _ x b => ?_
    simp only [orRaise_dmHead_one, orRaise_dmPadRange, ite_eq_true_flip b, bne_iff_ne, Bool.or_eq_true, Bool.not_eq_true', beq_iff_eq,
      decide_eq_true_eq, or_assoc]
    rfl
  · intro dec r
    refine ⟨fun hold => ?_, fun hold => ?_, fun hold => ?_, fun hold => ?_⟩
    · show execWait g o s = _
      rw [execWait, syExec_runs (by decide) hold]
      exact congrArg _ (slotRun_congr (illegalUnless_eq syLowZero_iff) fun _ _ x => rfl)
    · show execWait1 g o s = _
      rw [execWait1, syExec_runs (by decide) hold]
      exact congrArg _ (slotRun_congr (illegalUnless_eq syLowZero_iff) fun _ _ x => rfl)
    · show execWaitall g o s = _
      rw [execWaitall, syExec_runs (by decide) hold]
      exact congrArg _ (slotRun_congr (illegalUnless_eq beq_iff_eq) fun _ _ x => rfl)
    · show execStrum g o s = _
      rw [execStrum, syExec_runs (by decide) hold]
      exact congrArg _ (slotRun_congr (illegalUnless_eq syLowZero_iff) fun _ _ x => rfl)

end Sys2Proof.Proofs

/-! ### Gang events -/

namespace Sys2Proof.Proofs

open Sys2Proof Sys2Proof.Machine Sys2Proof.Safety

/-- A gang that runs, holds no bundle and waits for nothing may fetch. -/
theorem execBundleFetch_ready {s : State} {g : Nat} (us : Upsets) (hphase : (gangGet s g).phase = .running)
    (hopened : (gangGet s g).opened = false) (hwaits : (gangGet s g).waits = []) (htiles : gangTiles s g ≠ []) :
    exec (.bundleFetch g us) s =
      let s1 := settle (upsetTiles s us) g
      let pc := (gangGet s g).pc
      let s2 := if pc < 1536 then (gangTiles s g).foldl (fun a t => fetchEffects a t pc) s1 else s1
      match fetchFault s1 g pc with
      | some e => .next (raiseExc s2 g e)
      | none =>
        let b := bundleRead (tileGet s1 (at' 0 (gangTiles s g) 0)) pc
        .next (commitIfDone (gangMod s2 g fun G =>
          { G with
            cycle := G.cycle + 1, bundle := b, opened := true, left := (bundleSlots b).1, buf := [], exc := (bundleSlots b).2
            taken := none }) g) :=
  if_pos (by simp [hphase, hopened, hwaits, htiles])

/-- Settles O35: each event under its occasion. -/
theorem gangEventsComplete : Obligations.GangEventsComplete := by
  refine ⟨fun g us s hphase hopened hwaits htiles => ?_, fun g s => rfl, fun g n s hwaits hfree => ?_, fun g s hphase hpending => ?_,
    fun t w s hw => ?_, fun g r s hrun hphase hcode => ?_⟩
  · intro s1 pc s2
    rw [execBundleFetch_ready us hphase hopened hwaits htiles]
    refine ⟨fun e he => ?_, fun hnone => ?_⟩
    · simp only [show fetchFault (settle (upsetTiles s us) g) g (gangGet s g).pc = some e from he]
      rfl
    · simp only [show fetchFault (settle (upsetTiles s us) g) g (gangGet s g).pc = none from hnone]
      rfl
  · refine execTicketWaitEnd_free n hwaits (Bool.eq_false_iff.mpr fun h => ?_)
    obtain ⟨w, hw, t, ht, k, hk, hbit, hpending⟩ := (waitHolds_iff s g _).mp h
    exact hfree w hw t ht k hk hbit hpending
  · exact if_pos (by simp [hphase, hpending])
  · exact if_pos (List.contains_iff_mem.mpr hw)
  · show execExceptionNotification g s = _
    simp only [execExceptionNotification, hrun]
    exact if_pos ⟨hphase, hcode⟩

end Sys2Proof.Proofs

/-! ### Ticketed transfers -/

namespace Sys2Proof.Proofs

open Sys2Proof Sys2Proof.Machine Sys2Proof.Safety

theorem ite_next {c d : Prop} [Decidable c] [Decidable d] (h : c ↔ d) (a b : State) :
    (if c then .next a else .next b : Host.Outcome State Fault Refusal) = .next (if d then a else b) := by
  rw [apply_ite (Host.Outcome.next (φ := Fault) (ρ := Refusal)), if_congr h rfl rfl]

/-- Settles O36: each transfer under its ticket's operation; bad data in strict mode halts the engine (that a load then delivers none of
its lines is log entry 27). -/
theorem ticketedTransfersComplete : Obligations.TicketedTransfersComplete := by
  intro t tk s strict
  refine ⟨fun a off n left w hop hlocal => ?_, fun a off n left w hop hlocal => ?_, fun a first n left w hop hlocal hstrict => ?_,
    fun a off n w hop hremote => ?_, fun a first n w hop hremote => ?_, fun chip u ch off n issued hop hcredit hfirst => ?_⟩
  · show execGlobalLoadComplete t tk s = _
    simp only [execGlobalLoadComplete, hop, hlocal, if_true]
    exact ite_next (by simp [strict]) _ _
  · show execGlobalStoreComplete t tk s = _
    simp only [execGlobalStoreComplete, hop, hlocal, if_true]
    exact ite_next (Bool.and_eq_true_iff.trans and_comm) _ _
  · show execFillComplete t tk s = _
    have hs : isStrict s (ctxOfTile s t) = false := hstrict
    simp only [execFillComplete, hop, hlocal, if_true, hs, Bool.false_and, Bool.false_eq_true, if_false]
  · show execGlobalLoadComplete t tk s = _
    simp only [execGlobalLoadComplete, hop, hremote, Bool.false_eq_true, if_false, if_true, worstCode]
  · show execFillComplete t tk s = _
    simp only [execFillComplete, hop, hremote, Bool.false_eq_true, if_false, if_true, worstCode]
  · have hsends : ¬(txCredits (tileGet s t) chip u ch = 0 ∨ (!sendFirst (tileGet s t) chip u ch issued) = true) := by
      simp [hfirst, Nat.pos_iff_ne_zero.mp hcredit]
    show execSendDispatch t tk s = _
    simp only [execSendDispatch, hop, hsends, if_false]
    exact ite_next (Bool.and_eq_true_iff.trans and_comm) _ _

end Sys2Proof.Proofs

/-! ### Scalar slots with an immediate -/

namespace Sys2Proof.Proofs

open Sys2Proof Sys2Proof.Machine Sys2Proof.Safety

/-- Settles O24: the I-form and the shifts are the model's two forms with a sign-extended and a 6-bit immediate (04 R118), and MOVLO and
ORHI run in S0. -/
theorem scalarImmediateFormCompletes : Obligations.ScalarImmediateFormCompletes := by
  refine ⟨fun c hc g sl f s hsl hold => ?_, fun c hc g sl f s hsl hold => ?_, fun g f s hold => ?_, fun g f s hold => ?_⟩
  · have hexec : exec (c.2.1 g sl f) s = scalarRI c.1 c.2.2 g sl f s := by fin_cases hc <;> rfl
    have hop : c.1 ∈ slotOps .s0 ∧ c.1 ∈ slotOps .s1 := by fin_cases hc <;> decide
    rw [hexec, scalarRI, scalarSlot_runs hsl hop hold]
    exact congrArg _ (slotRun_congr (illegalUnless_eq beq_iff_eq) fun _ _ x => rfl)
  · have hexec : exec (c.2.1 g sl f) s = scalarShI c.1 c.2.2 g sl f s := by fin_cases hc <;> rfl
    have hop : c.1 ∈ slotOps .s0 ∧ c.1 ∈ slotOps .s1 := by fin_cases hc <;> decide
    rw [hexec, scalarShI, scalarSlot_runs hsl hop hold]
    exact congrArg _ (slotRun_congr (illegalUnless_eq (by simp)) fun _ _ x => rfl)
  · show execMovlo g .s0 f s = _
    rw [execMovlo, scalarWord_runs (.inl rfl) (by decide) hold fun w hw => by simp [isScalarSlot, hw]]
    exact congrArg _ (slotRun_congr (illegalUnless_eq (by simp [and_assoc])) fun _ _ x => rfl)
  · show execOrhi g .s0 f s = _
    rw [execOrhi, scalarWord_runs (.inl rfl) (by decide) hold fun w hw => by simp [isScalarSlot, hw]]
    exact congrArg _ (slotRun_congr (illegalUnless_eq (by simp)) fun _ _ x => rfl)

end Sys2Proof.Proofs

/-! ### Delivered packets -/

namespace Sys2Proof.Proofs

open Sys2Proof Sys2Proof.Machine Sys2Proof.Safety

section Delivered

variable {p : Packet} {s : State}

/-- A packet of the kind an event takes, delivered to a tile, is not passed over. -/
theorem tilePacket_taken {k : Nat} (hkind : p.kind = k) (htile : p.dstTile < 0xFFFE) : ¬(p.kind ≠ k ∨ p.dstTile ≥ 0xFFFE) := by
  omega

/-- A read response to a GLD lands in its scratchpad range, but for status 0x03 in strict mode (07 R201). -/
theorem execReadResponseArrival_gld {a off n left w : Nat} (hkind : p.kind = 0x03) (htile : p.dstTile < 0xFFFE)
    (hop : opOf s p.dstTile (p.srcTag % 32) = some (.gld a off n left w)) :
    execReadResponseArrival p s = .next (if p.status = 3 ∧ isStrict s (ctxOfTile s p.dstTile) = true
      then strictHalt s p.dstTile (p.srcTag % 32)
      else answerPiece (tileMod s p.dstTile fun x => padPutWords x (off / 8 + 512 * (p.srcTag / 32)) (packetWords p))
        p.dstTile p.srcTag (responseCode p)) := by
  simp only [execReadResponseArrival, tilePacket_taken hkind htile, hop, if_false]
  exact ite_next Iff.rfl _ _

/-- A read response to a FILL without status 0x03 writes each of its bundles, whatever the mode (07 R201, R203). -/
theorem execReadResponseArrival_fill {a f n left w : Nat} (hkind : p.kind = 0x03) (htile : p.dstTile < 0xFFFE) (hstatus : p.status ≠ 3)
    (hop : opOf s p.dstTile (p.srcTag % 32) = some (.fill a f n left w)) :
    execReadResponseArrival p s = .next (answerPiece (tileMod s p.dstTile fun x => (List.range (p.bytes / 64)).foldl (fun y i =>
      ibufPut y (f + 64 * (p.srcTag / 32) + i) (BitVec.ofNat 512 (ofBytes (slice (carried p) (64 * i) 64))) (rangeMark p (64 * i))) x)
      p.dstTile p.srcTag (responseCode p)) := by
  simp only [execReadResponseArrival, tilePacket_taken hkind htile, hop, hstatus, false_and, if_false, Bool.and_eq_true, beq_iff_eq,
    and_false]

/-- An acknowledgement answers a piece of a GST, or the SEND that left (08 R215). -/
theorem execWriteAckArrival_answers (hkind : p.kind = 0x04) (htile : p.dstTile < 0xFFFE)
    (hop : (∃ a off n left w, opOf s p.dstTile (p.srcTag % 32) = some (.gst a off n left w)) ∨
      ∃ c u h off n i, opOf s p.dstTile (p.srcTag % 32) = some (.send c u h off n i true)) :
    execWriteAckArrival p s = .next (answerPiece s p.dstTile p.srcTag (if p.status = 1 then 6 else if p.status = 2 then 3 else 2)) := by
  rcases hop with ⟨a, off, n, left, w, hgst⟩ | ⟨c, u, h, off, n, i, hsend⟩
  · simp only [execWriteAckArrival, tilePacket_taken hkind htile, hgst, if_false]
  · simp only [execWriteAckArrival, tilePacket_taken hkind htile, hsend, if_false]

/-- A refusal of a GST's piece, not of a collective's chunk, answers it with the code of its status and takes no credit (08 Table 08-9). -/
theorem execRefusalArrival_gst {a off n left w : Nat} (hkind : p.kind = 0x07) (htile : p.dstTile < 0xFFFE)
    (hchunk : bitsOf (extWord p 0) 47 43 ≠ 9) (hop : opOf s p.dstTile (p.srcTag % 32) = some (.gst a off n left w)) :
    execRefusalArrival p s = .next (answerPiece s p.dstTile p.srcTag (refusalCode p.status)) := by
  simp only [execRefusalArrival, tilePacket_taken hkind htile, hchunk, hop, if_false]

/-- A channel message that is not the truncated copy of a twin's is not passed over (17 R441). -/
theorem channelMessage_taken (hkind : p.kind = 0x05) (hwhole : twinCut p = false) : ¬(p.kind ≠ 0x05 ∨ twinCut p = true) := by
  simp [hkind, hwhole]

/-- A message of a channel that the tile does not define is refused (04 R139). -/
theorem execChannelMessageArrival_undefined (hkind : p.kind = 0x05) (hwhole : twinCut p = false)
    (hrec : chanRec s p.dstTile p.channel = none) : execChannelMessageArrival p s = .next (refusePacket s p 0x03) := by
  simp only [execChannelMessageArrival, channelMessage_taken hkind hwhole, hrec, if_false]

end Delivered

/-- Settles O41: each packet under the kind, and under the operation or the record, that takes it. -/
theorem deliveredPacketsComplete : Obligations.DeliveredPacketsComplete := by
  intro p s t tk
  refine ⟨fun hkind => ?_, fun hkind => ?_, fun a off n left w hkind htile hop => ?_, fun a f n left w hkind htile hstatus hop => ?_,
    fun c u h o n i hkind htile hop => ?_, fun a off n left w hkind htile hop => ?_, fun a off n left w hkind htile hchunk hop => ?_,
    fun hkind hwhole hnone => ?_, fun r hkind hwhole hrec hsender hfits => ?_, fun hkind hchan => ?_, fun hkind hchan => ?_⟩
  · exact if_neg (not_not_intro hkind)
  · exact if_neg (not_not_intro hkind)
  · exact execReadResponseArrival_gld hkind htile hop
  · exact execReadResponseArrival_fill hkind htile hstatus hop
  · exact execWriteAckArrival_answers hkind htile (.inr ⟨c, u, h, o, n, i, hop⟩)
  · exact execWriteAckArrival_answers hkind htile (.inl ⟨a, off, n, left, w, hop⟩)
  · exact execRefusalArrival_gst hkind htile hchunk hop
  · exact execChannelMessageArrival_undefined hkind hwhole hnone
  · refine (if_neg (channelMessage_taken hkind hwhole)).trans ?_
    rw [show chanRec s p.dstTile p.channel = some r from hrec]
    exact Eq.trans (if_neg (by simp [hsender])) (if_neg (not_lt.mpr hfits))
  · exact if_neg (by simp [hkind, hchan])
  · exact if_neg (by simp [hkind, hchan])

end Sys2Proof.Proofs

/-! ### Channel arbiters -/

namespace Sys2Proof.Proofs

open Sys2Proof Sys2Proof.Machine Sys2Proof.Safety

section Arbiter

variable {s : State} {ch : Nat}

/-- A grant that has moved its transfer's last line ends, and its requester's next transfer becomes pending (05 R158). -/
theorem execTransferComplete_done {g h : Grant} (hgrant : (chanGet s ch).grant = some g)
    (hpassed : (chanGet (chanPass s ch (grantLeft s ch g)) ch).grant = some h) (hdone : h.moved = h.req.lines) :
    exec (.transferComplete ch) s = .next (chanSet (chanPass s ch (grantLeft s ch g)) ch
      (chanNext { chanGet (chanPass s ch (grantLeft s ch g)) ch with grant := none } h.req)) := by
  show execTransferComplete ch s = _
  simp only [execTransferComplete, hgrant, hpassed]
  exact if_pos hdone

/-- A grant that stands at its burst limit with lines left to move ends, and the remainder is pending from this cycle (05 R161). -/
theorem execBurstLimitExpiry_limit {g h : Grant} (hgrant : (chanGet s ch).grant = some g)
    (hpassed : (chanGet (chanPass s ch (grantLeft s ch g)) ch).grant = some h) (hlimit : h.moved = burstLimit s ch h.cls)
    (hleft : h.moved < h.req.lines) :
    exec (.burstLimitExpiry ch) s = .next (chanSet (chanPass s ch (grantLeft s ch g)) ch
      (let c := chanGet (chanPass s ch (grantLeft s ch g)) ch
       { c with
         grant := none
         pend := c.pend ++ [{ h.req with lines := h.req.lines - h.moved, since := c.cycle, seen := c.cycle }] })) := by
  show execBurstLimitExpiry ch s = _
  simp only [execBurstLimitExpiry, hgrant, hpassed]
  exact if_pos ⟨hlimit, hleft⟩

/-- The Nth counted grant goes to the longest-waiting request that this cycle sees (05 R163). -/
theorem execStarvationGrant_nth {n : Nat} {q : ChanReq} (hch : ch < 256) (hdue : lotteryDue (chanGet (chanPass s ch n) ch) = true)
    (hnth : starveDue (chanPass s ch n) ch = true)
    (hlongest : longestOf ((chanGet (chanPass s ch n) ch).pend.filter fun q => q.seen ≤ (chanGet (chanPass s ch n) ch).cycle) = some q) :
    exec (.starvationGrant ch n) s
      = .next (regAdd (chanGrant (chanPass s ch n) ch { chanGet (chanPass s ch n) ch with count := 0 } q)
        (regChStarve (ch / 32) (ch % 32)) 1) := by
  show execStarvationGrant ch n s = _
  simp only [execStarvationGrant, hch, hdue, hnth, hlongest, and_self, if_true]

/-- A refresh whose interval has passed and that is not yet due falls due (05 R157). -/
theorem execRefreshDue_passed {n : Nat} (hch : ch < 256)
    (hpassed : (chanGet (chanPass s ch n) ch).nextRefresh ≤ 16 * (chanGet (chanPass s ch n) ch).cycle)
    (hfree : (chanGet (chanPass s ch n) ch).refreshDue = false) :
    exec (.refreshDue ch n) s = .next (chanSet (chanPass s ch n) ch
      (let c := chanGet (chanPass s ch n) ch
       { c with refreshDue := true, nextRefresh := c.nextRefresh + refreshEvery s (ch / 32) })) := by
  show execRefreshDue ch n s = _
  exact (if_pos hch).trans (if_pos ⟨hpassed, by simp [hfree]⟩)

end Arbiter

/-- Settles O37: each command under its occasion, after the cycles that its operand lets pass (log entry 28). -/
theorem channelArbiterCommandsComplete : Obligations.ChannelArbiterCommandsComplete := by
  intro ch n s hch s1 c
  refine ⟨fun ctx src lines id hctx hsrc hlow hhigh => if_pos ⟨hch, hctx, hsrc, hlow, hhigh⟩, if_pos hch,
    fun g h hgrant hn hpassed hdone => ?_, fun g h hgrant hn hpassed hlimit hleft => ?_,
    fun q hdue hnth hlongest => execStarvationGrant_nth hch hdue (decide_eq_true hnth) hlongest,
    fun hpassed hfree => execRefreshDue_passed hch hpassed hfree⟩
  · subst hn
    exact execTransferComplete_done hgrant hpassed hdone
  · subst hn
    exact execBurstLimitExpiry_limit hgrant hpassed hlimit hleft

end Sys2Proof.Proofs

/-! ### Stored data -/

namespace Sys2Proof.Proofs

open Sys2Proof Sys2Proof.Machine Sys2Proof.Safety

/-- A queued correction is made under its class-0 grant (07 R200). -/
theorem execCorrectionWriteback_granted {s : State} {l : Nat} (h : wbGranted s l = some ⟨l, false⟩) :
    exec (.correctionWriteback l) s = .next (makeWriteBack s l false) := by
  show execCorrectionWriteback l s = _
  simp only [execCorrectionWriteback, h]
  exact if_neg Bool.false_ne_true

/-- A queued poison mark is made under its class-0 grant (07 R202). -/
theorem execPoisonMarkInStore_granted {s : State} {l : Nat} (h : wbGranted s l = some ⟨l, true⟩) :
    exec (.poisonMarkInStore l) s = .next (makeWriteBack s l true) := by
  show execPoisonMarkInStore l s = _
  simp only [execPoisonMarkInStore, h, if_true]

/-- A write of log_clear that no gate holds empties the stack's correction log, its status first (07 R205). -/
theorem execEccLogClear_stack {mgmt : Bool} {i : Nat} {s : State} (hopen : mgmt = true ∨ HostOpen s) (hi : i < 8) :
    exec (.eccLogClear mgmt true i) s = .next (stackLogClear s i) := by
  show execEccLogClear mgmt true i s = _
  simp only [execEccLogClear, hi, if_true, writeBy_open hopen]

theorem execEccLogClear_die {mgmt : Bool} {i : Nat} {s : State} (hopen : mgmt = true ∨ HostOpen s) (hi : i < 4) :
    exec (.eccLogClear mgmt false i) s = .next (dieLogClear s i) := by
  show execEccLogClear mgmt false i s = _
  simp only [execEccLogClear, hi, Bool.false_eq_true, if_false, if_true, writeBy_open hopen]

/-! Scrubs (07 R208, R209) -/

/-- The four reasons to refuse a range. -/
theorem scrubRangeBad_iff (s : State) (first last : Nat) :
    scrubRangeBad s first last = true ↔ first % 64 ≠ 0 ∨ last % 64 ≠ 0 ∨ last ≤ first ∨ spaceBytes s < last := by
  simp [scrubRangeBad, or_assoc]

theorem scrubRequest_busy {s : State} (h : s.scrub ≠ none) (first last : Nat) (requester : Option (Nat × Nat)) :
    scrubRequest s first last requester = regPut s regScbStatus 2 0 6 :=
  if_pos (Option.isSome_iff_ne_none.mpr h)

theorem scrubRequest_badRange {s : State} (h : s.scrub = none) {first last : Nat} (hbad : scrubRangeBad s first last = true)
    (requester : Option (Nat × Nat)) : scrubRequest s first last requester = regPut s regScbStatus 2 0 5 :=
  (if_neg (by simp [h])).trans (if_pos hbad)

/-- A request that is not refused starts a scrub of the whole range, with nothing counted yet. -/
theorem scrubRequest_starts {s : State} (h : s.scrub = none) {first last : Nat} (hgood : ¬scrubRangeBad s first last = true)
    (requester : Option (Nat × Nat)) :
    (scrubRequest s first last requester).scrub = some {
      first := first, last := last, plovco := requester, start := s.clock, left := scrubChannels s first last, aborting := false
      lines := 0, corrected := 0, writtenBack := 0, uncorrectable := 0, alreadyPoisoned := 0, firstBad := 2 ^ 64 - 1
      lastBad := 2 ^ 64 - 1 } := by
  rw [scrubRequest, if_neg (by simp [h]), if_neg hgood]

theorem scrubAbort_running {s : State} {x : Scrub} (h : s.scrub = some x) :
    scrubAbort s = { s with scrub := some { x with aborting := true } } := by
  simp only [scrubAbort, h]

theorem execScrubStart_open {s : State} (h : HostOpen s) :
    exec .scrubStart s = .next (scrubRequest s (regField s regScbLo 47 0) (regField s regScbHi 47 0) none) :=
  congrArg _ (hostWrite_open h _ _ _)

theorem execScrubAbort_open {s : State} (h : HostOpen s) : exec .scrubAbort s = .next (scrubAbort s) :=
  congrArg _ (hostWrite_open h _ _ _)

/-- A scrub with no docket left ends, complete or aborted. -/
theorem execScrubDone_ended {s : State} {x : Scrub} (hscrub : s.scrub = some x) (hleft : x.left = []) :
    exec .scrubDone s = .next (scrubEnd s x (if x.aborting = true then 3 else 2)) := by
  show execScrubDone s = _
  simp only [execScrubDone, hscrub, hleft, List.isEmpty_nil, if_true]

/-- Settles O39: each command under its occasion; the host's writes stand behind a gate that an accepted driver passes. -/
theorem storedDataCommandsComplete : Obligations.StoredDataCommandsComplete := by
  refine ⟨fun l flips s hl => if_pos hl, fun l s h => execCorrectionWriteback_granted h, fun l s h => execPoisonMarkInStore_granted h,
    fun mgmt i s hopen => ⟨execEccLogClear_stack hopen, execEccLogClear_die hopen⟩, fun s hopen => ?_,
    fun x s hscrub hleft => execScrubDone_ended hscrub hleft⟩
  intro first last
  rw [execScrubStart_open hopen, execScrubAbort_open hopen]
  refine ⟨fun hbusy => ?_, fun hfree hbad => ?_, fun hfree hfirst hlast horder hspace => ⟨_, rfl, scrubRequest_starts hfree ?_ none⟩,
    fun x hscrub => ?_⟩
  · rw [scrubRequest_busy hbusy]
  · rw [scrubRequest_badRange hfree ((scrubRangeBad_iff s first last).mpr hbad)]
  · rw [scrubRangeBad_iff]
    omega
  · rw [scrubAbort_running hscrub]

end Sys2Proof.Proofs

/-! ### Bytes stored in lines without upset bits -/

namespace Sys2Proof.Proofs

open Sys2Proof Sys2Proof.Machine Sys2Proof.Safety Sys2Proof.Laws

/-! Reads of canonical memory, and the lines of a range -/

theorem memRead_eq_map {s : State} (h : Canonical s) (off n : Nat) :
    memRead s off n = (List.range n).map fun i => mapGet 0 s.mem (off + i) :=
  mapGetList_eq 0 s.mem off n ((mapWf_iff _ _).mp h.mem).1

theorem memRead_one {s : State} (h : Canonical s) (x : Nat) : memRead s x 1 = [mapGet 0 s.mem x] :=
  memRead_eq_map h x 1

theorem mem_rangeFrom {a n x : Nat} : x ∈ rangeFrom a n ↔ a ≤ x ∧ x < a + n := by
  induction n generalizing a with
  | zero => simp [rangeFrom]
  | succ n ih =>
    rw [rangeFrom, List.mem_cons, ih]
    omega

/-- The lines that a range touches are those that hold a byte of it. -/
theorem mem_linesOf {off n l : Nat} : l ∈ linesOf off n ↔ ∃ x, off ≤ x ∧ x < off + n ∧ x / 64 = l := by
  unfold linesOf
  split
  · simp only [List.not_mem_nil, false_iff]
    omega
  · rw [mem_rangeFrom]
    constructor
    · intro h
      exact ⟨max off (64 * l), by omega⟩
    · omega

/-- A part of a range touches lines of the range. -/
theorem linesOf_subset {a m b n : Nat} (hlow : b ≤ a) (hhigh : a + m ≤ b + n) {l : Nat} (h : l ∈ linesOf a m) : l ∈ linesOf b n := by
  obtain ⟨x, hax, hxm, hl⟩ := mem_linesOf.mp h
  exact mem_linesOf.mpr ⟨x, by omega, by omega, hl⟩

/-! Line marks -/

theorem mem_setInsert (l : List Nat) (x y : Nat) : y ∈ setInsert l x ↔ y = x ∨ y ∈ l := by
  induction l with
  | nil => simp [setInsert]
  | cons a l ih =>
    unfold setInsert
    split
    · simp
    · split
      · next h => simp [h]
      · simp only [List.mem_cons, ih, or_left_comm]

/-- A line's poison mark is no other line's. -/
theorem linePoisoned_setLinePoison_ne {s : State} {l k : Nat} (h : k ≠ l) (p : Bool) :
    linePoisoned (setLinePoison s l p) k = linePoisoned s k := by
  rw [Bool.eq_iff_iff]
  cases p <;> simp [linePoisoned, mem_setInsert, setErase, h]

/-- t is s with bytes stored at an offset: they read back, every other byte stands, and all else that may differ is the count of skipped
write-backs, the channels, and the marks of the lines touched (07 R200, R203). -/
structure BytesStored (s : State) (off : Nat) (bs : List Byte) (t : State) : Prop where
  canon : Canonical t
  mem : ∀ x, mapGet 0 t.mem x = if h : off ≤ x ∧ x < off + bs.length then bs[x - off] else mapGet 0 s.mem x
  regs : ∀ k, (∀ n, k ≠ regEccWbSkip n) → regGet t k = regGet s k
  marks : ∀ l ∉ linesOf off bs.length, linePoisoned t l = linePoisoned s l ∧ mapGet 0 t.lineErr l = mapGet 0 s.lineErr l
  frame : { t with mem := s.mem, memPoison := s.memPoison, lineErr := s.lineErr, chans := s.chans, regs := s.regs } = s

namespace BytesStored

theorem refl {s : State} (h : Canonical s) (off : Nat) : BytesStored s off [] s where
  canon := h
  mem x := by rw [dif_neg (by simp)]
  regs _ _ := rfl
  marks _ _ := ⟨rfl, rfl⟩
  frame := rfl

/-- Bytes stored one after the other. -/
theorem append {s t u : State} {off : Nat} {bs cs : List Byte} (hbs : BytesStored s off bs t)
    (hcs : BytesStored t (off + bs.length) cs u) : BytesStored s off (bs ++ cs) u where
  canon := hcs.canon
  mem x := by
    rw [hcs.mem, hbs.mem]
    by_cases hleft : x < off + bs.length
    · rw [dif_neg (by omega)]
      by_cases hlow : off ≤ x
      · rw [dif_pos ⟨hlow, hleft⟩, dif_pos ⟨hlow, by rw [List.length_append]; omega⟩, List.getElem_append_left]
      · rw [dif_neg (by omega), dif_neg (by omega)]
    · by_cases hright : x < off + bs.length + cs.length
      · rw [dif_pos ⟨by omega, hright⟩, dif_pos ⟨by omega, by rw [List.length_append]; omega⟩, List.getElem_append_right (by omega)]
        congr 1
        omega
      · rw [dif_neg (by omega), dif_neg (by omega), dif_neg (by rw [List.length_append]; omega)]
  regs k hk := (hcs.regs k hk).trans (hbs.regs k hk)
  marks l hl := by
    have hlen : off + (bs ++ cs).length = off + bs.length + cs.length := by rw [List.length_append]; omega
    obtain ⟨hpBs, heBs⟩ := hbs.marks l fun h => hl (linesOf_subset (by omega) (by omega) h)
    obtain ⟨hpCs, heCs⟩ := hcs.marks l fun h => hl (linesOf_subset (by omega) (by omega) h)
    exact ⟨hpCs.trans hpBs, heCs.trans heBs⟩
  frame := (congrArg (fun v : State => { v with
    mem := s.mem, memPoison := s.memPoison, lineErr := s.lineErr, chans := s.chans, regs := s.regs }) hcs.frame).trans hbs.frame

/-- The offset space is as large as before: the count of skipped write-backs is not the register of enabled stacks. -/
theorem spaceBytes_eq {s t : State} {off : Nat} {bs : List Byte} (h : BytesStored s off bs t) : spaceBytes t = spaceBytes s := by
  have hkey : ∀ n, regStkMap 0 ≠ regEccWbSkip n := fun n => by
    simp only [regStkMap, regEccWbSkip, stkKey]
    omega
  simp only [spaceBytes, enabledStacks, regField, h.regs _ hkey]

/-- The bytes stored read back. -/
theorem memRead_stored {s t : State} {off : Nat} {bs : List Byte} (h : BytesStored s off bs t) : memRead t off bs.length = bs := by
  rw [memRead_eq_map h.canon]
  refine List.ext_getElem (by simp) fun i _ hi => ?_
  rw [List.getElem_map, List.getElem_range, h.mem, dif_pos (by omega)]
  congr 1
  omega

/-- A byte outside the range reads as before. -/
theorem memRead_outside {s t : State} (hs : Canonical s) {off : Nat} {bs : List Byte} (h : BytesStored s off bs t) {x : Nat}
    (hx : ¬(off ≤ x ∧ x < off + bs.length)) : memRead t x 1 = memRead s x 1 := by
  rw [memRead_one h.canon, memRead_one hs, h.mem, dif_neg hx]

end BytesStored

/-! Lines stored whole and in part -/

/-- Dropping a waiting write-back touches its channel and a register. -/
theorem cancelWriteBack_frame (s : State) (l : Nat) : { cancelWriteBack s l with chans := s.chans, regs := s.regs } = s := by
  dsimp only [cancelWriteBack]
  split
  · rfl
  · rfl

/-- Dropping a waiting write-back counts it as skipped and leaves every other register as it reads. -/
theorem regGet_cancelWriteBack_ne {s : State} (hs : Canonical s) (l : Nat) {k : Nat} (hk : ∀ n, k ≠ regEccWbSkip n) :
    regGet (cancelWriteBack s l) k = regGet s k := by
  dsimp only [cancelWriteBack]
  split
  · exact regGet_regSet_ne hs.regs _ (hk _)
  · rfl

theorem cancelWriteBack_mem (s : State) (l : Nat) : (cancelWriteBack s l).mem = s.mem := (congrArg State.mem (cancelWriteBack_frame s l) :)

theorem cancelWriteBack_memPoison (s : State) (l : Nat) : (cancelWriteBack s l).memPoison = s.memPoison :=
  (congrArg State.memPoison (cancelWriteBack_frame s l) :)

theorem cancelWriteBack_lineErr (s : State) (l : Nat) : (cancelWriteBack s l).lineErr = s.lineErr :=
  (congrArg State.lineErr (cancelWriteBack_frame s l) :)

/-- A line stored whole: its bytes, with marks of its own alone. -/
theorem lineStore_stored {s : State} (hs : Canonical s) (l : Nat) {bs : List Byte} (hlen : bs.length = 64) (p : Bool) :
    BytesStored s (64 * l) bs (lineStore s l bs p) where
  canon := (lineStore_moves s l bs p).canon hs
  mem x := by
    show mapGet 0 (mapSetList 0 (cancelWriteBack s l).mem (64 * l) bs) x = _
    rw [cancelWriteBack_mem]
    exact mapGet_mapSetList 0 bs s.mem _ x ((mapWf_iff _ _).mp hs.mem).1
  regs k hk := regGet_cancelWriteBack_ne hs l hk
  marks k hk := by
    have hne : k ≠ l := fun h => hk (mem_linesOf.mpr ⟨64 * l, by omega⟩)
    constructor
    · refine (linePoisoned_setLinePoison_ne hne p).trans ?_
      exact congrArg (·.contains k) (cancelWriteBack_memPoison s l)
    · show mapGet 0 (mapDel (cancelWriteBack s l).lineErr l) k = _
      rw [cancelWriteBack_lineErr, mapGet_find, mapFind_mapDel_ne _ _ _ hs.lineErr hne, ← mapGet_find]
  frame := congrArg (fun v : State => { v with mem := s.mem, memPoison := s.memPoison, lineErr := s.lineErr }) (cancelWriteBack_frame s l)

/-- What `linePart` makes of a line: the old bytes with new ones from o on. -/
def merged {α : Type} (old bs : List α) (o : Nat) : List α := old.take o ++ bs ++ old.drop (o + bs.length)

section Merged

variable {α : Type} {old bs : List α} {o : Nat} (hfit : o + bs.length ≤ old.length)
include hfit

theorem length_merged : (merged old bs o).length = old.length := by
  simp only [merged, List.length_append, List.length_take, List.length_drop]
  omega

theorem getElem_merged {i : Nat} (hi : i < (merged old bs o).length) (hold : i < old.length) :
    (merged old bs o)[i] = if h : o ≤ i ∧ i < o + bs.length then bs[i - o] else old[i] := by
  have htake : (old.take o).length = o := List.length_take_of_le (by omega)
  have hfront : (old.take o ++ bs).length = o + bs.length := by rw [List.length_append, htake]
  unfold merged at hi ⊢
  by_cases hlow : o ≤ i
  · by_cases hhigh : i < o + bs.length
    · rw [List.getElem_append_left (by omega), List.getElem_append_right (by omega), dif_pos ⟨hlow, hhigh⟩]
      simp only [htake]
    · rw [List.getElem_append_right (by omega), List.getElem_drop, dif_neg (by omega)]
      congr 1
      omega
  · rw [List.getElem_append_left (by omega), List.getElem_append_left (by omega), List.getElem_take, dif_neg (by omega)]

end Merged

/-- A part of a line without upset bits: the rest of the line is written back as it stood. -/
theorem linePart_stored {s : State} (hs : Canonical s) {l o : Nat} {bs : List Byte} (hclean : mapGet 0 s.lineErr l = 0) (hne : bs ≠ [])
    (hfit : o + bs.length ≤ 64) (p : Bool) : BytesStored s (64 * l + o) bs (linePart s l o bs p) := by
  have hpos : 0 < bs.length := List.length_pos_iff.mpr hne
  have hpart : linePart s l o bs p = lineStore s l (merged (memRead s (64 * l) 64) bs o) (linePoisoned s l || p) := by
    simp only [linePart, merged, lineData_clean s l hclean, lineReadEffects_clean s l hclean]
  have hold : (memRead s (64 * l) 64).length = 64 := by simp [memRead_eq_map hs]
  have hnew : (merged (memRead s (64 * l) 64) bs o).length = 64 := by rw [length_merged (by omega), hold]
  have hline := lineStore_stored hs l hnew (linePoisoned s l || p)
  rw [hpart]
  refine ⟨hline.canon, fun x => ?_, hline.regs, fun k hk => hline.marks k fun h => hk ?_, hline.frame⟩
  · rw [hline.mem]
    by_cases hx : 64 * l ≤ x ∧ x < 64 * l + 64
    · have hbyte : (memRead s (64 * l) 64)[x - 64 * l]'(by omega) = mapGet 0 s.mem x := by
        simp only [memRead_eq_map hs, List.getElem_map, List.getElem_range]
        congr 1
        omega
      rw [dif_pos (by omega), getElem_merged (by omega) _ (by omega), hbyte]
      by_cases hin : 64 * l + o ≤ x ∧ x < 64 * l + o + bs.length
      · rw [dif_pos (by omega), dif_pos hin]
        congr 1
        omega
      · rw [dif_neg (by omega), dif_neg hin]
    · rw [dif_neg (by omega), dif_neg (by omega)]
  · rw [mem_linesOf] at h
    exact mem_linesOf.mpr ⟨64 * l + o, by omega⟩

/-- One round of `memStoreLines`: bytes of one line, that are all of the line or a part of it. -/
def pieceStore (s : State) (off : Nat) (bs : List Byte) (p : Bool) : State :=
  if off % 64 = 0 ∧ bs.length = 64 then lineStore s (off / 64) bs p else linePart s (off / 64) (off % 64) bs p

theorem pieceStore_stored {s : State} (hs : Canonical s) {off : Nat} {bs : List Byte} (hclean : mapGet 0 s.lineErr (off / 64) = 0)
    (hne : bs ≠ []) (hfit : off % 64 + bs.length ≤ 64) (p : Bool) :
    BytesStored s off bs (pieceStore s off bs p) := by
  unfold pieceStore
  split
  · next h =>
    have hwhole := lineStore_stored hs (off / 64) h.2 p
    rwa [show 64 * (off / 64) = off by omega] at hwhole
  · have hpart := linePart_stored hs hclean hne hfit p
    rwa [Nat.div_add_mod] at hpart

/-- Below the end of the offset space a store writes the piece in its first line, and then the rest. -/
theorem memStoreLines_cons {poisoned : Nat → Bool} {n : Nat} {s : State} {off : Nat} {bs : List Byte} (hne : bs ≠ [])
    (hspace : off < spaceBytes s) :
    memStoreLines poisoned (n + 1) s off bs = memStoreLines poisoned n (pieceStore s off (bs.take (64 - off % 64)) (poisoned (off / 64)))
      (off + (bs.take (64 - off % 64)).length) (bs.drop (64 - off % 64)) := by
  rw [memStoreLines, if_neg (by simpa using hne)]
  dsimp only [pieceStore]
  rw [if_neg (Nat.not_le.mpr hspace)]

/-- Bytes stored line by line below the end of the offset space, with fuel for each line that they touch. -/
theorem memStoreLines_stored {poisoned : Nat → Bool} {n : Nat} {s : State} {off : Nat} {bs : List Byte} (hs : Canonical s)
    (hspace : off + bs.length ≤ spaceBytes s) (hclean : ∀ l ∈ linesOf off bs.length, mapGet 0 s.lineErr l = 0)
    (hfuel : bs ≠ [] → off % 64 + bs.length ≤ 64 * n) : BytesStored s off bs (memStoreLines poisoned n s off bs) := by
  induction n generalizing s off bs with
  | zero =>
    obtain rfl : bs = [] := by
      by_contra hne
      have hpos := List.length_pos_iff.mpr hne
      have hlen := hfuel hne
      omega
    exact .refl hs off
  | succ n ih =>
    by_cases hne : bs = []
    · subst hne
      exact .refl hs off
    · have hpos : 0 < bs.length := List.length_pos_iff.mpr hne
      have hlen := hfuel hne
      have htake : (bs.take (64 - off % 64)).length = min (64 - off % 64) bs.length := List.length_take
      have hdrop : (bs.drop (64 - off % 64)).length = bs.length - (64 - off % 64) := List.length_drop
      have hcleanFirst : mapGet 0 s.lineErr (off / 64) = 0 := hclean _ (mem_linesOf.mpr ⟨off, by omega⟩)
      have hfirst := pieceStore_stored (bs := bs.take (64 - off % 64)) hs hcleanFirst (List.length_pos_iff.mp (by omega)) (by omega)
        (poisoned (off / 64))
      rw [memStoreLines_cons hne (by omega)]
      have hcleanRest : ∀ l ∈ linesOf (off + (bs.take (64 - off % 64)).length) (bs.drop (64 - off % 64)).length,
          mapGet 0 (pieceStore s off (bs.take (64 - off % 64)) (poisoned (off / 64))).lineErr l = 0 := by
        intro l hl
        have hother : l ∉ linesOf off (bs.take (64 - off % 64)).length := by
          rw [mem_linesOf] at hl ⊢
          omega
        rw [(hfirst.marks l hother).2]
        exact hclean l (linesOf_subset (by omega) (by omega) hl)
      have hspaceRest : off + (bs.take (64 - off % 64)).length + (bs.drop (64 - off % 64)).length
          ≤ spaceBytes (pieceStore s off (bs.take (64 - off % 64)) (poisoned (off / 64))) := by
        rw [hfirst.spaceBytes_eq]
        omega
      have hfuelRest : bs.drop (64 - off % 64) ≠ [] →
          (off + (bs.take (64 - off % 64)).length) % 64 + (bs.drop (64 - off % 64)).length ≤ 64 * n := by
        intro hmore
        have hposRest := List.length_pos_iff.mpr hmore
        omega
      have hall := hfirst.append (ih hfirst.canon hspaceRest hcleanRest hfuelRest)
      rwa [List.take_append_drop] at hall

/-- Settles O18: the write is served, and stores its bytes line by line. -/
theorem hostWritesReadBack : Obligations.HostWritesReadBack := by
  intro seg off bytes s hs hwin hacc hseg hfit hclean a
  have hstored : BytesStored s a bytes (memStoreClean s a bytes) :=
    memStoreLines_stored hs (hfit.trans (Nat.sub_le ..)) hclean fun _ => by omega
  exact ⟨_, execBar2Write_served hwin (bar2Cause_served hacc hseg hfit), hstored.memRead_stored,
    fun x hx => hstored.memRead_outside hs hx, hstored.canon, hstored.regs, hstored.marks, hstored.frame⟩

end Sys2Proof.Proofs

/-! ### Stack engines -/

namespace Sys2Proof.Proofs

open Sys2Proof Sys2Proof.Machine Sys2Proof.Safety

section Engine

variable {s : State} {e : Nat} {d : Docket}

/-- A docket that is its tile's earliest ends 0x5 at an engine in reset, or where its context's queue is halted (06 R188, R190). -/
theorem execDocketArrival_refused {t tk base issued : Nat} {ws : List Word} (hop : opOf s t tk = some (.dock ws base issued false))
    (hfirst : dockFirst (tileGet s t) (dkEng ws) issued = true)
    (hclosed : (engGet s (dkEng ws)).inReset = true ∨ ctxOfTile s t ∈ (engGet s (dkEng ws)).halted) :
    exec (.docketArrival t tk) s
      = .next (engFail (postTicket s t tk 5) (dkEng ws) ⟨ctxOfTile s t, t, tk, ws, base⟩ 5 0) := by
  show execDocketArrival t tk s = _
  simp only [execDocketArrival, hop]
  exact (if_neg (by simp [hfirst])).trans (if_pos (hclosed.imp_right List.contains_iff_mem.mpr))

/-- A docket takes the queue entry that its context's share of the engine has left (06 R177, R188). -/
theorem execDocketArrival_queued {t tk base issued : Nat} {ws : List Word} (hop : opOf s t tk = some (.dock ws base issued false))
    (hfirst : dockFirst (tileGet s t) (dkEng ws) issued = true) (hreset : (engGet s (dkEng ws)).inReset = false)
    (hhalted : ctxOfTile s t ∉ (engGet s (dkEng ws)).halted)
    (hshare : ((engGet s (dkEng ws)).queue.filter fun q => q.ctx == ctxOfTile s t).length
      < regField s (regEngShare (dkEng ws / 32) (ctxOfTile s t)) 31 28) :
    exec (.docketArrival t tk) s
      = .next (engSet (tileMod s t fun y => { y with ops := mapPut y.ops tk (.dock ws base issued true) }) (dkEng ws)
          { engGet s (dkEng ws) with queue := (engGet s (dkEng ws)).queue ++ [⟨ctxOfTile s t, t, tk, ws, base⟩] }) := by
  show execDocketArrival t tk s = _
  simp only [execDocketArrival, hop]
  exact (if_neg (by simp [hfirst])).trans ((if_neg (by simp [hreset, hhalted])).trans (if_pos hshare))

/-- An idle engine takes the next context's first docket, which ends 0xB where a context's formats are not accepted (06 R178). -/
theorem execDocketStart_idle {c : Nat} {rest : List Docket} (hreset : (engGet s e).inReset = false)
    (hidle : (engGet s e).running = none) (hnext : engNext (engGet s e) = some c)
    (htake : takeFirst (fun d => d.ctx == c) (engGet s e).queue = some (d, rest)) :
    exec (.docketStart e) s =
      let y := { engGet s e with
        queue := rest, running := some d, result := none, lastCtx := c, gated := false, lastMove := s.clock }
      .next (if c < 16 ∧ dkFormatsOk d.words = false
        then engFail (engSet s e { y with result := some 0xB }) e d 0xB 0 else engSet s e y) := by
  have hfree : ¬((engGet s e).inReset = true ∨ (engGet s e).running.isSome = true) := by simp [hreset, hidle]
  show execDocketStart e s = _
  simp only [execDocketStart, hfree, if_false, hnext, htake]
  exact ite_next (by rw [Bool.not_eq_true']) _ _

/-- The docket types that an engine executes by one rule each, with the command and the rule of each (06 Table 06-5). -/
def docketRules : List (Nat × (Nat → Instr) × (State → Docket → DkOut)) :=
  [(0x01, .loadv, runLoadv), (0x02, .matv, runMatv), (0x03, .attn, runAttn), (0x04, .gather, runGather), (0x05, .scatter, runScatter),
    (0x06, .reduce, runReduce), (0x07, .quant, runQuant), (0x08, .copy, runCopy), (0x09, .docketFill, runFill), (0x0A, .zero, runZero)]

/-- Each type's command executes the running docket by the type's rule. -/
theorem exec_docketRule (e : Nat) (s : State) : ∀ k ∈ docketRules, exec (k.2.1 e) s = dkRun k.1 k.2.2 e s := by
  simp only [docketRules, List.forall_mem_cons]
  exact ⟨rfl, rfl, rfl, rfl, rfl, rfl, rfl, rfl, rfl, rfl, List.forall_mem_nil _⟩

/-- A docket that runs and has no result yet is executed by the rule of its type: its work is counted, its code kept and a failure
recorded, and code 0xA halts its context's queue (06 R187, R190). -/
theorem dkRun_running {type : Nat} {rule : State → Docket → DkOut} (hrunning : (engGet s e).running = some d)
    (hresult : (engGet s e).result = none) (htype : dkType d.words = type) (hreset : (engGet s e).inReset = false) :
    dkRun type rule e s =
      let r := rule s d
      let s1 := engMod (regAdd (regAdd r.state (regEngLines (e / 32) (e % 32)) r.lines) (regEngMac (e / 32) (e % 32)) r.macs) e
        fun y => { y with result := some r.code, lastMove := s.clock, gated := false }
      let s2 := if 3 < r.code then engFail s1 e d r.code r.pos else s1
      .next (if r.code = 0xA then engHalt s2 e d.ctx else s2) := by
  simp only [dkRun, hrunning, hresult]
  exact if_neg (by simp [htype, hreset])

/-- A running SCRUB docket reads up to n further lines of its channel, and has its result where it leaves none (07 R208). -/
theorem execDocketScrub_running {n : Nat} {x : Scrub} (hrunning : (engGet s e).running = some d) (hresult : (engGet s e).result = none)
    (hscrub : s.scrub = some x) (htype : dkType d.words = 0x0B) (hreset : (engGet s e).inReset = false) (hgoes : x.aborting = false) :
    exec (.docketScrub e n) s =
      let top := x.last / 64
      let p := mapGet top x.left e
      let ls := scanLines s e top (top - p) n p
      let next := (ls.getLast?.map (· + 1)).getD p
      let r := ls.foldl scrubLine (s, x)
      .next (engMod (regAdd { r.1 with scrub := some { r.2 with left := mapPut r.2.left e next } }
        (regEngLines (e / 32) (e % 32)) ls.length) e fun y =>
          { y with lastMove := s.clock, result := if scanLines s e top (top - next) 1 next = [] then some 2 else none }) := by
  show execDocketScrub e n s = _
  simp only [execDocketScrub, hrunning, hresult, hscrub, htype, hreset, hgoes, ne_eq, not_true_eq_false, Bool.false_eq_true, or_self,
    if_false, List.isEmpty_iff]

/-- An executed docket that is no scrub's posts its code, and frees and counts on its engine (06 R187). -/
theorem execDocketComplete_executed {code : Nat} (hrunning : (engGet s e).running = some d) (hresult : (engGet s e).result = some code)
    (htype : dkType d.words ≠ 0x0B) :
    exec (.docketComplete e) s = .next (regAdd (engSet (dkPost s d code) e { engGet s e with running := none, result := none })
      (regEngDockets (e / 32) (e % 32)) 1) := by
  show execDocketComplete e s = _
  simp only [execDocketComplete, hrunning, hresult, htype, if_false]
  split <;> rfl

/-- A gated engine restarts its clock 16 channel cycles before its estimated turn (06 R169). -/
theorem execEngineClockUngate_turn (hgated : (engGet s e).gated = true)
    (hturn : (engGet s e).gatedSince + (engGet s e).gatedTurn ≤ (chanGet s e).cycle + 16) :
    exec (.engineClockUngate e) s = .next (regAdd (engSet s e { engGet s e with gated := false }) (regEngGated (e / 32) (e % 32))
      (((chanGet s e).cycle - (engGet s e).gatedSince) * 96 / 125)) :=
  if_pos ⟨hgated, .inr hturn⟩

/-- An engine that runs a docket and has moved no line for 10 ms raises trigger 0x05 (17 R425). -/
theorem execEngineStall_stalled (hrunning : (engGet s e).running = some d) (hreset : (engGet s e).inReset = false)
    (hstall : (engGet s e).lastMove + 10000000 ≤ s.clock) :
    exec (.engineStall e) s = .next (raiseTrigger s ⟨2, true, e, 0x05, s.clock, 0, 0x10 + e / 32, e % 32⟩
      (if d.ctx < 16 then some d.ctx else none)) := by
  show execEngineStall e s = _
  simp only [execEngineStall, hrunning]
  exact if_neg (by simp [hreset, hstall])

end Engine

/-- Settles O38: each command under its occasion; the ten docket types are one execution with a rule each. -/
theorem engineCommandsComplete : Obligations.EngineCommandsComplete :=
  ⟨fun _ _ _ _ _ _ hop hfirst => ⟨execDocketArrival_refused hop hfirst, execDocketArrival_queued hop hfirst⟩,
    fun _ _ _ _ _ hreset hidle hnext htake => execDocketStart_idle hreset hidle hnext htake,
    fun k hk e _ s hrunning hresult htype hreset => (exec_docketRule e s k hk).trans (dkRun_running hrunning hresult htype hreset),
    fun _ _ _ _ _ hrunning hresult hscrub htype hreset hgoes =>
      execDocketScrub_running hrunning hresult hscrub htype hreset hgoes,
    fun _ _ _ _ hrunning hresult htype => execDocketComplete_executed hrunning hresult htype,
    fun _ _ hgated hturn => execEngineClockUngate_turn hgated hturn,
    fun _ _ _ hrunning hreset hstall => execEngineStall_stalled hrunning hreset hstall⟩

end Sys2Proof.Proofs

/-! ### Outputs of the router -/

namespace Sys2Proof.Proofs

open Sys2Proof Sys2Proof.Machine Sys2Proof.Safety

/-! Reads of an output virtual channel -/

theorem outGet_of_outs {s t : State} (h : t.router.outs = s.router.outs) (port vc : Nat) : outGet t port vc = outGet s port vc := by
  rw [outGet, outGet, h]

@[simp] theorem outGet_inSet (s : State) (i v : Nat) (x : InVc) (port vc : Nat) : outGet (inSet s i v x) port vc = outGet s port vc := rfl

theorem outGet_outSet_self {s : State} (h : Canonical s) (port vc : Nat) (x : OutVc) : outGet (outSet s port vc x) port vc = x :=
  mapGet_mapSet_self _ _ _ _ h.outs

theorem outGet_outSet_ne {s : State} (h : Canonical s) {port vc p v : Nat} (hne : pvKey p v ≠ pvKey port vc) (x : OutVc) :
    outGet (outSet s port vc x) p v = outGet s p v :=
  mapGet_mapSet_ne _ _ _ _ _ h.outs hne

/-! Freeing buffers and counting leave the outputs alone. -/

@[simp] theorem freeFlit_outs (s : State) (port vc : Nat) (pool : Bool) : (freeFlit s port vc pool).router.outs = s.router.outs := by
  unfold freeFlit; split <;> rfl

@[simp] theorem freeFlits_outs (s : State) (port vc : Nat) (fs : List (Flit × Bool)) :
    (freeFlits s port vc fs).router.outs = s.router.outs := by
  induction fs generalizing s with
  | nil => rfl
  | cons f fs ih => exact (ih (freeFlit s port vc f.2)).trans (freeFlit_outs s port vc f.2)

@[simp] theorem cntAdd_outs (s : State) (port vc off n : Nat) : (cntAdd s port vc off n).router.outs = s.router.outs := rfl

@[simp] theorem twinMark_outs (s : State) (p : Packet) (poison : Bool) : (twinMark s p poison).router.outs = s.router.outs := by
  unfold twinMark; split <;> rfl

@[simp] theorem wormFree_outs (s : State) (port vc : Nat) : (wormFree s port vc).router.outs = s.router.outs := by
  dsimp only [wormFree]
  split
  · exact freeFlits_outs _ _ _ _
  · rfl

@[simp] theorem wormDone_outs (s : State) (port vc : Nat) : (wormDone s port vc).router.outs = s.router.outs := by
  dsimp only [wormDone]
  split
  · split
    · -- cut or whole, marked for its twin or not
      split <;> split <;> simp only [twinMark_outs, cntAdd_outs, inSet_router]
    · rfl
  · rfl

/-! Taking an output (08 R213, R231) -/

/-- The input port that an output virtual channel serves next: the first that asks after the one last served. -/
def nextAsker (s : State) (port vc : Nat) : Option Nat :=
  ((List.range 30).map fun k => ((outGet s port vc).lastIn + 1 + k) % 30).find? fun k => (askers s port vc).contains k

/-- Input port i's oldest worm takes an output virtual channel, which counts its next link tag. -/
def outputTaken (s : State) (port vc i : Nat) : State :=
  inSet (outSet s port vc { outGet s port vc with
    owner := some (pvKey i vc), lastIn := i, tag := ((outGet s port vc).tag + 1) % 4096 }) i vc
    (headWorm (fun w => { w with branches := w.branches.map fun b => if b.port = port ∧ b.done = false then { b with held := true } else b })
      (inGet s i vc))

/-- Some asker is next wherever one asks: the turn passes over all thirty inputs. -/
theorem nextAsker_isSome {s : State} {port vc i : Nat} (h : i ∈ askers s port vc) : (nextAsker s port vc).isSome = true := by
  have hi : i < 30 := List.mem_range.mp (List.mem_filter.mp h).1
  refine List.find?_isSome.mpr ⟨i, List.mem_map.mpr ⟨(i + 30 - ((outGet s port vc).lastIn + 1) % 30) % 30, ?_, ?_⟩, ?_⟩
  · exact List.mem_range.mpr (Nat.mod_lt _ (by decide))
  · omega
  · exact List.contains_iff_mem.mpr h

/-- OUTPUT_ALLOCATE: a free output virtual channel goes to the next asker, if there is one. -/
theorem execOutputAllocate_eq (s : State) (port vc : Nat) :
    exec (.outputAllocate port vc) s = .next (if port < 30 ∧ vc < 6 ∧ (outGet s port vc).owner = none
      then (nextAsker s port vc).elim s (outputTaken s port vc) else s) := by
  show execOutputAllocate port vc s = _
  unfold execOutputAllocate
  by_cases hfree : port < 30 ∧ vc < 6 ∧ (outGet s port vc).owner = none
  · rw [if_pos hfree]
    obtain ⟨hport, hvc, howner⟩ := hfree
    rw [if_neg (by simp [hport, hvc, howner])]
    cases hnext : nextAsker s port vc with
    | none =>
      rw [nextAsker] at hnext
      simp only [hnext, Option.elim_none]
    | some i =>
      rw [nextAsker] at hnext
      simp only [hnext, Option.elim_some, outputTaken, Bool.not_eq_true']
  · rw [if_neg hfree]
    exact if_pos (by rwa [not_and_or, not_and_or, not_lt, not_lt, ← ne_eq, ← Option.isSome_iff_ne_none] at hfree)

theorem execOutputAllocate_taken {s : State} {port vc i : Nat} (hport : port < 30) (hvc : vc < 6)
    (hfree : (outGet s port vc).owner = none) (hnext : nextAsker s port vc = some i) :
    exec (.outputAllocate port vc) s = .next (outputTaken s port vc i) := by
  rw [execOutputAllocate_eq, if_pos ⟨hport, hvc, hfree⟩, hnext, Option.elim_some]

/-- OUTPUT_ALLOCATE changes nothing, or lets an input take a free output. -/
theorem execOutputAllocate_cases {s t : State} {port vc : Nat} (h : exec (.outputAllocate port vc) s = .next t) :
    t = s ∨ (outGet s port vc).owner = none ∧ ∃ i, t = outputTaken s port vc i := by
  rw [execOutputAllocate_eq] at h
  obtain rfl := Host.Outcome.next.inj h
  split
  · next hfree =>
    cases nextAsker s port vc with
    | none => exact .inl rfl
    | some i => exact .inr ⟨hfree.2.2, i, rfl⟩
  · exact .inl rfl

section Taken

variable {s : State} (hs : Canonical s) (port vc i : Nat)
include hs

theorem outGet_outputTaken : outGet (outputTaken s port vc i) port vc =
    { outGet s port vc with owner := some (pvKey i vc), lastIn := i, tag := ((outGet s port vc).tag + 1) % 4096 } :=
  outGet_outSet_self hs _ _ _

theorem outGet_outputTaken_ne {p v : Nat} (hne : pvKey p v ≠ pvKey port vc) : outGet (outputTaken s port vc i) p v = outGet s p v :=
  outGet_outSet_ne hs hne _

end Taken

/-! Sending a flit (08 R213) -/

theorem ctrlTag_ctrlWord (kind vc : Nat) (poison cut pool : Bool) (tag index : Nat) :
    ctrlTag (ctrlWord kind vc poison cut pool tag index) = tag % 4096 := by
  rw [ctrlTag, bitsOf_eq_div_mod, ctrlWord]
  omega

theorem ctrlTag_outFlit (w : Worm) (b : Branch) (f : Flit) (tag : Nat) (pool : Bool) :
    ctrlTag (outFlit w b f tag pool).ctrl = tag % 4096 := by
  unfold outFlit
  split
  · split <;> exact ctrlTag_ctrlWord _ _ _ _ _ _ _
  · exact ctrlTag_ctrlWord _ _ _ _ _ _ _

/-- A flit sent carries the output's link tag, and of the outputs only the sender's owner moves: a last flit releases it. -/
theorem sendFlit_some {s t : State} {port vc : Nat} {f : Flit} (h : sendFlit s port vc = some (f, t)) :
    ctrlTag f.ctrl = (outGet s port vc).tag % 4096
    ∧ t.router.outs = (outSet s port vc { outGet s port vc with
        owner := if ctrlLast f.ctrl then none else (outGet s port vc).owner }).router.outs := by
  unfold sendFlit at h
  split at h
  · next i r pool hready hpool =>
    dsimp only at h
    split at h
    · cases h
    · obtain ⟨rfl, rfl⟩ := Prod.mk.inj (Option.some.inj h)
      refine ⟨?_, ?_⟩
      · cases r with
        | flit g => exact ctrlTag_outFlit _ _ _ _ _
        | truncate n => exact ctrlTag_ctrlWord _ _ _ _ _ _ _
      · rw [wormDone_outs, wormFree_outs]
        split <;> rfl
  · cases h

/-- Settles O17: an allocation counts the tag of the output it hands over, and a flit is stamped with that count and leaves it. -/
theorem linkTagsCountPackets : Obligations.LinkTagsCountPackets := by
  intro s hs
  refine ⟨fun port vc t h => ?_, fun port vc i hport hvc hfree hasks => ?_, fun port vc f t h => ?_⟩
  · obtain rfl | ⟨hfree, i, rfl⟩ := execOutputAllocate_cases h
    · exact ⟨.inl rfl, fun _ _ _ => rfl⟩
    · refine ⟨.inr ⟨hfree, ?_, ?_⟩, fun p v hne => outGet_outputTaken_ne hs port vc i hne⟩ <;>
        simp [outGet_outputTaken hs]
  · obtain ⟨j, hj⟩ := Option.isSome_iff_exists.mp (nextAsker_isSome hasks)
    exact ⟨_, execOutputAllocate_taken hport hvc hfree hj, by rw [outGet_outputTaken hs]⟩
  · obtain ⟨htag, houts⟩ := sendFlit_some h
    exact ⟨htag, by rw [outGet_of_outs houts, outGet_outSet_self hs]⟩

end Sys2Proof.Proofs

/-! ### Flits at the router's ports -/

namespace Sys2Proof.Proofs

open Sys2Proof Sys2Proof.Machine Sys2Proof.Safety

section Arrival

variable {s : State} {port ctrl : Nat}

theorem execPacketHeadArrival_head (hport : port < 30) (hvc : ctrlVc ctrl < 6) (hkind : ctrlKind ctrl = 0 ∨ ctrlKind ctrl = 3)
    (data : Nat) : exec (.packetHeadArrival port ctrl data) s = .next (headArrive s port (ctrl % 2 ^ 32) (data % 2 ^ 1024)) :=
  (if_neg (by omega)).trans (if_neg (by omega))

theorem execFlitArrival_flit (hport : port < 30) (hvc : ctrlVc ctrl < 6) (hhead : ctrlKind ctrl ≠ 0) (hsingle : ctrlKind ctrl ≠ 3)
    (data : Nat) : exec (.flitArrival port ctrl data) s = .next (flitArrive s port (ctrl % 2 ^ 32) (data % 2 ^ 1024)) :=
  (if_neg (by omega)).trans (if_neg (by omega))

/-- An internal port discards a head on a virtual channel that is none, with a Daybook entry (10 R275). -/
theorem execPacketHeadArrival_stray (hport : port < 30) (hvc : 6 ≤ ctrlVc ctrl) (hin : isInternal port = true)
    (hkind : ctrlKind ctrl = 0 ∨ ctrlKind ctrl = 3) (data : Nat) :
    exec (.packetHeadArrival port ctrl data) s = .next (logEvent s 0x60 Config.strayFlitEvent 4 0xFF [port]) :=
  (if_neg (by omega)).trans ((if_pos hvc).trans (if_pos hin))

/-- An internal port discards any other flit on such a virtual channel alike. -/
theorem execFlitArrival_stray (hport : port < 30) (hvc : 6 ≤ ctrlVc ctrl) (hin : isInternal port = true)
    (hhead : ctrlKind ctrl ≠ 0) (hsingle : ctrlKind ctrl ≠ 3) (data : Nat) :
    exec (.flitArrival port ctrl data) s = .next (logEvent s 0x60 Config.strayFlitEvent 4 0xFF [port]) :=
  (if_neg (by omega)).trans ((if_pos hvc).trans (if_pos hin))

end Arrival

/-- Cutting a worm with nothing buffered frees no flit; its later flits are orphans (08 R227, R228). -/
theorem cutHead_empty {s : State} {port vc : Nat} {w : Worm} {ws : List Worm} (hworms : (inGet s port vc).worms = w :: ws)
    (hflits : w.flits = []) (hopen : w.ended = false) :
    cutHead s port vc = inSet s port vc { inGet s port vc with worms := cutWorm w :: ws, orphan := some w.tag } := by
  simp only [cutHead, hworms, hflits, hopen, freeFlits, List.foldl_nil, Bool.false_eq_true, if_false]

theorem execTailTimeout_due {s : State} {port vc : Nat} {w : Worm} {ws : List Worm} (hworms : (inGet s port vc).worms = w :: ws)
    (hbegun : wormBegun w = true) (hflits : w.flits = []) (hopen : w.ended = false) (hdue : w.since + tailTimeout s ≤ s.clock) :
    exec (.tailTimeout port vc) s
      = .next (inSet s port vc { inGet s port vc with worms := cutWorm w :: ws, orphan := some w.tag }) := by
  show execTailTimeout port vc s = _
  simp only [execTailTimeout, hworms]
  rw [if_pos (by simp [hbegun, hflits, hopen, hdue]), cutHead_empty hworms hflits hopen]

/-- An internal port's slot hands the chosen flit to its agent (08 R235). -/
theorem execFlitSlotSchedule_internal {s t u : State} {port vc : Nat} {f : Flit} (hport : port < 30) (hin : isInternal port = true)
    (hslots : (mapGet (0, 0) s.router.strict port).2 < 64) (hpick : pickVc (countStalls s port) port = some (vc, t))
    (hsend : sendFlit t port vc = some (f, u)) :
    exec (.flitSlotSchedule port) s = .next (emit u (.flit port vc f.ctrl f.data)) := by
  show execFlitSlotSchedule port s = _
  simp only [execFlitSlotSchedule, hpick, hsend]
  exact (if_neg (by omega)).trans (if_pos hin)

theorem execStrictWindowEnd_full {s : State} {port : Nat} (h : 64 ≤ (mapGet (0, 0) s.router.strict port).2) :
    exec (.strictWindowEnd port) s = .next { s with router := { s.router with strict := mapDel s.router.strict port } } :=
  if_pos h

theorem execFabSnapshot_open {s : State} (h : HostOpen s) (ports : Nat) :
    exec (.fabSnapshot ports) s = .next ((setBits 30 ports).foldl latchHost s) :=
  congrArg _ (hostWrite_open h _ _ _)

/-- Forwarding resumes at a link that is in reset (08 R226 step 6). -/
theorem execLinkResetComplete_reset {s : State} {port : Nat} (h : portState s port = 7) :
    exec (.linkResetComplete port) s = .next (if isInternal port = true then setPortState s port 2 else showState s port) :=
  (if_neg (not_not_intro h)).trans (apply_ite _ _ _ _).symm

/-- Settles O40: each command under its occasion. -/
theorem routerFlitCommandsComplete : Obligations.RouterFlitCommandsComplete :=
  ⟨fun _ _ data _ hport =>
      ⟨fun hvc hkind => execPacketHeadArrival_head hport hvc hkind data,
        fun hvc hhead hsingle => execFlitArrival_flit hport hvc hhead hsingle data,
        fun hvc hin => ⟨fun hkind => execPacketHeadArrival_stray hport hvc hin hkind data,
          fun hhead hsingle => execFlitArrival_stray hport hvc hin hhead hsingle data⟩⟩,
    fun _ _ _ _ hport hvc hfree hnext => execOutputAllocate_taken hport hvc hfree hnext,
    fun _ _ _ _ s hworms hbegun hflits hopen hdue =>
      execTailTimeout_due hworms hbegun hflits hopen (by rwa [tailTimeout, Nat.mul_comm]),
    fun _ _ _ _ _ _ hport hin hslots hpick hsend => execFlitSlotSchedule_internal hport hin hslots hpick hsend,
    fun _ _ hfull => execStrictWindowEnd_full hfull,
    fun ports _ hopen => execFabSnapshot_open hopen ports,
    fun _ _ hreset => execLinkResetComplete_reset hreset⟩

end Sys2Proof.Proofs

/-! ### The cut of a reducing collective's vector -/

namespace Sys2Proof.Proofs

open Sys2Proof Sys2Proof.Machine

section ShardCut

variable {e n k j ring lo hi : Nat}

@[simp] theorem shardStart_zero : shardStart e n 0 = 0 := by simp [shardStart]

theorem dvd_shardStart : 64 ∣ shardStart e n j := Nat.dvd_mul_right _ _

theorem shardStart_mono : Monotone (shardStart e n) := fun _ _ h =>
  Nat.mul_le_mul_left _ (Nat.div_le_div_right (Nat.mul_le_mul_right e h))

/-- Boundary n is the end of a vector of whole blocks: n · 64 m / (64 n) = m. -/
theorem shardStart_self (hn : 0 < n) (he : 64 ∣ e) : shardStart e n n = e := by
  rw [shardStart, Nat.mul_comm n e, Nat.mul_div_mul_right e 64 hn, Nat.mul_div_cancel' he]

/-- The first element of a ring's part of the shard [lo, hi), cut among k rings as the vector is cut among the members (09 R255). -/
def ringPart (lo hi k ring : Nat) : Nat := lo + shardStart (hi - lo) k ring

theorem partRange_reduces {r : SetRec} {d : List Word} (hred : cReduces d = true) :
    partRange r d j ring =
      let part := ringPart (shardStart (cCount d) r.members.length j) (shardStart (cCount d) r.members.length (j + 1)) (max 1 r.rings)
      (part ring, part (ring + 1)) := by
  simp only [partRange, hred, if_true, ringPart]

@[simp] theorem ringPart_zero : ringPart lo hi k 0 = lo := by simp [ringPart]

theorem dvd_ringPart (hlo : 64 ∣ lo) : 64 ∣ ringPart lo hi k ring := Nat.dvd_add hlo dvd_shardStart

/-- The parts end where the shard ends, since a shard is whole blocks. -/
theorem ringPart_self (hk : 0 < k) (hlo : 64 ∣ lo) (hhi : 64 ∣ hi) (hle : lo ≤ hi) : ringPart lo hi k k = hi := by
  rw [ringPart, shardStart_self hk (Nat.dvd_sub hhi hlo), Nat.add_sub_cancel' hle]

end ShardCut

/-- Settles O16: `shardStart` cuts the vector into shards and, within each, the shard into its rings' parts. -/
theorem shardsCoverTheVector : Obligations.ShardsCoverTheVector := by
  intro r d hred hmembers
  refine ⟨fun j ring => ?_, shardStart_zero, shardStart_self (List.length_pos_iff.mpr hmembers)⟩
  have hstep := shardStart_mono (e := cCount d) (n := r.members.length) j.le_succ
  have hrings : 0 < max 1 r.rings := Nat.le_max_left 1 _
  simp only [partRange_reduces hred, Nat.sub_add_cancel hrings, true_and]
  exact ⟨hstep, dvd_shardStart, dvd_ringPart dvd_shardStart, dvd_ringPart dvd_shardStart, rfl, ringPart_zero,
    ringPart_self hrings dvd_shardStart dvd_shardStart hstep⟩

end Sys2Proof.Proofs

/-! PROOF. Scope: the training ladder of the optical ports, with its retrains, holds and wake-ups. -/

/-! ### Training -/

namespace Sys2Proof.Proofs

open Sys2Proof Sys2Proof.Machine Sys2Proof.Safety

section Training

variable {s : State} {port : Nat}

/-! Retrains (10 R277, R283) -/

theorem execRetrainTrigger_overLimit (hup : linkUp s port = true)
    (hover : 16 ≤ (lpGet s port).replays ∨ 1000 < (lpGet s port).uncorrAt.length) :
    exec (.retrainTrigger port) s = .next (retrain s port) :=
  if_pos ⟨hup, hover⟩

theorem execCkLoss_received (hp : port < 18) (hck : (lpGet s port).ck = true) :
    exec (.ckLoss port) s = .next (retrain (lpMod s port fun x => { x with ck := false }) port) :=
  if_pos ⟨hp, hck⟩

/-- PRT_CMD.retrain finds the port by its number below 18, and a port that is not dark retrains. -/
theorem execPortRetrain_trained {mgmt : Bool} (hopen : mgmt = true ∨ HostOpen s) (hp : port < 18) (hphase : prtPhase s port ≠ 0) :
    exec (.portRetrain mgmt port) s = .next (retrain s port) := by
  have hretrain : portRetrain port s = retrain s port := if_pos ⟨hp, hphase⟩
  rw [← hretrain]
  exact congrArg _ (writeBy_open hopen _ _ _)

theorem execNeighbourTraining_pastLadder (hp : port < 18) (hphase : 7 ≤ prtPhase s port) :
    exec (.neighbourTraining port) s = .next (retrain s port) :=
  if_pos ⟨hp, hphase⟩

/-! The ladder, phase by phase (10 R279 to R282) -/

theorem execCkReceived_dark (hp : port < 18) (hboot : 3 ≤ regField s regStwBoot 63 60) (hserves : regField s regStwBoot 63 60 ≤ 7)
    (hphase : prtPhase s port = 0) (hck : (lpGet s port).ck = false) :
    exec (.ckReceived port) s = .next (setPhase (lpMod s port fun x => { x with ck := true }) port 1) :=
  if_pos ⟨hp, hboot, hserves, hphase, by simp [hck]⟩

theorem execCkLockDone_clocked (hp : port < 18) (hphase : prtPhase s port = 1) :
    exec (.ckLockDone port) s = .next (sendBurst (lpMod (regPut (setPhase s port 2) (regPrtStatus port) 59 58 1)
      port fun x => { x with stage := 0 }) port (List.range 8)) :=
  if_pos ⟨hp, hphase⟩

/-- Slips and skews are stored for the rung at T2, and at T4 and T5 until the rung is aligned. -/
theorem execLaneAlignmentDone_aligning (hp : port < 18)
    (hphase : prtPhase s port = 2 ∨ (prtPhase s port = 4 ∨ prtPhase s port = 5) ∧ (lpGet s port).stage = 0) (slips marks : List Nat) :
    exec (.laneAlignmentDone port slips marks) s = .next (showLanes (setPhase (lpSet s port { lpGet s port with
      stage := 1, align := mapPut (lpGet s port).align (phaseRung (prtPhase s port)) (alignLanes slips marks) }) port
      (if prtPhase s port = 2 then 3 else prtPhase s port)) port (phaseRung (prtPhase s port)) 0) :=
  if_pos ⟨hp, hphase⟩

/-- The lanes aligned at a rung whose symbol errors are at most 1 in 100,000, as a mask. -/
def measuredMask (x : LinkPort) (rung symbols : Nat) (wrong : List Nat) : Nat :=
  ((setBits 8 (alignedMask x rung)).filter fun q => at' 0 wrong q * 100000 ≤ symbols).foldl (fun a q => a + 2 ^ q) 0

/-- A measured rung's lanes are stored and sent, and the port climbs on where the neighbour's are known. -/
theorem execRungMeasureDone_aligned (hp : port < 18) (hlo : 3 ≤ prtPhase s port) (hhi : prtPhase s port ≤ 5)
    (hstage : (lpGet s port).stage = 1) (symbols : Nat) (wrong : List Nat) {rung : Nat} (hrung : phaseRung (prtPhase s port) = rung)
    {t : State} (ht : sendIdentity (showLanes (lpSet s port { lpGet s port with
      stage := 2, pass := mapPut (lpGet s port).pass rung (measuredMask (lpGet s port) rung symbols wrong) }) port rung 0) port = t) :
    exec (.rungMeasureDone port symbols wrong) s = .next (if farPass (lpGet s port) rung ≠ 0 then exchanged t port else t) := by
  subst hrung ht
  exact if_pos ⟨hp, hlo, hhi, hstage⟩

theorem execRungDecision_exchanged (hp : port < 18) (hphase : prtPhase s port = 6) :
    exec (.rungDecision port) s = .next (decideRung s port) :=
  if_pos ⟨hp, hphase⟩

theorem execPortActive_decided (hp : port < 18) (hphase : prtPhase s port = 7) :
    exec (.portActive port) s
      = .next (sendMarker (setPhase (lpMod (restorePools s port) port fun x => { linkCleared x with busy := s.clock }) port 8) port false) :=
  if_pos ⟨hp, hphase⟩

/-! Held and Quiet ports (10 R287, R289) -/

theorem execPortRelease_open {mgmt : Bool} (hopen : mgmt = true ∨ HostOpen s) (hp : port < 18) :
    exec (.portRelease mgmt port) s = .next (reconsider s port) :=
  (if_pos hp).trans (congrArg _ (writeBy_open hopen _ _ _))

theorem execIdentityResend_due (hp : port < 18) (hphase : prtPhase s port = 10)
    (hdue : (lpGet s port).idSent + 1000000000 ≤ s.clock) : exec (.identityResend port) s = .next (sendIdentity s port) :=
  if_pos ⟨hp, hphase, hdue⟩

/-- A burst that matches the stored alignment wakes a Quiet port and aligns no lane anew. -/
theorem execWakeBurstDetect_matching (hp : port < 18) (hphase : prtPhase s port = 9) (slips marks : List Nat) :
    exec (.wakeBurstDetect port true slips marks) s = .next (wakePort s port) :=
  if_pos ⟨hp, hphase⟩

/-! Identity records (10 R284) -/

/-- A record with its CRC is stored, and a port that no exchange of results waits on is checked against it. -/
theorem execIdentityFrameReceive_delivered {t u : State} {msg : Nat} {errs : List Nat} (hup : linkUp s port = true)
    (htype : (headerOf msg).ftype = 3) (htake : frameTake s port msg errs = (t, true)) {bs : List Byte}
    (hbs : bytesOf 128 (((slotsOf msg)[0]?).getD emptySlot).data = bs) (hok : recordOk bs = true) (hu : storeRecord t port bs = u)
    (hphase : ¬ (3 ≤ prtPhase u port ∧ prtPhase u port ≤ 5)) :
    exec (.identityFrameReceive port msg errs) s = .next (recheck u port) := by
  show execIdentityFrameReceive port msg errs s = _
  simp [execIdentityFrameReceive, hup, htype, htake, hbs, hok, hu, hphase]

end Training

/-- Settles O44: each command of the ladder takes the branch of its occasion. -/
theorem trainingCommandsComplete : Obligations.TrainingCommandsComplete :=
  ⟨fun _ _ hp => ⟨execRetrainTrigger_overLimit, execCkLoss_received hp, fun _ hopen => execPortRetrain_trained hopen hp,
      execNeighbourTraining_pastLadder hp, execCkReceived_dark hp, execCkLockDone_clocked hp,
      fun slips marks hphase => execLaneAlignmentDone_aligning hp hphase slips marks,
      fun symbols wrong hlo hhi hstage => execRungMeasureDone_aligned hp hlo hhi hstage symbols wrong rfl rfl,
      execRungDecision_exchanged hp, execPortActive_decided hp, fun _ hopen => execPortRelease_open hopen hp,
      execIdentityResend_due hp, fun slips marks hphase => execWakeBurstDetect_matching hp hphase slips marks⟩,
    fun _ _ _ _ _ hup htype htake hok hphase =>
      execIdentityFrameReceive_delivered hup htype htake rfl hok rfl hphase⟩

end Sys2Proof.Proofs

/-! PROOF. Scope: the tick of an empty queue, and the commands of Drone time. -/

/-! ### The tick -/

namespace Sys2Proof.Proofs

open Sys2Proof Sys2Proof.Machine Sys2Proof.Safety

section Tick

variable {s : State}

theorem step_empty (hempty : s.pending = []) : step s = .next (tick s) := by
  rw [step, hempty]

theorem tick_unsupplied (haux : s.pins.aux = false) : tick s = s :=
  if_pos (by simp [haux])

/-- The package's time, and the Drone's count in units of 2^-24 ns, 8 ns on (11 R303). -/
def eightNsOn (s : State) : State :=
  { s with clock := s.clock + 8, drone := { s.drone with count := ((s.drone.count : Int) + 8 * 2 ^ 24 + s.drone.rate).toNat } }

theorem tick_supplied (haux : s.pins.aux = true) : tick s = alertPinTick (eightNsOn s) :=
  if_neg (by simp [haux])

/-- PWR_ALERT_N is low, its alert has cleared, and 1 ms has passed since (14 R371). -/
def AlertPinDue (s : State) : Prop :=
  s.power.alertPin = true ∧ s.power.alert = false ∧ s.power.alertClear + 1000000 ≤ s.clock

theorem alertPinTick_due (hdue : AlertPinDue s) : alertPinTick s =
    { s with power := { s.power with alertPin := false }, outbox := s.outbox ++ [.pin "PWR_ALERT_N" false] } := by
  obtain ⟨hpin, halert, htime⟩ := hdue
  exact if_pos ⟨hpin, by simp [halert], htime⟩

theorem alertPinTick_notDue (hdue : ¬AlertPinDue s) : alertPinTick s = s :=
  if_neg (by simpa [AlertPinDue] using hdue)

end Tick

/-- Settles O2: the tick advances time by 8 ns and then drives the alert pin where that is due; without the supply there is no tick (that
an empty queue is what lets time pass is log entry 2). -/
theorem emptyQueueIsATick : Obligations.EmptyQueueIsATick := by
  intro s hempty
  simp only [step_empty hempty]
  refine ⟨fun haux => by rw [tick_unsupplied haux], fun haux => ?_⟩
  rw [tick_supplied haux]
  exact ⟨fun hheld => congrArg _ (alertPinTick_notDue hheld), fun hreleased => congrArg _ (alertPinTick_due hreleased)⟩

end Sys2Proof.Proofs

/-! ### Drone time -/

namespace Sys2Proof.Proofs

open Sys2Proof Sys2Proof.Machine Sys2Proof.Safety

section DroneTime

variable {s t : State} {port part msg : Nat} {errs : List Nat} {b r : Bool} {bs : List Byte}

/-! Exchanges (11 R306, R307) -/

/-- The request's exchange is open on its edge: numbered, stamped and waiting; one still unanswered is skipped. -/
def exchangeOpened (s : State) (b : Bool) (part : Nat) : State :=
  let s1 := if (edgeGet s b).waiting = true then skipExchange s b else s
  edgeSet s1 b { edgeGet s1 b with
    seq := ((edgeGet s b).seq + 1) % 256, t1 := droneStamp s part, sentAt := s.clock, waiting := true }

/-- An edge whose last request is 1 ms old, or that had none, sends the next one. -/
theorem execTimeTransferTimer_due (hedge : edgeOf s port = some b) (hrole : droneRole s ≠ 1) (hfree : droneState s ≠ 0)
    (hroot : droneState s ≠ 4) (hopen : timePortOpen s port = true)
    (hdue : (edgeGet s b).sentAt = 0 ∨ (edgeGet s b).sentAt + 1000000 ≤ s.clock) {u : State}
    (hu : lpMod (wakePort (exchangeOpened s b part) port) port (fun x => { x with timeSpoilt := false }) = u) :
    exec (.timeTransferTimer port part) s = .next (newFrame u port 5
      [⟨0, ofBytes (timeRecord u 1 (((edgeGet s b).seq + 1) % 256) (droneStamp s part) 0 0 0)⟩]) := by
  subst hu
  have hsent : ¬((edgeGet s b).sentAt ≠ 0 ∧ s.clock < (edgeGet s b).sentAt + 1000000) := by omega
  show execTimeTransferTimer port part s = _
  simp only [execTimeTransferTimer, hedge]
  exact if_neg (by simp [hrole, hfree, hroot, hopen, hsent])

/-- A request that is whole is answered at once, with the parent's stamps and the request's own. -/
theorem execTimeRequestReceive_whole (hup : linkUp s port = true) (htype : (headerOf msg).ftype = 5)
    (hframe : timeFrame s port msg errs = (t, some (bs, r)))
    (hrequest : numAt (bytesOf 128 (((slotsOf msg)[0]?).getD emptySlot).data) 2 1 = 1) (hwhole : timeOk bs = true)
    (hopen : timePortOpen t port = true) {u : State} (hu : wakePort (noteLocked t port bs) port = u) :
    exec (.timeRequestReceive port msg errs part) s = .next (newFrame u port 5 [⟨0, ofBytes
      (timeRecord u 2 (numAt bs 3 1) (droneStamp u part) (droneStamp u part) (stampAt bs 8 16) (numAt bs 48 8))⟩]) := by
  subst hu
  show execTimeRequestReceive port msg errs part s = _
  simp [execTimeRequestReceive, hup, htype, hrequest, hframe, hwhole, hopen]

/-- What R307 asks of a reply: r tells that it came by a replay. -/
structure ReplySound (t : State) (port : Nat) (b : Bool) (bs : List Byte) (r : Bool) : Prop where
  whole : timeOk bs = true
  number : numAt bs 3 1 = (edgeGet t b).seq
  stamp : stampAt bs 32 40 = (edgeGet t b).t1
  notReplayed : r = false
  unspoilt : (lpGet t port).timeSpoilt = false
  root : rootOk t (numAt bs 4 2) = true
  locked : numAt bs 7 1 = 2 ∨ numAt bs 7 1 = 4
  inTime : t.clock < (edgeGet t b).sentAt + 100000

/-- A reply to an open exchange ends it: valid where the reply is sound, and skipped where it is not. -/
theorem execTimeReplyReceive_waiting (hup : linkUp s port = true) (htype : (headerOf msg).ftype = 5)
    (hframe : timeFrame s port msg errs = (t, some (bs, r)))
    (hreply : numAt (bytesOf 128 (((slotsOf msg)[0]?).getD emptySlot).data) 2 1 = 2) (hedge : edgeOf t port = some b)
    (hwaiting : (edgeGet t b).waiting = true) (hfree : droneState t ≠ 0) (hroot : droneState t ≠ 4) :
    (ReplySound t port b bs r → exec (.timeReplyReceive port msg errs part) s
      = .next (validExchange (noteLocked t port bs) b bs (droneStamp t part)))
    ∧ (¬ReplySound t port b bs r → exec (.timeReplyReceive port msg errs part) s = .next (skipExchange t b)) := by
  show (_ → execTimeReplyReceive port msg errs part s = _) ∧ (_ → execTimeReplyReceive port msg errs part s = _)
  simp only [execTimeReplyReceive, hup, htype, hreply, hframe, hedge, hwaiting, hfree, hroot, Bool.not_true, Bool.false_eq_true, ne_eq,
    not_true_eq_false, or_self, if_false]
  refine ⟨fun hsound => if_neg ?_, fun hunsound => if_pos ?_⟩
  · obtain ⟨hwhole, hnumber, hstamp, hfresh, hunspoilt, hname, hlocked, htime⟩ := hsound
    simpa [hwhole, hnumber, hstamp, hfresh, hunspoilt, hname, htime] using or_iff_not_imp_left.mp hlocked
  · by_contra hfault
    simp only [not_or, not_and_or, not_not, Bool.not_eq_true, Bool.not_eq_true', Bool.not_eq_false, Nat.not_le] at hfault
    obtain ⟨hwhole, hnumber, hstamp, hfresh, hunspoilt, hname, hlocked, htime⟩ := hfault
    exact hunsound ⟨hwhole, hnumber, hstamp, hfresh, hunspoilt, hname, hlocked, htime⟩

theorem execExchangeTimeout_late (hedge : edgeOf s port = some b) (hwaiting : (edgeGet s b).waiting = true)
    (hlate : (edgeGet s b).sentAt + 100000 ≤ s.clock) : exec (.exchangeTimeout port) s = .next (skipExchange s b) := by
  show execExchangeTimeout port s = _
  simp only [execExchangeTimeout, hedge]
  exact if_pos ⟨hwaiting, hlate⟩

/-! Holdover and the root roles (11 R309 to R311) -/

/-- A locked Drone whose other edge never had a valid exchange holds over on the edge that it has. -/
theorem execHoldoverEntry_noOther (hlocked : droneState s = 2) (hlate : (edgeGet s (droneSwapped s)).valid + 3000000 ≤ s.clock)
    (hother : (edgeGet s (!droneSwapped s)).valid = 0) :
    exec .holdoverEntry s = .next (regPut { s with drone := { s.drone with holdSince := s.clock } } regDroneStatus 2 0 3) := by
  show execHoldoverEntry s = _
  simp [execHoldoverEntry, hlocked, hlate, hother]

theorem execHoldoverLong_overLimit (hholds : droneState s = 3) (hlong : s.drone.holdSince + 1000000000 < s.clock) :
    exec .holdoverLong s = .next (regPut s regDroneStatus 5 5 1) :=
  if_pos ⟨hholds, hlong⟩

theorem execStandbyRootTakeover_due (hrole : droneRole s = 2) (hfree : droneState s ≠ 0) (hroot : droneState s ≠ 4)
    (hparent : s.drone.parent.valid + 100000000 ≤ s.clock) (hbackup : s.drone.backup.valid + 100000000 ≤ s.clock) :
    exec .standbyRootTakeover s = .next (becomeRoot s) :=
  if_pos ⟨hrole, hfree, hroot, hparent, hbackup⟩

end DroneTime

/-- Settles O45: each command of Drone time takes the branch of its occasion; a late reply is not a sound one. -/
theorem timeTransferCommandsComplete : Obligations.TimeTransferCommandsComplete := by
  refine ⟨fun port part b s hedge hrole hfree hroot hopen hdue =>
      execTimeTransferTimer_due hedge hrole hfree hroot hopen hdue rfl,
    fun port msg part errs r bs t s hup htype hframe => ⟨fun hrequest hwhole hopen =>
      execTimeRequestReceive_whole hup htype hframe hrequest hwhole hopen rfl, fun b hreply hedge hwaiting hfree hroot => ?_,
      fun b hreply hedge hwaiting hfree hroot hlate => ?_⟩,
    fun _ _ _ hedge hwaiting hlate => execExchangeTimeout_late hedge hwaiting hlate,
    fun _ hlocked hlate hother => execHoldoverEntry_noOther hlocked hlate hother,
    fun _ hholds hlong => execHoldoverLong_overLimit hholds hlong,
    fun _ hrole hfree hroot hparent hbackup => execStandbyRootTakeover_due hrole hfree hroot hparent hbackup⟩
  · intro hwhole hnumber hstamp hfresh hunspoilt hname hlocked htime
    exact (execTimeReplyReceive_waiting hup htype hframe hreply hedge hwaiting hfree hroot).1
      ⟨hwhole, hnumber, hstamp, hfresh, hunspoilt, hname, hlocked, htime⟩
  · exact (execTimeReplyReceive_waiting hup htype hframe hreply hedge hwaiting hfree hroot).2
      fun hsound => hlate.not_gt hsound.inTime

end Sys2Proof.Proofs

/-! PROOF. The frame of every command; steps of a plan, bring-up, power and temperature, requests of the tray, firmware, recovery, twins and
pins. -/

/-! ### The step and the frame -/

namespace Sys2Proof.Proofs

open Sys2Proof Sys2Proof.Machine Sys2Proof.Safety

/-- Settles O1: the queue's front decides the branch of `step`. -/
theorem stepRunsFrontCommand : Obligations.StepRunsFrontCommand := fun _ _ _ => rfl

theorem pending_notMem_touches (c : Instr) : Part.pending ∉ touches c := by
  have hfree : (touches c).contains Part.pending = false := by cases c <;> rfl
  simpa using hfree

/-- Settles O22: each command's law of what it moves (`exec_keeps`), read for the parts alone. -/
theorem commandsLeaveTheRest : Obligations.CommandsLeaveTheRest :=
  ⟨pending_notMem_touches, fun _ _ _ h => (exec_keeps h).only⟩

end Sys2Proof.Proofs

/-! ### Step events -/

namespace Sys2Proof.Proofs

open Sys2Proof Sys2Proof.Machine Sys2Proof.Safety

section StepEvents

variable {s : State} {c : Nat} {r : StepRun}

theorem execPlanScan_due (hready : isReady s = true) (hruns : stewardRuns s = true) (hdue : s.plan.scanned + 2000 ≤ s.clock) :
    exec .planScan s = .next (planScan s) :=
  if_pos ⟨hready, hruns, hdue⟩

theorem execStepWake_due (h : stepFind s c (fun r => !r.woken && effStart s r ≤ droneNs s + 1000 * r.wakeUs) = some r) :
    exec (.stepWake c) s = .next (tilesMod (stepPut s c { r with woken := true })
      ((stepGangs r).flatMap (gangTiles (stepPut s c { r with woken := true }))) fun x =>
        if x.tstate = .off then { x with tstate := .waking } else x) := by
  show execStepWake c s = _
  simp only [execStepWake, h]

/-- No result by S less 1 µs is a result of the outcome member lost, which ends the step (12 R329, Table 12-14). -/
theorem execReadinessResultTimeout_late (h : stepIn s c .voting = some r) (hlate : r.start ≤ droneNs s + 1000) :
    exec (.readinessResultTimeout c) s = .next (stepEnd s c r 4 0x06 0xFFFF) := by
  show execReadinessResultTimeout c s = _
  simp only [execReadinessResultTimeout, h]
  exact if_pos hlate

theorem execRampFillStart_due {p : Pattern} (hp : s.plan.pattern = some p) (h : stepIn s c .ready = some r)
    (hflag : bitOf r.flags 0 = true) (hramp : r.ramp = false) (hdue : effStart s r ≤ droneNs s + p.rampNs) :
    exec (.rampFillStart c) s = .next (stepPut s c { r with ramp := true }) := by
  show execRampFillStart c s = _
  simp only [execRampFillStart, h, hp]
  exact if_pos ⟨hflag, by simp [hramp], hdue⟩

/-- At E, with every tile's PLL locked and no abort recorded, class 0 begins. -/
theorem execStepStart_locked (h : stepIn s c .ready = some r) (hdue : effStart s r ≤ droneNs s) (hlocked : unlockedTile s r = none)
    (hgoes : r.aborted = false) :
    exec (.stepStart c) s = .next (classBegin (resyncStart (writeReport (stepClear (stepPut s c { r with phase := .running }) c) c
      { r with phase := .running } (droneNs s)) r.step) c { r with phase := .running } 0) := by
  show execStepStart c s = _
  simp only [execStepStart, h, hlocked, if_neg (Nat.not_lt.mpr hdue), hgoes, Bool.false_eq_true, if_false]

theorem execStaggerClassStart_due (h : stepIn s c .running = some r) (hleft : r.classes < 8)
    (hdue : effStart s r + 250 * r.classes ≤ droneNs s) : exec (.staggerClassStart c) s = .next (classBegin s c r r.classes) := by
  show execStaggerClassStart c s = _
  simp only [execStaggerClassStart, h]
  exact if_pos ⟨hleft, hdue⟩

theorem execStepAbort_open (h : HostOpen s) :
    exec (.stepAbort c) s = .next (stepAbort (c % 16) (regGet s regPlnAbortStep).toNat s) :=
  congrArg _ (hostWrite_open h _ _ _)

theorem execStepDeadline_passed (h : stepIn s c .running = some r) (hpassed : r.deadline ≤ droneNs s) :
    exec (.stepDeadline c) s = .next (raiseTrigger (stepFail (freezeGangs s c) c r 0x02 0) ⟨1, false, c, 0x01, s.clock, 0x02, 1, 0⟩
      (some c)) := by
  show execStepDeadline c s = _
  simp only [execStepDeadline, h]
  exact if_pos hpassed

/-- At S less the readiness lead the package contributes its vote, and the step waits for the result. -/
theorem execReadinessVote_due (h : stepIn s c .accepted = some r) (hdue : r.start ≤ droneNs s + readyLeadNs s) {v : State × Nat}
    (hv : contribute (resyncVote s r.step) (((ctxRec s c).map (·.readyGroup)).getD 0) (bit (stepReady s c r) + 2 * bit !r.aborted) = v) :
    exec (.readinessVote c) s = .next (stepPut v.1 c { r with phase := .voting, gen := v.2 }) := by
  subst hv
  show execReadinessVote c s = _
  simp only [execReadinessVote, h]
  exact if_neg (Nat.not_lt.mpr hdue)

end StepEvents

/-- Settles O47: each event of a step finds the step of its phase, whose time has come. -/
theorem stepEventsComplete : Obligations.StepEventsComplete :=
  ⟨fun _ hready hruns hdue => execPlanScan_due hready hruns hdue, fun _ _ =>
    ⟨fun _ h => execStepWake_due h, fun _ h hdue => execReadinessVote_due h hdue rfl, fun _ h hlate => execReadinessResultTimeout_late h hlate,
      fun _ _ hp h hflag hramp hdue => execRampFillStart_due hp h hflag hramp hdue,
      fun _ h hdue hlocked hgoes => execStepStart_locked h hdue hlocked hgoes, fun _ h hleft hdue => execStaggerClassStart_due h hleft hdue,
      fun hopen => execStepAbort_open hopen, fun _ h hpassed => execStepDeadline_passed h hpassed⟩⟩

end Sys2Proof.Proofs

/-! ### Bring-up -/

namespace Sys2Proof.Proofs

open Sys2Proof Sys2Proof.Machine Sys2Proof.Safety

section BringUp

variable {s : State}

/-! C1 to C3 (13 Table 13-1) -/

theorem execAuxPowerGood_first (haux : s.pins.aux = false) (slot : Nat) :
    exec (.auxPowerGood slot) s = .next (flashMod (bring (latchSlot { s with pins := { s.pins with aux := true } } slot)
      fun b => { b with pathStart := s.clock }) fun f => { f with powerOns := f.powerOns + 1 }) :=
  if_neg (by simp [haux])

theorem execInputPowerGood_held (hheld : s.pins.held = true) (hstopped : s.pins.stopped = false) :
    exec .inputPowerGood s = .next (bring { s with pins := { s.pins with input := true, held := false } } fun b =>
      { b with pathStart := s.clock }) := by
  show execInputPowerGood s = _
  simp [execInputPowerGood, hheld, hstopped]

/-- The ROM boots what it chose, or holds every port dark where it chose nothing. -/
theorem execRomBoot_cold (haux : s.pins.aux = true) (hheld : s.pins.held = false) (hphase : bootPhase s = 0) (hnone : s.fw.booted = none)
    {decayed : Nat} {t : State} (ht : romBoot s decayed true = t) :
    exec (.romBoot decayed) s = .next (if t.fw.booted = none then portsDark (setBoot t 8) else setBoot (takeForce t true) 1) := by
  subst ht
  show execRomBoot decayed s = _
  simp only [execRomBoot, haux, hheld, hphase, hnone, Bool.not_true, Bool.false_eq_true, Option.isSome_none, ne_eq, not_true_eq_false,
    or_self, if_false, Option.isNone_iff_eq_none]
  exact (apply_ite Host.Outcome.next _ _ _).symm

theorem execRailBringup_powered (hphase : bootPhase s = 2) (hinput : s.pins.input = true) :
    exec .railBringup s = .next (setBoot (if (powerFloor s).power.hold = true then forceFloor (powerFloor s) else powerFloor s) 3) :=
  if_neg (by simp [hphase, hinput])

/-! C8, behind the Assay (13 Table 13-1) -/

theorem execServiceable_unsound (hphase : bootPhase s = 4) (hstacks : s.bring.stackAssay = true) (htiles : s.bring.tileAssay = true)
    (hbad : s.bring.unserviceable = true) : exec .serviceable s = .next (portsDark (setBoot s 8)) := by
  show execServiceable s = _
  simp [execServiceable, hphase, hstacks, htiles, hbad]

theorem execServiceable_sound (hphase : bootPhase s = 4) (hstacks : s.bring.stackAssay = true) (htiles : s.bring.tileAssay = true)
    (hgood : s.bring.unserviceable = false) (hreset : s.bring.resetAfter = false) {s1 : State}
    (hs1 : showStacks (setBoot (setCorrections s 0) 5) (regField s regSecWarrant 55 48) = s1) :
    exec .serviceable s = .next (setPatternW (warrantPower s1) (warrantMax s1)) := by
  subst hs1
  show execServiceable s = _
  simp [execServiceable, hphase, hstacks, htiles, hgood, hreset]

/-! Readiness, the warm path and Warrants (13 R338, R346, R348) -/

theorem execReadinessDecision_passed (hserv : isServiceable s = true) (hready : isReady s = false) (hwarm : s.bring.warm = false)
    (hpass : checksPass s = true) :
    exec .readinessDecision s = .next (eventAppend (twinReturns (setCorrections (setBoot
      (regSet s regStwReady (BitVec.ofNat 64 (2 ^ 63 + readyFaults s))) 7) 0)) 4 0xFF 0 0 0 0) := by
  show execReadinessDecision s = _
  simp [execReadinessDecision, hserv, hready, hwarm, hpass, bit]

theorem execReadinessDecision_failed (hserv : isServiceable s = true) (hready : isReady s = false) (hwarm : s.bring.warm = false)
    (hfail : checksPass s = false) :
    exec .readinessDecision s = .next (setBoot (regSet s regStwReady (BitVec.ofNat 64 (readyFaults s)))
      (if s.plan.pattern.isSome = true then 6 else 5)) := by
  show execReadinessDecision s = _
  simp [execReadinessDecision, hserv, hready, hwarm, hfail, bit]

theorem execWarmPath_done {failed lost : Nat} (hwarm : s.bring.warm = true) (hstacks : failed % 256 = 0)
    (hmend : (mendPick s lost).isSome = true) (htime : s.clock ≤ s.bring.pathStart + 3000000000) :
    exec (.warmPath failed lost) s = .next (warmDone s lost) := by
  show execWarmPath failed lost s = _
  have hkeep : ¬(failed % 256 ≠ 0 ∨ (mendPick s lost).isNone = true ∨ s.clock > s.bring.pathStart + 3000000000) := by
    simp [hstacks, Option.isSome_iff_ne_none.mp hmend, htime]
  simp only [execWarmPath, hwarm, Bool.not_true, Bool.false_eq_true, if_false, if_neg hkeep]

/-- A Warrant is the one record that a package without a variant Warrant takes (00 R9). -/
theorem execWarrantInstall_host (hopen : HostOpen s) (hok : stagedOk s = true) :
    exec (.warrantInstall .host) s = .next (recordTake
      (linesReadEffects s (linesOf (regField s regSecRecord 47 0) (regField s regSecRecord 63 48))) (stagedRecord s) warrantTake) := by
  show Host.Outcome.next (recordRequest .host 5 0x31 warrantTake s) = _
  simp [recordRequest, hostWrite_open hopen, recordJudge, hok]

end BringUp

/-- Settles O48: each step of a start path runs in its phase; a Warrant over Plovco is a record request like the others. -/
theorem bringUpCommandsComplete : Obligations.BringUpCommandsComplete := by
  intro s
  refine ⟨fun slot haux => execAuxPowerGood_first haux slot, fun hheld hstopped => execInputPowerGood_held hheld hstopped,
    fun _ haux hheld hphase hnone => execRomBoot_cold haux hheld hphase hnone rfl, fun puf lost hphase => if_neg (by simp [hphase]),
    fun hphase hinput => execRailBringup_powered hphase hinput, fun failed hphase => if_neg (by simp [hphase]),
    fun lines base hphase htrained hfirst => if_neg (by simp [hphase, htrained, hfirst]),
    fun cores dies unsound hphase htrained hfirst => if_neg (by simp [hphase, htrained, hfirst]),
    fun hphase hstacks htiles => ⟨fun hbad => execServiceable_unsound hphase hstacks htiles hbad,
      fun hgood hreset => execServiceable_sound hphase hstacks htiles hgood hreset rfl⟩,
    fun hserv hready hwarm => ⟨fun hpass => execReadinessDecision_passed hserv hready hwarm hpass,
      fun hfail => execReadinessDecision_failed hserv hready hwarm hfail⟩,
    fun _ _ hwarm hstacks hmend htime => execWarmPath_done hwarm hstacks hmend htime,
    fun hopen hok => execWarrantInstall_host hopen hok,
    fun r bs t hasks hformed hlast => congrArg _ (recordRequest_last (Or.inl hasks) hformed hlast _ _)⟩

end Sys2Proof.Proofs

/-! ### The forced floor -/

namespace Sys2Proof.Proofs

open Sys2Proof Sys2Proof.Machine Sys2Proof.Safety Sys2Proof.Laws

/-- A function applied to the entries at some indices of a table, one after another. -/
theorem mapGet_foldl_mapSet {α : Type} [DecidableEq α] (d : α) (g : α → α) {l : List Nat} (hl : l.Nodup) {m : SMap α}
    (hm : mapRising m = true) (i : Nat) :
    mapGet d (l.foldl (fun m k => mapSet d m k (g (mapGet d m k))) m) i = if i ∈ l then g (mapGet d m i) else mapGet d m i := by
  induction l generalizing m with
  | nil => simp
  | cons k l ih =>
    obtain ⟨hk, hl⟩ := List.nodup_cons.mp hl
    rw [List.foldl_cons, ih hl (mapRising_mapSet d m k _ hm)]
    by_cases hi : i = k
    · subst hi
      simp [hk, mapGet_mapSet_self d m i _ hm]
    · simp [hi, mapGet_mapSet_ne d m k i _ hm hi]

/-- Every die, engine and channel stands at the floor state of 14 R353. -/
def AtFloor (t : State) : Prop :=
  t.power.forced = true
    ∧ (∀ d < 4, (dieGet t d).point = 5 ∧ (dieGet t d).target = 5 ∧ (dieGet t d).change = none)
    ∧ ∀ n < 8, (stackGet t n).engine = 2 ∧ (stackGet t n).duty = 4

/-- What an event of the host leaves as it is. -/
theorem eventAppend_power (s : State) (kind ctx step state fault detail : Nat) :
    (eventAppend s kind ctx step state fault detail).power = s.power :=
  (eventAppend_moves s kind ctx step state fault detail).same .power rfl

theorem forceFloor_power (s : State) : (forceFloor s).power = { s.power with
    forced := true, stepAt := s.clock, cause := forcedCode s.power
    dies := allDies.foldl (fun m d => mapSet {} m d { mapGet {} m d with point := floorPoint, target := floorPoint, change := none })
      s.power.dies
    stks := allStacks.foldl (fun m n => mapSet {} m n { mapGet {} m n with engine := floorEngine, duty := 4 }) s.power.stks } := by
  unfold forceFloor
  split
  · rfl
  · exact eventAppend_power _ _ _ _ _ _ _

theorem forceFloor_atFloor {s : State} (hdies : mapRising s.power.dies = true) (hstks : mapRising s.power.stks = true) :
    AtFloor (forceFloor s) := by
  refine ⟨by rw [forceFloor_power], fun d hd => ?_, fun n hn => ?_⟩
  · have hget : dieGet (forceFloor s) d = { dieGet s d with point := floorPoint, target := floorPoint, change := none } := by
      rw [dieGet, forceFloor_power]
      exact (mapGet_foldl_mapSet {} (fun x : DiePower => { x with point := floorPoint, target := floorPoint, change := none })
        List.nodup_range hdies d).trans (if_pos (List.mem_range.mpr hd))
    simp [hget, floorPoint]
  · have hget : stackGet (forceFloor s) n = { stackGet s n with engine := floorEngine, duty := 4 } := by
      rw [stackGet, forceFloor_power]
      exact (mapGet_foldl_mapSet {} (fun x : StackPower => { x with engine := floorEngine, duty := 4 })
        List.nodup_range hstks n).trans (if_pos (List.mem_range.mpr hn))
    simp [hget, floorEngine]

/-! What was handed to the outside stays handed (log entry 6) -/

theorem holdEvent_outbox (s : State) (x : HostEvent) : (holdEvent s x).outbox = s.outbox := (holdEvent_moves s x).same .outbox rfl

theorem outbox_subset_signalVector (s : State) (v : Nat) : s.outbox ⊆ (signalVector s v).outbox := by
  unfold signalVector
  split
  · exact List.Subset.refl _
  · exact List.subset_append_left _ _

theorem outbox_subset_ringAppend (s : State) (x : HostEvent) : s.outbox ⊆ (ringAppend s x).outbox := by
  refine List.Subset.trans ?_ (outbox_subset_signalVector _ _)
  split
  · rw [(regSatAdd_moves s regEventStatus 63 32 1).same .outbox rfl]
    exact List.Subset.refl _
  · rw [regPut, regSet_outbox, memPutBytes_outbox]
    exact List.Subset.refl _

theorem outbox_subset_eventAppend (s : State) (kind ctx step state fault detail : Nat) :
    s.outbox ⊆ (eventAppend s kind ctx step state fault detail).outbox := by
  unfold eventAppend
  split
  · exact List.Subset.refl _
  · rw [holdEvent_outbox]
    exact List.Subset.refl _
  · dsimp only
    split
    · rw [holdEvent_outbox]
      exact List.Subset.refl _
    · exact outbox_subset_ringAppend { s with host := { s.host with eventSeq := s.host.eventSeq + 1 } } _

theorem outbox_subset_forceFloor (s : State) : s.outbox ⊆ (forceFloor s).outbox := by
  unfold forceFloor
  split
  · exact List.Subset.refl _
  · exact outbox_subset_eventAppend (pwr s _) _ _ _ _ _ _

/-! The causes (14 R371, R372, R376, R380) -/

theorem regSatAdd_power (s : State) (k hi lo n : Nat) : (regSatAdd s k hi lo n).power = s.power :=
  (regSatAdd_moves s k hi lo n).same .power rfl

/-- A new alert is noted, drives PWR_ALERT_N where that is not driven yet, and forces the floor. -/
theorem alertAssert_new {s : State} (h : s.power.alert = false) :
    ∃ u, alertAssert s = forceFloor u ∧ u.power = { s.power with alert := true, alertPin := true }
      ∧ (s.power.alertPin = false → .pin "PWR_ALERT_N" true ∈ u.outbox) := by
  refine ⟨_, if_neg (by simp [h]), ?_, fun hpin => ?_⟩
  · split
    · exact regSatAdd_power _ _ _ _ _
    · rw [emit_power]
      exact regSatAdd_power _ _ _ _ _
  · rw [if_neg (by simp [hpin]), emit_outbox]
    exact List.mem_append_right _ (List.mem_singleton_self _)

theorem alertAssert_floor {s : State} (hs : Canonical s) (h : s.power.alert = false) :
    AtFloor (alertAssert s) ∧ (alertAssert s).power.alert = true ∧ (alertAssert s).power.alertPin = true
      ∧ (s.power.alertPin = false → .pin "PWR_ALERT_N" true ∈ (alertAssert s).outbox) := by
  obtain ⟨u, hforced, hpower, hpin⟩ := alertAssert_new h
  rw [hforced]
  refine ⟨forceFloor_atFloor ?_ ?_, ?_, ?_, fun hfree => outbox_subset_forceFloor u (hpin hfree)⟩
  · rw [hpower]
    exact hs.dies
  · rw [hpower]
    exact hs.stks
  · rw [forceFloor_power, hpower]
  · rw [forceFloor_power, hpower]

theorem execTrayHold_low {s : State} (h : s.power.hold = false) :
    exec .trayHold s = .next (forceFloor (regSatAdd (pwr s fun p => { p with hold := true }) regPwrEvents 31 16 1)) :=
  if_neg (by simp [h])

theorem execCriticalTemperature_hot {s : State} (h : ∃ e ∈ s.power.sites, 115 * 16 ≤ e.2.protect) :
    exec .criticalTemperature s = .next (forceFloor (pwr s fun p => { p with critical := true, criticalCool := none })) :=
  if_pos (by simpa using h)

theorem execThermalTrip_hot {s : State} (h : ∃ e ∈ s.power.sites, 120 * 16 ≤ e.2.protect) (htrip : s.power.trip = false) :
    exec .thermalTrip s = .next (emit (forceFloor (pwr s fun p => { p with trip := true, critical := true, tripAt := s.clock }))
      (.pin "THERM_TRIP_N" true)) :=
  if_pos ⟨by simpa using h, by simp [htrip]⟩

/-- A report of a session that may send it is taken and answered with status 0 (15 R408). -/
theorem execCoolant_served {s : State} {r : Request} (h : Asks s r 0x13) (hlen : r.body.length = 8) (hflags : numAt r.body 6 2 ≤ 3) :
    exec (.coolant r) s = .next (reply (coolantTake (sessionTouch s r.session) r.body) r 0x13 0 []) :=
  congrArg _ (plovcoRequest_served h _ (by simp [hlen, hflags]) _)

/-- A report whose flags say that its flow is valid, and whose flow is 0, forces the floor. -/
theorem coolantTake_zeroFlow {s : State} (hdies : mapRising s.power.dies = true) (hstks : mapRising s.power.stks = true) {b : List Byte}
    (hflow : numAt b 4 2 = 0) (hvalid : numAt b 6 2 % 2 = 1) :
    AtFloor (coolantTake s b) ∧ (coolantTake s b).power.coolant = true := by
  have hbit : bitOf (numAt b 6 2) 0 = true := by simp [bitOf, hvalid]
  simp only [coolantTake, hbit, if_true, coolantReport, hflow]
  refine ⟨forceFloor_atFloor hdies hstks, ?_⟩
  rw [forceFloor_power]
  rfl

/-- Settles O21: each cause leads through `forceFloor`, which puts every unit at the floor. -/
theorem floorStateIsForced : Obligations.FloorStateIsForced := by
  intro s hs atFloor
  refine ⟨fun halert c hc => ?_, fun hhold => ?_, fun hhot => ?_, fun hhot htrip => ?_, fun r hasks hlen hflow hflags hvalid => ?_⟩
  · simp only [List.mem_cons, List.not_mem_nil, or_false] at hc
    rcases hc with rfl | rfl | rfl
    · exact ⟨_, rfl, alertAssert_floor hs halert⟩
    · have hcounted := regSatAdd_power s regPwrEvents 47 32 1
      have hfloor := alertAssert_floor ((regSatAdd_moves s regPwrEvents 47 32 1).canon hs) (by rw [hcounted]; exact halert)
      rw [hcounted] at hfloor
      exact ⟨_, rfl, hfloor⟩
    · exact ⟨_, rfl, alertAssert_floor hs halert⟩
  · refine ⟨_, execTrayHold_low hhold, forceFloor_atFloor ?_ ?_, ?_⟩
    · rw [regSatAdd_power]
      exact hs.dies
    · rw [regSatAdd_power]
      exact hs.stks
    · rw [forceFloor_power, regSatAdd_power]
      rfl
  · refine ⟨_, execCriticalTemperature_hot hhot, forceFloor_atFloor hs.dies hs.stks, ?_⟩
    rw [forceFloor_power]
    rfl
  · refine ⟨_, execThermalTrip_hot hhot htrip, forceFloor_atFloor hs.dies hs.stks, ?_, List.mem_append_right _ (List.mem_singleton_self _)⟩
    rw [emit_power, forceFloor_power]
    rfl
  · exact ⟨_, execCoolant_served hasks hlen hflags, coolantTake_zeroFlow (s := sessionTouch s r.session) hs.dies hs.stks hflow hvalid⟩

end Sys2Proof.Proofs

/-! ### The cap while allowances are shared -/

namespace Sys2Proof.Proofs

open Sys2Proof Sys2Proof.Machine Sys2Proof.Safety

/-! The cap in force stands while allowances are withdrawn and given (14 R362, R364) -/

/-- Two states with the same effective cap, bound by the same slot. -/
def SameCap (s t : State) : Prop := t.power.effective = s.power.effective ∧ t.power.binding = s.power.binding

theorem SameCap.refl {s : State} : SameCap s s := ⟨rfl, rfl⟩

theorem SameCap.trans {s t u : State} (h : SameCap s t) (h' : SameCap t u) : SameCap s u :=
  ⟨h'.1.trans h.1, h'.2.trans h.2⟩

/-- A fold whose value carries the state, seen through p. -/
theorem SameCap.foldl {α β : Type} (p : β → State) {s : State} {f : β → α → β} {l : List α} {b : β}
    (hf : ∀ b a, SameCap (p b) (p (f b a))) (h : SameCap s (p b)) : SameCap s (p (l.foldl f b)) := by
  induction l generalizing b with
  | nil => exact h
  | cons a l ih => exact ih (h.trans (hf b a))

theorem sameCap_dieMod (s : State) (d : Nat) (f : DiePower → DiePower) : SameCap s (dieMod s d f) := ⟨rfl, rfl⟩

theorem sameCap_stackMod (s : State) (n : Nat) (f : StackPower → StackPower) : SameCap s (stackMod s n f) := ⟨rfl, rfl⟩

theorem sameCap_dieAllow (s : State) (d w : Nat) : SameCap s (dieAllow s d w) := sameCap_dieMod _ _ _

theorem sameCap_withdrawDies (s : State) (n : Nat) : SameCap s (withdrawDies s n).1 := by
  unfold withdrawDies
  exact SameCap.foldl Prod.fst (fun _ _ => sameCap_dieAllow _ _ _) .refl

theorem sameCap_withdrawStacks (s : State) (n : Nat) : SameCap s (withdrawStacks s n).1 := by
  unfold withdrawStacks
  exact SameCap.foldl Prod.fst (fun _ _ => sameCap_stackMod _ _ _) .refl

theorem sameCap_withdrawLink (s : State) (n : Nat) : SameCap s (withdrawLink s n).1 := ⟨rfl, rfl⟩

theorem sameCap_withdraw (s : State) (cap : Nat) : SameCap s (withdraw s cap) := by
  unfold withdraw
  split
  · exact (sameCap_withdrawDies _ _).trans ((sameCap_withdrawStacks _ _).trans (sameCap_withdrawLink _ _))
  · exact (sameCap_withdrawStacks _ _).trans ((sameCap_withdrawDies _ _).trans (sameCap_withdrawLink _ _))

theorem sameCap_giveDies (s : State) (n : Nat) : SameCap s (giveDies s n).1 := by
  unfold giveDies
  exact SameCap.foldl Prod.fst (fun _ _ => sameCap_dieAllow _ _ _) .refl

theorem sameCap_giveStacks (s : State) (n : Nat) : SameCap s (giveStacks s n).1 := by
  unfold giveStacks
  exact SameCap.foldl Prod.fst (fun _ _ => sameCap_stackMod _ _ _) .refl

theorem sameCap_giveLink (s : State) (n : Nat) : SameCap s (giveLink s n).1 := ⟨rfl, rfl⟩

theorem sameCap_giveRestDies (s : State) (n : Nat) : SameCap s (giveRestDies s n) := by
  unfold giveRestDies
  exact SameCap.foldl (fun a => a) (fun _ _ => sameCap_dieMod _ _ _) .refl

theorem sameCap_giveRestStacks (s : State) (n : Nat) : SameCap s (giveRestStacks s n) := by
  unfold giveRestStacks
  exact SameCap.foldl (fun a => a) (fun _ _ => sameCap_stackMod _ _ _) .refl

theorem sameCap_floorAllow (s : State) : SameCap s (floorAllow s) := by
  unfold floorAllow
  extract_lets dies stks
  have hdies : SameCap s dies := SameCap.foldl (fun a => a) (fun _ _ => sameCap_dieAllow _ _ _) .refl
  have hstks : SameCap s stks := SameCap.foldl (fun a => a) (fun _ _ => sameCap_stackMod _ _ _) hdies
  exact hstks.trans ⟨rfl, rfl⟩

theorem sameCap_forceFloor (s : State) : SameCap s (forceFloor s) := by
  rw [SameCap, forceFloor_power]
  exact ⟨rfl, rfl⟩

/-- Where a grant is due it records the smallest slot, whichever way the cap is then shared. -/
theorem execAllowanceGrant_due {s : State} (hdue : s.power.lastGrant + 100000 ≤ s.clock) (hmute : muted s = false) :
    ∃ t, exec .allowanceGrant s = .next t ∧ t.power.effective = (effectiveCap s).1 ∧ t.power.binding = (effectiveCap s).2
      ∧ t.power.linkPeak = t.power.linkEst := by
  show ∃ t, execAllowanceGrant s = .next t ∧ _
  rw [execAllowanceGrant, if_neg (by simp [hmute, hdue])]
  extract_lets e s1 left clear a b c b' c'
  let capped := pwr s fun p => { p with effective := e.1, binding := e.2, lastGrant := s.clock }
  have hanswer : ∀ u, SameCap capped u → ∃ t, Host.Outcome.next (φ := Fault) (ρ := Refusal) (clear u) = .next t
      ∧ t.power.effective = e.1 ∧ t.power.binding = e.2 ∧ t.power.linkPeak = t.power.linkEst := by
    rintro u ⟨heffective, hbinding⟩
    refine ⟨_, rfl, ?_⟩
    dsimp only [clear, pwr]
    exact ⟨heffective, hbinding, rfl⟩
  have hfloor : SameCap capped s1 := sameCap_floorAllow capped
  have hlink : SameCap capped a.1 := hfloor.trans (sameCap_giveLink s1 left)
  clear_value clear s1
  split
  · exact hanswer _ (hfloor.trans ((sameCap_forceFloor s1).trans (sameCap_withdraw _ e.1)))
  · split
    · exact hanswer _ hfloor
    · split
      · exact hanswer _ (hlink.trans ((sameCap_giveStacks _ _).trans ((sameCap_giveDies _ _).trans (sameCap_giveRestDies c.1 c.2))))
      · exact hanswer _ (hlink.trans ((sameCap_giveDies _ _).trans ((sameCap_giveStacks _ _).trans (sameCap_giveRestStacks c'.1 c'.2))))

end Sys2Proof.Proofs

/-! ### The power loop -/

namespace Sys2Proof.Proofs

open Sys2Proof Sys2Proof.Machine Sys2Proof.Safety

section Loop

variable {s : State} {die : Nat}

/-! Calibration (14 R357) -/

/-- The factor moves by at most 1 % towards what was measured, and reaching a bound is logged. -/
theorem execPowerCalibration_due {mw cv f : Nat} (hdue : s.power.lastCal + 1000000 ≤ s.clock) (hmute : muted s = false)
    (hsum : s.power.rawSum ≠ 0)
    (hf : max 29491 (min 36044 (max (s.power.factor - s.power.factor / 100)
      (min (s.power.factor + s.power.factor / 100) (mw * s.power.rawWindows * 0x8000 / s.power.rawSum)))) = f)
    {t : State} (ht : pwr s (fun q => { q with
      inputW := min 65535 (mw / 1000), inputCv := min 65535 cv, lastCal := s.clock, rawSum := 0, rawWindows := 0, factor := f }) = t) :
    exec (.powerCalibration mw cv) s
      = .next (if (f = 29491 ∨ f = 36044) ∧ f ≠ s.power.factor then logEvent t 0x70 0x6001 3 0xFF [f] else t) := by
  subst hf ht
  show execPowerCalibration mw cv s = _
  rw [execPowerCalibration, if_neg (by simp [hmute, hdue])]
  exact (if_neg hsum).trans (apply_ite Host.Outcome.next _ _ _).symm

/-! Operating points and droop (14 R365, R368 to R370) -/

theorem execGovernorRaise_fitted (hd : die < 4) (hfit : 25 ≤ (dieGet s die).fit) (hmute : muted s = false)
    (hforced : s.power.forced = false) (hstorm : (dieGet s die).storm = none) :
    exec (.governorRaise die) s = .next (raisePoint (dieMod s die fun x => { x with fit := 0 }) die) :=
  if_pos ⟨hd, hfit, by simp [hmute], by simp [hforced], by simp [hstorm]⟩

theorem execOperatingPointChange_asked (hd : die < 4) (hasked : (dieGet s die).target ≠ (dieGet s die).point)
    (hidle : (dieGet s die).change = none) (hforced : s.power.forced = false) :
    exec (.operatingPointChange die) s = .next (dieMod s die fun y => { y with change := some (s.clock +
      if y.target < y.point then (pointRail y.target - pointRail y.point) * 50 else 0) }) :=
  if_pos ⟨hd, hasked, by simp [hidle], by simp [hforced]⟩

/-- The point switches when the rail is ready and the die's stretches have ended or lasted 10 µs. -/
theorem execPointSwitch_ready {t : Nat} (hd : die < 4) (hchange : (dieGet s die).change = some t) (hrail : t ≤ s.clock)
    (hcalm : (dieGet s die).stretch = [] ∨ t + 10000 ≤ s.clock) :
    exec (.pointSwitch die) s = .next (dieMod s die fun y => { y with point := y.target, change := none, duty := 16, above := 0, fit := 0 }) := by
  show execPointSwitch die s = _
  simp only [execPointSwitch, hchange]
  exact if_pos ⟨hd, hrail, by simpa using hcalm⟩

theorem execDroopStorm_long (hd : die < 4) (hwindow : (dieGet s die).winStart + 100000 ≤ s.clock)
    (hlong : regField s regPwrCfg 39 32 * 1000 < (dieGet (stretchCount s die) die).winNs) (hmute : muted s = false) :
    exec (.droopStorm die) s = .next (dieMod (regSatAdd (lowerPoint (dieMod (stretchCount s die) die fun x =>
      { x with winStart := s.clock, winNs := 0 }) die) regPwrEvents 15 0 1) die fun x => { x with storm := some (s.clock + 10000000) }) :=
  (if_neg (by omega)).trans (if_pos ⟨by simpa using hlong, by simp [hmute]⟩)

theorem execDroopStorm_short (hd : die < 4) (hwindow : (dieGet s die).winStart + 100000 ≤ s.clock)
    (hshort : (dieGet (stretchCount s die) die).winNs ≤ regField s regPwrCfg 39 32 * 1000) :
    exec (.droopStorm die) s = .next (dieMod (stretchCount s die) die fun x => { x with winStart := s.clock, winNs := 0 }) :=
  (if_neg (by omega)).trans (if_neg (by simp [hshort]))

theorem execStormReductionEnd_over {t : Nat} (hd : die < 4) (hstorm : (dieGet s die).storm = some t) (hover : t ≤ s.clock)
    (hmute : muted s = false) :
    exec (.stormReductionEnd die) s = .next (raisePoint (dieMod s die fun x => { x with storm := none }) die) := by
  show execStormReductionEnd die s = _
  simp only [execStormReductionEnd, hstorm]
  exact if_pos ⟨hd, hover, by simp [hmute]⟩

/-! The tray's lease (14 R361) -/

theorem execTrayLeaseExpiry_over (hleased : s.power.leaseState = 1) (hover : s.power.leaseEnd ≤ s.clock) (hmute : muted s = false) :
    exec .trayLeaseExpiry s = .next (setTray (pwr s fun p => { p with leaseState := 2 }) s.power.orphan) :=
  if_pos ⟨hleased, hover, by simp [hmute]⟩

/-! The way out of a forced floor (14 R373) -/

/-- No die and no engine is left to raise. -/
def NoneToRaise (s : State) : Prop := (∀ d < 4, (dieGet s d).point ≤ maxPoint s) ∧ ∀ n < 8, (stackGet s n).engine ≤ maxEngine s

theorem noneToRaise_iff (s : State) : (allDies.all (fun d => (dieGet s d).point ≤ maxPoint s)
    && allStacks.all fun n => (stackGet s n).engine ≤ maxEngine s) = true ↔ NoneToRaise s := by
  simp [NoneToRaise, allDies, allStacks]

theorem not_noneToRaise {s : State} (h : (∃ d < 4, maxPoint s < (dieGet s d).point) ∨ ∃ n < 8, maxEngine s < (stackGet s n).engine) :
    ¬NoneToRaise s := by
  rintro ⟨hdies, hstks⟩
  rcases h with ⟨d, hd, hover⟩ | ⟨n, hn, hover⟩
  · exact absurd (hdies d hd) (Nat.not_le.mpr hover)
  · exact absurd (hstks n hn) (Nat.not_le.mpr hover)

/-- What holds a package in its forced floor has ended, and a step is due. -/
structure FloorMayRise (s : State) : Prop where
  forced : s.power.forced = true
  awake : muted s = false
  cleared : floorMayEnd s = true
  due : s.power.stepAt + 100000 ≤ s.clock

theorem FloorMayRise.not_held {s : State} (h : FloorMayRise s) :
    ¬((!s.power.forced) = true ∨ muted s = true ∨ (!floorMayEnd s) = true ∨ s.clock < s.power.stepAt + 100000) := by
  simp [h.forced, h.awake, h.cleared, h.due]

end Loop

/-- Settles O49: each command of the loop runs at its period or on its event. -/
theorem powerLoopCommandsComplete : Obligations.PowerLoopCommandsComplete := by
  intro s
  refine ⟨fun est energy hdue hforced => ?_, fun mw cv hdue hmute hsum => execPowerCalibration_due hdue hmute hsum rfl rfl,
    fun hdue hmute => execAllowanceGrant_due hdue hmute, fun die hd => ⟨fun hfit hmute hforced hstorm =>
      execGovernorRaise_fitted hd hfit hmute hforced hstorm, fun hasked hidle hforced =>
      execOperatingPointChange_asked hd hasked hidle hforced, fun _ hchange hrail hcalm => execPointSwitch_ready hd hchange hrail hcalm,
      fun _ _ hcluster => if_pos ⟨hd, hcluster⟩, fun hwindow => ⟨fun hlong hmute => execDroopStorm_long hd hwindow hlong hmute,
        fun hshort => execDroopStorm_short hd hwindow hshort⟩, fun _ hstorm hover hmute => execStormReductionEnd_over hd hstorm hover hmute⟩,
    fun _ _ hstretch => if_pos hstretch, rfl, rfl, execTrayHold_low, fun hhold => if_pos hhold, fun halert => if_pos halert,
    execTrayLeaseExpiry_over, fun hforced hmute hclear hdue => ?_⟩
  · show execEstimatorWindow est energy s = _
    rw [execEstimatorWindow, if_neg (Nat.not_lt.mpr hdue)]
    simp -zeta only [hforced, Bool.false_eq_true, if_false]
    rfl
  · have hrise : FloorMayRise s := ⟨hforced, hmute, hclear, hdue⟩
    refine ⟨fun hdies hstks => ?_, fun hover => ?_⟩
    · exact (if_neg hrise.not_held).trans (if_pos ((noneToRaise_iff s).mpr ⟨hdies, hstks⟩))
    · exact (if_neg hrise.not_held).trans (if_neg (mt (noneToRaise_iff s).mp (not_noneToRaise hover)))

end Sys2Proof.Proofs

/-! ### Temperature and the Mute -/

namespace Sys2Proof.Proofs

open Sys2Proof Sys2Proof.Machine Sys2Proof.Safety

section Temperature

variable {s : State}

/-- While the protective readings stay at or below 100 °C the cause ends after 1 s (14 Table 14-6). -/
theorem execCriticalTemperature_cool {t : Nat} (hcritical : s.power.critical = true) (hcool : ∀ e ∈ s.power.sites, e.2.protect ≤ 100 * 16)
    (hsince : s.power.criticalCool = some t) :
    exec .criticalTemperature s
      = .next (pwr s fun p => { p with criticalCool := some t, critical := decide (s.clock < t + 1000000000) }) := by
  have hnot : ¬(s.power.sites.map (·.2.protect)).any (· ≥ 115 * 16) = true := by
    simp only [List.any_map, List.any_eq_true, Function.comp_apply, decide_eq_true_eq, not_exists, not_and]
    intro e he
    have := hcool e he
    omega
  have hall : (s.power.sites.map (·.2.protect)).all (· ≤ 100 * 16) = true := by simpa using hcool
  show execCriticalTemperature s = _
  simp only [execCriticalTemperature, if_neg hnot, hcritical, hall, if_true, hsince, Option.getD_some]

theorem execCoolantReportTimeout_late {t : Nat} (hat : s.power.reportAt = some t) (hlate : t + 1000000000 ≤ s.clock)
    (hfirst : s.power.noReport = false) :
    exec .coolantReportTimeout s
      = .next (logEvent (pwr s fun p => { p with noReport := true }) 0x70 0x6003 3 0xFF [Config.reportAge (s.clock - t)]) := by
  show execCoolantReportTimeout s = _
  simp only [execCoolantReportTimeout, hat]
  exact if_pos ⟨hlate, by simp [hfirst]⟩

theorem execHotspotAdjust_due (hdue : s.power.lastAdjust + 1000000 ≤ s.clock) (hmute : muted s = false) :
    exec .hotspotAdjust s = .next (allStacks.foldl dramAdjust (allStacks.foldl baseAdjust
      ((List.range 64).foldl regionAdjust (pwr s fun p => { p with lastAdjust := s.clock })))) :=
  if_neg (by simp [hmute, hdue])

/-- A reading that rises throughout 200 ms at a steady input power (14 R380). -/
theorem execCoolantSlopeTrigger_rising
    (hsteady : s.power.pastInput.all (fun w => 10 * w * s.power.pastInput.length ≤ 11 * s.power.pastInput.foldl (· + ·) 0
      && 9 * s.power.pastInput.foldl (· + ·) 0 ≤ 10 * w * s.power.pastInput.length) = true)
    (hrising : ∃ i, i < 64 ∧ (siteGet s i).past.length = 21 ∧ risesBy 0 (siteGet s i).past = true) :
    exec .coolantSlopeTrigger s = .next (forceFloor (pwr s fun p => { p with coolant := true, coolantGood := none })) :=
  if_pos ⟨hsteady, by simpa using hrising⟩

end Temperature

/-- Settles O50: each command of the thermal loop runs at its period or on its readings. -/
theorem thermalAndMuteCommandsComplete : Obligations.ThermalAndMuteCommandsComplete := by
  intro s
  refine ⟨fun readings dram hdue hpast => (if_neg (Nat.not_lt.mpr hdue)).trans (if_pos hpast), execHotspotAdjust_due,
    execCriticalTemperature_hot, fun _ => execCriticalTemperature_cool, execThermalTrip_hot, fun _ => execCoolantReportTimeout_late,
    fun mw hdue hmute hpower => (if_neg (by simp [hmute, hdue])).trans (if_neg (Nat.not_lt.mpr hpower)),
    execCoolantSlopeTrigger_rising, fun base hmute hhot hfirst => ?_⟩
  have hany : (s.power.sites.any fun e => e.2.protect ≥ 95 * 16 || e.2.protect ≥ mapGet 0 base e.1 + 48) = true := by
    obtain ⟨e, he, hover⟩ := hhot
    exact List.any_eq_true.mpr ⟨e, he, Bool.or_eq_true_iff.mpr (.inl (decide_eq_true hover))⟩
  show execMuteStepDown s = _
  simp only [execMuteStepDown, hmute]
  exact if_neg (by simp only [hany, hfirst, Bool.not_true, Bool.false_eq_true, false_and, or_self, not_false_eq_true])

end Sys2Proof.Proofs

/-! ### Caps and coolant -/

namespace Sys2Proof.Proofs

open Sys2Proof Sys2Proof.Machine Sys2Proof.Safety

/-- The outcome of a request that its session may send is that of the function behind the gate. -/
theorem next_plovcoRequest {s t : State} {r : Request} {cmd : Nat} (h : Asks s r cmd) {formed : List Byte → Bool}
    (hf : formed r.body = true) {f : State → State} (ht : f (sessionTouch s r.session) = t) :
    Host.Outcome.next (φ := Fault) (ρ := Refusal) (plovcoRequest s r cmd formed f) = .next t := by
  rw [plovcoRequest_served h _ hf, ht]

theorem bodyOf'_iff (n z : Nat) (bs : List Byte) : bodyOf' n z bs = true ↔ bs.length = n ∧ allZero (bs.drop z) = true := by
  simp [bodyOf']

/-- Settles O51: an open window and a session that may ask pass their gates. -/
theorem capAndCoolantRequestsComplete : Obligations.CapAndCoolantRequestsComplete := by
  refine ⟨fun watts s hopen => congrArg _ (hostWrite_open hopen _ _ _), fun r s => ⟨fun hasks hlen hzero => ?_, fun hasks hbody => ?_,
    fun hasks hlen hzero => ?_, fun hasks hlen hflags => execCoolant_served hasks hlen hflags, fun hasks hbody => ?_⟩⟩
  · exact next_plovcoRequest hasks ((bodyOf'_iff _ _ _).mpr ⟨hlen, hzero⟩) rfl
  · exact next_plovcoRequest hasks (by rw [hbody]; rfl) rfl
  · exact next_plovcoRequest hasks ((bodyOf'_iff _ _ _).mpr ⟨hlen, hzero⟩) rfl
  · exact next_plovcoRequest hasks (by rw [hbody]; rfl) rfl

end Sys2Proof.Proofs

/-! ### Supplies and pins -/

namespace Sys2Proof.Proofs

open Sys2Proof Sys2Proof.Machine Sys2Proof.Safety

section Pins

variable {s : State}

/-- A loss of the input with AUX_3V3 good leaves its entry in the mirror, and the package in reset. -/
theorem execInputLoss_powered (haux : s.pins.aux = true) {e : DbEntry}
    (he : ⟨droneNs s, s.book.next, 0x70, 0x6000 + Config.free (freshFree s).1 % 4096, 5, 0xFF, [0, 0, 0, 0, 0]⟩ = e) :
    exec .inputLoss s
      = .next (heldReset (mirrorWrite (bookWrite (freshFree s).2 e) e) { s.pins with input := false, held := true }) := by
  subst he
  exact if_neg (by simp [haux])

theorem execAuxLoss_untripped (htrip : s.power.trip = false) (hpin : s.power.alertPin = false) :
    exec .auxLoss s = .next { powerLost s with pins := { input := s.pins.input, perst := s.pins.perst } } :=
  congrArg _ ((if_neg (by simp [hpin])).trans (if_neg (by simp [htrip])))

theorem execAuxLoss_tripped (htrip : s.power.trip = true) (hpin : s.power.alertPin = false) :
    exec .auxLoss s
      = .next (emit { powerLost s with pins := { input := s.pins.input, perst := s.pins.perst } } (.pin "THERM_TRIP_N" false)) :=
  congrArg _ ((if_neg (by simp [hpin])).trans (if_pos htrip))

theorem execTripBackstop_due (htrip : s.power.trip = true) (hinput : s.pins.input = true) (hstopped : s.pins.stopped = false)
    (hdue : s.power.tripAt + 100000000 ≤ s.clock) :
    exec .tripBackstop s = .next (heldReset s { s.pins with stopped := true, held := true }) :=
  if_pos ⟨htrip, hinput, by simp [hstopped], hdue⟩

end Pins

/-- Settles O60: each event of the pins under its occasion (that the alert and the trip stand through a loss of the input, and what the
backstop holds in reset, is log entry 62). -/
theorem pinEventsComplete : Obligations.PinEventsComplete := fun _ =>
  ⟨rfl, fun haux => execInputLoss_powered haux rfl, execAuxLoss_untripped, execAuxLoss_tripped, execTripBackstop_due,
    fun _ haux hchange => if_pos ⟨haux, hchange⟩⟩

end Sys2Proof.Proofs

/-! ### Management requests -/

namespace Sys2Proof.Proofs

open Sys2Proof Sys2Proof.Machine Sys2Proof.Safety

section Management

variable {s : State} {r : Request} {cmd : Nat} {formed : List Byte → Bool}

/-! Requests that a stranger may send too (15 R396) -/

theorem openRequest_served (h : Asks s r cmd) (hf : formed r.body = true) (src : Nat) (f : State → State) :
    openRequest s src r cmd formed f = f (sessionTouch s r.session) := by
  have hserved := plovcoRequest_served h formed hf f
  obtain ⟨hruns, hsession, -⟩ := h
  simp only [openRequest, hruns, Bool.not_true, Bool.false_eq_true, if_false, if_pos hsession, hserved]

/-- A stranger's well-formed request is answered within the limit of 16 a second for its source. -/
theorem openRequest_stranger {src : Nat} (hruns : stewardRuns s = true) (hsession : r.session = 0) (hf : formed r.body = true)
    {recent : List (Nat × Nat)} (hrecent : s.mgmt.asked.filter (fun e => s.clock < e.2 + 1000000000) = recent)
    (hlimit : (recent.filter fun e => e.1 == src).length < 16) (f : State → State) :
    openRequest s src r cmd formed f = f (mgmt s fun m => { m with asked := recent ++ [(src, s.clock)] }) := by
  subst hrecent
  simp only [openRequest, hruns, hsession, hf, Bool.not_true, Bool.false_eq_true, ne_eq, not_true_eq_false, if_false, if_true, strangerAsk,
    if_neg (Nat.not_le.mpr hlimit)]

/-! The Daybook (15 R405, R408) -/

theorem execDaybook_served (h : Asks s r 0x20) (hf : daybookFormed r.body = true) {e : DbEntry} {es : List DbEntry}
    (hpick : daybookPick s r.body = es ++ [e]) :
    exec (.daybook r) s = .next (reply (freshFree (sessionTouch s r.session)).2 r 0x20 0
      (bytesOf 8 (e.seq + 1) ++ bytesOf 1 (es.length + 1) ++ zeros 7 ++ (es ++ [e]).flatMap dbBytes)) := by
  have hpick' : daybookPick (sessionTouch s r.session) r.body = es ++ [e] := hpick
  refine next_plovcoRequest h hf ?_
  simp only [hpick', List.getLast?_concat, Option.map_some, Option.getD_some, List.length_append, List.length_singleton]

theorem execDaybookMirrorSecond_over (hlost : s.book.unmirrored ≠ 0) (hover : s.book.second < droneNs s / 1000000000) {t : State}
    {e : DbEntry} (he : ⟨droneNs s, s.book.next, 1, 0xF100, 3, 0xFF, [s.book.unmirrored, s.book.firstUnmirrored, 0, 0, 0]⟩ = e)
    (ht : mirrorWrite (bookWrite s e) e = t) :
    exec .daybookMirrorSecond s = .next { t with book := { t.book with
      second := droneNs s / 1000000000, mirrored := 0, unmirrored := 0, firstUnmirrored := 0, traced := 0 } } := by
  subst he ht
  exact if_neg (by simp only [hlost, false_or, ge_iff_le, Nat.not_le]; exact hover)

theorem execUnknownCommand_inSession {x : Session} (hunknown : plovcoKnown.contains cmd = false) (hruns : stewardRuns s = true)
    (hx : sessionFind s r.session = some x) :
    exec (.unknownCommand cmd r) s = .next (reply (sessionTouch s r.session) r cmd 5 []) := by
  show execUnknownCommand cmd r s = _
  simp only [execUnknownCommand, hunknown, hruns, hx, Bool.not_true, Bool.false_eq_true, or_self, if_false]

/-! SPDM (15 R397, R403) -/

variable {doe : Bool} {session : Nat} {x : Session}

theorem execSpdm_plain (src : Nat) (hruns : stewardRuns s = true) (hwin : doe = true → s.pins.perst = false) (hsession : session ≠ 0)
    (hx : sessionFind s session = some x) (hdoe : x.doe = doe) :
    exec (.spdm src doe session .plain) s = .next (spdmReply (sessionTouch s session) session) := by
  show execSpdm src doe session .plain s = _
  have hserved : ¬((!stewardRuns s) = true ∨ doe = true ∧ s.pins.perst = true) := by
    simpa [hruns] using hwin
  simp only [execSpdm, if_neg hserved, if_neg hsession, hx, if_pos hdoe, spdmTake]

theorem execGetMeasurements_inSession (nonce : List Byte) (hruns : stewardRuns s = true) (hwin : doe = true → s.pins.perst = false)
    (hx : sessionFind s session = some x) (hdoe : x.doe = doe) {t : State} {n : Nat}
    (ht : freshFree (sessionTouch s session) = (n, t)) :
    exec (.getMeasurements doe session nonce) s
      = .next (emit t (.spdm session (measurements t n ++ nonce ++ Config.deviceSign (measurements t n ++ nonce)))) := by
  show execGetMeasurements doe session nonce s = _
  have hserved : ¬((!stewardRuns s) = true ∨ doe = true ∧ s.pins.perst = true) := by
    simpa [hruns] using hwin
  have hsame : (sessionFind s session).any (fun y => y.doe == doe) = true := by simp [hx, hdoe]
  simp only [execGetMeasurements, if_neg hserved, if_pos (Or.inr hsame), ht]

theorem execCycleRequest_unanswered {reason t : Nat} (hcycle : s.mgmt.cycle = some (reason, t)) (hlate : t + 1000000000 ≤ s.clock) :
    exec .cycleRequest s = .next (cycleSend s reason) := by
  show execCycleRequest s = _
  simp only [execCycleRequest, hcycle]
  exact if_pos hlate

end Management

/-- Settles O53: each request passes its gate with its body laid out, and the counters of the port stand behind none (that pieces past
the end of a record are shorter, and that every loss of the beacon counts, is log entry 55; the framing of measurements is log entry 56). -/
theorem managementCommandsComplete : Obligations.ManagementCommandsComplete := by
  refine ⟨fun src r s => ⟨fun hasks hbody => ?_, fun hruns hsession hbody hlimit => ?_, fun hasks hlen hfirst hlast => ?_,
      fun _ _ hasks hformed hpick => execDaybook_served hasks hformed hpick, fun hasks hlen => ?_, fun hasks hlen => ?_,
      fun _ _ hunknown hruns hx => execUnknownCommand_inSession hunknown hruns hx⟩,
    fun src _ _ _ _ hruns hwin hsession hx hdoe => ⟨execSpdm_plain src hruns hwin hsession hx hdoe,
      fun nonce => execGetMeasurements_inSession nonce hruns hwin hx hdoe rfl⟩,
    fun _ _ => ⟨rfl, fun hruns => if_pos hruns, rfl, fun _ _ hcycle hlate => execCycleRequest_unanswered hcycle hlate, rfl,
      fun hlost hover => execDaybookMirrorSecond_over hlost hover rfl rfl⟩⟩
  · exact congrArg _ (openRequest_served hasks (by rw [hbody]; rfl) src _)
  · exact congrArg _ (openRequest_stranger hruns hsession (by rw [hbody]; rfl) rfl hlimit _)
  · exact congrArg _ (openRequest_served hasks (by simp [hlen, hfirst, hlast]) src _)
  · exact next_plovcoRequest hasks (by simp [hlen]) rfl
  · exact next_plovcoRequest hasks (by simp [hlen]) rfl

end Sys2Proof.Proofs

/-! ### Firmware bundles -/

namespace Sys2Proof.Proofs

open Sys2Proof Sys2Proof.Machine Sys2Proof.Safety

section Firmware

variable {s : State}

/-! The two ways in: UPD_CMD and UPDATE (16 R413, 15 R408) -/

theorem updateAsk_host (h : HostOpen s) (hostOp plovcoOp : Nat) (f : State → State) : updateAsk .host hostOp plovcoOp f s = f s :=
  hostWrite_open h _ _ _

theorem updateAsk_plovco {r : Request} (h : Asks s r 0x30) {plovcoOp : Nat} (hf : updateFormed plovcoOp r.body = true) (hostOp : Nat)
    {f : State → State} {t : State} (ht : f (sessionTouch s r.session) = t) :
    updateAsk (.plovco r) hostOp plovcoOp f s = reply t r 0x30 (updReplyStatus t) (updBody t) := by
  subst ht
  exact plovcoRequest_served h _ hf fun a => reply (f a) r 0x30 (updReplyStatus (f a)) (updBody (f a))

/-- A chunk that ends within 32 MiB lands in the Steward reserve. -/
theorem execUpdateChunk_within {r : Request} (h : Asks s r 0x30) (hf : updateFormed 1 r.body = true)
    (hend : numAt r.body 4 4 + (r.body.drop 8).length ≤ 512 * 65536) {t : State}
    (ht : memStoreClean (sessionTouch s r.session) (reserveBase s + numAt r.body 4 4) (r.body.drop 8) = t) :
    exec (.updateChunk r) s = .next (reply t r 0x30 0 (updBody t)) := by
  subst ht
  exact next_plovcoRequest h hf (if_pos hend)

/-! Writing a bundle (16 R413, R414) -/

/-- What a write into slot i makes of a bundle: valid with its manifest, or bad with its first fault. -/
def bundleJudged (w : State) (i : Nat) (b : List Byte) (n : Nat) : Option Nat → State
  | some e => updState (updBlock (slotState w i 7) (if e = 0x03 then (badBlock b n).getD 0 else 0)) 8 e
  | none => updState (slotSet w i { state := 2, man := manifestOf b, data := b }) 2 0

theorem bundleWrite_free {i : Nat} (hbusy : updBusy s = false) (hfree : freeSlot s = some i) (placed : Bool) (b : List Byte) (n : Nat)
    {w : State} (hw : updState (updBlock (slotSet s i { state := 1 }) 0) 1 0 = w) :
    bundleWrite s placed b n = bundleJudged w i b n (bundleReason w placed b n) := by
  subst hw
  simp only [bundleWrite, hbusy, Bool.false_eq_true, if_false, hfree]
  cases bundleReason (updState (updBlock (slotSet s i { state := 1 }) 0) 1 0) placed b n with
  | none => rfl
  | some e => rfl

theorem hostBundle_placed (h : stagePlaced s = true) :
    hostBundle s = bundleWrite (linesReadEffects s (linesOf (regField s regUpdStage 47 0) (65536 * regField s regUpdStage 63 48))) true
      (memLoad s (regField s regUpdStage 47 0) (65536 * regField s regUpdStage 63 48)).1 (regField s regUpdStage 63 48) :=
  if_pos h

/-! Activation (16 R416, R420) -/

theorem activate_valid {i : Nat} (hbusy : updBusy s = false) (hvalid : slotIn s 2 = some i) : activate s = activateTry s s.clock i := by
  simp only [activate, hbusy, Bool.false_eq_true, if_false, hvalid]

variable {asked tried : Nat}

theorem execActivationRetry_due (h : isDeferred s = some (asked, tried)) (hruns : stewardRuns s = true)
    (hdue : tried + 1000000000 ≤ s.clock) : exec .activationRetry s = .next (activateTry s asked s.fw.target) := by
  show execActivationRetry s = _
  simp only [execActivationRetry, h]
  exact if_pos ⟨hdue, hruns⟩

theorem execActivationAbandon_due (h : isDeferred s = some (asked, tried)) (hruns : stewardRuns s = true)
    (hdue : asked + 60000000000 ≤ s.clock) (hemergency : emergencies s ≠ 0) :
    exec .activationAbandon s = .next (updState (fwMod s fun f => { f with deferred := none }) 9 0x0D) := by
  show execActivationAbandon s = _
  simp only [execActivationAbandon, h]
  exact if_pos ⟨hdue, hemergency, hruns⟩

end Firmware

/-- Settles O55: UPD_CMD and UPDATE run the same four operations, and a bundle is judged by its first fault (a failed bundle that leaves its
slot bad, and the statuses of a busy and of a refused request, are log entry 59). -/
theorem updateCommandsComplete : Obligations.UpdateCommandsComplete := by
  refine ⟨fun r s hasks => ⟨fun hf hend => execUpdateChunk_within hasks hf hend rfl, fun hf => next_plovcoRequest hasks hf rfl, ?_⟩,
    fun s hopen => ⟨?_, fun i hplaced hfree => ?_, fun i hbusy hvalid => ?_⟩,
    fun _ _ _ h hruns => ⟨execActivationRetry_due h hruns, execActivationAbandon_due h hruns⟩⟩
  · simp only [List.forall_mem_cons, List.not_mem_nil, false_imp_iff, implies_true, and_true]
    exact ⟨fun hf => congrArg _ (updateAsk_plovco hasks hf _ rfl), fun hf => congrArg _ (updateAsk_plovco hasks hf _ rfl),
      fun hf => congrArg _ (updateAsk_plovco hasks hf _ rfl), fun hf => congrArg _ (updateAsk_plovco hasks hf _ rfl)⟩
  · simp only [List.forall_mem_cons, List.not_mem_nil, false_imp_iff, implies_true, and_true]
    exact ⟨congrArg _ (updateAsk_host hopen _ _ _), congrArg _ (updateAsk_host hopen _ _ _), congrArg _ (updateAsk_host hopen _ _ _),
      congrArg _ (updateAsk_host hopen _ _ _)⟩
  · intro n b r hbusy hslot w
    refine congrArg _ ((updateAsk_host hopen _ _ _).trans ((hostBundle_placed hplaced).trans ?_))
    rw [bundleWrite_free hbusy hslot true b n rfl]
    cases bundleReason w true b n with
    | none => rfl
    | some e => rfl
  · exact congrArg _ ((updateAsk_host hopen _ _ _).trans (activate_valid hbusy hvalid))

end Sys2Proof.Proofs

/-! ### The live handover -/

namespace Sys2Proof.Proofs

open Sys2Proof Sys2Proof.Machine Sys2Proof.Safety

section Handover

variable {s : State}

/-- The drain has ended and no emergency holds: the target's trial begins (16 R417, Table 16-7). -/
theorem execHandoverDrainDone_calm (hphase : s.fw.phase = .drain) (hruns : stewardRuns s = true) (hdrained : drained s = true)
    (hcalm : emergencies s = 0) : exec .handoverDrainDone s = .next (quiesce s) := by
  show execHandoverDrainDone s = _
  simp only [execHandoverDrainDone, hphase, hruns, hdrained, hcalm, ne_eq, not_true_eq_false, Bool.not_true, Bool.false_eq_true, or_self,
    if_false]

/-- With no slot in trial the ROM boots the slot it chooses, or holds every port dark. -/
theorem execHandoverLoad_noTrial {d : Nat} (hphase : s.fw.phase = .quiesced) (htrial : slotIn s 3 = none) {t : State}
    (ht : romBoot s d false = t) :
    exec (.handoverLoad d) s
      = .next (if t.fw.booted = none then portsDark (setBoot t 8) else fwMod t fun f => { f with phase := .loaded }) := by
  subst ht
  show execHandoverLoad d s = _
  simp only [execHandoverLoad, hphase, ne_eq, not_true_eq_false, if_false, htrial, Option.isNone_iff_eq_none]
  exact (apply_ite Host.Outcome.next _ _ _).symm

/-- A trial slot that the ROM finds bad is a trial that fell back. -/
theorem execHandoverLoad_badTrial {d i : Nat} (hphase : s.fw.phase = .quiesced) (htrial : slotIn s 3 = some i) {t u : State}
    (ht : romBoot s d false = t) (hbad : (slotGet t i).state = 7)
    (hu : updState (logEvent t 1 0x9002 4 0xFF [(slotGet t i).man.version, 0x0E]) 7 0x0E = u) :
    exec (.handoverLoad d) s
      = .next (if u.fw.booted = none then portsDark (setBoot u 8) else fwMod u fun f => { f with phase := .loaded }) := by
  subst ht hu
  show execHandoverLoad d s = _
  simp only [execHandoverLoad, hphase, ne_eq, not_true_eq_false, if_false, htrial, hbad, if_true, Option.isNone_iff_eq_none]
  exact (apply_ite Host.Outcome.next _ _ _).symm

theorem execTrialConfirm_healthy {i t : Nat} (htrial : slotIn s 3 = some i) (hhealthy : s.fw.healthy = some t)
    (hruns : stewardRuns s = true) (hphase : s.fw.phase = .idle) (hbooted : s.fw.booted = some i)
    (hsettings : s.fw.settingsUse.isSome = true) (hlong : t + 10000000000 ≤ s.clock) : exec .trialConfirm s = .next (confirm s i) := by
  show execTrialConfirm s = _
  simp only [execTrialConfirm, htrial, hhealthy]
  exact if_pos ⟨hruns, hphase, hbooted, hsettings, hlong⟩

theorem execTrialTimeout_over {i : Nat} (htrial : slotIn s 3 = some i) (hbooted : s.fw.booted.isSome = true)
    (hover : s.fw.trialAt + 60000000000 ≤ s.clock) : exec .trialTimeout s = .next (fallBack s 0x0E) :=
  if_pos ⟨by simp [htrial], hbooted, hover⟩

end Handover

/-- Settles O56: each stage of the handover runs in its phase (that a restart during the drain defers, and that the health timer starts
again at reclaim, is log entry 59). -/
theorem handoverCommandsComplete : Obligations.HandoverCommandsComplete := by
  intro s
  refine ⟨execHandoverDrainDone_calm, fun _ hphase htrial => execHandoverLoad_noTrial hphase htrial rfl,
    fun _ _ hphase htrial hbad => execHandoverLoad_badTrial hphase htrial rfl hbad rfl, fun _ hphase => if_neg (by simp [hphase]),
    fun hphase => ?_, fun _ _ => execTrialConfirm_healthy, fun _ => execTrialTimeout_over, fun hruns hdue => if_pos ⟨hruns, hdue⟩,
    fun hruns => if_neg (by simp [hruns])⟩
  exact (if_neg (by simp [hphase])).trans (congrArg _ (if_congr (by simp only [Bool.and_eq_true, beq_iff_eq]) rfl rfl))

end Sys2Proof.Proofs

/-! ### Reset requests -/

namespace Sys2Proof.Proofs

open Sys2Proof Sys2Proof.Machine Sys2Proof.Safety Sys2Proof.Laws

/-! What an RCV_CMD image says (17 Table 17-11) -/

theorem rcvValue_go (level : Nat) (stack : Bool) (index : Nat) : bitOf (rcvValue level stack index) 0 = true := by
  rw [bitOf_eq_decide, decide_eq_true_eq, rcvValue]
  omega

theorem rcvValue_stack (level : Nat) (stack : Bool) (index : Nat) : bitOf (rcvValue level stack index) 47 = stack := by
  rw [bitOf_eq_decide, rcvValue]
  cases stack with
  | false =>
    have hbit : bit false = 0 := rfl
    rw [decide_eq_false_iff_not, hbit]
    omega
  | true =>
    have hbit : bit true = 1 := rfl
    rw [decide_eq_true_iff, hbit]
    omega

/-- How many units the index field of a level can name. -/
def rcvUnits (level : Nat) (stack : Bool) : Nat := if level = 1 then 16 else if level = 2 then (if stack then 256 else 4096) else 8

/-- The field of n bits from bit 32 on holds an index that fits in it. -/
theorem rcvValue_index {n index : Nat} (hn : n ≤ 15) (hindex : index < 2 ^ n) (level : Nat) (stack : Bool) :
    rcvValue level stack index / 2 ^ 32 % 2 ^ n = index := by
  have hmod : index % 2 ^ 15 = index := Nat.mod_eq_of_lt (Nat.lt_of_lt_of_le hindex (Nat.pow_le_pow_right (by omega) hn))
  have hdiv : rcvValue level stack index / 2 ^ 32 = 2 ^ 15 * (level * 2 ^ 13 + bit stack) + index := by
    rw [rcvValue, hmod]
    omega
  rw [hdiv, Nat.add_mod, Nat.mod_eq_zero_of_dvd (Dvd.dvd.mul_right (Nat.pow_dvd_pow 2 hn) _), Nat.zero_add, Nat.mod_mod,
    Nat.mod_eq_of_lt hindex]

theorem rcvIndex_rcvValue {level index : Nat} {stack : Bool} (h : index < rcvUnits level stack) :
    rcvIndex level (rcvValue level stack index) stack = index := by
  simp only [rcvIndex, bitsOf_eq_div_mod, Nat.reduceSub, Nat.reduceAdd]
  by_cases hctx : level = 1
  · rw [rcvUnits, if_pos hctx] at h
    rw [if_pos hctx]
    exact rcvValue_index (by decide) (by omega) _ _
  by_cases hengine : level = 2
  · rw [rcvUnits, if_neg hctx, if_pos hengine] at h
    rw [if_neg hctx, if_pos hengine]
    cases stack with
    | true =>
      rw [if_pos rfl] at h ⊢
      exact rcvValue_index (by decide) h _ _
    | false =>
      rw [if_neg Bool.false_ne_true] at h ⊢
      exact rcvValue_index (by decide) h _ _
  · rw [rcvUnits, if_neg hctx, if_neg hengine] at h
    rw [if_neg hctx, if_neg hengine]
    exact rcvValue_index (by decide) (by omega) _ _

/-- A request's image asks for what it was made of. -/
theorem rcvCmd_rcvValue {level index : Nat} {stack : Bool} (hlow : 1 ≤ level) (hhigh : level ≤ 5) (h : index < rcvUnits level stack)
    (s : State) : rcvCmd s (rcvValue level stack index) = rcvRequest s level stack index := by
  simp only [rcvCmd, rcvValue_level (show level < 16 by omega), rcvValue_stack, rcvIndex_rcvValue h]
  exact if_pos ⟨rcvValue_go _ _ _, hlow, hhigh⟩

/-! Taking a request (17 R425, R426, R431) -/

section Requests

variable {s : State} {level index : Nat} {stack : Bool}

/-- A request of a level below the power cycle, for a unit that is there, on a serviceable package with no level as wide in progress. -/
theorem rcvRequest_raises (hserv : isServiceable s = true) (hvalid : rcvValid s level stack index = true) (hwide : widestLevel s < level)
    (hlevel : level < 5) : rcvRequest s level stack index =
      raiseTrigger (regPut s regRcvStatus 59 56 0) ⟨level, stack, index, 4, s.clock, requestFault level, 1, 0⟩ none := by
  unfold rcvRequest
  rw [if_neg (by simp [hserv]), if_neg (by simp [hserv, hvalid]), if_neg (Nat.not_le.mpr hwide), if_neg (by omega)]
  rfl

theorem rcvRequest_powerCycle (hwide : widestLevel s < 5) :
    rcvRequest s 5 false 0 = askCycle (allReset (copyDossier (regPut s regRcvStatus 59 56 0)) 0x07) 4 := by
  unfold rcvRequest
  rw [if_neg (by simp), if_neg (by simp [rcvValid]), if_neg (Nat.not_le.mpr hwide), if_pos rfl]
  rfl

theorem resetAsk_host (hopen : HostOpen s) (hlow : 1 ≤ level) (hhigh : level ≤ 5) (h : index < rcvUnits level stack) :
    resetAsk .host level stack index s = rcvRequest s level stack index := by
  rw [← rcvCmd_rcvValue hlow hhigh h s]
  exact hostWrite_open hopen _ _ fun a => rcvCmd a (rcvValue level stack index)

/-- An accepted host's request raises trigger 0x04 at its level for the unit it names. -/
theorem resetAsk_raises (hopen : HostOpen s) (hserv : isServiceable s = true) (hlow : 1 ≤ level) (hlevel : level < 5)
    (h : index < rcvUnits level stack) (hvalid : rcvValid s level stack index = true) (hwide : widestLevel s < level) :
    resetAsk .host level stack index s =
      raiseTrigger (regPut s regRcvStatus 59 56 0) ⟨level, stack, index, 4, s.clock, requestFault level, 1, 0⟩ none :=
  (resetAsk_host hopen hlow (Nat.le_of_lt hlevel) h).trans (rcvRequest_raises hserv hvalid hwide hlevel)

end Requests

/-- Settles O57: the image of each request names its level and unit, and the request is taken. -/
theorem resetRequestsComplete : Obligations.ResetRequestsComplete := by
  intro s hopen hserv
  refine ⟨fun c hc hctx hwide => ?_, fun i hwide => ⟨fun hi htile => ?_, fun hi hstack => ?_⟩,
    fun i hwide => ⟨fun hi => ?_, fun hi hstack => ?_⟩, fun hwide => ?_, fun hwide => ?_⟩
  · exact congrArg Host.Outcome.next (resetAsk_raises (level := 1) (stack := false) hopen hserv (by decide) (by decide) hc hctx (by omega))
  · exact congrArg Host.Outcome.next (resetAsk_raises (level := 2) (stack := false) hopen hserv (by decide) (by decide) hi
      (decide_eq_true htile) hwide)
  · exact congrArg Host.Outcome.next (resetAsk_raises (level := 2) (stack := true) hopen hserv (by decide) (by decide) hi
      (Bool.and_eq_true_iff.mpr ⟨decide_eq_true hi, hstack⟩) hwide)
  · exact congrArg Host.Outcome.next (resetAsk_raises (level := 3) (stack := false) hopen hserv (by decide) (by decide)
      (hi.trans (by decide)) (decide_eq_true hi) hwide)
  · exact congrArg Host.Outcome.next (resetAsk_raises (level := 3) (stack := true) hopen hserv (by decide) (by decide) hi hstack hwide)
  · exact congrArg Host.Outcome.next (resetAsk_raises (level := 4) (stack := false) hopen hserv (by decide) (by decide) (by decide) rfl hwide)
  · exact congrArg Host.Outcome.next ((resetAsk_host hopen (by decide) (by decide) (by decide)).trans (rcvRequest_powerCycle hwide))

end Sys2Proof.Proofs

/-! ### Resets carried out -/

namespace Sys2Proof.Proofs

open Sys2Proof Sys2Proof.Machine Sys2Proof.Safety

section Resets

variable {s : State} {q : RcvReq}

/-! By a service core that runs, on a serviceable package (17 R429 to R433) -/

theorem mayReset_of (hruns : stewardRuns s = true) (hserv : isServiceable s = true) : mayReset s = true := by
  simp [mayReset, hruns, hserv]

theorem execContextReset_asked (h : mayReset s = true) {c : Nat} (hq : ctxReq s c = some q) :
    exec (.contextReset c) s = .next (levelEnd (ctxReset s q c) q 1) := by
  show execContextReset c s = _
  simp only [execContextReset, hq, if_pos h]

theorem execEngineReset_tile (h : mayReset s = true) {t : Nat} (hq : unitReq s 2 false t = some q) :
    exec (.engineReset false t) s = .next (levelEnd (tileReset s q t) q 1) := by
  show execEngineReset false t s = _
  simp only [execEngineReset, hq, h, Bool.not_true, Bool.false_eq_true, if_false]

/-- A stack engine's reset captures the contexts that have a docket at it. -/
theorem execEngineReset_engine (h : mayReset s = true) {e : Nat} (hq : unitReq s 2 true e = some q) {cs : List Nat}
    (hcs : (definedCtxs s).filter (fun c => ((engGet s e).running.toList ++ (engGet s e).queue).any fun d => d.ctx == c) = cs) :
    exec (.engineReset true e) s = .next (levelEnd (engineReset (capture s q ⟨cs, [], [e]⟩) e true) q 1) := by
  subst hcs
  show execEngineReset true e s = _
  simp only [execEngineReset, hq, h, Bool.not_true, Bool.false_eq_true, if_false, if_true]

theorem execDiePartitionReset_asked (h : mayReset s = true) {d : Nat} (hd : d < 4) (hq : unitReq s 3 false d = some q) :
    exec (.diePartitionReset d) s = .next (levelEnd (dieReset s q d) q 1) := by
  show execDiePartitionReset d s = _
  simp only [execDiePartitionReset, hq, if_pos (And.intro hd h)]

theorem execStackPartitionReset_done (h : mayReset s = true) {n : Nat} (hn : n < 8) (hq : unitReq s 3 true n = some q) :
    exec (.stackPartitionReset n false) s = .next (twinOut (levelEnd (stackReset s q n) q 1)) := by
  show execStackPartitionReset n false s = _
  simp only [execStackPartitionReset, hq]
  exact (if_neg (by simp [h, hn])).trans (if_neg Bool.false_ne_true)

/-- A stack that does not come back fails its level and raises the chip level. -/
theorem execStackPartitionReset_failed (h : mayReset s = true) {n : Nat} (hn : n < 8) (hq : unitReq s 3 true n = some q) :
    exec (.stackPartitionReset n true) s
      = .next (raiseTrigger (levelEnd s q 2) ⟨4, false, 0, 0x0A, s.clock, 0x08, q.src, q.detail⟩ none) := by
  show execStackPartitionReset n true s = _
  simp only [execStackPartitionReset, hq]
  exact (if_neg (by simp [h, hn])).trans (if_pos trivial)

theorem execChipReset_asked (h : mayReset s = true) (hq : chipReq s = some q) (hcold : s.bring.warm = false)
    (hphase : s.fw.phase = .idle) : exec .chipReset s = .next (chipReset s q) := by
  show execChipReset s = _
  simp only [execChipReset, hq]
  exact if_pos ⟨h, by simp [hcold], hphase⟩

/-! Timers (17 Table 17-5, R432) -/

variable {level index : Nat} {stack : Bool} {us : List (Bool × Nat)}

theorem execResetTimerExpiry_widens (hq : unitReq s level stack index = some q) (hruns : stewardRuns s = true)
    (hlate : q.start + levelTimer level ≤ s.clock) (hwide : widestLevel s ≤ level) (hlevel : level < 4) (hunits : level = 1 → us ≠ []) :
    exec (.resetTimerExpiry level stack index us) s
      = .next ((nextLevels s q us).foldl (fun a r => raiseTrigger a r none) (levelEnd (levelPart s q us) q 2)) := by
  show execResetTimerExpiry level stack index us s = _
  simp only [execResetTimerExpiry, hq]
  refine (if_neg ?_).trans (if_neg (by omega))
  simp only [hruns, Bool.not_true, Bool.false_eq_true, List.isEmpty_iff, false_or, not_or, not_and]
  exact ⟨by omega, by omega, by omega, hunits⟩

/-- At chip level a power cycle is asked for, and the warm path that the chip reset began is given up. -/
theorem execResetTimerExpiry_chip (hq : unitReq s 4 stack index = some q) (hruns : stewardRuns s = true)
    (hlate : q.start + levelTimer 4 ≤ s.clock) (hwide : widestLevel s ≤ 4) :
    exec (.resetTimerExpiry 4 stack index us) s
      = .next (askCycle (if s.bring.warm = true then bring (copyDossier (levelEnd s q 2)) fun b => { b with warm := false }
          else allReset (copyDossier (levelEnd s q 2)) 0x08) 0x0A) := by
  show execResetTimerExpiry 4 stack index us s = _
  simp only [execResetTimerExpiry, hq]
  refine (if_neg ?_).trans (if_pos trivial)
  simp only [hruns, Bool.not_true, Bool.false_eq_true, false_or, not_or, not_and]
  exact ⟨by omega, by omega, by omega, by omega⟩

/-! Triggers that the units raise (17 Table 17-1) -/

theorem execStackControllerWatchdog_new (hserv : isServiceable s = true) {n : Nat} (hn : n < 8) (hnone : unitReq s 3 true n = none) :
    exec (.stackControllerWatchdog n) s = .next (raiseTrigger s ⟨3, true, n, 0x07, s.clock, 0, 0x10 + n, 0⟩ none) :=
  if_pos ⟨hn, hserv, by simp [hnone]⟩

theorem execMeshLivenessFail_new (hserv : isServiceable s = true) {d : Nat} (hd : d < 4) (hnone : unitReq s 3 false d = none) :
    exec (.meshLivenessFail d) s = .next (raiseTrigger s ⟨3, false, d, 0x08, s.clock, 0x07, 0x20 + d, 0⟩ none) :=
  if_pos ⟨hd, hserv, by simp [hnone]⟩

theorem execDieLinkDown_new (hserv : isServiceable s = true) {d : Nat} (hd : d < 4) (hnone : chipReq s = none) :
    exec (.dieLinkDown d) s = .next (raiseTrigger s ⟨4, false, 0, 0x09, s.clock, 0x08, 0x20 + d, 0⟩ none) :=
  if_pos ⟨hd, hserv, by simp [hnone]⟩

end Resets

/-- Settles O58: each reset finds the request of its unit (that a context level whose tiles all acknowledged has reset them when it gives
way, `levelPart`, is log entry 61). -/
theorem resetExecutionCompletes : Obligations.ResetExecutionCompletes := by
  intro s
  refine ⟨fun hruns hserv q => ?_, fun level stack index us q hq hruns hlate hwide =>
      ⟨execResetTimerExpiry_widens hq hruns hlate hwide, fun hchip => ?_⟩,
    fun hserv => ⟨fun _ => execStackControllerWatchdog_new hserv, fun _ => execMeshLivenessFail_new hserv, fun _ => execDieLinkDown_new hserv⟩⟩
  · have hmay : mayReset s = true := mayReset_of hruns hserv
    exact ⟨fun _ => execContextReset_asked hmay, fun _ => execEngineReset_tile hmay, fun _ hq => execEngineReset_engine hmay hq rfl,
      fun _ => execDiePartitionReset_asked hmay, fun _ hn hq => ⟨execStackPartitionReset_done hmay hn hq,
        execStackPartitionReset_failed hmay hn hq⟩, execChipReset_asked hmay⟩
  · subst hchip
    exact execResetTimerExpiry_chip hq hruns hlate hwide

end Sys2Proof.Proofs

/-! ### Twins -/

namespace Sys2Proof.Proofs

open Sys2Proof Sys2Proof.Machine Sys2Proof.Safety

section Twins

variable {s : State} {p : Packet}

/-- Paired is a state of a twin. -/
theorem isTwin_of_paired (h : twinPaired s = true) : isTwin s = true := by
  have hstate : regField s regRcvTwin 47 45 = 1 := by simpa [twinPaired, twinState] using h
  simp [isTwin, hstate]

/-! The digest exchange (17 R443) -/

/-- The partner hears a heartbeat, and the step's digest goes to the twin group. -/
theorem execDigestExchange_paired {c : Nat} {r : StepRun} (hr : stepIn s c .running = some r) (hended : gangsEnded s r = true)
    (hfirst : r.digestGen = none) (hpaired : twinPaired s = true) {v : State × Nat}
    (hv : strumContribute (mirrorSend s 1 c [] []) twinGroup stewardMember (6, 0, 16) (bytesOf 16 (mapGet 0 s.twin.digest c)) false true = v) :
    exec (.digestExchange c) s = .next (stepPut v.1 c { r with digestGen := some v.2 }) := by
  subst hv
  show execDigestExchange c s = _
  simp only [execDigestExchange, hr]
  exact (if_neg (by simp [hended, hfirst, isTwin_of_paired hpaired])).trans (if_neg (by simp [hpaired]))

theorem execDigestResult_whole (hkind : p.kind = 0x08) (hwhole : p.cut = false) (htype : strumType p = 2) (htree : strumTree p = 4095) :
    exec (.digestResult p) s = .next (resultArrive s p) :=
  if_neg (by simp [hkind, hwhole, htype, htree])

/-! Joining (17 R447) -/

theorem execJoinRecord_joining (hrecord : isMirror s p 5 = true) (hstate : twinState s = 4) :
    exec (.joinRecord p) s = .next (mirrorSend { s with twin := { s.twin with heard := s.clock, copied := false } } 5 0 [] []) :=
  (if_neg (by simp [hrecord])).trans (if_pos hstate)

theorem execJoinRecord_answer (hrecord : isMirror s p 5 = true) (hstate : twinState s ≠ 4) {e : Nat × List (Nat × Nat)}
    (hresync : s.twin.resync = some e) :
    exec (.joinRecord p) s = .next { s with twin := { s.twin with joined := true, heard := s.clock } } :=
  (if_neg (by simp [hrecord])).trans ((if_neg hstate).trans (if_pos (by simp [hresync])))

/-! Mirror records that come and fail to come (17 R446) -/

theorem execMirrorHeartbeatTimer_due (htwin : isTwin s = true) (hin : twinState s ≠ 3) (hdue : s.twin.sentAt + 1000000 ≤ s.clock) :
    exec .mirrorHeartbeatTimer s = .next (mirrorSend s 1 0 [] []) :=
  if_pos ⟨htwin, hin, hdue⟩

theorem execPartnerLoss_paired (hpaired : twinPaired s = true) (hsilent : s.twin.heard + 1000000 ≤ s.clock) :
    exec .partnerLoss s = .next (partnerLost s) :=
  (if_neg (Nat.not_lt.mpr hsilent)).trans (if_pos hpaired)

/-! The host's commands to a twin (17 R447, R449) -/

theorem execTwinSwap_paired (hopen : HostOpen s) (hpaired : twinPaired s = true) :
    exec .twinSwap s = .next { s with twin := { s.twin with swap := true } } :=
  congrArg _ ((hostWrite_open hopen _ _ twinSwap).trans (if_pos hpaired))

theorem execTwinLeave_twin (hopen : HostOpen s) (htwin : isTwin s = true) :
    exec .twinLeave s
      = .next (regPut { s with twin := { s.twin with resync := none, joined := false, copied := false } } regRcvTwin 47 45 3) :=
  congrArg _ ((hostWrite_open hopen _ _ twinOut).trans (if_pos htwin))

theorem execTwinResync_single (hopen : HostOpen s) (hstate : twinState s = 2) :
    exec .twinResync s = .next (mirrorSend { s with twin := { s.twin with
      resync := some ((regGet s regRcvResyncStep).toNat, resyncRanges s), joined := false, copied := false, heard := s.clock } } 5 0 [] []) :=
  congrArg _ ((hostWrite_open hopen _ _ twinResync).trans (if_neg (not_not_intro hstate)))

end Twins

/-- Settles O59: each mirror record is one of its type from the partner, and the rest runs under its occasion (the twin group's and the
members' numbers are log entry 52). -/
theorem twinCommandsComplete : Obligations.TwinCommandsComplete :=
  ⟨fun _ _ _ hr hended hfirst hpaired => execDigestExchange_paired hr hended hfirst hpaired rfl,
    fun _ _ => ⟨execDigestResult_whole, fun _ hrecord => if_pos hrecord, fun _ hrecord => if_pos hrecord,
      fun hrecord hjoining => if_neg (by simp [hrecord, hjoining]), fun _ _ _ hrecord hjoining => if_neg (by simp [hrecord, hjoining]),
      execJoinRecord_joining, fun _ hrecord hstate hresync => execJoinRecord_answer hrecord hstate hresync⟩,
    fun _ => ⟨rfl, execMirrorHeartbeatTimer_due, execPartnerLoss_paired, fun hopen => ⟨execTwinSwap_paired hopen, execTwinLeave_twin hopen,
      execTwinResync_single hopen⟩⟩⟩

end Sys2Proof.Proofs
